-- ==== Sys2Proof/Word.lean ====
section
/-! DEFINITION. The word types of the KT-9648: every register is 32 bits wide (00_scope.md, Registers). -/
namespace Sys2Proof

/-- An 8-bit byte. -/
abbrev Byte := BitVec 8

/-- A 32-bit register word. -/
abbrev Word := BitVec 32

end Sys2Proof
end

