-- ==== Sys2Proof/Syntax.lean ====
section
/-! DEFINITION. The commands of the block: one constructor per row of the opcode table, with the operands that the row's
rule names. What the environment decides (a level, a measured value, a received frame) is an operand; one with a default value is written
only where the event carries it (code errors, pages corrected, a bank's presence). -/
namespace Sys2Proof.Machine

/-- The four strap lands (R11). -/
structure Straps where
  role1 : Bool
  role0 : Bool
  twin : Bool
  testmode : Bool
  deriving DecidableEq, Repr

/-- The two host ports (R110). -/
inductive Port where
  | bus
  | spi
  deriving DecidableEq, Repr

/-- The wake sources of Table 3-2. -/
inductive WakeSource where
  | waken
  | drip
  | guard
  | lane (n : Nat)
  deriving DecidableEq, Repr

/-- A tide frame as it leaves or reaches a port (Table 5-5): 16 header bytes, the body, the CRC sent. -/
structure TideFrame where
  header : List Byte
  body : List Byte
  crc : Word
  deriving DecidableEq, Repr

/-- One sample of a sampled-values frame: svID, smpCnt, confRev, smpSynch, and value and quality of each channel (R410). -/
structure SvAsdu where
  id : List Byte
  count : Nat
  confRev : Word
  synch : Nat
  channels : List (Word × Word)
  deriving DecidableEq, Repr

/-- A member of a GOOSE dataset: its type (0 BOOLEAN, 1 Dbpos, 2 INT32, 3 Quality), whether its encoding is the fixed-length one
of its type, its value (R416). -/
structure GooseMember where
  type : Nat
  fixed : Bool
  value : Word
  deriving DecidableEq, Repr

/-- The content of a GOOSE frame (R416): references, time allowed to live in ms, numbers, flags, time (seconds, ns), members. -/
structure GooseContent where
  ref : List Byte
  dset : List Byte
  goid : List Byte
  ttl : Nat
  stNum : Nat
  sqNum : Nat
  test : Bool
  confRev : Word
  ndsCom : Bool
  time : Word × Nat
  members : List GooseMember
  deriving DecidableEq, Repr

/-- What an Ethernet frame carries after its EtherType: bytes; sampled values or GOOSE with APPID and Simulation bit, under the
encodings of IEC 61850; a supervision frame of IEC 62439-3. -/
inductive EthBody where
  | raw (bytes : List Byte)
  | sv (appid : Nat) (sim : Bool) (asdus : List SvAsdu)
  | goose (appid : Nat) (sim : Bool) (g : GooseContent)
  | supervision
  deriving DecidableEq, Repr

/-- An Ethernet frame without FCS: addresses, VLAN tag (16 bits), sequence number of its redundancy trailer or tag, EtherType. -/
structure EthFrame where
  dst : List Byte
  src : List Byte
  vlan : Option Nat
  seq : Option Nat
  etype : Nat
  body : EthBody
  deriving DecidableEq, Repr

/-- A position of stacks A to C as the station holds it (R215, R230 to R236). -/
structure PosSt where
  /-- Of the record last used: VDC, BS_WARN, SLUICE, FAULT. -/
  vdc : Nat := 0
  warn : Bool := false
  sluice : Bool := false
  fault : Nat := 0
  /-- Pulse enables as telemetry quantity 31 last showed them; none before its first arrival. -/
  pulses : Option Bool := none
  /-- Output state in force, and commanded states with the tides at which they come in force. -/
  force : Nat := 0
  coming : List (Nat × Nat) := []
  /-- Tides until the minimum dwell ends. -/
  dwell : Nat := 0
  /-- The next removal under SEL_ZERO_ALT commands 0b00. -/
  alt : Bool := false
  deriving DecidableEq, Repr

/-- A stack under the fallback modulator (R243 to R245). -/
structure FallSt where
  /-- 0 inactive, 1 linear, 2 over-modulation, 3 staircase. -/
  region : Nat := 0
  /-- Sign of the reference at the last decision. -/
  sign : Int := 0
  /-- Cells in carrier order, and the shift of the assignment. -/
  cells : List Nat := []
  shift : Nat := 0
  /-- Cells in the order of rank. -/
  ranks : List Nat := []
  /-- Cells whose target differs from their commanded state, in the order of their crossings. -/
  queue : List Nat := []
  deriving DecidableEq, Repr

/-- Grid-side power control (polder 10, station role) beside its registers. Numbers are control quantities, angles as R4. -/
structure DpcSt where
  yA : Int := 0
  yB : Int := 0
  w : Int := 0
  theta : Nat := 0
  psiA : Int := 0
  psiB : Int := 0
  p : Int := 0
  q : Int := 0
  /-- Currents of the last step: phases, alpha, beta. -/
  i : List Int := [0, 0, 0]
  iA : Int := 0
  iB : Int := 0
  /-- Backup angle tracker (R240). -/
  trkTheta : Nat := 0
  trkWi : Int := 0
  trkW : Int := 0
  trkV : Int := 0
  trkVq : Int := 0
  /-- The instant of its last update: the boundary, or that of an SV sample (ns). -/
  trkAt : Option Nat := none
  sP : Int := 0
  sQ : Int := 1
  wasBlocked : Bool := false
  /-- The last reactive source value (R237). -/
  qHeld : Int := 0
  pos : List (List PosSt) := List.replicate 3 (List.replicate 48 {})
  fall : List FallSt := [{}, {}, {}]
  /-- Phase of carrier 0 of the fallback, in millionths of a period. -/
  carrier : Nat := 0
  /-- Observer steps of this tide so far. -/
  steps : Nat := 0
  deriving DecidableEq, Repr

/-- A loop of the loop engine beside its LPE_ registers: the engine's working copy, published 600 ns after a boundary
(R284, R287). -/
structure LoopSt where
  a : Int := 0
  d : Int := 0
  ePrev : Int := 0
  fbPrev : Int := 0
  /-- Error and feedforward term of the last evaluation. -/
  e : Int := 0
  f : Int := 0
  /-- The loop's own output. -/
  out : Int := 0
  /-- clamped_prev: 1 high, -1 low. -/
  clamped : Int := 0
  outClamped : Bool := false
  aLimit : Bool := false
  winner : Bool := false
  latched : Bool := false
  /-- The output it had when its following-error latch set (R296). -/
  held : Int := 0
  /-- Consecutive evaluations counted under R295 or R297. -/
  count : Nat := 0
  /-- The state is initialised at the next due evaluation (R290); a commit has enabled it, so that its new DIV and PHASE say which
  that is (R291). -/
  fresh : Bool := true
  enabling : Bool := false
  /-- Sticky flags of this pass, not yet published. -/
  flags : Nat := 0
  /-- The loop's interrupt source is to be raised at publication (R301). -/
  raise_ : Bool := false
  deriving DecidableEq, Repr

/-- A profile generator in units of 2^-64 pu (R298). -/
structure GenSt where
  y : Int := 0
  v : Int := 0
  a : Int := 0
  limited : Bool := false
  hold : Bool := false
  frozen : Bool := false
  bound : Bool := false
  deriving DecidableEq, Repr

/-- The loop engine (polder 11). -/
structure LpeSt where
  loops : List LoopSt := List.replicate 32 {}
  gens : List GenSt := List.replicate 8 {}
  /-- Group outputs and winners. -/
  groups : List (Int × Option Nat) := List.replicate 8 (0, none)
  /-- The tide of a pass that waits for its publication. -/
  pass : Option Nat := none
  deriving DecidableEq, Repr

/-- A temperature sensor of the derating (R377, R379). -/
structure SensorSt where
  /-- Last valid value. -/
  last : Int
  /-- The last value delivered was valid. -/
  valid : Bool
  /-- The value substituted. -/
  subst : Option Int
  /-- Consecutive tides, up to 1,000,000, in which a substituted sensor has delivered only valid values (R379). -/
  run : Nat := 0
  deriving DecidableEq, Repr

/-- The thermal manager (polder 1, station role). -/
structure ThmSt where
  /-- Sensors by key: own sensors 0 to 4; others (ring + 1) * 1024 + slot * 8 + sensor. -/
  sensors : List (Nat × SensorSt) := []
  /-- Steps entered (bit k - 1). -/
  entered : BitVec 4 := 0
  /-- Quantities received in twin operation that wait: tide of the record, 128 * ring + slot, selector, value. -/
  late : List (Nat × Nat × Nat × Nat) := []
  deriving DecidableEq, Repr

/-- An input entry of the twin link (Table 16-4): KIND, bytes 1 to 3, bytes 4 to 7. -/
structure TwinInput where
  kind : Nat
  arg : Nat
  value : Word
  deriving DecidableEq, Repr

/-- A converter result of the shared stream: converter, entry, code (R444), written `at_`
core clocks after its boundary (0 to 199). -/
structure SharedRes where
  conv : Nat
  entry : Nat
  code : Int
  at_ : Nat
  deriving DecidableEq, Repr

/-- The decision state that a resync of twins carries (R454): registers by address, and what the blocks hold beside them. -/
structure Snapshot where
  regs : List (Nat × Word)
  dpc : DpcSt
  lpe : LpeSt
  thm : ThmSt
  queued : List (Nat × TwinInput)
  shared : List (Nat × List SharedRes)
  presented : List SharedRes
  goose : Option Int
  svParts : List (Nat × Option Int)
  svLast : Option Nat
  /-- The entries commanded last, per ring. -/
  cmds : List (List Nat) := []
  deriving DecidableEq, Repr

end Sys2Proof.Machine

namespace Sys2Proof
open Machine

/-- The commands: rows of spec/opcode_table.json, in the table's order. -/
inductive Instr where
  /-- R54. VCREST rises above its power-on threshold, so the strap lands are latched, Crest state takes its reset values, POWER_ON is recorded and start-up is requested. -/
  | vcrestRise (straps : Straps) (suppliesGood : Bool) (vio3 : Bool) (vio : BitVec 2 := 0)
  /-- R54. VCREST falls below its falling threshold, which clears the role latch, the Breach flag and all Crest state. -/
  | vcrestFall
  /-- R55. A monitored supply stays below its threshold for more than 1 us, so all gates turn off, all polders except Crest go off and SUPPLY_LOST is latched. -/
  | supplyLost (vio3 : Bool := false) (vio : BitVec 2 := 0) (monitored : Bool := true) (guards : BitVec 4 := 0)
  /-- R85. The last monitored supply becomes good while the device is in Crest standby, so SUPPLY_RETURN is recorded and start-up begins if a start cause is pending. -/
  | supplyReturn (vio3 : Bool := false) (vio : BitVec 2 := 0) (monitored : Bool := true) (guards : BitVec 4 := 0)
  /-- R84. The WAKEn land goes low and sets its wake request latch. -/
  | wakenLow (held : Bool)
  /-- R84. The signal detector of an armed receive lane sees activity after at least 1 us of silence and sets that lane's wake latch. -/
  | laneWakeLatch (port : Nat)
  /-- R84. The drip counter equals PWR_DRIP_ALARM while the alarm is armed and DRIP_OK is 1, which sets the alarm wake latch. -/
  | dripAlarm
  /-- R472. A guard land reads a new level on two successive drip edges, so the new level is accepted and the guard wake latch is set if armed. -/
  | guardChangeAccepted (land : Nat) (level : Bool)
  /-- R473. An armed wake event arrives while the device is awake; its latch is set and recorded, and only a lane latch starts its Culvert polder. -/
  | wakeDuringAwake (source : WakeSource)
  /-- R102. A start cause is latched with all supplies good, so PWR_STATE becomes STARTING and the start-up sequence of Table 3-8 begins. -/
  | startUp
  /-- R79. A started polder reaches power-good, and its CFG registers are reloaded from the Vault before the block is released. -/
  | polderPowerGood (polder : Nat) (p0Clock : Bool)
  /-- R79. A polder has not reached power-good 50 us after its start, so it is switched off, an Overtop fault is raised and no further polders start. -/
  | polderStartFailure (polder : Nat)
  /-- R81. Both directions of all five ports of a Culvert polder have been asleep for 100 us, so that polder stops. -/
  | culvertPolderIdleStop (polder : Nat)
  /-- R103. The thermal reading taken during start-up completes, and a reading at or above the shutdown temperature stops start-up and returns the device to standby. -/
  | startUpThermalReading (reading : BitVec 16)
  /-- R386. The Reeve completes loading the highest valid generation from the Vault, falling back to a lower generation if needed. -/
  | configLoadComplete (bad : BitVec 4) (corrected : Nat := 0) (lost : BitVec 4 := 0)
  /-- R102. Once the thermal reading, the configuration load and the lock are all done, the role polders start and the internal calibration runs. -/
  | startUpPoldersAndCalibration
  /-- R476. PWR_STATE enters READY, interrupt 203 is raised and the transmit directions start sending idles. -/
  | readyEntered
  /-- R104. In a cell or port device waiting in SERVICE, the P0 receive clock has been present for 100 us, so the lock sequence starts. -/
  | p0ClockPresent
  /-- R83. 64 consecutive drip cycles have been seen, so DRIP_OK is set. -/
  | dripOkSet (guards : BitVec 4 := 0)
  /-- R83. No drip edge arrives within 100 us after DRIP_OK was set, or DRIP_OK is still unset 2 s after VCREST rose, so a Spill fault is raised. -/
  | dripClockLost
  /-- R91. The phase and band conditions hold for 256 reference cycles, so lock is declared, the outputs are ungated and the domains switch to the PLL clocks. -/
  | pllLockDeclared (bandEdge : BitVec 6) (bandLane : BitVec 6)
  /-- R92. The phase error has not fallen below 200 ps by 20 us into a stored-band attempt, so the full search begins. -/
  | storedBandAbandoned
  /-- R92. A full search ends without lock after 2.0 ms, so the domains stay on the safe clock and the Spill fault PLL no lock is raised. -/
  | pllNoLock
  /-- R474. 100 ms after a failed start-up lock attempt, the device starts a new full-search attempt by itself. -/
  | lockRetry (p0Clock : Bool)
  /-- R93. Loss of reference or loss of lock is detected, so the control value is frozen, the PLL coasts and a Seep fault is raised. -/
  | pllHoldoverEntry (refLost : Bool)
  /-- R94. A reference has been present without a gap for 100 us during holdover, so the loop closes on it without a band search. -/
  | pllReengage
  /-- R94. Lock is not declared within 500 us of re-engagement, so the PLL returns to holdover and a Spill fault is raised. -/
  | reengagementFailed
  /-- R95. Holdover lasts longer than CLK_HOLD_MAX, so HOLD_LONG is set and a Spill fault is raised. -/
  | holdoverTooLong
  /-- R101. A sampled SYNC_IN edge either resets the dividers while the outputs are gated or measures CLK_SYNC_PHASE while they run. -/
  | syncInEdge (falling : Bool) (phase : BitVec 7)
  /-- R65. A host read cycle on the parallel bus returns a unit and applies its read side effects when the cycle ends. -/
  | parallelReadCycle (addr : BitVec 24) (visited : List (BitVec 24)) (allLow : Bool) (straps : Straps)
  /-- R67. A host write cycle on the parallel bus takes effect at the rising strobe, staging or committing a unit. -/
  | parallelWriteCycle (addr : BitVec 24) (data : BitVec 16) (allLow : Bool)
  /-- R117. The header frame of an SPI transaction is received, and a bad header makes the device ignore the transaction and set BAD_HEADER. -/
  | spiHeaderFrame (header : Word) (straps : Straps := ⟨false, false, false, false⟩) (ends : Bool := false)
  /-- R118. An SPI data frame completes and writes or returns one word at the current address. -/
  | spiDataFrame (data : Word) (straps : Straps) (ends : Bool := false)
  /-- R119. SPI_CSn rises before the 32nd clock, so the frame is discarded and SHORT_FRAME is set. -/
  | spiShortFrame
  /-- R113. A host write commits an item to a register that has no behaviour of its own. -/
  | registerWrite (port : Port) (addr : BitVec 24) (value : BitVec 64)
  /-- R125. A doorbell write to a mailbox copies the request and queues it, or sets LOST if the mailbox is busy. -/
  | doorbell (port : Port) (n : Nat) (value : Word)
  /-- R126. The Reeve becomes free and takes the next QUEUED mailbox in round-robin order. -/
  | reeveTakeCommand
  /-- R129. A command's response is complete, so the mailbox becomes DONE, interrupt 192 + n is raised and the response is returned on the mailbox's path. -/
  | responseComplete (n : Nat)
  /-- R130. Command 0x01 returns the identity registers. -/
  | identify (n : Nat) (straps : Straps)
  /-- R130. Command 0x02 returns the power, clock and fault status with the tide number and ns time. -/
  | status (n : Nat)
  /-- R107. Command 0x08 is checked under R106 and, if accepted, runs the orderly stop to Crest standby. -/
  | sleep (n : Nat)
  /-- R108. The stop sequence reaches Crest standby, and start-up begins at once if any request latch is set. -/
  | crestStandbyReached
  /-- R168. Command 0x09 wakes the first sleeping position of a ring and advances CUL_RINGr_SLEEP by an internal commit. -/
  | wakeRemote (n : Nat) (woke : Bool) (ready : Bool := true)
  /-- R121. Command 0x10 stages all of its configuration entries or none of them. -/
  | configWrite (n : Nat)
  /-- R470. Command 0x11 returns a register's value in force, staged or from the previous generation. -/
  | configRead (n : Nat)
  /-- R123. Command 0x12 writes a new Vault generation from the staged set, journals it and applies the keys. -/
  | vaultCommit (n : Nat)
  /-- R130. Command 0x13 returns up to two journal records from a sequence number. -/
  | journalRead (n : Nat) (corrected : Nat := 0)
  /-- R132. Command 0x14 returns a 52-byte chunk of the Uhlop image of the generation in force. -/
  | vaultExport (n : Nat) (straps : Straps)
  /-- R132. No export chunk has been requested for 1 s, so the export ends and releases the Vault resource. -/
  | exportTimeout
  /-- R205. Command 0x20 calibrates the converters in its mask. -/
  | adcCalibrate (n : Nat)
  /-- R205. A calibration run ends, so passing trims are applied, failing converters set FAIL, CAL_TEMP is set and starts are accepted again. -/
  | calibrationComplete (trims : List (List Word))
  /-- R208. With DRIFT set and ADC_AUTO_CAL = 1, the device calibrates all converters by itself once every half-bridge is pulse-blocked and the measure resource is free. -/
  | autoCalibrationStart
  /-- R131. Command 0x21 starts an on-die conversion, or joins a running one, and returns its reading. -/
  | thermalMeasure (n : Nat)
  /-- R97. Command 0x28 switches the domains to the safe clock and relocks the PLL in the requested plan. -/
  | clockRelock (n : Nat)
  /-- R172. Command 0x30 numbers the positions of the rings in its mask, assigns IDs and writes each device's place. -/
  | ringDiscover (n : Nat) (found : List (List Nat))
  /-- R176. Command 0x31 measures the loop delay of the rings in its mask and waits until every position is ALIGNED. -/
  | ringAlign (n : Nat) (loops : List Nat) (aligned : Bool) (wraps : BitVec 4 := 0)
  /-- R182. Command 0x32 puts the selected directions of a port to sleep. -/
  | laneSleep (n : Nat)
  /-- R182. Command 0x33 wakes the selected directions of a port. -/
  | laneWake (n : Nat)
  /-- R459. Command 0x40 wakes, aligns, charges and admits a spare cell. -/
  | cellBringIn (n : Nat) (verified : Bool) (auto : Bool)
  /-- R462. Command 0x41 moves a cell's state elsewhere, closes its Sluice and clears its admission. -/
  | cellRetire (n : Nat)
  /-- R455. Command 0x42 announces a swap of the active and standby roles 64 tides ahead. -/
  | twinSwap (n : Nat)
  /-- R454. Command 0x43 transfers the active twin's decision state to the standby. -/
  | twinResync (n : Nat)
  /-- R427. Command 0x50 arms an IDLE capture profile into FILLING. -/
  | captureArm (n : Nat)
  /-- R435. Command 0x51 returns the descriptor of a capture record. -/
  | captureRead (n : Nat)
  /-- R427. Command 0x52 returns a profile to IDLE and ends any record in progress. -/
  | captureDisarm (n : Nat)
  /-- R335. Command 0x60 applies the acknowledgement actions of the masked sources and clears the sticky bits whose signals are inactive. -/
  | faultAck (n : Nat)
  /-- R339. Command 0x61 asserts a fault source for one core clock, in factory test only. -/
  | faultInject (n : Nat) (factory : Bool)
  /-- R134. Command 0x70 tunnels an enclosed request to a ring device's M3 and returns that device's response. -/
  | remote (n : Nat)
  /-- R135. No target response arrives within RVE_REMOTE_TIMEOUT, so REMOTE returns TIMEOUT. -/
  | remoteTimeout (ring : Nat)
  /-- R148. The clock-lane detector of a receive direction asserts, so RX_STATE goes from DOWN to CLOCK. -/
  | rxClockDetect (port : Nat)
  /-- R148. Three K28.5 characters are seen at one boundary, so the receiver goes from CLOCK to WORD. -/
  | rxWordLock (port : Nat)
  /-- R148. The 64-tap sweep completes, so the sampling phase is set and the receiver goes from WORD to DESKEW. -/
  | rxDeskewSet (port : Nat) (tap : BitVec 6)
  /-- R148. 1,024 consecutive characters arrive without a code error, so the receiver goes UP and raises the port interrupt. -/
  | rxUp (port : Nat) (codeErrors : Nat := 0)
  /-- R150. The clock-lane detector deasserts, so the receiver goes DOWN, a port-down fault or LEAVING handling follows and a wrap may begin. -/
  | rxDown (port : Nat) (codeErrors : Nat := 0)
  /-- R148. Off-boundary commas or 8 code errors within one tide return the receiver to CLOCK. -/
  | rxRealign (port : Nat) (codeErrors : Nat)
  /-- R142. A port's receive has been usable for 1,024 tides, so READY is set. -/
  | portReady (port : Nat)
  /-- R165. A port status character is received, and WRAPPING seen right after leaving a wrap makes the device wrap again. -/
  | portStatusReceived (port : Nat) (status : BitVec 8) (codeErrors : Nat := 0)
  /-- R158. The aligned boundary of a tide passes: origins start frames, devices take their records, and the per-tide work of every block runs. -/
  | tideBoundary (coreDone : Bool) (offset : Nat := 0)
  /-- R161. A tide frame is received and forwarded, and its CRC, RING_ID, TIDE, tokens, message channel and command entry are processed. -/
  | tideFrameReceived (port : Nat) (frame : TideFrame) (codeErrors : Nat := 0)
  /-- R265. MOD_CMD_LOSS consecutive boundaries are missing, so the cell turns its AFE OFF or the port sets CMD_LOST, and a fault is raised. -/
  | commandLoss
  /-- R166. Every 1,024 tides while WRAP_SEEN is set and CUL_AUTO_UNWRAP is 1, the origin sets UNWRAP. -/
  | periodicUnwrap (ring : Nat)
  /-- R171. No acknowledge arrives within 100 tides, so the request or response is sent again, up to three times. -/
  | messageAckTimeout (ring : Nat)
  /-- R171. After an acknowledge of 1, the station retries the request every 1 ms. -/
  | messageBusyRetry (ring : Nat)
  /-- R173. A 1,024-tide average of delta completes, so comp0 and comp1 are recomputed and the alignment state may change. -/
  | alignAverageComplete (delta : Int)
  /-- R146. The reference port has announced not rooted for 8 tides while the other port is rooted and UP, so the PLL reference moves to that other port. -/
  | referencePortChange
  /-- R181. A raised trigger writes a token into the first empty field of the next passing frames, or is discarded at AGE 15 and counted lost. -/
  | triggerTokenRaise (line : Nat) (offset : Nat)
  /-- R182. Traffic resumes on a sleeping receive direction of an awake device, so the lane-activity interrupt is raised and the direction wakes if armed. -/
  | laneActivity (port : Nat)
  /-- R192. A start event of an enabled converter starts a round, or is counted as an overrun. -/
  | adcRoundStart (conv : Nat)
  /-- R196. A low-side turn-on plus DELAY starts a round only if the conduction window covers the last hold, and otherwise counts a skip. -/
  | modulatorAdcStart (conv : Nat) (onNs : Nat) (hb : Nat := 0)
  /-- R407. The timebase reaches a grid sample instant, so grid-sourced rounds start and SV samples are taken. -/
  | gridInstant (rate : Nat) (k : Nat)
  /-- R192. A write to ADC_START starts rounds on the named converters. -/
  | adcHostStart (mask : BitVec 4)
  /-- R191. A conversion ends, so its result is written with FRESH and passed to consumers, comparators and linearisers. -/
  | adcResult (conv : Nat) (pv : Int)
  /-- R217. Every 200 ns the virtual-flux observer integrates and computes flux, angle, frequency, p and q. -/
  | observerStep
  /-- R241. The tracker's conditions have held for 20 ms, so it becomes valid. -/
  | trackerValid
  /-- R241. A tracker condition has failed for 2 ms, or samples are missing, so the tracker becomes invalid. -/
  | trackerInvalid (srcLost : Bool)
  /-- R247. A host write to DPC_CTRL RUN requests or stops control. -/
  | runWrite (value : Bool)
  /-- R253. A write of MOD_CTRL EN disables the modulators at once, or re-enables them at the next boundary, applying held keys at the transition to 0. -/
  | modEnWrite (value : Bool)
  /-- R268. A DAB bridge edge forms the next target phase and schedules the next edge within MOD_DAB_STEP. -/
  | dabHalfCycleEdge (bridge : Nat)
  /-- R269. A DAB bridge starts, stops or enters refresh at a quarter-point of its wave. -/
  | dabQuarterPoint (bridge : Nat) (second : Bool)
  /-- R272. At a carrier valley each inverter leg latches its loop output as its reference, clipped to 1 pu. -/
  | inverterCarrierValley
  /-- R275. A trip input becomes active, so its latch sets and forces the programmed safe levels. -/
  | tripActive (trip : Nat)
  /-- R277. A write to MOD_TRIP_CLEAR clears a trip latch, or refuses the clear while the trip is still active. -/
  | tripClear (mask : BitVec 4)
  /-- R278. The JTAG FREEZE instruction stops the clocks of polder 10, so the outputs hold. -/
  | jtagFreeze
  /-- R279. The clocks of polder 10 run again, so EN is cleared, FROZEN is set and a Spill fault is raised. -/
  | modulatorClockResume
  /-- R284. 600 ns after the boundary, all loop-engine outputs are published together. -/
  | lpePublish
  /-- R297. A write to LPE_FE_CLEAR releases loop following-error latches. -/
  | feClear (mask : Word)
  /-- R305. DS stays above the threshold after blanking, so the die turns the channel off and a fault of the half-bridge or the chopper follows. -/
  | desaturation (channel : Nat)
  /-- R306. A channel enters or leaves undervoltage, which is a fault of its half-bridge when its input is on. -/
  | channelUndervoltage (channel : Nat) (under : Bool)
  /-- R307. Both inputs of a half-bridge are on for more than 3 ns, so both are refused and the half-bridge faults. -/
  | bothOnRefused (hb : Nat)
  /-- R309. An input edge at which the clearing conditions of every set cause are absent ends the hold of a half-bridge. -/
  | halfBridgeHoldEnd (hb : Nat)
  /-- R304. A channel die sees no command refresh for 1 us, so it turns its output off. -/
  | dieRefreshLoss (channel : Nat)
  /-- R310. The high-side on-time count reaches 0.8 of GDR_BSMAX, so BS_WARN is set. -/
  | bootstrapWarn (hb : Nat)
  /-- R311. The high-side on-time count reaches GDR_BSMAX, so a refresh notch is inserted or the switch turns off with the BS_LIMIT fault. -/
  | bootstrapMaxReached (hb : Nat) (offIn : Option Nat)
  /-- R313. The die turns the high switch off after 1.10 to 1.25 times GDR_BSMAX of continuous on-time and raises BS_LIMIT. -/
  | dieBootstrapLimit (hb : Nat)
  /-- R314. A bus comparator becomes above or below after its filter. -/
  | ovComparatorChange (k : Nat) (above : Bool)
  /-- R319. Comparator 1 is above and MIN_OFF has passed, so the chopper turns on and its check begins. -/
  | chopperTurnOn
  /-- R319. Comparator 1 is below and MIN_ON has passed, so the chopper turns off. -/
  | chopperTurnOff
  /-- R320. No bus drop is seen within GDR_CHOP_CHECK, so CHOP_FAULT is set and the chopper stops. -/
  | chopperCheckFailed
  /-- R324. A Sluice land differs from its command for 10 us, so MISMATCH is set and a Spill fault is raised. -/
  | sluiceMismatch (a : Bool) (b : Bool)
  /-- R330. A fault source's error signal is asserted, so its sticky bit is set with an escalated class, it is counted and it is offered to Strata. -/
  | faultEvent (source : Nat)
  /-- R329. The two rails of a source agree for 2 core clocks, so FLT_WIRE is set and the source is treated as asserted. -/
  | brokenErrorWire (source : Nat)
  /-- R344. A host commit to INT_PENDk sets or clears pending bits. -/
  | intPendWrite (k : Nat) (value : Word)
  /-- R345. A host commit to INT_ENk changes the enables and the winners. -/
  | intEnWrite (k : Nat) (value : Word)
  /-- R346. A host commit to INT_TGTj moves sources between targets. -/
  | intTgtWrite (j : Nat) (value : Word)
  /-- R348. A filtered HSLEEPn level change starts or ends the fallback presentation to another target. -/
  | hsleepChange (target : Nat) (low : Bool)
  /-- R349. The arbiter accepts one queued entry into Strata, overwriting the oldest unread entry when the log is full. -/
  | strataEntryAccepted
  /-- R349. A write to STR_MARK offers a host-marker entry. -/
  | strataMark (value : BitVec 16)
  /-- R352. A capturing read of STR_DATA_LO removes the oldest unread entry into the port snapshot. -/
  | strataDataRead (port : Port)
  /-- R358. A guard or emergency-stop level has held for FILTER x 100 us, so the channel takes it, which may make or end a demand. -/
  | wardenInputFiltered (chan : Bool) (input : Nat) (level : Bool)
  /-- R359. A guard contact discrepancy lasts longer than CONTACT_TIME, so the channel enters LOCKOUT with cause CONTACT. -/
  | contactDiscrepancyTimeout (chan : Bool)
  /-- R364. Every 1 ms each channel sends its cross-comparison exchange to the partner. -/
  | wardenExchangeSend (chan : Bool)
  /-- R364. An intact exchange arrives from the partner and is compared; a reported LOCKOUT is followed at once and an automatic release may be requested. -/
  | wardenExchangeReceived (chan : Bool)
  /-- R364. A discrepancy persists for 10 ms, or no exchange arrives for 2 ms, so the channel enters LOCKOUT. -/
  | wardenDiscrepancyLockout (chan : Bool) (silent : Bool)
  /-- R363. A write of 1 to WRD_CTRL RELEASE makes a release request, accepted only with both channels ARMED. -/
  | wardenRelease (block : Bool)
  /-- R363. A write of 1 to WRD_CTRL BLOCK returns both channels from RELEASED to ARMED. -/
  | wardenBlock
  /-- R367. A Warden drives its SAFE_OUT low for a 300 us test pulse, or skips the pulse while the output is low. -/
  | safeOutTestPulseStart (chan : Bool)
  /-- R368. A test pulse ends and the output returns high unless its state now commands it low. -/
  | safeOutTestPulseEnd (chan : Bool)
  /-- R367. A SAFE_OUT readback sample mismatching the expected level puts the channel into LOCKOUT with cause READBACK. -/
  | safeOutReadback (chan : Bool) (level : Bool)
  /-- R375. An on-die conversion completes, and the reading is stored and offered to the drift, band, Vault-window and shutdown checks. -/
  | onDieReading (reading : BitVec 16)
  /-- R374. Every THM_DEMAND_PERIOD ms while READY, an on-die conversion is demanded. -/
  | thermalDemandTimer
  /-- R379. A substituted sensor delivers only valid values for 1 s, so the substitution ends. -/
  | substitutionEnd (own : Bool) (ring : Nat) (slot : Nat) (sensor : Nat)
  /-- R383. A sector erase completes, and the commit goes on to its next operation at the next reading within the window. -/
  | vaultEraseComplete
  /-- R383. A page, the journal records or the commit record finish programming. -/
  | vaultProgramComplete
  /-- R387. An erase or program fails verification, so the sector is replaced by a spare and a remap record is written. -/
  | vaultSectorRemap (last : Bool := false)
  /-- R393. A frame is received on an Ethernet port, stamped, filtered for duplicates, forwarded in HSR and passed to its consumer or discarded. -/
  | ethFrameReceived (port : Nat) (frame : EthFrame) (good : Bool) (stamp : Nat) (frac : Nat)
  /-- R398. A write to NET_RX_POP frees the oldest receive slot. -/
  | netRxPop
  /-- R399. A control word written with GO = 1 queues a host transmit frame. -/
  | hostTxGo (slot : Nat) (ctrl : Word)
  /-- R399. A queued frame completes transmission, so its egress stamps are written and DONE is set. -/
  | ethFrameSent (port : Nat) (stamp : Nat) (frac : Nat)
  /-- R409. TIM_NOW reaches a queued launch time and the port is free, so the frame starts. -/
  | timedLaunch (port : Nat)
  /-- R395. Every 2 s a PRP or HSR supervision frame is sent on each port. -/
  | supervisionFrame
  /-- R421. An Ethernet link goes up or down. -/
  | linkChange (port : Nat) (up : Bool) (aneg : Bool)
  /-- R404. A write to TIM_OFFSET drives one update of the hardware servo. -/
  | timOffsetWrite (value : Word)
  /-- R404. A write of 1 to SERVO_RESET clears integ and RATE. -/
  | servoReset
  /-- R405. A write to TIM_STEP jumps the timebase, or is refused with source 108 if too large. -/
  | timStepWrite (value : Word)
  /-- R406. A host write to TIM_SECOND sets the next second mark, or is ignored with SECOND_REFUSED. -/
  | timSecondWrite (value : Word)
  /-- R406. TIM_NOW reaches the second mark, so the mark advances by 10^9 and interrupt 134 is raised. -/
  | secondMark
  /-- R414. No accepted frame arrives for eight frame intervals, so the subscription becomes invalid. -/
  | svSubscriptionTimeout (sub : Nat)
  /-- R417. A change of a BOOLEAN, Dbpos or Quality member advances stNum and sends a first transmission in class 1. -/
  | gooseNewState (pub : Nat)
  /-- R417. A write to GSE_PUB_FORCE forces a new GOOSE state of a publisher. -/
  | gsePubForce (mask : BitVec 16)
  /-- R417. A GOOSE repeat interval expires, so a repeat is sent with sqNum advanced. -/
  | gooseRepeat (pub : Nat)
  /-- R419. A subscription's time-to-live deadline passes, so it becomes invalid. -/
  | gooseDeadlinePassed (sub : Nat)
  /-- R424. At a profile's sample instant every recorded channel stores its word, and conditions are tested. -/
  | gallerySample (step : Nat)
  /-- R428. A write to GAL_TRIG makes a host trigger of a profile. -/
  | galTrigWrite (mask : BitVec 16)
  /-- R430. The hold-off time or trigger count ends, so the profile returns to FILLING or goes to FULL. -/
  | holdoffEnd (profile : Nat)
  /-- R431. A write to GAL_FREE frees a record slot, which lets a FULL profile return to FILLING. -/
  | galFreeWrite (index : BitVec 16)
  /-- R442. A twin-link frame is received, and its shared inputs, queue, message and CMD_CRC are taken. -/
  | twinLinkFrameReceived (frame : TideFrame) (arrival : Int) (id : Nat := 0) (codeErrors : Nat := 0)
  /-- R450. An Echo path shows no advancing frame for ECHO_LOSS_TIDES tides, so source 120 is asserted. -/
  | echoPathSilent (ring : Bool)
  /-- R451. Both Echo paths of a standby or diverged twin are silent, so it becomes ACTIVE at the next boundary. -/
  | twinTakeover
  /-- R441. The partner is silent on both paths for 1,000 tides after READY, so a pairing twin becomes ACTIVE. -/
  | pairingPartnerSilent
  /-- R455. TWIN_SWAP_PERIOD hours have passed, so the active twin issues TWIN_SWAP itself, with hourly retries if refused. -/
  | autoSwapTimer
  /-- R454. The standby's CMD_CRC first matches after the snapshot replay, so it becomes STANDBY. -/
  | resyncComplete (snap : Snapshot)
  /-- R454. A resync has not completed after 20 ms, so TIMEOUT is returned and the standby stays DIVERGED. -/
  | resyncTimeout
  /-- R456. Every 10 ms a cell samples its hottest NTC and updates the thermal-cycle bins and hot time. -/
  | wearSample
  /-- R274. A trip input returns to its inactive level (after its filter when FILTER > 0), so MOD_TRIP_STATUS ACTIVE clears while the latch stays set. -/
  | tripInactive (trip : Nat)
  /-- R315. Every 100 ns the bus monitor converter takes a sample into GDR_BUS VALUE, and a sample at or below V_ON minus V_ON/50 passes a running chopper check. -/
  | busMonitorSample (value : BitVec 12)
  /-- R337. An edge of the drip divider by 32 toggles ALIVE, or resumes it once the stopping conditions have all ended. -/
  | aliveDividerEdge
  /-- R329. The two rails of a source whose wire was broken are valid for 2 consecutive core clocks, so its FLT_WIRE bit clears and source 6 can be acknowledged again. -/
  | errorWireRestored (source : Nat)
  /-- R472. VIO3 becomes present, so each guard land's present level is taken as its accepted level without any acceptance, and guard changes can be accepted from then on. -/
  | vio3BecomesPresent (guards : BitVec 4)
  /-- R273. At an inverter carrier peak, legs started by an entry with RUN = 1 begin switching, and the reference latched at the previous valley begins to govern each leg. -/
  | inverterCarrierPeak
  deriving DecidableEq, Repr

end Sys2Proof
end

