-- ==== Sys2Proof/Decode.lean ====
section
/-! DEFINITION. The table of commands gives no row any bits (opcode_table.json: every row's fields are empty), so no word spells
a command. -/
namespace Sys2Proof

/-- The command that a word spells: none, for the table gives no bits. -/
def decodeTableWord (_nbits _w : Nat) : Option Instr := none

end Sys2Proof
end

