-- ==== Sys2Proof/Machine/Bits.lean ====
section
/-! DEFINITION. Bit fields, signed readings, saturation and byte order. -/
namespace Sys2Proof.Machine

/-- The number in bits `lo + w - 1 : lo` of a word. -/
def bitsOf (x : Word) (lo w : Nat) : Nat := x.toNat / 2 ^ lo % 2 ^ w

/-- `x` with bits `lo + w - 1 : lo` replaced by the low `w` bits of `v`. -/
def setBits (x : Word) (lo w v : Nat) : Word :=
  (x &&& ~~~(BitVec.ofNat 32 ((2 ^ w - 1) * 2 ^ lo))) ||| BitVec.ofNat 32 (v % 2 ^ w * 2 ^ lo)

/-- The mask of bits `lo + w - 1 : lo`. -/
def fieldMask (lo w : Nat) : Word := BitVec.ofNat 32 ((2 ^ w - 1) * 2 ^ lo)

/-- `v`, `w` bits wide, read as two's complement. -/
def toSigned (w v : Nat) : Int := if v < 2 ^ (w - 1) then v else (v : Int) - (2 ^ w : Nat)

/-- The low `w` bits of the two's complement of `i`. -/
def ofSigned (w : Nat) (i : Int) : Nat := (i % ((2 ^ w : Nat) : Int)).toNat

/-- `i` limited to the range `lo` to `hi`. -/
def clampInt (lo hi i : Int) : Int := if i < lo then lo else if hi < i then hi else i

/-- `i` limited to a signed number of `w` bits. -/
def satSigned (w : Nat) (i : Int) : Int :=
  clampInt (-((2 ^ (w - 1) : Nat) : Int)) (((2 ^ (w - 1) : Nat) : Int) - 1) i

/-- A count of `w` bits advanced by one, saturating. -/
def satInc (w v : Nat) : Nat := if v + 1 < 2 ^ w then v + 1 else 2 ^ w - 1

/-- Bit `i` of a number. -/
def natBit (v i : Nat) : Bool := v / 2 ^ i % 2 == 1

/-- 1 for true, 0 for false. -/
def b2n (b : Bool) : Nat := if b then 1 else 0

/-- The number whose bytes are `bs`, least significant first (R128). -/
def leNat : List Byte → Nat
  | [] => 0
  | b :: bs => b.toNat + 256 * leNat bs

/-- The `n` bytes of `v`, least significant first (R128). -/
def leBytes : Nat → Nat → List Byte
  | 0, _ => []
  | n + 1, v => BitVec.ofNat 8 v :: leBytes n (v / 256)

/-- The number whose bytes are `bs`, most significant first (network order). -/
def beNat (bs : List Byte) : Nat := bs.foldl (fun a b => 256 * a + b.toNat) 0

/-- The `n` bytes of `v`, most significant first. -/
def beBytes (n v : Nat) : List Byte := (leBytes n v).reverse

/-- `bs` cut or filled with zeros to `n` bytes. -/
def padTo (n : Nat) (bs : List Byte) : List Byte := (bs ++ List.replicate n 0).take n

/-- `n` bytes of `bs` from offset `o`, as a list. -/
def bytesAt (bs : List Byte) (o n : Nat) : List Byte := (bs.drop o).take n

/-- The little-endian number of `n` bytes at offset `o`. -/
def leAt (bs : List Byte) (o n : Nat) : Nat := leNat (bytesAt bs o n)

/-- The big-endian number of `n` bytes at offset `o`. -/
def beAt (bs : List Byte) (o n : Nat) : Nat := beNat (bytesAt bs o n)

/-- R5: `a` counts as later than `b` modulo 2^32. -/
def laterThan (a b : Nat) : Bool :=
  let d := (a % 2 ^ 32 + 2 ^ 32 - b % 2 ^ 32) % 2 ^ 32
  decide (0 < d) && decide (d < 2 ^ 31)

/-- The smallest whole number not below `a / b`; 0 for `b` = 0. -/
def ceilDiv (a b : Nat) : Nat := if b = 0 then 0 else (a + b - 1) / b

/-- The list `l` with element `i` replaced by `v` (unchanged when `i` is outside). -/
def listSet {α : Type} (l : List α) (i : Nat) (v : α) : List α := l.set i v

end Sys2Proof.Machine
end

