-- ==== Sys2Proof/Machine/Fields.lean ====
section
/-! DEFINITION. The addresses of the registers (`R.<name>`) and the places of their fields (`F.<register>_<field>`), as the
chapters' register tables give them. Indices are the spec's own (n, k, r, s ...). -/
namespace Sys2Proof.Machine

/-- A field: the byte address of its register, its lowest bit and its width. -/
structure Fld where
  addr : Nat
  lo : Nat
  w : Nat
  deriving DecidableEq, Repr

abbrev R.HST_ROLE : Nat := 0x000008
abbrev R.HST_PLACE : Nat := 0x00000C
abbrev F.HST_PLACE_CONVERTER : Fld := ⟨R.HST_PLACE, 14, 6⟩
abbrev F.HST_PLACE_RING : Fld := ⟨R.HST_PLACE, 12, 2⟩
abbrev F.HST_PLACE_SLOT : Fld := ⟨R.HST_PLACE, 0, 7⟩
abbrev R.HST_DEVICE_ID : Nat := 0x000010
abbrev F.HST_DEVICE_ID_DEVICE_ID : Fld := ⟨R.HST_DEVICE_ID, 0, 18⟩
abbrev R.HST_ID_POOL_BASE : Nat := 0x000014
abbrev F.HST_ID_POOL_BASE_BASE : Fld := ⟨R.HST_ID_POOL_BASE, 0, 18⟩
abbrev R.HST_ID_POOL_LIMIT : Nat := 0x000018
abbrev F.HST_ID_POOL_LIMIT_LIMIT : Fld := ⟨R.HST_ID_POOL_LIMIT, 0, 18⟩
abbrev R.HST_ID_POOL_NEXT : Nat := 0x00001C
abbrev F.HST_ID_POOL_NEXT_NEXT : Fld := ⟨R.HST_ID_POOL_NEXT, 0, 18⟩
abbrev R.PWR_POLDER_STATE : Nat := 0x010000
abbrev R.PWR_WAKE_CAUSE : Nat := 0x010004
abbrev F.PWR_WAKE_CAUSE_LANE : Fld := ⟨R.PWR_WAKE_CAUSE, 12, 10⟩
abbrev F.PWR_WAKE_CAUSE_THERMAL : Fld := ⟨R.PWR_WAKE_CAUSE, 7, 1⟩
abbrev F.PWR_WAKE_CAUSE_SUPPLY_LOST : Fld := ⟨R.PWR_WAKE_CAUSE, 6, 1⟩
abbrev F.PWR_WAKE_CAUSE_GUARD : Fld := ⟨R.PWR_WAKE_CAUSE, 5, 1⟩
abbrev F.PWR_WAKE_CAUSE_DRIP_ALARM : Fld := ⟨R.PWR_WAKE_CAUSE, 4, 1⟩
abbrev F.PWR_WAKE_CAUSE_WAKEN : Fld := ⟨R.PWR_WAKE_CAUSE, 3, 1⟩
abbrev F.PWR_WAKE_CAUSE_SUPPLY_RETURN : Fld := ⟨R.PWR_WAKE_CAUSE, 1, 1⟩
abbrev R.PWR_WAKE_EN : Nat := 0x010008
abbrev F.PWR_WAKE_EN_LANE_EN : Fld := ⟨R.PWR_WAKE_EN, 12, 10⟩
abbrev F.PWR_WAKE_EN_GUARD_EN : Fld := ⟨R.PWR_WAKE_EN, 5, 1⟩
abbrev F.PWR_WAKE_EN_ALARM_EN : Fld := ⟨R.PWR_WAKE_EN, 4, 1⟩
abbrev R.PWR_DRIP_COUNT : Nat := 0x01000C
abbrev R.PWR_DRIP_ALARM : Nat := 0x010010
abbrev R.PWR_STATE : Nat := 0x010014
abbrev F.PWR_STATE_DRIP_OK : Fld := ⟨R.PWR_STATE, 8, 1⟩
abbrev F.PWR_STATE_STATE : Fld := ⟨R.PWR_STATE, 0, 3⟩
abbrev R.CLK_STATUS : Nat := 0x010100
abbrev F.CLK_STATUS_SYNC_SEEN : Fld := ⟨R.CLK_STATUS, 12, 1⟩
abbrev F.CLK_STATUS_TIMEBASE_DEGRADED : Fld := ⟨R.CLK_STATUS, 11, 1⟩
abbrev F.CLK_STATUS_HOLD_LONG : Fld := ⟨R.CLK_STATUS, 10, 1⟩
abbrev F.CLK_STATUS_REF_LOST : Fld := ⟨R.CLK_STATUS, 9, 1⟩
abbrev F.CLK_STATUS_HOLDOVER : Fld := ⟨R.CLK_STATUS, 8, 1⟩
abbrev F.CLK_STATUS_SOURCE : Fld := ⟨R.CLK_STATUS, 6, 2⟩
abbrev F.CLK_STATUS_PLAN : Fld := ⟨R.CLK_STATUS, 4, 2⟩
abbrev F.CLK_STATUS_ON_SAFE : Fld := ⟨R.CLK_STATUS, 3, 1⟩
abbrev F.CLK_STATUS_GATED : Fld := ⟨R.CLK_STATUS, 2, 1⟩
abbrev F.CLK_STATUS_LOCKED : Fld := ⟨R.CLK_STATUS, 1, 1⟩
abbrev F.CLK_STATUS_BUSY : Fld := ⟨R.CLK_STATUS, 0, 1⟩
abbrev R.CLK_BAND : Nat := 0x010104
abbrev F.CLK_BAND_BAND_TEMP : Fld := ⟨R.CLK_BAND, 16, 16⟩
abbrev F.CLK_BAND_VALID : Fld := ⟨R.CLK_BAND, 15, 1⟩
abbrev F.CLK_BAND_BAND_LANE : Fld := ⟨R.CLK_BAND, 8, 6⟩
abbrev F.CLK_BAND_BAND_EDGE : Fld := ⟨R.CLK_BAND, 0, 6⟩
abbrev R.CLK_CONFIG : Nat := 0x010108
abbrev F.CLK_CONFIG_CLK_BAND_WINDOW : Fld := ⟨R.CLK_CONFIG, 8, 8⟩
abbrev F.CLK_CONFIG_CLK_SYNC_EN : Fld := ⟨R.CLK_CONFIG, 1, 1⟩
abbrev F.CLK_CONFIG_CLK_SYNC_EDGE : Fld := ⟨R.CLK_CONFIG, 0, 1⟩
abbrev R.CLK_SYNC_PHASE : Nat := 0x01010C
abbrev F.CLK_SYNC_PHASE_PHASE : Fld := ⟨R.CLK_SYNC_PHASE, 0, 7⟩
abbrev R.CLK_LOCK_COUNT : Nat := 0x010110
abbrev F.CLK_LOCK_COUNT_FULL : Fld := ⟨R.CLK_LOCK_COUNT, 16, 16⟩
abbrev F.CLK_LOCK_COUNT_FAST : Fld := ⟨R.CLK_LOCK_COUNT, 0, 16⟩
abbrev R.CLK_HOLD_COUNT : Nat := 0x010114
abbrev F.CLK_HOLD_COUNT_COUNT : Fld := ⟨R.CLK_HOLD_COUNT, 0, 16⟩
abbrev R.HST_PART : Nat := 0x000000
abbrev R.HST_REVISION : Nat := 0x000004
abbrev R.HST_SPI_STATUS : Nat := 0x000024
abbrev F.HST_SPI_STATUS_BAD_HEADER : Fld := ⟨R.HST_SPI_STATUS, 1, 1⟩
abbrev F.HST_SPI_STATUS_SHORT_FRAME : Fld := ⟨R.HST_SPI_STATUS, 0, 1⟩
abbrev R.RVE_Mn_REQk (n : Nat) (k : Nat) : Nat := 0x020000 + 0x100 * n + 0x4 * k
abbrev R.RVE_Mn_RSPk (n : Nat) (k : Nat) : Nat := 0x020040 + 0x100 * n + 0x4 * k
abbrev R.RVE_Mn_STATE (n : Nat) : Nat := 0x020084 + 0x100 * n
abbrev F.RVE_Mn_STATE_TAG (n : Nat) : Fld := ⟨R.RVE_Mn_STATE n, 16, 8⟩
abbrev F.RVE_Mn_STATE_CODE (n : Nat) : Fld := ⟨R.RVE_Mn_STATE n, 8, 8⟩
abbrev F.RVE_Mn_STATE_LOST (n : Nat) : Fld := ⟨R.RVE_Mn_STATE n, 4, 1⟩
abbrev F.RVE_Mn_STATE_STATE (n : Nat) : Fld := ⟨R.RVE_Mn_STATE n, 0, 2⟩
abbrev R.RVE_HOST_SECONDS : Nat := 0x020800
abbrev R.RVE_CONFIG : Nat := 0x020804
abbrev F.RVE_CONFIG_RVE_REMOTE_TIMEOUT : Fld := ⟨R.RVE_CONFIG, 0, 16⟩
abbrev R.RVE_STAGED : Nat := 0x020808
abbrev R.RVE_RESOURCE : Nat := 0x02080C
abbrev R.CUL_Pn_STATUS (n : Nat) : Nat := 0x040000 + 0x100 * n
abbrev F.CUL_Pn_STATUS_LEAVING_SEEN (n : Nat) : Fld := ⟨R.CUL_Pn_STATUS n, 11, 1⟩
abbrev F.CUL_Pn_STATUS_WRAPPED (n : Nat) : Fld := ⟨R.CUL_Pn_STATUS n, 10, 1⟩
abbrev F.CUL_Pn_STATUS_READY (n : Nat) : Fld := ⟨R.CUL_Pn_STATUS n, 9, 1⟩
abbrev F.CUL_Pn_STATUS_USABLE (n : Nat) : Fld := ⟨R.CUL_Pn_STATUS n, 8, 1⟩
abbrev F.CUL_Pn_STATUS_PEER_ROOTED (n : Nat) : Fld := ⟨R.CUL_Pn_STATUS n, 7, 1⟩
abbrev F.CUL_Pn_STATUS_PEER_RX_UP (n : Nat) : Fld := ⟨R.CUL_Pn_STATUS n, 6, 1⟩
abbrev F.CUL_Pn_STATUS_DETECT (n : Nat) : Fld := ⟨R.CUL_Pn_STATUS n, 5, 1⟩
abbrev F.CUL_Pn_STATUS_TX_AWAKE (n : Nat) : Fld := ⟨R.CUL_Pn_STATUS n, 4, 1⟩
abbrev F.CUL_Pn_STATUS_RX_AWAKE (n : Nat) : Fld := ⟨R.CUL_Pn_STATUS n, 3, 1⟩
abbrev F.CUL_Pn_STATUS_RX_STATE (n : Nat) : Fld := ⟨R.CUL_Pn_STATUS n, 0, 3⟩
abbrev R.CUL_Pn_ERRORS (n : Nat) : Nat := 0x040004 + 0x100 * n
abbrev F.CUL_Pn_ERRORS_CODE (n : Nat) : Fld := ⟨R.CUL_Pn_ERRORS n, 16, 16⟩
abbrev F.CUL_Pn_ERRORS_DOWN (n : Nat) : Fld := ⟨R.CUL_Pn_ERRORS n, 0, 16⟩
abbrev R.CUL_Pn_CRC (n : Nat) : Nat := 0x040008 + 0x100 * n
abbrev F.CUL_Pn_CRC_STOMPED (n : Nat) : Fld := ⟨R.CUL_Pn_CRC n, 16, 16⟩
abbrev F.CUL_Pn_CRC_BAD (n : Nat) : Fld := ⟨R.CUL_Pn_CRC n, 0, 16⟩
abbrev R.CUL_Pn_DESKEW (n : Nat) : Nat := 0x04000C + 0x100 * n
abbrev F.CUL_Pn_DESKEW_TAP (n : Nat) : Fld := ⟨R.CUL_Pn_DESKEW n, 0, 6⟩
abbrev R.CUL_RINGr_FORMAT (r : Nat) : Nat := 0x041000 + 0x100 * r
abbrev F.CUL_RINGr_FORMAT_ENABLE (r : Nat) : Fld := ⟨R.CUL_RINGr_FORMAT r, 31, 1⟩
abbrev F.CUL_RINGr_FORMAT_REC_SIZE (r : Nat) : Fld := ⟨R.CUL_RINGr_FORMAT r, 9, 1⟩
abbrev F.CUL_RINGr_FORMAT_CMD_WIDTH (r : Nat) : Fld := ⟨R.CUL_RINGr_FORMAT r, 8, 1⟩
abbrev F.CUL_RINGr_FORMAT_POSITIONS (r : Nat) : Fld := ⟨R.CUL_RINGr_FORMAT r, 0, 7⟩
abbrev R.CUL_RINGr_STATE (r : Nat) : Nat := 0x041004 + 0x100 * r
abbrev F.CUL_RINGr_STATE_FOUND (r : Nat) : Fld := ⟨R.CUL_RINGr_STATE r, 24, 8⟩
abbrev F.CUL_RINGr_STATE_DELAY_SHORT (r : Nat) : Fld := ⟨R.CUL_RINGr_STATE r, 7, 1⟩
abbrev F.CUL_RINGr_STATE_LOOP_VALID (r : Nat) : Fld := ⟨R.CUL_RINGr_STATE r, 6, 1⟩
abbrev F.CUL_RINGr_STATE_WRAP_SEEN (r : Nat) : Fld := ⟨R.CUL_RINGr_STATE r, 5, 1⟩
abbrev F.CUL_RINGr_STATE_UNPLANNED_WRAP (r : Nat) : Fld := ⟨R.CUL_RINGr_STATE r, 4, 1⟩
abbrev F.CUL_RINGr_STATE_STATE (r : Nat) : Fld := ⟨R.CUL_RINGr_STATE r, 0, 2⟩
abbrev R.CUL_RINGr_LOOP (r : Nat) : Nat := 0x041008 + 0x100 * r
abbrev F.CUL_RINGr_LOOP_L (r : Nat) : Fld := ⟨R.CUL_RINGr_LOOP r, 0, 32⟩
abbrev R.CUL_RINGr_LOST (r : Nat) : Nat := 0x04100C + 0x100 * r
abbrev F.CUL_RINGr_LOST_DIR1 (r : Nat) : Fld := ⟨R.CUL_RINGr_LOST r, 16, 16⟩
abbrev F.CUL_RINGr_LOST_DIR0 (r : Nat) : Fld := ⟨R.CUL_RINGr_LOST r, 0, 16⟩
abbrev R.CUL_RINGr_SLEEP (r : Nat) : Nat := 0x041010 + 0x100 * r
abbrev F.CUL_RINGr_SLEEP_FIRST_ASLEEP (r : Nat) : Fld := ⟨R.CUL_RINGr_SLEEP r, 0, 7⟩
abbrev R.CUL_CONFIG : Nat := 0x042000
abbrev F.CUL_CONFIG_CUL_AUTO_UNWRAP : Fld := ⟨R.CUL_CONFIG, 24, 1⟩
abbrev F.CUL_CONFIG_CUL_STALE_LIMIT : Fld := ⟨R.CUL_CONFIG, 16, 8⟩
abbrev F.CUL_CONFIG_CUL_INPUT_DELAY : Fld := ⟨R.CUL_CONFIG, 8, 7⟩
abbrev F.CUL_CONFIG_CUL_APPLY_DELAY : Fld := ⟨R.CUL_CONFIG, 0, 7⟩
abbrev R.CUL_ASYM : Nat := 0x042004
abbrev F.CUL_ASYM_CUL_ASYM_COMP : Fld := ⟨R.CUL_ASYM, 0, 16⟩
abbrev R.CUL_TIDE : Nat := 0x042008
abbrev F.CUL_TIDE_TIDE : Fld := ⟨R.CUL_TIDE, 0, 32⟩
abbrev R.CUL_ALIGN : Nat := 0x04200C
abbrev F.CUL_ALIGN_SOURCE_DIR : Fld := ⟨R.CUL_ALIGN, 3, 1⟩
abbrev F.CUL_ALIGN_LOOP_VALID : Fld := ⟨R.CUL_ALIGN, 2, 1⟩
abbrev F.CUL_ALIGN_STATE : Fld := ⟨R.CUL_ALIGN, 0, 2⟩
abbrev R.CUL_COMP0 : Nat := 0x042010
abbrev F.CUL_COMP0_COMP0 : Fld := ⟨R.CUL_COMP0, 0, 32⟩
abbrev R.CUL_COMP1 : Nat := 0x042014
abbrev F.CUL_COMP1_COMP1 : Fld := ⟨R.CUL_COMP1, 0, 32⟩
abbrev R.CUL_DELTA : Nat := 0x042018
abbrev F.CUL_DELTA_DELTA : Fld := ⟨R.CUL_DELTA, 0, 32⟩
abbrev R.CUL_COUNTS : Nat := 0x04201C
abbrev F.CUL_COUNTS_LATE : Fld := ⟨R.CUL_COUNTS, 16, 16⟩
abbrev F.CUL_COUNTS_DROP : Fld := ⟨R.CUL_COUNTS, 0, 16⟩
abbrev R.CUL_STALE_SENT : Nat := 0x042020
abbrev F.CUL_STALE_SENT_COUNT : Fld := ⟨R.CUL_STALE_SENT, 0, 32⟩
abbrev R.CUL_TRIG : Nat := 0x042024
abbrev F.CUL_TRIG_LOST : Fld := ⟨R.CUL_TRIG, 0, 16⟩
abbrev R.CUL_POS_r_s (r : Nat) (s : Nat) : Nat := 0x043FFC + 0x200 * r + 0x4 * s
abbrev F.CUL_POS_r_s_PRESENT (r : Nat) (s : Nat) : Fld := ⟨R.CUL_POS_r_s r s, 31, 1⟩
abbrev F.CUL_POS_r_s_ASLEEP (r : Nat) (s : Nat) : Fld := ⟨R.CUL_POS_r_s r s, 30, 1⟩
abbrev F.CUL_POS_r_s_LIMIT (r : Nat) (s : Nat) : Fld := ⟨R.CUL_POS_r_s r s, 29, 1⟩
abbrev F.CUL_POS_r_s_STALE_RUN (r : Nat) (s : Nat) : Fld := ⟨R.CUL_POS_r_s r s, 16, 8⟩
abbrev F.CUL_POS_r_s_STALE_TOTAL (r : Nat) (s : Nat) : Fld := ⟨R.CUL_POS_r_s r s, 0, 16⟩
abbrev R.ADC_START : Nat := 0x050000
abbrev R.ADC_CAL_STATUS : Nat := 0x050004
abbrev F.ADC_CAL_STATUS_CAL_TEMP : Fld := ⟨R.ADC_CAL_STATUS, 16, 16⟩
abbrev F.ADC_CAL_STATUS_DRIFT : Fld := ⟨R.ADC_CAL_STATUS, 15, 1⟩
abbrev F.ADC_CAL_STATUS_FAIL : Fld := ⟨R.ADC_CAL_STATUS, 8, 4⟩
abbrev F.ADC_CAL_STATUS_VALID : Fld := ⟨R.ADC_CAL_STATUS, 4, 4⟩
abbrev F.ADC_CAL_STATUS_RUNNING : Fld := ⟨R.ADC_CAL_STATUS, 0, 4⟩
abbrev R.ADC_CONFIG : Nat := 0x050008
abbrev F.ADC_CONFIG_ADC_AUTO_CAL : Fld := ⟨R.ADC_CONFIG, 0, 1⟩
abbrev R.ADC_VDC : Nat := 0x05000C
abbrev F.ADC_VDC_VDC_FS : Fld := ⟨R.ADC_VDC, 16, 16⟩
abbrev F.ADC_VDC_EN : Fld := ⟨R.ADC_VDC, 6, 1⟩
abbrev F.ADC_VDC_CONV : Fld := ⟨R.ADC_VDC, 4, 2⟩
abbrev F.ADC_VDC_ENTRY : Fld := ⟨R.ADC_VDC, 0, 4⟩
abbrev R.ADC_WIN_STATE : Nat := 0x050010
abbrev F.ADC_WIN_STATE_OUT : Fld := ⟨R.ADC_WIN_STATE, 0, 32⟩
abbrev R.ADC_WIN_EVENT : Nat := 0x050014
abbrev F.ADC_WIN_EVENT_LEFT : Fld := ⟨R.ADC_WIN_EVENT, 0, 32⟩
abbrev R.ADC_WIN_SENSOR : Nat := 0x050018
abbrev F.ADC_WIN_SENSOR_INVALID : Fld := ⟨R.ADC_WIN_SENSOR, 0, 32⟩
abbrev R.ADC_SEQn_CTRL (n : Nat) : Nat := 0x050100 + 0x100 * n
abbrev F.ADC_SEQn_CTRL_EN (n : Nat) : Fld := ⟨R.ADC_SEQn_CTRL n, 31, 1⟩
abbrev F.ADC_SEQn_CTRL_SOURCE (n : Nat) : Fld := ⟨R.ADC_SEQn_CTRL n, 24, 3⟩
abbrev F.ADC_SEQn_CTRL_LAST (n : Nat) : Fld := ⟨R.ADC_SEQn_CTRL n, 0, 4⟩
abbrev R.ADC_SEQn_TIDE (n : Nat) : Nat := 0x050104 + 0x100 * n
abbrev F.ADC_SEQn_TIDE_OFFSET (n : Nat) : Fld := ⟨R.ADC_SEQn_TIDE n, 16, 10⟩
abbrev F.ADC_SEQn_TIDE_DIV (n : Nat) : Fld := ⟨R.ADC_SEQn_TIDE n, 0, 8⟩
abbrev R.ADC_SEQn_GRID (n : Nat) : Nat := 0x050108 + 0x100 * n
abbrev F.ADC_SEQn_GRID_RATE (n : Nat) : Fld := ⟨R.ADC_SEQn_GRID n, 0, 18⟩
abbrev R.ADC_SEQn_EVENT (n : Nat) : Nat := 0x05010C + 0x100 * n
abbrev F.ADC_SEQn_EVENT_HB (n : Nat) : Fld := ⟨R.ADC_SEQn_EVENT n, 12, 2⟩
abbrev F.ADC_SEQn_EVENT_DELAY (n : Nat) : Fld := ⟨R.ADC_SEQn_EVENT n, 0, 12⟩
abbrev R.ADC_SEQn_STATUS (n : Nat) : Nat := 0x050110 + 0x100 * n
abbrev F.ADC_SEQn_STATUS_ROUND (n : Nat) : Fld := ⟨R.ADC_SEQn_STATUS n, 28, 4⟩
abbrev F.ADC_SEQn_STATUS_BUSY (n : Nat) : Fld := ⟨R.ADC_SEQn_STATUS n, 27, 1⟩
abbrev F.ADC_SEQn_STATUS_CAL (n : Nat) : Fld := ⟨R.ADC_SEQn_STATUS n, 26, 1⟩
abbrev F.ADC_SEQn_STATUS_SAT (n : Nat) : Fld := ⟨R.ADC_SEQn_STATUS n, 16, 8⟩
abbrev F.ADC_SEQn_STATUS_OVERRUN (n : Nat) : Fld := ⟨R.ADC_SEQn_STATUS n, 8, 8⟩
abbrev F.ADC_SEQn_STATUS_SKIP (n : Nat) : Fld := ⟨R.ADC_SEQn_STATUS n, 0, 8⟩
abbrev R.ADC_SEQn_STAMP (n : Nat) : Nat := 0x050114 + 0x100 * n
abbrev F.ADC_SEQn_STAMP_STAMP (n : Nat) : Fld := ⟨R.ADC_SEQn_STAMP n, 0, 32⟩
abbrev R.ADC_SEQn_ENTRYk (n : Nat) (k : Nat) : Nat := 0x050140 + 0x100 * n + 0x4 * k
abbrev F.ADC_SEQn_ENTRYk_INPUT (n : Nat) (k : Nat) : Fld := ⟨R.ADC_SEQn_ENTRYk n k, 26, 5⟩
abbrev F.ADC_SEQn_ENTRYk_WEN (n : Nat) (k : Nat) : Fld := ⟨R.ADC_SEQn_ENTRYk n k, 25, 1⟩
abbrev F.ADC_SEQn_ENTRYk_WIN (n : Nat) (k : Nat) : Fld := ⟨R.ADC_SEQn_ENTRYk n k, 20, 5⟩
abbrev F.ADC_SEQn_ENTRYk_GAIN (n : Nat) (k : Nat) : Fld := ⟨R.ADC_SEQn_ENTRYk n k, 16, 3⟩
abbrev F.ADC_SEQn_ENTRYk_TS (n : Nat) (k : Nat) : Fld := ⟨R.ADC_SEQn_ENTRYk n k, 0, 10⟩
abbrev R.ADC_SEQn_SCALEk (n : Nat) (k : Nat) : Nat := 0x050180 + 0x100 * n + 0x4 * k
abbrev F.ADC_SEQn_SCALEk_SCALE (n : Nat) (k : Nat) : Fld := ⟨R.ADC_SEQn_SCALEk n k, 0, 32⟩
abbrev R.ADC_RESn_k (n : Nat) (k : Nat) : Nat := 0x051000 + 0x40 * n + 0x4 * k
abbrev F.ADC_RESn_k_FRESH (n : Nat) (k : Nat) : Fld := ⟨R.ADC_RESn_k n k, 31, 1⟩
abbrev F.ADC_RESn_k_ROUND (n : Nat) (k : Nat) : Fld := ⟨R.ADC_RESn_k n k, 20, 4⟩
abbrev F.ADC_RESn_k_SAT (n : Nat) (k : Nat) : Fld := ⟨R.ADC_RESn_k n k, 17, 1⟩
abbrev F.ADC_RESn_k_WOUT (n : Nat) (k : Nat) : Fld := ⟨R.ADC_RESn_k n k, 16, 1⟩
abbrev F.ADC_RESn_k_VALUE (n : Nat) (k : Nat) : Fld := ⟨R.ADC_RESn_k n k, 0, 16⟩
abbrev R.ADC_WINw_LIMITS (w : Nat) : Nat := 0x052000 + 0x10 * w
abbrev F.ADC_WINw_LIMITS_HIGH (w : Nat) : Fld := ⟨R.ADC_WINw_LIMITS w, 16, 16⟩
abbrev F.ADC_WINw_LIMITS_LOW (w : Nat) : Fld := ⟨R.ADC_WINw_LIMITS w, 0, 16⟩
abbrev R.ADC_WINw_VALID (w : Nat) : Nat := 0x052004 + 0x10 * w
abbrev F.ADC_WINw_VALID_VHIGH (w : Nat) : Fld := ⟨R.ADC_WINw_VALID w, 16, 16⟩
abbrev F.ADC_WINw_VALID_VLOW (w : Nat) : Fld := ⟨R.ADC_WINw_VALID w, 0, 16⟩
abbrev R.ADC_WINw_CONFIG (w : Nat) : Nat := 0x052008 + 0x10 * w
abbrev F.ADC_WINw_CONFIG_EN (w : Nat) : Fld := ⟨R.ADC_WINw_CONFIG w, 31, 1⟩
abbrev F.ADC_WINw_CONFIG_SENSOR (w : Nat) : Fld := ⟨R.ADC_WINw_CONFIG w, 30, 1⟩
abbrev F.ADC_WINw_CONFIG_FCLASS (w : Nat) : Fld := ⟨R.ADC_WINw_CONFIG w, 28, 2⟩
abbrev F.ADC_WINw_CONFIG_DEBOUNCE (w : Nat) : Fld := ⟨R.ADC_WINw_CONFIG w, 24, 4⟩
abbrev F.ADC_WINw_CONFIG_HYST (w : Nat) : Fld := ⟨R.ADC_WINw_CONFIG w, 0, 16⟩
abbrev R.ADC_WINw_STATUS (w : Nat) : Nat := 0x05200C + 0x10 * w
abbrev F.ADC_WINw_STATUS_LAST (w : Nat) : Fld := ⟨R.ADC_WINw_STATUS w, 16, 16⟩
abbrev F.ADC_WINw_STATUS_RUN (w : Nat) : Fld := ⟨R.ADC_WINw_STATUS w, 8, 4⟩
abbrev F.ADC_WINw_STATUS_INVALID (w : Nat) : Fld := ⟨R.ADC_WINw_STATUS w, 2, 1⟩
abbrev F.ADC_WINw_STATUS_STATE (w : Nat) : Fld := ⟨R.ADC_WINw_STATUS w, 0, 2⟩
abbrev R.ADC_TRIMn_OG (n : Nat) : Nat := 0x053000 + 0x40 * n
abbrev R.ADC_TRIMn_CWj (n : Nat) (j : Nat) : Nat := 0x053004 + 0x40 * n + 0x4 * j
abbrev R.ADC_NTCm_SRC (m : Nat) : Nat := 0x053400 + 0x40 * m
abbrev F.ADC_NTCm_SRC_EN (m : Nat) : Fld := ⟨R.ADC_NTCm_SRC m, 31, 1⟩
abbrev F.ADC_NTCm_SRC_CONV (m : Nat) : Fld := ⟨R.ADC_NTCm_SRC m, 4, 2⟩
abbrev F.ADC_NTCm_SRC_ENTRY (m : Nat) : Fld := ⟨R.ADC_NTCm_SRC m, 0, 4⟩
abbrev R.ADC_NTCm_Tj (m : Nat) (j : Nat) : Nat := 0x053404 + 0x40 * m + 0x4 * j
abbrev F.ADC_NTCm_Tj_T_ODD (m : Nat) (j : Nat) : Fld := ⟨R.ADC_NTCm_Tj m j, 16, 16⟩
abbrev F.ADC_NTCm_Tj_T_EVEN (m : Nat) (j : Nat) : Fld := ⟨R.ADC_NTCm_Tj m j, 0, 16⟩
abbrev R.ADC_NTCm_VALUE (m : Nat) : Nat := 0x053430 + 0x40 * m
abbrev F.ADC_NTCm_VALUE_VALID (m : Nat) : Fld := ⟨R.ADC_NTCm_VALUE m, 31, 1⟩
abbrev F.ADC_NTCm_VALUE_TEMP (m : Nat) : Fld := ⟨R.ADC_NTCm_VALUE m, 0, 16⟩
abbrev R.OBS_BASE : Nat := 0x060000
abbrev F.OBS_BASE_FNOM : Fld := ⟨R.OBS_BASE, 16, 1⟩
abbrev F.OBS_BASE_VBASE : Fld := ⟨R.OBS_BASE, 0, 16⟩
abbrev R.OBS_ISRC : Nat := 0x060004
abbrev F.OBS_ISRC_IC_DERIVED : Fld := ⟨R.OBS_ISRC, 24, 1⟩
abbrev F.OBS_ISRC_IC : Fld := ⟨R.OBS_ISRC, 16, 7⟩
abbrev F.OBS_ISRC_IB : Fld := ⟨R.OBS_ISRC, 8, 7⟩
abbrev F.OBS_ISRC_IA : Fld := ⟨R.OBS_ISRC, 0, 7⟩
abbrev R.OBS_XL : Nat := 0x060008
abbrev F.OBS_XL_XL : Fld := ⟨R.OBS_XL, 0, 32⟩
abbrev R.OBS_HPF : Nat := 0x06000C
abbrev F.OBS_HPF_FC : Fld := ⟨R.OBS_HPF, 0, 16⟩
abbrev R.OBS_WIN : Nat := 0x060010
abbrev F.OBS_WIN_FLUX_HIGH : Fld := ⟨R.OBS_WIN, 16, 16⟩
abbrev F.OBS_WIN_FLUX_LOW : Fld := ⟨R.OBS_WIN, 0, 16⟩
abbrev R.OBS_CHECK : Nat := 0x060014
abbrev F.OBS_CHECK_RES_LIMIT : Fld := ⟨R.OBS_CHECK, 16, 16⟩
abbrev F.OBS_CHECK_RATE_DEV : Fld := ⟨R.OBS_CHECK, 0, 16⟩
abbrev R.OBS_TIDES : Nat := 0x060018
abbrev F.OBS_TIDES_OBS_REACQ_TIDES : Fld := ⟨R.OBS_TIDES, 16, 16⟩
abbrev F.OBS_TIDES_OBS_LOSS_TIDES : Fld := ⟨R.OBS_TIDES, 0, 8⟩
abbrev R.OBS_HEALTH : Nat := 0x06001C
abbrev F.OBS_HEALTH_OK_RUN : Fld := ⟨R.OBS_HEALTH, 16, 16⟩
abbrev F.OBS_HEALTH_FAIL_RUN : Fld := ⟨R.OBS_HEALTH, 8, 8⟩
abbrev F.OBS_HEALTH_RES_SUSP : Fld := ⟨R.OBS_HEALTH, 3, 1⟩
abbrev F.OBS_HEALTH_RES_FAIL : Fld := ⟨R.OBS_HEALTH, 2, 1⟩
abbrev F.OBS_HEALTH_RATE_FAIL : Fld := ⟨R.OBS_HEALTH, 1, 1⟩
abbrev F.OBS_HEALTH_FLUX_FAIL : Fld := ⟨R.OBS_HEALTH, 0, 1⟩
abbrev R.OBS_TRK_SRC : Nat := 0x060080
abbrev F.OBS_TRK_SRC_EN : Fld := ⟨R.OBS_TRK_SRC, 31, 1⟩
abbrev F.OBS_TRK_SRC_SOURCE : Fld := ⟨R.OBS_TRK_SRC, 30, 1⟩
abbrev F.OBS_TRK_SRC_SV_SLOT : Fld := ⟨R.OBS_TRK_SRC, 24, 4⟩
abbrev F.OBS_TRK_SRC_VC : Fld := ⟨R.OBS_TRK_SRC, 16, 7⟩
abbrev F.OBS_TRK_SRC_VB : Fld := ⟨R.OBS_TRK_SRC, 8, 7⟩
abbrev F.OBS_TRK_SRC_VA : Fld := ⟨R.OBS_TRK_SRC, 0, 7⟩
abbrev R.OBS_TRK_CFG : Nat := 0x060084
abbrev F.OBS_TRK_CFG_BW : Fld := ⟨R.OBS_TRK_CFG, 0, 16⟩
abbrev R.OBS_TRK_STATUS : Nat := 0x060088
abbrev F.OBS_TRK_STATUS_LOCK_FAIL : Fld := ⟨R.OBS_TRK_STATUS, 4, 1⟩
abbrev F.OBS_TRK_STATUS_FREQ_FAIL : Fld := ⟨R.OBS_TRK_STATUS, 3, 1⟩
abbrev F.OBS_TRK_STATUS_MAG_FAIL : Fld := ⟨R.OBS_TRK_STATUS, 2, 1⟩
abbrev F.OBS_TRK_STATUS_SRC_LOST : Fld := ⟨R.OBS_TRK_STATUS, 1, 1⟩
abbrev F.OBS_TRK_STATUS_VALID : Fld := ⟨R.OBS_TRK_STATUS, 0, 1⟩
abbrev R.DPC_CTRL : Nat := 0x060100
abbrev F.DPC_CTRL_RUN : Fld := ⟨R.DPC_CTRL, 0, 1⟩
abbrev R.DPC_STATE : Nat := 0x060104
abbrev F.DPC_STATE_Q_SRC_LOST : Fld := ⟨R.DPC_STATE, 8, 1⟩
abbrev F.DPC_STATE_TRK_VALID : Fld := ⟨R.DPC_STATE, 7, 1⟩
abbrev F.DPC_STATE_FB_NEG : Fld := ⟨R.DPC_STATE, 6, 1⟩
abbrev F.DPC_STATE_FB_HOLD : Fld := ⟨R.DPC_STATE, 5, 1⟩
abbrev F.DPC_STATE_START_REFUSED : Fld := ⟨R.DPC_STATE, 4, 1⟩
abbrev F.DPC_STATE_STATE : Fld := ⟨R.DPC_STATE, 0, 2⟩
abbrev R.DPC_CONFIG : Nat := 0x060108
abbrev F.DPC_CONFIG_AUTO_RESTART : Fld := ⟨R.DPC_CONFIG, 31, 1⟩
abbrev F.DPC_CONFIG_BAL_EN : Fld := ⟨R.DPC_CONFIG, 30, 1⟩
abbrev F.DPC_CONFIG_QSRC : Fld := ⟨R.DPC_CONFIG, 24, 1⟩
abbrev F.DPC_CONFIG_Q_GOOSE : Fld := ⟨R.DPC_CONFIG, 16, 6⟩
abbrev F.DPC_CONFIG_P_LOOP : Fld := ⟨R.DPC_CONFIG, 8, 5⟩
abbrev F.DPC_CONFIG_Q_PROF : Fld := ⟨R.DPC_CONFIG, 4, 3⟩
abbrev F.DPC_CONFIG_P_PROF : Fld := ⟨R.DPC_CONFIG, 0, 3⟩
abbrev R.DPC_HYST : Nat := 0x06010C
abbrev F.DPC_HYST_HQ : Fld := ⟨R.DPC_HYST, 16, 16⟩
abbrev F.DPC_HYST_HP : Fld := ⟨R.DPC_HYST, 0, 16⟩
abbrev R.DPC_FB_CFG : Nat := 0x060180
abbrev F.DPC_FB_CFG_M_SC : Fld := ⟨R.DPC_FB_CFG, 16, 16⟩
abbrev F.DPC_FB_CFG_FC : Fld := ⟨R.DPC_FB_CFG, 0, 16⟩
abbrev R.DPC_FB_STATUS : Nat := 0x060188
abbrev F.DPC_FB_STATUS_M_MAX : Fld := ⟨R.DPC_FB_STATUS, 16, 16⟩
abbrev F.DPC_FB_STATUS_REGION_C : Fld := ⟨R.DPC_FB_STATUS, 4, 2⟩
abbrev F.DPC_FB_STATUS_REGION_B : Fld := ⟨R.DPC_FB_STATUS, 2, 2⟩
abbrev F.DPC_FB_STATUS_REGION_A : Fld := ⟨R.DPC_FB_STATUS, 0, 2⟩
abbrev R.DPC_COUNTS : Nat := 0x060124
abbrev F.DPC_COUNTS_BLOCKED : Fld := ⟨R.DPC_COUNTS, 16, 16⟩
abbrev F.DPC_COUNTS_LOSSES : Fld := ⟨R.DPC_COUNTS, 0, 16⟩
abbrev R.SEL_CONFIG : Nat := 0x060200
abbrev F.SEL_CONFIG_SEL_I_DEADBAND : Fld := ⟨R.SEL_CONFIG, 16, 16⟩
abbrev F.SEL_CONFIG_SEL_MIN_DWELL : Fld := ⟨R.SEL_CONFIG, 8, 8⟩
abbrev F.SEL_CONFIG_SEL_ZERO_ALT : Fld := ⟨R.SEL_CONFIG, 0, 1⟩
abbrev R.SEL_TIE : Nat := 0x060204
abbrev F.SEL_TIE_SEL_TIE_BAND : Fld := ⟨R.SEL_TIE, 0, 16⟩
abbrev R.SEL_STACKx (x : Nat) : Nat := 0x060210 + 0x4 * x
abbrev F.SEL_STACKx_AT_LIMIT (x : Nat) : Fld := ⟨R.SEL_STACKx x, 31, 1⟩
abbrev F.SEL_STACKx_ADMITTED (x : Nat) : Fld := ⟨R.SEL_STACKx x, 16, 8⟩
abbrev F.SEL_STACKx_AVAIL (x : Nat) : Fld := ⟨R.SEL_STACKx x, 8, 8⟩
abbrev F.SEL_STACKx_LEVEL (x : Nat) : Fld := ⟨R.SEL_STACKx x, 0, 8⟩
abbrev R.SEL_ADMITx_LO (x : Nat) : Nat := 0x060240 + 0x8 * x
abbrev F.SEL_ADMITx_LO_ADMIT (x : Nat) : Fld := ⟨R.SEL_ADMITx_LO x, 0, 32⟩
abbrev R.SEL_ADMITx_HI (x : Nat) : Nat := 0x060244 + 0x8 * x
abbrev F.SEL_ADMITx_HI_ADMIT (x : Nat) : Fld := ⟨R.SEL_ADMITx_HI x, 0, 16⟩
abbrev R.SEL_POS_r_s (r : Nat) (s : Nat) : Nat := 0x060FF8 + 0x200 * r + 0x8 * s
abbrev F.SEL_POS_r_s_STATE (r : Nat) (s : Nat) : Fld := ⟨R.SEL_POS_r_s r s, 8, 2⟩
abbrev R.MOD_CTRL : Nat := 0x070000
abbrev F.MOD_CTRL_EN : Fld := ⟨R.MOD_CTRL, 0, 1⟩
abbrev R.MOD_STATUS : Nat := 0x070004
abbrev F.MOD_STATUS_FROZEN : Fld := ⟨R.MOD_STATUS, 9, 1⟩
abbrev F.MOD_STATUS_PENDING : Fld := ⟨R.MOD_STATUS, 8, 1⟩
abbrev F.MOD_STATUS_FUNCTION : Fld := ⟨R.MOD_STATUS, 4, 2⟩
abbrev F.MOD_STATUS_CMD_LOST : Fld := ⟨R.MOD_STATUS, 3, 1⟩
abbrev F.MOD_STATUS_DAB_LIMIT : Fld := ⟨R.MOD_STATUS, 2, 1⟩
abbrev F.MOD_STATUS_TRIPPED : Fld := ⟨R.MOD_STATUS, 1, 1⟩
abbrev F.MOD_STATUS_ENABLED : Fld := ⟨R.MOD_STATUS, 0, 1⟩
abbrev R.MOD_CONFIG : Nat := 0x070008
abbrev F.MOD_CONFIG_MOD_EN_AT_START : Fld := ⟨R.MOD_CONFIG, 1, 1⟩
abbrev F.MOD_CONFIG_MOD_PORT_MODE : Fld := ⟨R.MOD_CONFIG, 0, 1⟩
abbrev R.MOD_HBn_TIMING (n : Nat) : Nat := 0x070010 + 0x4 * n
abbrev F.MOD_HBn_TIMING_DEAD (n : Nat) : Fld := ⟨R.MOD_HBn_TIMING n, 16, 14⟩
abbrev F.MOD_HBn_TIMING_MINP (n : Nat) : Fld := ⟨R.MOD_HBn_TIMING n, 0, 14⟩
abbrev R.MOD_CARRIER : Nat := 0x070020
abbrev F.MOD_CARRIER_MOD_CARRIER_FREQ : Fld := ⟨R.MOD_CARRIER, 0, 17⟩
abbrev R.MOD_DAB_CFG : Nat := 0x070024
abbrev F.MOD_DAB_CFG_MOD_DAB_PHMAX : Fld := ⟨R.MOD_DAB_CFG, 16, 16⟩
abbrev F.MOD_DAB_CFG_MOD_DAB_STEP : Fld := ⟨R.MOD_DAB_CFG, 0, 16⟩
abbrev R.MOD_DAB_SRC : Nat := 0x070028
abbrev F.MOD_DAB_SRC_MOD_DAB_LOOP : Fld := ⟨R.MOD_DAB_SRC, 0, 5⟩
abbrev R.MOD_SEC_PHASE : Nat := 0x07002C
abbrev F.MOD_SEC_PHASE_BRIDGE1 : Fld := ⟨R.MOD_SEC_PHASE, 16, 16⟩
abbrev F.MOD_SEC_PHASE_BRIDGE0 : Fld := ⟨R.MOD_SEC_PHASE, 0, 16⟩
abbrev R.MOD_AFE_CFG : Nat := 0x070030
abbrev F.MOD_AFE_CFG_MOD_CMD_LOSS : Fld := ⟨R.MOD_AFE_CFG, 16, 8⟩
abbrev F.MOD_AFE_CFG_MOD_AFE_DWELL : Fld := ⟨R.MOD_AFE_CFG, 0, 8⟩
abbrev R.MOD_INV_CFG : Nat := 0x070034
abbrev F.MOD_INV_CFG_MOD_INV_SHIFT : Fld := ⟨R.MOD_INV_CFG, 16, 16⟩
abbrev F.MOD_INV_CFG_MOD_INV_FREQ : Fld := ⟨R.MOD_INV_CFG, 0, 16⟩
abbrev R.MOD_INV_SRC : Nat := 0x070038
abbrev F.MOD_INV_SRC_LOOP_N : Fld := ⟨R.MOD_INV_SRC, 24, 5⟩
abbrev F.MOD_INV_SRC_LOOP_C : Fld := ⟨R.MOD_INV_SRC, 16, 5⟩
abbrev F.MOD_INV_SRC_LOOP_B : Fld := ⟨R.MOD_INV_SRC, 8, 5⟩
abbrev F.MOD_INV_SRC_LOOP_A : Fld := ⟨R.MOD_INV_SRC, 0, 5⟩
abbrev R.MOD_GD8_TIMING : Nat := 0x07003C
abbrev F.MOD_GD8_TIMING_MINP : Fld := ⟨R.MOD_GD8_TIMING, 0, 14⟩
abbrev R.MOD_TRIPt_CFG (t : Nat) : Nat := 0x070040 + 0x4 * t
abbrev F.MOD_TRIPt_CFG_EN (t : Nat) : Fld := ⟨R.MOD_TRIPt_CFG t, 31, 1⟩
abbrev F.MOD_TRIPt_CFG_POL (t : Nat) : Fld := ⟨R.MOD_TRIPt_CFG t, 30, 1⟩
abbrev F.MOD_TRIPt_CFG_FCLASS (t : Nat) : Fld := ⟨R.MOD_TRIPt_CFG t, 28, 2⟩
abbrev F.MOD_TRIPt_CFG_SAFE_GD8 (t : Nat) : Fld := ⟨R.MOD_TRIPt_CFG t, 24, 2⟩
abbrev F.MOD_TRIPt_CFG_SAFE_HB (t : Nat) : Fld := ⟨R.MOD_TRIPt_CFG t, 16, 8⟩
abbrev F.MOD_TRIPt_CFG_FILTER (t : Nat) : Fld := ⟨R.MOD_TRIPt_CFG t, 0, 8⟩
abbrev R.MOD_TRIP_STATUS : Nat := 0x070050
abbrev F.MOD_TRIP_STATUS_REFUSED : Fld := ⟨R.MOD_TRIP_STATUS, 8, 4⟩
abbrev F.MOD_TRIP_STATUS_LATCHED : Fld := ⟨R.MOD_TRIP_STATUS, 4, 4⟩
abbrev F.MOD_TRIP_STATUS_ACTIVE : Fld := ⟨R.MOD_TRIP_STATUS, 0, 4⟩
abbrev R.MOD_TRIP_CLEAR : Nat := 0x070054
abbrev R.MOD_AFE_STATE : Nat := 0x070060
abbrev F.MOD_AFE_STATE_DWELL_LEFT : Fld := ⟨R.MOD_AFE_STATE, 24, 8⟩
abbrev F.MOD_AFE_STATE_PENDING_STATE : Fld := ⟨R.MOD_AFE_STATE, 16, 2⟩
abbrev F.MOD_AFE_STATE_PENDING : Fld := ⟨R.MOD_AFE_STATE, 9, 1⟩
abbrev F.MOD_AFE_STATE_BLOCKED : Fld := ⟨R.MOD_AFE_STATE, 8, 1⟩
abbrev F.MOD_AFE_STATE_STATE : Fld := ⟨R.MOD_AFE_STATE, 0, 2⟩
abbrev R.MOD_DAB_PHASE : Nat := 0x070064
abbrev F.MOD_DAB_PHASE_PHASE : Fld := ⟨R.MOD_DAB_PHASE, 0, 32⟩
abbrev R.MOD_DROP : Nat := 0x070068
abbrev F.MOD_DROP_COUNT : Fld := ⟨R.MOD_DROP, 0, 16⟩
abbrev R.MOD_CELL_COUNTS : Nat := 0x07006C
abbrev F.MOD_CELL_COUNTS_DEFERRED : Fld := ⟨R.MOD_CELL_COUNTS, 16, 16⟩
abbrev F.MOD_CELL_COUNTS_MISSING : Fld := ⟨R.MOD_CELL_COUNTS, 0, 16⟩
abbrev R.MOD_INV_REFl (l : Nat) : Nat := 0x070080 + 0x4 * l
abbrev F.MOD_INV_REFl_REF (l : Nat) : Fld := ⟨R.MOD_INV_REFl l, 0, 32⟩
abbrev R.LPE_PASS : Nat := 0x080000
abbrev F.LPE_PASS_TIDE : Fld := ⟨R.LPE_PASS, 0, 32⟩
abbrev R.LPE_FE_CLEAR : Nat := 0x080004
abbrev R.LPE_AC : Nat := 0x080008
abbrev F.LPE_AC_SHIFT : Fld := ⟨R.LPE_AC, 16, 16⟩
abbrev F.LPE_AC_GEN : Fld := ⟨R.LPE_AC, 13, 3⟩
abbrev F.LPE_AC_FREQ : Fld := ⟨R.LPE_AC, 0, 13⟩
abbrev R.LPE_SETk (k : Nat) : Nat := 0x080040 + 0x4 * k
abbrev F.LPE_SETk_VALUE (k : Nat) : Fld := ⟨R.LPE_SETk k, 0, 32⟩
abbrev R.LPE_SETk_INIT (k : Nat) : Nat := 0x080080 + 0x4 * k
abbrev R.LPE_LOOPn_CFG (n : Nat) : Nat := 0x081000 + 0x40 * n
abbrev F.LPE_LOOPn_CFG_EN (n : Nat) : Fld := ⟨R.LPE_LOOPn_CFG n, 31, 1⟩
abbrev F.LPE_LOOPn_CFG_OV2_CLAMP (n : Nat) : Fld := ⟨R.LPE_LOOPn_CFG n, 29, 2⟩
abbrev F.LPE_LOOPn_CFG_FE_ACTION (n : Nat) : Fld := ⟨R.LPE_LOOPn_CFG n, 28, 1⟩
abbrev F.LPE_LOOPn_CFG_FE_AUTO (n : Nat) : Fld := ⟨R.LPE_LOOPn_CFG n, 27, 1⟩
abbrev F.LPE_LOOPn_CFG_GROUP_EN (n : Nat) : Fld := ⟨R.LPE_LOOPn_CFG n, 26, 1⟩
abbrev F.LPE_LOOPn_CFG_GROUP (n : Nat) : Fld := ⟨R.LPE_LOOPn_CFG n, 23, 3⟩
abbrev F.LPE_LOOPn_CFG_DF (n : Nat) : Fld := ⟨R.LPE_LOOPn_CFG n, 19, 4⟩
abbrev F.LPE_LOOPn_CFG_PHASE (n : Nat) : Fld := ⟨R.LPE_LOOPn_CFG n, 8, 8⟩
abbrev F.LPE_LOOPn_CFG_DIV (n : Nat) : Fld := ⟨R.LPE_LOOPn_CFG n, 0, 8⟩
abbrev R.LPE_LOOPn_SRC (n : Nat) : Nat := 0x081004 + 0x40 * n
abbrev F.LPE_LOOPn_SRC_REF (n : Nat) : Fld := ⟨R.LPE_LOOPn_SRC n, 18, 9⟩
abbrev F.LPE_LOOPn_SRC_FB (n : Nat) : Fld := ⟨R.LPE_LOOPn_SRC n, 9, 9⟩
abbrev F.LPE_LOOPn_SRC_FF (n : Nat) : Fld := ⟨R.LPE_LOOPn_SRC n, 0, 9⟩
abbrev R.LPE_LOOPn_FE (n : Nat) : Nat := 0x081030 + 0x40 * n
abbrev F.LPE_LOOPn_FE_FE_TIME (n : Nat) : Fld := ⟨R.LPE_LOOPn_FE n, 0, 16⟩
abbrev R.LPE_LOOPn_FLAGS (n : Nat) : Nat := 0x081034 + 0x40 * n
abbrev F.LPE_LOOPn_FLAGS_SWAP_PENDING (n : Nat) : Fld := ⟨R.LPE_LOOPn_FLAGS n, 31, 1⟩
abbrev F.LPE_LOOPn_FLAGS_WINNER (n : Nat) : Fld := ⟨R.LPE_LOOPn_FLAGS n, 30, 1⟩
abbrev F.LPE_LOOPn_FLAGS_FE_LATCHED (n : Nat) : Fld := ⟨R.LPE_LOOPn_FLAGS n, 29, 1⟩
abbrev F.LPE_LOOPn_FLAGS_A_LIMIT (n : Nat) : Fld := ⟨R.LPE_LOOPn_FLAGS n, 28, 1⟩
abbrev F.LPE_LOOPn_FLAGS_OUT_CLAMPED (n : Nat) : Fld := ⟨R.LPE_LOOPn_FLAGS n, 27, 1⟩
abbrev R.LPE_GRPg (g : Nat) : Nat := 0x082000 + 0x4 * g
abbrev F.LPE_GRPg_WINNER (g : Nat) : Fld := ⟨R.LPE_GRPg g, 16, 8⟩
abbrev F.LPE_GRPg_TRACK_EN (g : Nat) : Fld := ⟨R.LPE_GRPg g, 8, 1⟩
abbrev F.LPE_GRPg_TRACK_SHIFT (g : Nat) : Fld := ⟨R.LPE_GRPg g, 0, 4⟩
abbrev R.LPE_GENg_CFG (g : Nat) : Nat := 0x083000 + 0x20 * g
abbrev F.LPE_GENg_CFG_SRC (g : Nat) : Fld := ⟨R.LPE_GENg_CFG g, 0, 9⟩
abbrev R.LPE_GENg_STATUS (g : Nat) : Nat := 0x08301C + 0x20 * g
abbrev F.LPE_GENg_STATUS_BOUND (g : Nat) : Fld := ⟨R.LPE_GENg_STATUS g, 4, 1⟩
abbrev F.LPE_GENg_STATUS_FROZEN (g : Nat) : Fld := ⟨R.LPE_GENg_STATUS g, 3, 1⟩
abbrev F.LPE_GENg_STATUS_HOLD (g : Nat) : Fld := ⟨R.LPE_GENg_STATUS g, 2, 1⟩
abbrev F.LPE_GENg_STATUS_LIMITED (g : Nat) : Fld := ⟨R.LPE_GENg_STATUS g, 1, 1⟩
abbrev F.LPE_GENg_STATUS_MOVING (g : Nat) : Fld := ⟨R.LPE_GENg_STATUS g, 0, 1⟩
abbrev R.GDR_STATUS : Nat := 0x090000
abbrev F.GDR_STATUS_CHOP_FAULT : Fld := ⟨R.GDR_STATUS, 21, 1⟩
abbrev F.GDR_STATUS_CHOP_ON : Fld := ⟨R.GDR_STATUS, 20, 1⟩
abbrev F.GDR_STATUS_OV3_BLOCK : Fld := ⟨R.GDR_STATUS, 19, 1⟩
abbrev F.GDR_STATUS_OV2_FROM_OV1 : Fld := ⟨R.GDR_STATUS, 18, 1⟩
abbrev F.GDR_STATUS_OV2_ACTIVE : Fld := ⟨R.GDR_STATUS, 17, 1⟩
abbrev F.GDR_STATUS_OV1_ABOVE : Fld := ⟨R.GDR_STATUS, 16, 1⟩
abbrev F.GDR_STATUS_BS_WARN : Fld := ⟨R.GDR_STATUS, 8, 4⟩
abbrev F.GDR_STATUS_HB_HOLD : Fld := ⟨R.GDR_STATUS, 0, 4⟩
abbrev R.GDR_CH_STATUS : Nat := 0x090004
abbrev F.GDR_CH_STATUS_UVLO : Fld := ⟨R.GDR_CH_STATUS, 16, 9⟩
abbrev F.GDR_CH_STATUS_ON : Fld := ⟨R.GDR_CH_STATUS, 0, 9⟩
abbrev R.GDR_HBn_FAULT (n : Nat) : Nat := 0x090010 + 0x4 * n
abbrev F.GDR_HBn_FAULT_COUNT (n : Nat) : Fld := ⟨R.GDR_HBn_FAULT n, 16, 16⟩
abbrev R.GDR_CHAN_CFG : Nat := 0x090024
abbrev F.GDR_CHAN_CFG_DESAT_EN : Fld := ⟨R.GDR_CHAN_CFG, 16, 9⟩
abbrev F.GDR_CHAN_CFG_REFRESH_EN : Fld := ⟨R.GDR_CHAN_CFG, 8, 4⟩
abbrev F.GDR_CHAN_CFG_BS_EN : Fld := ⟨R.GDR_CHAN_CFG, 0, 4⟩
abbrev R.GDR_BS : Nat := 0x090028
abbrev F.GDR_BS_GDR_BSMAX : Fld := ⟨R.GDR_BS, 16, 16⟩
abbrev F.GDR_BS_GDR_BSREFRESH : Fld := ⟨R.GDR_BS, 0, 16⟩
abbrev R.GDR_OVk_CFG (k : Nat) : Nat := 0x09002C + 0x4 * k
abbrev F.GDR_OVk_CFG_EN (k : Nat) : Fld := ⟨R.GDR_OVk_CFG k, 31, 1⟩
abbrev F.GDR_OVk_CFG_HYST (k : Nat) : Fld := ⟨R.GDR_OVk_CFG k, 12, 11⟩
abbrev F.GDR_OVk_CFG_THRESH (k : Nat) : Fld := ⟨R.GDR_OVk_CFG k, 0, 12⟩
abbrev R.GDR_CHOP_CFG : Nat := 0x090040
abbrev F.GDR_CHOP_CFG_EN : Fld := ⟨R.GDR_CHOP_CFG, 31, 1⟩
abbrev F.GDR_CHOP_CFG_CHOP_HB : Fld := ⟨R.GDR_CHOP_CFG, 16, 4⟩
abbrev F.GDR_CHOP_CFG_MIN_ON : Fld := ⟨R.GDR_CHOP_CFG, 0, 8⟩
abbrev R.GDR_BUS : Nat := 0x090050
abbrev F.GDR_BUS_V_ON : Fld := ⟨R.GDR_BUS, 16, 12⟩
abbrev F.GDR_BUS_VALUE : Fld := ⟨R.GDR_BUS, 0, 12⟩
abbrev R.GDR_CHOP_COUNT : Nat := 0x090054
abbrev F.GDR_CHOP_COUNT_COUNT : Fld := ⟨R.GDR_CHOP_COUNT, 0, 32⟩
abbrev R.GDR_BS_NOTCH : Nat := 0x090058
abbrev F.GDR_BS_NOTCH_COUNT : Fld := ⟨R.GDR_BS_NOTCH, 0, 32⟩
abbrev R.GDR_SLUICE : Nat := 0x090060
abbrev F.GDR_SLUICE_DEFERRED : Fld := ⟨R.GDR_SLUICE, 16, 16⟩
abbrev F.GDR_SLUICE_MISMATCH : Fld := ⟨R.GDR_SLUICE, 4, 1⟩
abbrev F.GDR_SLUICE_B_LAND : Fld := ⟨R.GDR_SLUICE, 3, 1⟩
abbrev F.GDR_SLUICE_A_LAND : Fld := ⟨R.GDR_SLUICE, 2, 1⟩
abbrev F.GDR_SLUICE_LOCAL : Fld := ⟨R.GDR_SLUICE, 1, 1⟩
abbrev F.GDR_SLUICE_CMD : Fld := ⟨R.GDR_SLUICE, 0, 1⟩
abbrev R.FLT_STICKYk (k : Nat) : Nat := 0x030000 + 0x4 * k
abbrev R.FLT_ACTIVEk (k : Nat) : Nat := 0x030010 + 0x4 * k
abbrev R.FLT_WIREk (k : Nat) : Nat := 0x030020 + 0x4 * k
abbrev R.FLT_LEVELj (j : Nat) : Nat := 0x030040 + 0x4 * j
abbrev R.FLT_SUMMARY : Nat := 0x030080
abbrev R.FLT_CONFIG : Nat := 0x030084
abbrev F.FLT_CONFIG_WIRING : Fld := ⟨R.FLT_CONFIG, 8, 1⟩
abbrev F.FLT_CONFIG_FAULTN_MIN : Fld := ⟨R.FLT_CONFIG, 4, 2⟩
abbrev F.FLT_CONFIG_ALIVE_MIN : Fld := ⟨R.FLT_CONFIG, 0, 2⟩
abbrev R.FLT_COUNTc (c : Nat) : Nat := 0x030090 + 0x4 * c
abbrev R.INT_PENDk (k : Nat) : Nat := 0x038000 + 0x4 * k
abbrev R.INT_ENk (k : Nat) : Nat := 0x038020 + 0x4 * k
abbrev R.INT_TGTj (j : Nat) : Nat := 0x038040 + 0x4 * j
abbrev R.INT_WINNERt (t : Nat) : Nat := 0x038100 + 0x4 * t
abbrev R.INT_FBt (t : Nat) : Nat := 0x038110 + 0x4 * t
abbrev R.INT_STATUS : Nat := 0x038120
abbrev R.STR_DATA_LO : Nat := 0x03C000
abbrev R.STR_DATA_HI : Nat := 0x03C004
abbrev R.STR_COUNT : Nat := 0x03C008
abbrev R.STR_DROP : Nat := 0x03C00C
abbrev R.STR_MARK : Nat := 0x03C010
abbrev R.STR_LOGENk (k : Nat) : Nat := 0x03C020 + 0x4 * k
abbrev F.STR_LOGENk_LOGEN (k : Nat) : Fld := ⟨R.STR_LOGENk k, 0, 32⟩
abbrev R.WRD_CFG : Nat := 0x0A0000
abbrev F.WRD_CFG_AUTO_RELEASE : Fld := ⟨R.WRD_CFG, 31, 1⟩
abbrev F.WRD_CFG_GUARD_EN : Fld := ⟨R.WRD_CFG, 30, 1⟩
abbrev F.WRD_CFG_ESTOP_EN : Fld := ⟨R.WRD_CFG, 29, 1⟩
abbrev F.WRD_CFG_ANTIVALENT : Fld := ⟨R.WRD_CFG, 28, 1⟩
abbrev R.WRD_CTRL : Nat := 0x0A0004
abbrev F.WRD_CTRL_BLOCK : Fld := ⟨R.WRD_CTRL, 1, 1⟩
abbrev F.WRD_CTRL_RELEASE : Fld := ⟨R.WRD_CTRL, 0, 1⟩
abbrev R.WRD_A_STATUS : Nat := 0x0A0010
abbrev F.WRD_A_STATUS_LOCK_CONFIG : Fld := ⟨R.WRD_A_STATUS, 20, 1⟩
abbrev F.WRD_A_STATUS_LOCK_SILENT : Fld := ⟨R.WRD_A_STATUS, 19, 1⟩
abbrev F.WRD_A_STATUS_LOCK_READBACK : Fld := ⟨R.WRD_A_STATUS, 18, 1⟩
abbrev F.WRD_A_STATUS_LOCK_CONTACT : Fld := ⟨R.WRD_A_STATUS, 17, 1⟩
abbrev F.WRD_A_STATUS_LOCK_CROSS : Fld := ⟨R.WRD_A_STATUS, 16, 1⟩
abbrev F.WRD_A_STATUS_PARTNER_OK : Fld := ⟨R.WRD_A_STATUS, 10, 1⟩
abbrev F.WRD_A_STATUS_READBACK : Fld := ⟨R.WRD_A_STATUS, 9, 1⟩
abbrev F.WRD_A_STATUS_SAFE_OUT : Fld := ⟨R.WRD_A_STATUS, 8, 1⟩
abbrev F.WRD_A_STATUS_ENABLE : Fld := ⟨R.WRD_A_STATUS, 7, 1⟩
abbrev F.WRD_A_STATUS_ESTOP_OK : Fld := ⟨R.WRD_A_STATUS, 6, 1⟩
abbrev F.WRD_A_STATUS_GUARD_CLOSED : Fld := ⟨R.WRD_A_STATUS, 5, 1⟩
abbrev F.WRD_A_STATUS_SEEN_OPEN : Fld := ⟨R.WRD_A_STATUS, 4, 1⟩
abbrev F.WRD_A_STATUS_TESTED : Fld := ⟨R.WRD_A_STATUS, 3, 1⟩
abbrev F.WRD_A_STATUS_STATE : Fld := ⟨R.WRD_A_STATUS, 0, 3⟩
abbrev R.WRD_B_STATUS : Nat := 0x0A0110
abbrev F.WRD_B_STATUS_ENABLE : Fld := ⟨R.WRD_B_STATUS, 7, 1⟩
abbrev F.WRD_B_STATUS_STATE : Fld := ⟨R.WRD_B_STATUS, 0, 3⟩
abbrev R.WRD_CFG_B : Nat := 0x0A0100
abbrev R.WRD_EVENTS : Nat := 0x0A0020
abbrev F.WRD_EVENTS_DEMAND_SEEN : Fld := ⟨R.WRD_EVENTS, 1, 1⟩
abbrev F.WRD_EVENTS_REFUSED : Fld := ⟨R.WRD_EVENTS, 0, 1⟩
abbrev R.WRD_COUNTS : Nat := 0x0A0024
abbrev F.WRD_COUNTS_DEMANDS : Fld := ⟨R.WRD_COUNTS, 16, 16⟩
abbrev F.WRD_COUNTS_SKIPPED : Fld := ⟨R.WRD_COUNTS, 0, 16⟩
abbrev R.WRD_DISC : Nat := 0x0A0028
abbrev F.WRD_DISC_MS : Fld := ⟨R.WRD_DISC, 0, 8⟩
abbrev R.THM_DIE : Nat := 0x0B0000
abbrev F.THM_DIE_VALID : Fld := ⟨R.THM_DIE, 31, 1⟩
abbrev F.THM_DIE_BUSY : Fld := ⟨R.THM_DIE, 30, 1⟩
abbrev F.THM_DIE_TEMP : Fld := ⟨R.THM_DIE, 0, 16⟩
abbrev R.THM_CONFIG : Nat := 0x0B0004
abbrev F.THM_CONFIG_THM_DEMAND_PERIOD : Fld := ⟨R.THM_CONFIG, 16, 16⟩
abbrev F.THM_CONFIG_THM_FAIL_MARGIN : Fld := ⟨R.THM_CONFIG, 8, 8⟩
abbrev F.THM_CONFIG_THM_HYST : Fld := ⟨R.THM_CONFIG, 0, 8⟩
abbrev R.THM_STEPk (k : Nat) : Nat := 0x0B0010 + 0x4 * k
abbrev F.THM_STEPk_EN (k : Nat) : Fld := ⟨R.THM_STEPk k, 31, 1⟩
abbrev F.THM_STEPk_LIMIT (k : Nat) : Fld := ⟨R.THM_STEPk k, 16, 11⟩
abbrev F.THM_STEPk_TEMP (k : Nat) : Fld := ⟨R.THM_STEPk k, 0, 16⟩
abbrev R.THM_STATUS : Nat := 0x0B0030
abbrev F.THM_STATUS_TMAX : Fld := ⟨R.THM_STATUS, 16, 16⟩
abbrev F.THM_STATUS_SUBST : Fld := ⟨R.THM_STATUS, 8, 8⟩
abbrev F.THM_STATUS_RATCHET : Fld := ⟨R.THM_STATUS, 3, 1⟩
abbrev F.THM_STATUS_STEP : Fld := ⟨R.THM_STATUS, 0, 3⟩
abbrev R.THM_HOTTEST : Nat := 0x0B0034
abbrev R.THM_LIMIT : Nat := 0x0B0038
abbrev F.THM_LIMIT_LIMIT : Fld := ⟨R.THM_LIMIT, 0, 32⟩
abbrev R.VLT_STATUS : Nat := 0x0C0000
abbrev F.VLT_STATUS_FALLBACK : Fld := ⟨R.VLT_STATUS, 6, 1⟩
abbrev R.VLT_GEN : Nat := 0x0C0004
abbrev R.VLT_JNL_FIRST : Nat := 0x0C0008
abbrev R.VLT_JNL_NEXT : Nat := 0x0C000C
abbrev R.VLT_JNL_FREE : Nat := 0x0C0010
abbrev R.VLT_KEEP : Nat := 0x0C0014
abbrev F.VLT_KEEP_VLT_JOURNAL_KEEP : Fld := ⟨R.VLT_KEEP, 0, 32⟩
abbrev R.VLT_COUNTS : Nat := 0x0C0018
abbrev F.VLT_COUNTS_ABORTS : Fld := ⟨R.VLT_COUNTS, 16, 16⟩
abbrev F.VLT_COUNTS_ECC_CORR : Fld := ⟨R.VLT_COUNTS, 0, 16⟩
abbrev R.VLT_WEARs (s : Nat) : Nat := 0x0C0100 + 0x4 * s
abbrev R.NET_CONFIG : Nat := 0x0D0000
abbrev F.NET_CONFIG_MODE : Fld := ⟨R.NET_CONFIG, 8, 2⟩
abbrev F.NET_CONFIG_P1_IF : Fld := ⟨R.NET_CONFIG, 5, 1⟩
abbrev F.NET_CONFIG_P0_IF : Fld := ⟨R.NET_CONFIG, 4, 1⟩
abbrev F.NET_CONFIG_P1_ANEG : Fld := ⟨R.NET_CONFIG, 1, 1⟩
abbrev F.NET_CONFIG_P0_ANEG : Fld := ⟨R.NET_CONFIG, 0, 1⟩
abbrev R.NET_Pp_STATUS (p : Nat) : Nat := 0x0D0020 + 0x10 * p
abbrev F.NET_Pp_STATUS_CHANGES (p : Nat) : Fld := ⟨R.NET_Pp_STATUS p, 16, 16⟩
abbrev F.NET_Pp_STATUS_ANEG_DONE (p : Nat) : Fld := ⟨R.NET_Pp_STATUS p, 1, 1⟩
abbrev F.NET_Pp_STATUS_LINK (p : Nat) : Fld := ⟨R.NET_Pp_STATUS p, 0, 1⟩
abbrev R.NET_Pp_CORR (p : Nat) : Nat := 0x0D0024 + 0x10 * p
abbrev R.TIM_CTRL : Nat := 0x0D8020
abbrev F.TIM_CTRL_SERVO_RESET : Fld := ⟨R.TIM_CTRL, 9, 1⟩
abbrev F.TIM_CTRL_SERVO_EN : Fld := ⟨R.TIM_CTRL, 8, 1⟩
abbrev F.TIM_CTRL_SYNC_LEVEL : Fld := ⟨R.TIM_CTRL, 0, 2⟩
abbrev R.TIM_STATUS : Nat := 0x0D8024
abbrev F.TIM_STATUS_RATE_LIMIT : Fld := ⟨R.TIM_STATUS, 4, 1⟩
abbrev F.TIM_STATUS_SECOND_REFUSED : Fld := ⟨R.TIM_STATUS, 3, 1⟩
abbrev F.TIM_STATUS_STEP_DONE : Fld := ⟨R.TIM_STATUS, 2, 1⟩
abbrev F.TIM_STATUS_STEP_REFUSED : Fld := ⟨R.TIM_STATUS, 1, 1⟩
abbrev F.TIM_STATUS_SERVO_ACTIVE : Fld := ⟨R.TIM_STATUS, 0, 1⟩
abbrev R.TIM_CONFIG : Nat := 0x0D801C
abbrev F.TIM_CONFIG_TIM_STEP_LIMIT : Fld := ⟨R.TIM_CONFIG, 10, 17⟩
abbrev F.TIM_CONFIG_TIM_RATE_MAX : Fld := ⟨R.TIM_CONFIG, 0, 10⟩
abbrev R.SV_PUBp_CFG (p : Nat) : Nat := 0x0E0000 + 0x100 * p
abbrev F.SV_PUBp_CFG_EN (p : Nat) : Fld := ⟨R.SV_PUBp_CFG p, 31, 1⟩
abbrev F.SV_PUBp_CFG_RATE (p : Nat) : Fld := ⟨R.SV_PUBp_CFG p, 30, 1⟩
abbrev F.SV_PUBp_CFG_TEST (p : Nat) : Fld := ⟨R.SV_PUBp_CFG p, 29, 1⟩
abbrev F.SV_PUBp_CFG_NOASDU (p : Nat) : Fld := ⟨R.SV_PUBp_CFG p, 24, 4⟩
abbrev F.SV_PUBp_CFG_NCH (p : Nat) : Fld := ⟨R.SV_PUBp_CFG p, 16, 5⟩
abbrev F.SV_PUBp_CFG_DELAY (p : Nat) : Fld := ⟨R.SV_PUBp_CFG p, 0, 16⟩
abbrev R.SV_PUBp_CHc (p : Nat) (c : Nat) : Nat := 0x0E0080 + 0x100 * p + 0x4 * c
abbrev F.SV_PUBp_CHc_SCALE (p : Nat) (c : Nat) : Fld := ⟨R.SV_PUBp_CHc p c, 8, 24⟩
abbrev F.SV_PUBp_CHc_CONV (p : Nat) (c : Nat) : Fld := ⟨R.SV_PUBp_CHc p c, 4, 2⟩
abbrev F.SV_PUBp_CHc_ENTRY (p : Nat) (c : Nat) : Fld := ⟨R.SV_PUBp_CHc p c, 0, 4⟩
abbrev R.SV_SUBs_CFG (s : Nat) : Nat := 0x0E1000 + 0x100 * s
abbrev F.SV_SUBs_CFG_EN (s : Nat) : Fld := ⟨R.SV_SUBs_CFG s, 31, 1⟩
abbrev F.SV_SUBs_CFG_RATE (s : Nat) : Fld := ⟨R.SV_SUBs_CFG s, 30, 1⟩
abbrev F.SV_SUBs_CFG_TEST (s : Nat) : Fld := ⟨R.SV_SUBs_CFG s, 29, 1⟩
abbrev F.SV_SUBs_CFG_ALARM_EN (s : Nat) : Fld := ⟨R.SV_SUBs_CFG s, 28, 1⟩
abbrev F.SV_SUBs_CFG_NOASDU (s : Nat) : Fld := ⟨R.SV_SUBs_CFG s, 24, 4⟩
abbrev F.SV_SUBs_CFG_SYNC_MIN (s : Nat) : Fld := ⟨R.SV_SUBs_CFG s, 22, 2⟩
abbrev F.SV_SUBs_CFG_NCH (s : Nat) : Fld := ⟨R.SV_SUBs_CFG s, 16, 5⟩
abbrev F.SV_SUBs_CFG_APPID (s : Nat) : Fld := ⟨R.SV_SUBs_CFG s, 0, 16⟩
abbrev R.SV_SUBs_STATUS (s : Nat) : Nat := 0x0E1018 + 0x100 * s
abbrev F.SV_SUBs_STATUS_SMPCNT (s : Nat) : Fld := ⟨R.SV_SUBs_STATUS s, 16, 16⟩
abbrev F.SV_SUBs_STATUS_SYNC_LOW (s : Nat) : Fld := ⟨R.SV_SUBs_STATUS s, 4, 1⟩
abbrev F.SV_SUBs_STATUS_FORMAT (s : Nat) : Fld := ⟨R.SV_SUBs_STATUS s, 3, 1⟩
abbrev F.SV_SUBs_STATUS_CONFREV (s : Nat) : Fld := ⟨R.SV_SUBs_STATUS s, 2, 1⟩
abbrev F.SV_SUBs_STATUS_TIMEOUT (s : Nat) : Fld := ⟨R.SV_SUBs_STATUS s, 1, 1⟩
abbrev F.SV_SUBs_STATUS_VALID (s : Nat) : Fld := ⟨R.SV_SUBs_STATUS s, 0, 1⟩
abbrev R.GSE_PUBg_CFG (g : Nat) : Nat := 0x0E8000 + 0x200 * g
abbrev F.GSE_PUBg_CFG_EN (g : Nat) : Fld := ⟨R.GSE_PUBg_CFG g, 31, 1⟩
abbrev F.GSE_PUBg_CFG_TEST (g : Nat) : Fld := ⟨R.GSE_PUBg_CFG g, 30, 1⟩
abbrev F.GSE_PUBg_CFG_NMEM (g : Nat) : Fld := ⟨R.GSE_PUBg_CFG g, 24, 5⟩
abbrev F.GSE_PUBg_CFG_APPID (g : Nat) : Fld := ⟨R.GSE_PUBg_CFG g, 0, 16⟩
abbrev R.GSE_PUBg_MEMm (g : Nat) (m : Nat) : Nat := 0x0E8040 + 0x200 * g + 0x4 * m
abbrev F.GSE_PUBg_MEMm_TYPE (g : Nat) (m : Nat) : Fld := ⟨R.GSE_PUBg_MEMm g m, 30, 2⟩
abbrev F.GSE_PUBg_MEMm_SRC (g : Nat) (m : Nat) : Fld := ⟨R.GSE_PUBg_MEMm g m, 28, 2⟩
abbrev F.GSE_PUBg_MEMm_CODE (g : Nat) (m : Nat) : Fld := ⟨R.GSE_PUBg_MEMm g m, 0, 9⟩
abbrev R.GSE_SUBs_CFG (s : Nat) : Nat := 0x0EA000 + 0x100 * s
abbrev F.GSE_SUBs_CFG_EN (s : Nat) : Fld := ⟨R.GSE_SUBs_CFG s, 31, 1⟩
abbrev F.GSE_SUBs_CFG_TEST (s : Nat) : Fld := ⟨R.GSE_SUBs_CFG s, 30, 1⟩
abbrev F.GSE_SUBs_CFG_ALARM_EN (s : Nat) : Fld := ⟨R.GSE_SUBs_CFG s, 29, 1⟩
abbrev F.GSE_SUBs_CFG_NMEM (s : Nat) : Fld := ⟨R.GSE_SUBs_CFG s, 24, 5⟩
abbrev F.GSE_SUBs_CFG_AMEM (s : Nat) : Fld := ⟨R.GSE_SUBs_CFG s, 20, 4⟩
abbrev F.GSE_SUBs_CFG_APPID (s : Nat) : Fld := ⟨R.GSE_SUBs_CFG s, 0, 16⟩
abbrev R.GSE_SUBs_STATUS (s : Nat) : Nat := 0x0EA018 + 0x100 * s
abbrev F.GSE_SUBs_STATUS_NDSCOM (s : Nat) : Fld := ⟨R.GSE_SUBs_STATUS s, 4, 1⟩
abbrev F.GSE_SUBs_STATUS_FORMAT (s : Nat) : Fld := ⟨R.GSE_SUBs_STATUS s, 3, 1⟩
abbrev F.GSE_SUBs_STATUS_CONFREV (s : Nat) : Fld := ⟨R.GSE_SUBs_STATUS s, 2, 1⟩
abbrev F.GSE_SUBs_STATUS_EXPIRED (s : Nat) : Fld := ⟨R.GSE_SUBs_STATUS s, 1, 1⟩
abbrev F.GSE_SUBs_STATUS_VALID (s : Nat) : Fld := ⟨R.GSE_SUBs_STATUS s, 0, 1⟩
abbrev R.GSE_TRIPk (k : Nat) : Nat := 0x0EE000 + 0x4 * k
abbrev F.GSE_TRIPk_EN (k : Nat) : Fld := ⟨R.GSE_TRIPk k, 31, 1⟩
abbrev F.GSE_TRIPk_POL (k : Nat) : Fld := ⟨R.GSE_TRIPk k, 30, 1⟩
abbrev F.GSE_TRIPk_INVALID_TRIP (k : Nat) : Fld := ⟨R.GSE_TRIPk k, 29, 1⟩
abbrev F.GSE_TRIPk_FCLASS (k : Nat) : Fld := ⟨R.GSE_TRIPk k, 27, 2⟩
abbrev F.GSE_TRIPk_SUB (k : Nat) : Fld := ⟨R.GSE_TRIPk k, 16, 6⟩
abbrev F.GSE_TRIPk_MEM (k : Nat) : Fld := ⟨R.GSE_TRIPk k, 0, 4⟩
abbrev R.GAL_STATUS : Nat := 0x0F0000
abbrev F.GAL_STATUS_NEXT_INDEX : Fld := ⟨R.GAL_STATUS, 16, 16⟩
abbrev R.GAL_PAGE : Nat := 0x0F0004
abbrev F.GAL_PAGE_PAGE : Fld := ⟨R.GAL_PAGE, 0, 1⟩
abbrev R.GAL_TRIG : Nat := 0x0F0008
abbrev R.GAL_FREE : Nat := 0x0F000C
abbrev R.GAL_PROFp_CFG (p : Nat) : Nat := 0x0F0100 + 0x40 * p
abbrev F.GAL_PROFp_CFG_EN (p : Nat) : Fld := ⟨R.GAL_PROFp_CFG p, 31, 1⟩
abbrev F.GAL_PROFp_CFG_SINGLE (p : Nat) : Fld := ⟨R.GAL_PROFp_CFG p, 30, 1⟩
abbrev F.GAL_PROFp_CFG_OVERWRITE (p : Nat) : Fld := ⟨R.GAL_PROFp_CFG p, 29, 1⟩
abbrev F.GAL_PROFp_CFG_OUT_EN (p : Nat) : Fld := ⟨R.GAL_PROFp_CFG p, 28, 1⟩
abbrev F.GAL_PROFp_CFG_HOLD_MODE (p : Nat) : Fld := ⟨R.GAL_PROFp_CFG p, 26, 2⟩
abbrev F.GAL_PROFp_CFG_FAULT_EN (p : Nat) : Fld := ⟨R.GAL_PROFp_CFG p, 25, 1⟩
abbrev F.GAL_PROFp_CFG_FAULT_MIN (p : Nat) : Fld := ⟨R.GAL_PROFp_CFG p, 23, 2⟩
abbrev F.GAL_PROFp_CFG_OUT_LINE (p : Nat) : Fld := ⟨R.GAL_PROFp_CFG p, 16, 5⟩
abbrev F.GAL_PROFp_CFG_DIV (p : Nat) : Fld := ⟨R.GAL_PROFp_CFG p, 0, 16⟩
abbrev R.GAL_CHc (c : Nat) : Nat := 0x0F0400 + 0x4 * c
abbrev F.GAL_CHc_TYPE (c : Nat) : Fld := ⟨R.GAL_CHc c, 29, 3⟩
abbrev F.GAL_CHc_SLOT (c : Nat) : Fld := ⟨R.GAL_CHc c, 16, 7⟩
abbrev F.GAL_CHc_RING (c : Nat) : Fld := ⟨R.GAL_CHc c, 12, 2⟩
abbrev F.GAL_CHc_HALF (c : Nat) : Fld := ⟨R.GAL_CHc c, 9, 1⟩
abbrev F.GAL_CHc_CODE (c : Nat) : Fld := ⟨R.GAL_CHc c, 0, 9⟩
abbrev R.GAL_PROFp_CONDi (p : Nat) (i : Nat) : Nat := 0x0F011C + 0x40 * p + 0x8 * i
abbrev F.GAL_PROFp_CONDi_EN (p : Nat) (i : Nat) : Fld := ⟨R.GAL_PROFp_CONDi p i, 31, 1⟩
abbrev F.GAL_PROFp_CONDi_KIND (p : Nat) (i : Nat) : Fld := ⟨R.GAL_PROFp_CONDi p i, 30, 1⟩
abbrev F.GAL_PROFp_CONDi_DIR (p : Nat) (i : Nat) : Fld := ⟨R.GAL_PROFp_CONDi p i, 28, 2⟩
abbrev F.GAL_PROFp_CONDi_CH (p : Nat) (i : Nat) : Fld := ⟨R.GAL_PROFp_CONDi p i, 21, 5⟩
abbrev F.GAL_PROFp_CONDi_BIT (p : Nat) (i : Nat) : Fld := ⟨R.GAL_PROFp_CONDi p i, 16, 5⟩
abbrev F.GAL_PROFp_CONDi_HYST (p : Nat) (i : Nat) : Fld := ⟨R.GAL_PROFp_CONDi p i, 0, 16⟩
abbrev R.TWN_CFG : Nat := 0x100000
abbrev F.TWN_CFG_EN : Fld := ⟨R.TWN_CFG, 31, 1⟩
abbrev F.TWN_CFG_AUTO_RESYNC : Fld := ⟨R.TWN_CFG, 30, 1⟩
abbrev F.TWN_CFG_AUTO_SWAP : Fld := ⟨R.TWN_CFG, 29, 1⟩
abbrev F.TWN_CFG_PREF : Fld := ⟨R.TWN_CFG, 28, 1⟩
abbrev F.TWN_CFG_TWIN_SWAP_PERIOD : Fld := ⟨R.TWN_CFG, 8, 16⟩
abbrev F.TWN_CFG_ECHO_LOSS_TIDES : Fld := ⟨R.TWN_CFG, 0, 8⟩
abbrev R.TWN_SHARE : Nat := 0x100004
abbrev F.TWN_SHARE_SHARE_CONV : Fld := ⟨R.TWN_SHARE, 0, 4⟩
abbrev R.TWN_LINK : Nat := 0x100008
abbrev F.TWN_LINK_ASYM : Fld := ⟨R.TWN_LINK, 0, 16⟩
abbrev R.TWN_STATUS : Nat := 0x100010
abbrev F.TWN_STATUS_HOURS_TO_SWAP : Fld := ⟨R.TWN_STATUS, 16, 16⟩
abbrev F.TWN_STATUS_RESYNC : Fld := ⟨R.TWN_STATUS, 8, 1⟩
abbrev F.TWN_STATUS_SWAP_PENDING : Fld := ⟨R.TWN_STATUS, 7, 1⟩
abbrev F.TWN_STATUS_MATCHED : Fld := ⟨R.TWN_STATUS, 6, 1⟩
abbrev F.TWN_STATUS_RING_ECHO : Fld := ⟨R.TWN_STATUS, 5, 1⟩
abbrev F.TWN_STATUS_LINK_ECHO : Fld := ⟨R.TWN_STATUS, 4, 1⟩
abbrev F.TWN_STATUS_STATE : Fld := ⟨R.TWN_STATUS, 0, 3⟩
abbrev R.TWN_COUNTS : Nat := 0x100014
abbrev F.TWN_COUNTS_TAKEOVERS : Fld := ⟨R.TWN_COUNTS, 28, 4⟩
abbrev F.TWN_COUNTS_SWAP_REFUSED : Fld := ⟨R.TWN_COUNTS, 24, 4⟩
abbrev F.TWN_COUNTS_DIVERGENCES : Fld := ⟨R.TWN_COUNTS, 16, 8⟩
abbrev F.TWN_COUNTS_SWAPS : Fld := ⟨R.TWN_COUNTS, 0, 16⟩
abbrev R.SPR_CFG : Nat := 0x100100
abbrev F.SPR_CFG_AUTO_REPLACE : Fld := ⟨R.SPR_CFG, 31, 1⟩
abbrev F.SPR_CFG_AUTO_WEAR : Fld := ⟨R.SPR_CFG, 30, 1⟩
abbrev F.SPR_CFG_SPR_FAULT_TIDES : Fld := ⟨R.SPR_CFG, 16, 8⟩
abbrev F.SPR_CFG_SPR_SPARE_MIN : Fld := ⟨R.SPR_CFG, 8, 8⟩
abbrev R.SPR_CHARGE : Nat := 0x100104
abbrev F.SPR_CHARGE_CHARGE_BAND : Fld := ⟨R.SPR_CHARGE, 16, 16⟩
abbrev F.SPR_CHARGE_SPR_CHARGE_MAX : Fld := ⟨R.SPR_CHARGE, 0, 16⟩
abbrev R.SPR_STATUS : Nat := 0x10010C
abbrev R.SPR_STACKx (x : Nat) : Nat := 0x100110 + 0x4 * x
abbrev R.SPR_WEAR_CFG : Nat := 0x100204
abbrev F.SPR_WEAR_CFG_WB3 : Fld := ⟨R.SPR_WEAR_CFG, 24, 8⟩
abbrev F.SPR_WEAR_CFG_WB2 : Fld := ⟨R.SPR_WEAR_CFG, 16, 8⟩
abbrev F.SPR_WEAR_CFG_WB1 : Fld := ⟨R.SPR_WEAR_CFG, 8, 8⟩
abbrev F.SPR_WEAR_CFG_WB0 : Fld := ⟨R.SPR_WEAR_CFG, 0, 8⟩
abbrev R.SPR_WEAR_CFG2 : Nat := 0x100208
abbrev F.SPR_WEAR_CFG2_W_HOT : Fld := ⟨R.SPR_WEAR_CFG2, 24, 8⟩
abbrev F.SPR_WEAR_CFG2_W_RIP : Fld := ⟨R.SPR_WEAR_CFG2, 16, 8⟩
abbrev F.SPR_WEAR_CFG2_SW_SHIFT : Fld := ⟨R.SPR_WEAR_CFG2, 0, 6⟩
abbrev R.ADC_STOREn_OG (n : Nat) : Nat := 0x053020 + 0x40 * n
abbrev R.ADC_STOREn_CWj (n : Nat) (j : Nat) : Nat := 0x053024 + 0x40 * n + 0x4 * j
abbrev R.OBS_SNAP_TIDE : Nat := 0x060020
abbrev F.OBS_SNAP_TIDE_VALUE : Fld := ⟨R.OBS_SNAP_TIDE, 0, 32⟩
abbrev R.OBS_PSI_A : Nat := 0x060024
abbrev F.OBS_PSI_A_VALUE : Fld := ⟨R.OBS_PSI_A, 0, 32⟩
abbrev R.OBS_PSI_B : Nat := 0x060028
abbrev F.OBS_PSI_B_VALUE : Fld := ⟨R.OBS_PSI_B, 0, 32⟩
abbrev R.OBS_ANGLE : Nat := 0x06002C
abbrev F.OBS_ANGLE_VALUE : Fld := ⟨R.OBS_ANGLE, 0, 32⟩
abbrev R.OBS_FREQ : Nat := 0x060030
abbrev F.OBS_FREQ_VALUE : Fld := ⟨R.OBS_FREQ, 0, 32⟩
abbrev R.OBS_P : Nat := 0x060034
abbrev F.OBS_P_VALUE : Fld := ⟨R.OBS_P, 0, 32⟩
abbrev R.OBS_Q : Nat := 0x060038
abbrev F.OBS_Q_VALUE : Fld := ⟨R.OBS_Q, 0, 32⟩
abbrev R.OBS_RESIDUAL : Nat := 0x06003C
abbrev F.OBS_RESIDUAL_VALUE : Fld := ⟨R.OBS_RESIDUAL, 0, 32⟩
abbrev R.OBS_TRK_ANGLE : Nat := 0x06008C
abbrev F.OBS_TRK_ANGLE_VALUE : Fld := ⟨R.OBS_TRK_ANGLE, 0, 32⟩
abbrev R.OBS_TRK_FREQ : Nat := 0x060090
abbrev F.OBS_TRK_FREQ_VALUE : Fld := ⟨R.OBS_TRK_FREQ, 0, 32⟩
abbrev R.OBS_TRK_VMAG : Nat := 0x060094
abbrev F.OBS_TRK_VMAG_VALUE : Fld := ⟨R.OBS_TRK_VMAG, 0, 32⟩
abbrev R.DPC_PREF : Nat := 0x060128
abbrev F.DPC_PREF_VALUE : Fld := ⟨R.DPC_PREF, 0, 32⟩
abbrev R.DPC_QREF : Nat := 0x06012C
abbrev F.DPC_QREF_VALUE : Fld := ⟨R.DPC_QREF, 0, 32⟩
abbrev R.DPC_FREEBOARD : Nat := 0x060130
abbrev F.DPC_FREEBOARD_VALUE : Fld := ⟨R.DPC_FREEBOARD, 0, 32⟩
abbrev R.DPC_UREQ : Nat := 0x060134
abbrev F.DPC_UREQ_VALUE : Fld := ⟨R.DPC_UREQ, 0, 32⟩
abbrev R.DPC_QSET : Nat := 0x060110
abbrev F.DPC_QSET_VALUE : Fld := ⟨R.DPC_QSET, 0, 32⟩
abbrev R.DPC_PMAX : Nat := 0x060114
abbrev F.DPC_PMAX_VALUE : Fld := ⟨R.DPC_PMAX, 0, 32⟩
abbrev R.DPC_PMIN : Nat := 0x060118
abbrev F.DPC_PMIN_VALUE : Fld := ⟨R.DPC_PMIN, 0, 32⟩
abbrev R.DPC_QMAX : Nat := 0x06011C
abbrev F.DPC_QMAX_VALUE : Fld := ⟨R.DPC_QMAX, 0, 32⟩
abbrev R.DPC_FB_MARGIN : Nat := 0x060120
abbrev F.DPC_FB_MARGIN_VALUE : Fld := ⟨R.DPC_FB_MARGIN, 0, 32⟩
abbrev R.DPC_FB_RV : Nat := 0x060184
abbrev F.DPC_FB_RV_VALUE : Fld := ⟨R.DPC_FB_RV, 0, 32⟩
abbrev R.SEL_VAVAILx (x : Nat) : Nat := 0x060220 + 0x4 * x
abbrev F.SEL_VAVAILx_VALUE (x : Nat) : Fld := ⟨R.SEL_VAVAILx x, 0, 32⟩
abbrev R.SEL_WEAR_r_s (r : Nat) (s : Nat) : Nat := 0x060FFC + 0x200 * r + 0x8 * s
abbrev F.SEL_WEAR_r_s_VALUE (r : Nat) (s : Nat) : Fld := ⟨R.SEL_WEAR_r_s r s, 0, 32⟩
abbrev R.MOD_SW_AFE_LO : Nat := 0x070070
abbrev R.MOD_SW_DAB_LO : Nat := 0x070078
abbrev R.LPE_LOOPn_KP (n : Nat) : Nat := 0x081008 + 0x40 * n
abbrev F.LPE_LOOPn_KP_VALUE (n : Nat) : Fld := ⟨R.LPE_LOOPn_KP n, 0, 32⟩
abbrev R.LPE_LOOPn_KI (n : Nat) : Nat := 0x08100C + 0x40 * n
abbrev F.LPE_LOOPn_KI_VALUE (n : Nat) : Fld := ⟨R.LPE_LOOPn_KI n, 0, 32⟩
abbrev R.LPE_LOOPn_KD (n : Nat) : Nat := 0x081010 + 0x40 * n
abbrev F.LPE_LOOPn_KD_VALUE (n : Nat) : Fld := ⟨R.LPE_LOOPn_KD n, 0, 32⟩
abbrev R.LPE_LOOPn_KF (n : Nat) : Nat := 0x081014 + 0x40 * n
abbrev F.LPE_LOOPn_KF_VALUE (n : Nat) : Fld := ⟨R.LPE_LOOPn_KF n, 0, 32⟩
abbrev R.LPE_LOOPn_IMAX (n : Nat) : Nat := 0x081018 + 0x40 * n
abbrev F.LPE_LOOPn_IMAX_VALUE (n : Nat) : Fld := ⟨R.LPE_LOOPn_IMAX n, 0, 32⟩
abbrev R.LPE_LOOPn_IMIN (n : Nat) : Nat := 0x08101C + 0x40 * n
abbrev F.LPE_LOOPn_IMIN_VALUE (n : Nat) : Fld := ⟨R.LPE_LOOPn_IMIN n, 0, 32⟩
abbrev R.LPE_LOOPn_OMAX (n : Nat) : Nat := 0x081020 + 0x40 * n
abbrev F.LPE_LOOPn_OMAX_VALUE (n : Nat) : Fld := ⟨R.LPE_LOOPn_OMAX n, 0, 32⟩
abbrev R.LPE_LOOPn_OMIN (n : Nat) : Nat := 0x081024 + 0x40 * n
abbrev F.LPE_LOOPn_OMIN_VALUE (n : Nat) : Fld := ⟨R.LPE_LOOPn_OMIN n, 0, 32⟩
abbrev R.LPE_LOOPn_FE_LIMIT (n : Nat) : Nat := 0x081028 + 0x40 * n
abbrev F.LPE_LOOPn_FE_LIMIT_VALUE (n : Nat) : Fld := ⟨R.LPE_LOOPn_FE_LIMIT n, 0, 32⟩
abbrev R.LPE_LOOPn_FE_VALUE (n : Nat) : Nat := 0x08102C + 0x40 * n
abbrev F.LPE_LOOPn_FE_VALUE_VALUE (n : Nat) : Fld := ⟨R.LPE_LOOPn_FE_VALUE n, 0, 32⟩
abbrev R.LPE_LOOPn_OUT (n : Nat) : Nat := 0x081038 + 0x40 * n
abbrev F.LPE_LOOPn_OUT_VALUE (n : Nat) : Fld := ⟨R.LPE_LOOPn_OUT n, 0, 32⟩
abbrev R.LPE_LOOPn_INTEG (n : Nat) : Nat := 0x08103C + 0x40 * n
abbrev F.LPE_LOOPn_INTEG_VALUE (n : Nat) : Fld := ⟨R.LPE_LOOPn_INTEG n, 0, 32⟩
abbrev R.LPE_GRPg_OUT (g : Nat) : Nat := 0x082020 + 0x4 * g
abbrev F.LPE_GRPg_OUT_VALUE (g : Nat) : Fld := ⟨R.LPE_GRPg_OUT g, 0, 32⟩
abbrev R.LPE_GENg_VMAX (g : Nat) : Nat := 0x083004 + 0x20 * g
abbrev F.LPE_GENg_VMAX_VALUE (g : Nat) : Fld := ⟨R.LPE_GENg_VMAX g, 0, 32⟩
abbrev R.LPE_GENg_AMAX (g : Nat) : Nat := 0x083008 + 0x20 * g
abbrev F.LPE_GENg_AMAX_VALUE (g : Nat) : Fld := ⟨R.LPE_GENg_AMAX g, 0, 32⟩
abbrev R.LPE_GENg_JMAX (g : Nat) : Nat := 0x08300C + 0x20 * g
abbrev F.LPE_GENg_JMAX_VALUE (g : Nat) : Fld := ⟨R.LPE_GENg_JMAX g, 0, 32⟩
abbrev R.LPE_GENg_GMAX (g : Nat) : Nat := 0x083010 + 0x20 * g
abbrev F.LPE_GENg_GMAX_VALUE (g : Nat) : Fld := ⟨R.LPE_GENg_GMAX g, 0, 32⟩
abbrev R.LPE_GENg_GMIN (g : Nat) : Nat := 0x083014 + 0x20 * g
abbrev F.LPE_GENg_GMIN_VALUE (g : Nat) : Fld := ⟨R.LPE_GENg_GMIN g, 0, 32⟩
abbrev R.LPE_GENg_OUT (g : Nat) : Nat := 0x083018 + 0x20 * g
abbrev F.LPE_GENg_OUT_VALUE (g : Nat) : Fld := ⟨R.LPE_GENg_OUT g, 0, 32⟩
abbrev R.NET_MAC_LO : Nat := 0x0D0004
abbrev R.NET_MGMT : Nat := 0x0D000C
abbrev F.NET_MGMT_EN : Fld := ⟨R.NET_MGMT, 31, 1⟩
abbrev F.NET_MGMT_ETYPE : Fld := ⟨R.NET_MGMT, 0, 16⟩
abbrev R.NET_HOST_ETYPE : Nat := 0x0D0010
abbrev F.NET_HOST_ETYPE_ETYPE1 : Fld := ⟨R.NET_HOST_ETYPE, 16, 16⟩
abbrev F.NET_HOST_ETYPE_ETYPE0 : Fld := ⟨R.NET_HOST_ETYPE, 0, 16⟩
abbrev R.NET_Pp_RXCOUNT (p : Nat) : Nat := 0x0D0028 + 0x10 * p
abbrev F.NET_Pp_RXCOUNT_VALUE (p : Nat) : Fld := ⟨R.NET_Pp_RXCOUNT p, 0, 32⟩
abbrev R.NET_Pp_ERR (p : Nat) : Nat := 0x0D002C + 0x10 * p
abbrev F.NET_Pp_ERR_ERROR (p : Nat) : Fld := ⟨R.NET_Pp_ERR p, 16, 16⟩
abbrev F.NET_Pp_ERR_OTHER (p : Nat) : Fld := ⟨R.NET_Pp_ERR p, 0, 16⟩
abbrev R.NET_RED_COUNTS : Nat := 0x0D0040
abbrev F.NET_RED_COUNTS_ONLY1 : Fld := ⟨R.NET_RED_COUNTS, 16, 16⟩
abbrev F.NET_RED_COUNTS_ONLY0 : Fld := ⟨R.NET_RED_COUNTS, 0, 16⟩
abbrev R.NET_RED_STATUS : Nat := 0x0D0044
abbrev F.NET_RED_STATUS_TABLE_FULL : Fld := ⟨R.NET_RED_STATUS, 16, 16⟩
abbrev F.NET_RED_STATUS_DUPLICATES : Fld := ⟨R.NET_RED_STATUS, 0, 16⟩
abbrev R.NET_RX_STATUS : Nat := 0x0D0050
abbrev F.NET_RX_STATUS_OVERRUN : Fld := ⟨R.NET_RX_STATUS, 16, 16⟩
abbrev F.NET_RX_STATUS_HEAD : Fld := ⟨R.NET_RX_STATUS, 4, 3⟩
abbrev F.NET_RX_STATUS_COUNT : Fld := ⟨R.NET_RX_STATUS, 0, 4⟩
abbrev R.NET_RX_POP : Nat := 0x0D0054
abbrev R.NET_LATE : Nat := 0x0D005C
abbrev F.NET_LATE_VALUE : Fld := ⟨R.NET_LATE, 0, 32⟩
abbrev R.TIM_NOW : Nat := 0x0D8000
abbrev R.TIM_SECOND : Nat := 0x0D8004
abbrev F.TIM_SECOND_VALUE : Fld := ⟨R.TIM_SECOND, 0, 32⟩
abbrev R.TIM_STEP : Nat := 0x0D8008
abbrev R.TIM_OFFSET : Nat := 0x0D800C
abbrev R.TIM_RATE : Nat := 0x0D8010
abbrev F.TIM_RATE_VALUE : Fld := ⟨R.TIM_RATE, 0, 32⟩
abbrev R.TIM_INTEG : Nat := 0x0D8014
abbrev F.TIM_INTEG_VALUE : Fld := ⟨R.TIM_INTEG, 0, 32⟩
abbrev R.TIM_SERVO : Nat := 0x0D8018
abbrev F.TIM_SERVO_KP : Fld := ⟨R.TIM_SERVO, 16, 16⟩
abbrev F.TIM_SERVO_KI : Fld := ⟨R.TIM_SERVO, 0, 16⟩
abbrev R.TIM_TIDE_NS : Nat := 0x0D8028
abbrev F.TIM_TIDE_NS_VALUE : Fld := ⟨R.TIM_TIDE_NS, 0, 32⟩
abbrev R.TIM_TIDE_NUM : Nat := 0x0D802C
abbrev F.TIM_TIDE_NUM_VALUE : Fld := ⟨R.TIM_TIDE_NUM, 0, 32⟩
abbrev R.SV_PUBp_NET (p : Nat) : Nat := 0x0E0004 + 0x100 * p
abbrev F.SV_PUBp_NET_VLAN_EN (p : Nat) : Fld := ⟨R.SV_PUBp_NET p, 31, 1⟩
abbrev F.SV_PUBp_NET_PRIO (p : Nat) : Fld := ⟨R.SV_PUBp_NET p, 28, 3⟩
abbrev F.SV_PUBp_NET_VID (p : Nat) : Fld := ⟨R.SV_PUBp_NET p, 16, 12⟩
abbrev F.SV_PUBp_NET_APPID (p : Nat) : Fld := ⟨R.SV_PUBp_NET p, 0, 16⟩
abbrev R.SV_PUBp_DST_LO (p : Nat) : Nat := 0x0E0008 + 0x100 * p
abbrev R.SV_SUBs_SRC_LO (s : Nat) : Nat := 0x0E1008 + 0x100 * s
abbrev R.GSE_PUBg_DST_LO (g : Nat) : Nat := 0x0E8008 + 0x200 * g
abbrev R.GSE_SUBs_SRC_LO (s : Nat) : Nat := 0x0EA008 + 0x100 * s
abbrev R.SV_PUBp_CONFREV (p : Nat) : Nat := 0x0E0010 + 0x100 * p
abbrev R.SV_PUBp_STATUS (p : Nat) : Nat := 0x0E0014 + 0x100 * p
abbrev F.SV_PUBp_STATUS_LATE (p : Nat) : Fld := ⟨R.SV_PUBp_STATUS p, 16, 16⟩
abbrev F.SV_PUBp_STATUS_SMPCNT (p : Nat) : Fld := ⟨R.SV_PUBp_STATUS p, 0, 16⟩
abbrev R.SV_PUBp_IDi (p : Nat) (i : Nat) : Nat := 0x0E0020 + 0x100 * p + 0x4 * i
abbrev R.SV_SUBs_MAP (s : Nat) : Nat := 0x0E1004 + 0x100 * s
abbrev F.SV_SUBs_MAP_VC (s : Nat) : Fld := ⟨R.SV_SUBs_MAP s, 16, 8⟩
abbrev F.SV_SUBs_MAP_VB (s : Nat) : Fld := ⟨R.SV_SUBs_MAP s, 8, 8⟩
abbrev F.SV_SUBs_MAP_VA (s : Nat) : Fld := ⟨R.SV_SUBs_MAP s, 0, 8⟩
abbrev R.SV_SUBs_CONFREV (s : Nat) : Nat := 0x0E1010 + 0x100 * s
abbrev R.SV_SUBs_VSCALE (s : Nat) : Nat := 0x0E1014 + 0x100 * s
abbrev F.SV_SUBs_VSCALE_VALUE (s : Nat) : Fld := ⟨R.SV_SUBs_VSCALE s, 0, 32⟩
abbrev R.SV_SUBs_LOST (s : Nat) : Nat := 0x0E101C + 0x100 * s
abbrev F.SV_SUBs_LOST_VALUE (s : Nat) : Fld := ⟨R.SV_SUBs_LOST s, 0, 32⟩
abbrev R.SV_SUBs_IDi (s : Nat) (i : Nat) : Nat := 0x0E1020 + 0x100 * s + 0x4 * i
abbrev R.SV_SUBs_VALc (s : Nat) (c : Nat) : Nat := 0x0E1080 + 0x100 * s + 0x8 * c
abbrev R.SV_SUBs_QUALc (s : Nat) (c : Nat) : Nat := 0x0E1084 + 0x100 * s + 0x8 * c
abbrev R.GSE_PUBg_NET (g : Nat) : Nat := 0x0E8004 + 0x200 * g
abbrev F.GSE_PUBg_NET_VLAN_EN (g : Nat) : Fld := ⟨R.GSE_PUBg_NET g, 31, 1⟩
abbrev F.GSE_PUBg_NET_PRIO (g : Nat) : Fld := ⟨R.GSE_PUBg_NET g, 28, 3⟩
abbrev F.GSE_PUBg_NET_VID (g : Nat) : Fld := ⟨R.GSE_PUBg_NET g, 16, 12⟩
abbrev R.GSE_PUBg_CONFREV (g : Nat) : Nat := 0x0E8010 + 0x200 * g
abbrev R.GSE_PUBg_TIMES (g : Nat) : Nat := 0x0E8014 + 0x200 * g
abbrev F.GSE_PUBg_TIMES_MAX_MS (g : Nat) : Fld := ⟨R.GSE_PUBg_TIMES g, 16, 16⟩
abbrev F.GSE_PUBg_TIMES_MIN_US (g : Nat) : Fld := ⟨R.GSE_PUBg_TIMES g, 0, 16⟩
abbrev R.GSE_PUBg_STNUM (g : Nat) : Nat := 0x0E8018 + 0x200 * g
abbrev F.GSE_PUBg_STNUM_VALUE (g : Nat) : Fld := ⟨R.GSE_PUBg_STNUM g, 0, 32⟩
abbrev R.GSE_PUBg_SQNUM (g : Nat) : Nat := 0x0E801C + 0x200 * g
abbrev F.GSE_PUBg_SQNUM_VALUE (g : Nat) : Fld := ⟨R.GSE_PUBg_SQNUM g, 0, 32⟩
abbrev R.GSE_PUBg_HVm (g : Nat) (m : Nat) : Nat := 0x0E8080 + 0x200 * g + 0x4 * m
abbrev R.GSE_PUBg_REFi (g : Nat) (i : Nat) : Nat := 0x0E8100 + 0x200 * g + 0x4 * i
abbrev R.GSE_PUBg_DSETi (g : Nat) (i : Nat) : Nat := 0x0E8140 + 0x200 * g + 0x4 * i
abbrev R.GSE_PUBg_GOIDi (g : Nat) (i : Nat) : Nat := 0x0E8180 + 0x200 * g + 0x4 * i
abbrev R.GSE_SUBs_TYPES (s : Nat) : Nat := 0x0EA004 + 0x100 * s
abbrev F.GSE_SUBs_TYPES_VALUE (s : Nat) : Fld := ⟨R.GSE_SUBs_TYPES s, 0, 32⟩
abbrev R.GSE_SUBs_CONFREV (s : Nat) : Nat := 0x0EA010 + 0x100 * s
abbrev R.GSE_SUBs_ASCALE (s : Nat) : Nat := 0x0EA014 + 0x100 * s
abbrev F.GSE_SUBs_ASCALE_VALUE (s : Nat) : Fld := ⟨R.GSE_SUBs_ASCALE s, 0, 32⟩
abbrev R.GSE_SUBs_STNUM (s : Nat) : Nat := 0x0EA01C + 0x100 * s
abbrev F.GSE_SUBs_STNUM_VALUE (s : Nat) : Fld := ⟨R.GSE_SUBs_STNUM s, 0, 32⟩
abbrev R.GSE_SUBs_SQNUM (s : Nat) : Nat := 0x0EA020 + 0x100 * s
abbrev F.GSE_SUBs_SQNUM_VALUE (s : Nat) : Fld := ⟨R.GSE_SUBs_SQNUM s, 0, 32⟩
abbrev R.GSE_SUBs_VALm (s : Nat) (m : Nat) : Nat := 0x0EA040 + 0x100 * s + 0x4 * m
abbrev R.GSE_SUBs_REFi (s : Nat) (i : Nat) : Nat := 0x0EA080 + 0x100 * s + 0x4 * i
abbrev R.GSE_TRIP_STATUS : Nat := 0x0EE020
abbrev R.GSE_PUB_FORCE : Nat := 0x0EE024
abbrev R.GAL_PROFp_CHMASK (p : Nat) : Nat := 0x0F0104 + 0x40 * p
abbrev F.GAL_PROFp_CHMASK_VALUE (p : Nat) : Fld := ⟨R.GAL_PROFp_CHMASK p, 0, 32⟩
abbrev R.GAL_PROFp_PRE (p : Nat) : Nat := 0x0F0108 + 0x40 * p
abbrev F.GAL_PROFp_PRE_PRE (p : Nat) : Fld := ⟨R.GAL_PROFp_PRE p, 0, 24⟩
abbrev R.GAL_PROFp_POST (p : Nat) : Nat := 0x0F010C + 0x40 * p
abbrev F.GAL_PROFp_POST_POST (p : Nat) : Fld := ⟨R.GAL_PROFp_POST p, 0, 24⟩
abbrev R.GAL_PROFp_REGION (p : Nat) : Nat := 0x0F0110 + 0x40 * p
abbrev F.GAL_PROFp_REGION_SIZE (p : Nat) : Fld := ⟨R.GAL_PROFp_REGION p, 16, 9⟩
abbrev F.GAL_PROFp_REGION_BASE (p : Nat) : Fld := ⟨R.GAL_PROFp_REGION p, 0, 8⟩
abbrev R.GAL_PROFp_HOLD (p : Nat) : Nat := 0x0F0114 + 0x40 * p
abbrev F.GAL_PROFp_HOLD_VALUE (p : Nat) : Fld := ⟨R.GAL_PROFp_HOLD p, 0, 32⟩
abbrev R.GAL_PROFp_LINES (p : Nat) : Nat := 0x0F0118 + 0x40 * p
abbrev F.GAL_PROFp_LINES_VALUE (p : Nat) : Fld := ⟨R.GAL_PROFp_LINES p, 0, 32⟩
abbrev R.GAL_PROFp_THi (p : Nat) (i : Nat) : Nat := 0x0F0120 + 0x40 * p + 0x8 * i
abbrev F.GAL_PROFp_THi_VALUE (p : Nat) (i : Nat) : Fld := ⟨R.GAL_PROFp_THi p i, 0, 32⟩
abbrev R.GAL_PROFp_COUNTS (p : Nat) : Nat := 0x0F012C + 0x40 * p
abbrev F.GAL_PROFp_COUNTS_COINCIDENT (p : Nat) : Fld := ⟨R.GAL_PROFp_COUNTS p, 16, 16⟩
abbrev F.GAL_PROFp_COUNTS_IGNORED (p : Nat) : Fld := ⟨R.GAL_PROFp_COUNTS p, 0, 16⟩
abbrev R.GAL_PROFp_LAST (p : Nat) : Nat := 0x0F0130 + 0x40 * p
abbrev F.GAL_PROFp_LAST_EXISTS (p : Nat) : Fld := ⟨R.GAL_PROFp_LAST p, 31, 1⟩
abbrev F.GAL_PROFp_LAST_INDEX (p : Nat) : Fld := ⟨R.GAL_PROFp_LAST p, 0, 16⟩
abbrev R.TWN_LINK_DELAY : Nat := 0x100018
abbrev F.TWN_LINK_DELAY_VALUE : Fld := ⟨R.TWN_LINK_DELAY, 0, 32⟩
abbrev R.TWN_SHARE_DROP : Nat := 0x10001C
abbrev F.TWN_SHARE_DROP_VALUE : Fld := ⟨R.TWN_SHARE_DROP, 0, 32⟩
abbrev R.TWN_SWAP_TIDE : Nat := 0x100020
abbrev F.TWN_SWAP_TIDE_VALUE : Fld := ⟨R.TWN_SWAP_TIDE, 0, 32⟩
abbrev R.SPR_FB_MIN : Nat := 0x100108
abbrev F.SPR_FB_MIN_VALUE : Fld := ⟨R.SPR_FB_MIN, 0, 32⟩
abbrev R.SPR_FAILEDx_LO (x : Nat) : Nat := 0x100140 + 0x8 * x
abbrev F.SPR_FAILEDx_LO_VALUE (x : Nat) : Fld := ⟨R.SPR_FAILEDx_LO x, 0, 32⟩
abbrev R.SPR_FAILEDx_HI (x : Nat) : Nat := 0x100144 + 0x8 * x
abbrev F.SPR_FAILEDx_HI_FAILED (x : Nat) : Fld := ⟨R.SPR_FAILEDx_HI x, 0, 16⟩
abbrev R.SPR_WEAR : Nat := 0x100200
abbrev R.SPR_WEAR_WARN : Nat := 0x10020C
abbrev F.SPR_WEAR_WARN_VALUE : Fld := ⟨R.SPR_WEAR_WARN, 0, 32⟩
abbrev R.SPR_BINk (k : Nat) : Nat := 0x100210 + 0x4 * k
abbrev F.SPR_BINk_VALUE (k : Nat) : Fld := ⟨R.SPR_BINk k, 0, 32⟩
abbrev R.SPR_HOT : Nat := 0x100220
abbrev F.SPR_HOT_VALUE : Fld := ⟨R.SPR_HOT, 0, 32⟩
abbrev R.SPR_RIPPLE : Nat := 0x100224
abbrev F.SPR_RIPPLE_VALUE : Fld := ⟨R.SPR_RIPPLE, 0, 32⟩
abbrev R.SPR_WEAR_SAVEi (i : Nat) : Nat := 0x100240 + 0x4 * i
abbrev F.SPR_WEAR_SAVEi_VALUE (i : Nat) : Fld := ⟨R.SPR_WEAR_SAVEi i, 0, 32⟩

end Sys2Proof.Machine
end

