-- ==== Sys2Proof/Machine/RegTable.lean ====
section
/-! DEFINITION. The register map of the host address space (00_scope.md R8, R9; 04_host_reeve.md R110) as data:
every register of the chapters, its fields, their access types, reset value, holding polder, the roles that have it,
and the range of each configuration key. -/
namespace Sys2Proof.Machine

/-- The access types of Table 0-2. -/
inductive Acc where
  | rw | ro | w1c | rc | wo | cfg
  deriving DecidableEq, Repr

/-- One field of a register: its lowest bit, width and access type; for a CFG field the lowest and highest value
allowed, whether 0 is allowed besides, and the roles that have the key (bit 0 station, 1 cell, 2 port; 0 = those of
the register). -/
structure FieldRow where
  lo : Nat
  w : Nat
  acc : Acc
  min : Nat
  max : Nat
  zeroOk : Bool
  roles : Nat
  deriving DecidableEq, Repr

/-- One register or one array of registers: its name, the byte address of the first, the counts and strides of the
array, the reset value, the holding polder, the roles that have it (bit 0 station, 1 cell, 2 port), how many words
its item has when this is the item's first word (0: a higher word of the item before it), its fields. -/
structure RegRow where
  name : String
  base : Nat
  dims : List (Nat × Nat)
  reset : Word
  polder : Nat
  roles : Nat
  words : Nat
  fields : List FieldRow
  deriving DecidableEq, Repr

/-- A field that is no configuration key. -/
def fld (lo w : Nat) (a : Acc) : FieldRow := ⟨lo, w, a, 0, 2 ^ w - 1, false, 0⟩

/-- A configuration key with the whole range of its field. -/
def key (lo w : Nat) : FieldRow := ⟨lo, w, .cfg, 0, 2 ^ w - 1, false, 0⟩

/-- A configuration key with a range of its own. -/
def keyIn (lo w min max : Nat) : FieldRow := ⟨lo, w, .cfg, min, max, false, 0⟩

/-- A configuration key with a range, 0 allowed besides or not, of the roles given. -/
def keyAs (lo w min max : Nat) (z : Bool) (roles : Nat) : FieldRow := ⟨lo, w, .cfg, min, max, z, roles⟩

/-- Registers HST_. -/
def regsHst : List RegRow := [
  ⟨"HST_ROLE", 0x000008, [], 0x00000000, 1, 7, 1, [fld 8 1 .ro, fld 5 1 .ro, fld 4 1 .ro, fld 0 2 .ro]⟩,
  ⟨"HST_PLACE", 0x00000C, [], 0x00000000, 1, 7, 1, [key 20 12, key 14 6, key 12 2, key 0 7]⟩,
  ⟨"HST_DEVICE_ID", 0x000010, [], 0x00000000, 1, 7, 1, [key 0 18]⟩,
  ⟨"HST_ID_POOL_BASE", 0x000014, [], 0x00000000, 1, 1, 1, [key 0 18]⟩,
  ⟨"HST_ID_POOL_LIMIT", 0x000018, [], 0x00000000, 1, 1, 1, [key 0 18]⟩,
  ⟨"HST_ID_POOL_NEXT", 0x00001C, [], 0x00000000, 1, 1, 1, [key 0 18]⟩,
  ⟨"HST_PART", 0x000000, [], 0x4B549648, 1, 7, 1, [fld 0 32 .ro]⟩,
  ⟨"HST_REVISION", 0x000004, [], 0x00000000, 1, 7, 1, [fld 16 16 .ro, fld 0 8 .ro]⟩,
  ⟨"HST_SCRATCH", 0x000020, [], 0x00000000, 1, 7, 1, [fld 0 32 .rw]⟩,
  ⟨"HST_SPI_STATUS", 0x000024, [], 0x00000000, 1, 7, 1, [fld 1 1 .w1c, fld 0 1 .w1c]⟩]

/-- Registers PWR_. -/
def regsPwr : List RegRow := [
  ⟨"PWR_POLDER_STATE", 0x010000, [], 0x00000001, 1, 7, 1, [fld 0 16 .ro]⟩,
  ⟨"PWR_WAKE_CAUSE", 0x010004, [], 0x00000001, 0, 7, 1, [fld 12 10 .w1c, fld 7 1 .w1c, fld 6 1 .w1c, fld 5 1 .w1c, fld 4 1 .w1c, fld 3 1 .w1c, fld 1 1 .w1c, fld 0 1 .w1c]⟩,
  ⟨"PWR_WAKE_EN", 0x010008, [], 0x00000000, 0, 7, 1, [key 12 10, key 5 1, key 4 1]⟩,
  ⟨"PWR_DRIP_COUNT", 0x01000C, [], 0x00000000, 0, 7, 1, [fld 0 32 .ro]⟩,
  ⟨"PWR_DRIP_ALARM", 0x010010, [], 0x00000000, 0, 7, 1, [fld 0 32 .rw]⟩,
  ⟨"PWR_STATE", 0x010014, [], 0x00000001, 1, 7, 1, [fld 8 1 .ro, fld 0 3 .ro]⟩]

/-- Registers CLK_. -/
def regsClk : List RegRow := [
  ⟨"CLK_STATUS", 0x010100, [], 0x0000080C, 4, 7, 1, [fld 12 1 .w1c, fld 11 1 .w1c, fld 10 1 .w1c, fld 9 1 .ro, fld 8 1 .ro, fld 6 2 .ro, fld 4 2 .ro, fld 3 1 .ro, fld 2 1 .ro, fld 1 1 .ro, fld 0 1 .ro]⟩,
  ⟨"CLK_BAND", 0x010104, [], 0x00000000, 0, 7, 1, [fld 16 16 .ro, fld 15 1 .ro, fld 8 6 .ro, fld 0 6 .ro]⟩,
  ⟨"CLK_CONFIG", 0x010108, [], 0x27102800, 4, 7, 1, [keyIn 16 16 1 65535, key 8 8, key 1 1, key 0 1]⟩,
  ⟨"CLK_SYNC_PHASE", 0x01010C, [], 0x00000000, 4, 7, 1, [fld 0 7 .ro]⟩,
  ⟨"CLK_LOCK_COUNT", 0x010110, [], 0x00000000, 4, 7, 1, [fld 16 16 .ro, fld 0 16 .ro]⟩,
  ⟨"CLK_HOLD_COUNT", 0x010114, [], 0x00000000, 4, 7, 1, [fld 0 16 .ro]⟩]

/-- Registers RVE_. -/
def regsRve : List RegRow := [
  ⟨"RVE_Mn_REQk", 0x020000, [(4, 256), (16, 4)], 0x00000000, 2, 7, 1, [fld 0 32 .rw]⟩,
  ⟨"RVE_Mn_RSPk", 0x020040, [(4, 256), (16, 4)], 0x00000000, 2, 7, 1, [fld 0 32 .ro]⟩,
  ⟨"RVE_Mn_DOORBELL", 0x020080, [(4, 256)], 0x00000000, 2, 7, 1, [fld 0 1 .wo]⟩,
  ⟨"RVE_Mn_STATE", 0x020084, [(4, 256)], 0x00000000, 2, 7, 1, [fld 16 8 .ro, fld 8 8 .ro, fld 4 1 .w1c, fld 0 2 .ro]⟩,
  ⟨"RVE_HOST_SECONDS", 0x020800, [], 0x00000000, 2, 7, 1, [fld 0 32 .rw]⟩,
  ⟨"RVE_CONFIG", 0x020804, [], 0x000001F4, 2, 7, 1, [keyIn 0 16 1 65535]⟩,
  ⟨"RVE_STAGED", 0x020808, [], 0x00000000, 2, 7, 1, [fld 0 8 .ro]⟩,
  ⟨"RVE_RESOURCE", 0x02080C, [], 0x00000000, 2, 7, 1, [fld 9 1 .ro, fld 8 1 .ro, fld 4 4 .ro, fld 2 1 .ro, fld 1 1 .ro, fld 0 1 .ro]⟩]

/-- Registers CUL_ (part 1). -/
def regsCul0 : List RegRow := [
  ⟨"CUL_Pn_STATUS", 0x040000, [(5, 256)], 0x00000000, 5, 7, 1, [fld 11 1 .ro, fld 10 1 .ro, fld 9 1 .ro, fld 8 1 .ro, fld 7 1 .ro, fld 6 1 .ro, fld 5 1 .ro, fld 4 1 .ro, fld 3 1 .ro, fld 0 3 .ro]⟩,
  ⟨"CUL_Pn_STATUS", 0x040500, [(5, 256)], 0x00000000, 6, 1, 1, [fld 11 1 .ro, fld 10 1 .ro, fld 9 1 .ro, fld 8 1 .ro, fld 7 1 .ro, fld 6 1 .ro, fld 5 1 .ro, fld 4 1 .ro, fld 3 1 .ro, fld 0 3 .ro]⟩,
  ⟨"CUL_Pn_ERRORS", 0x040004, [(5, 256)], 0x00000000, 5, 7, 1, [fld 16 16 .rc, fld 0 16 .rc]⟩,
  ⟨"CUL_Pn_ERRORS", 0x040504, [(5, 256)], 0x00000000, 6, 1, 1, [fld 16 16 .rc, fld 0 16 .rc]⟩,
  ⟨"CUL_Pn_CRC", 0x040008, [(5, 256)], 0x00000000, 5, 7, 1, [fld 16 16 .rc, fld 0 16 .rc]⟩,
  ⟨"CUL_Pn_CRC", 0x040508, [(5, 256)], 0x00000000, 6, 1, 1, [fld 16 16 .rc, fld 0 16 .rc]⟩,
  ⟨"CUL_Pn_DESKEW", 0x04000C, [(5, 256)], 0x00000000, 5, 7, 1, [fld 0 6 .ro]⟩,
  ⟨"CUL_Pn_DESKEW", 0x04050C, [(5, 256)], 0x00000000, 6, 1, 1, [fld 0 6 .ro]⟩,
  ⟨"CUL_RINGr_FORMAT", 0x041000, [(4, 256)], 0x00000000, 5, 7, 1, [key 31 1, key 9 1, key 8 1, keyIn 0 7 0 96]⟩,
  ⟨"CUL_RINGr_STATE", 0x041004, [(4, 256)], 0x00000000, 5, 7, 1, [fld 24 8 .ro, fld 7 1 .ro, fld 6 1 .ro, fld 5 1 .ro, fld 4 1 .ro, fld 0 2 .ro]⟩,
  ⟨"CUL_RINGr_LOOP", 0x041008, [(4, 256)], 0x00000000, 5, 7, 1, [fld 0 32 .ro]⟩,
  ⟨"CUL_RINGr_LOST", 0x04100C, [(4, 256)], 0x00000000, 5, 7, 1, [fld 16 16 .rc, fld 0 16 .rc]⟩,
  ⟨"CUL_RINGr_SLEEP", 0x041010, [(4, 256)], 0x00000000, 5, 7, 1, [key 0 7]⟩,
  ⟨"CUL_CONFIG", 0x042000, [], 0x01100406, 5, 7, 1, [key 24 1, keyIn 16 8 1 255, keyIn 8 7 1 127, keyIn 0 7 2 127]⟩,
  ⟨"CUL_ASYM", 0x042004, [], 0x00000000, 5, 7, 1, [key 0 16]⟩,
  ⟨"CUL_TIDE", 0x042008, [], 0x00000000, 5, 7, 1, [fld 0 32 .ro]⟩,
  ⟨"CUL_ALIGN", 0x04200C, [], 0x00000000, 5, 7, 1, [fld 3 1 .ro, fld 2 1 .ro, fld 0 2 .ro]⟩,
  ⟨"CUL_COMP0", 0x042010, [], 0x00000000, 5, 7, 1, [fld 0 32 .ro]⟩,
  ⟨"CUL_COMP1", 0x042014, [], 0x00000000, 5, 7, 1, [fld 0 32 .ro]⟩,
  ⟨"CUL_DELTA", 0x042018, [], 0x00000000, 5, 7, 1, [fld 0 32 .ro]⟩]

/-- Registers CUL_ (part 2). -/
def regsCul1 : List RegRow := [
  ⟨"CUL_COUNTS", 0x04201C, [], 0x00000000, 5, 7, 1, [fld 16 16 .rc, fld 0 16 .rc]⟩,
  ⟨"CUL_STALE_SENT", 0x042020, [], 0x00000000, 5, 7, 1, [fld 0 32 .ro]⟩,
  ⟨"CUL_TRIG", 0x042024, [], 0x00000000, 5, 7, 1, [fld 0 16 .rc]⟩,
  ⟨"CUL_POS_r_s", 0x044000, [(4, 512), (96, 4)], 0x00000000, 5, 1, 1, [fld 31 1 .ro, fld 30 1 .ro, fld 29 1 .w1c, fld 16 8 .ro, fld 0 16 .ro]⟩]

/-- Registers ADC_ (part 1). -/
def regsAdc0 : List RegRow := [
  ⟨"ADC_START", 0x050000, [], 0x00000000, 12, 7, 1, [fld 0 4 .wo]⟩,
  ⟨"ADC_CAL_STATUS", 0x050004, [], 0x00000000, 12, 7, 1, [fld 16 16 .ro, fld 15 1 .ro, fld 8 4 .w1c, fld 4 4 .ro, fld 0 4 .ro]⟩,
  ⟨"ADC_CONFIG", 0x050008, [], 0x00000001, 12, 7, 1, [key 0 1]⟩,
  ⟨"ADC_VDC", 0x05000C, [], 0x00000000, 12, 7, 1, [key 16 16, key 6 1, key 4 2, key 0 4]⟩,
  ⟨"ADC_WIN_STATE", 0x050010, [], 0x00000000, 12, 7, 1, [fld 0 32 .ro]⟩,
  ⟨"ADC_WIN_EVENT", 0x050014, [], 0x00000000, 12, 7, 1, [fld 0 32 .w1c]⟩,
  ⟨"ADC_WIN_SENSOR", 0x050018, [], 0x00000000, 12, 7, 1, [fld 0 32 .ro]⟩,
  ⟨"ADC_SEQn_CTRL", 0x050100, [(4, 256)], 0x00000000, 12, 7, 1, [key 31 1, keyIn 24 3 0 3, key 0 4]⟩,
  ⟨"ADC_SEQn_TIDE", 0x050104, [(4, 256)], 0x00000001, 12, 7, 1, [keyIn 16 10 0 999, keyIn 0 8 1 255]⟩,
  ⟨"ADC_SEQn_GRID", 0x050108, [(4, 256)], 0x000012C0, 12, 7, 1, [keyIn 0 18 1 200000]⟩,
  ⟨"ADC_SEQn_EVENT", 0x05010C, [(4, 256)], 0x00000000, 12, 7, 1, [key 12 2, key 0 12]⟩,
  ⟨"ADC_SEQn_STATUS", 0x050110, [(4, 256)], 0x00000000, 12, 7, 1, [fld 28 4 .ro, fld 27 1 .ro, fld 26 1 .ro, fld 16 8 .rc, fld 8 8 .rc, fld 0 8 .rc]⟩,
  ⟨"ADC_SEQn_STAMP", 0x050114, [(4, 256)], 0x00000000, 12, 7, 1, [fld 0 32 .ro]⟩,
  ⟨"ADC_SEQn_ENTRYk", 0x050140, [(4, 256), (16, 4)], 0x00000003, 12, 7, 1, [keyIn 26 5 0 26, key 25 1, key 20 5, keyIn 16 3 0 4, keyIn 0 10 3 1023]⟩,
  ⟨"ADC_SEQn_SCALEk", 0x050180, [(4, 256), (16, 4)], 0x01000000, 12, 7, 1, [key 0 32]⟩,
  ⟨"ADC_RESn_k", 0x051000, [(4, 64), (16, 4)], 0x00000000, 12, 7, 1, [fld 31 1 .rc, fld 20 4 .ro, fld 17 1 .ro, fld 16 1 .ro, fld 0 16 .ro]⟩,
  ⟨"ADC_WINw_LIMITS", 0x052000, [(32, 16)], 0x7FFF8000, 12, 7, 1, [key 16 16, key 0 16]⟩,
  ⟨"ADC_WINw_VALID", 0x052004, [(32, 16)], 0x7FFF8000, 12, 7, 1, [key 16 16, key 0 16]⟩,
  ⟨"ADC_WINw_CONFIG", 0x052008, [(32, 16)], 0x03000000, 12, 7, 1, [key 31 1, key 30 1, key 28 2, keyIn 24 4 1 15, keyIn 0 16 0 32767]⟩,
  ⟨"ADC_WINw_STATUS", 0x05200C, [(32, 16)], 0x00000000, 12, 7, 1, [fld 16 16 .ro, fld 8 4 .ro, fld 2 1 .ro, fld 0 2 .ro]⟩]

/-- Registers ADC_ (part 2). -/
def regsAdc1 : List RegRow := [
  ⟨"ADC_TRIMn_OG", 0x053000, [(4, 64)], 0x00000000, 12, 7, 1, [fld 16 16 .ro, fld 0 16 .ro]⟩,
  ⟨"ADC_TRIMn_CWj", 0x053004, [(4, 64), (4, 4)], 0x00000000, 12, 7, 1, [fld 24 8 .ro, fld 16 8 .ro, fld 8 8 .ro, fld 0 8 .ro]⟩,
  ⟨"ADC_NTCm_SRC", 0x053400, [(4, 64)], 0x00000000, 12, 7, 1, [key 31 1, key 4 2, key 0 4]⟩,
  ⟨"ADC_NTCm_Tj", 0x053404, [(4, 64), (9, 4)], 0x00000000, 12, 7, 1, [key 16 16, key 0 16]⟩,
  ⟨"ADC_NTCm_VALUE", 0x053430, [(4, 64)], 0x00000000, 12, 7, 1, [fld 31 1 .ro, fld 0 16 .ro]⟩,
  ⟨"ADC_STOREn_OG", 0x053020, [(4, 64)], 0x00000000, 12, 7, 1, [key 16 16, key 0 16]⟩,
  ⟨"ADC_STOREn_CWj", 0x053024, [(4, 64), (4, 4)], 0x00000000, 12, 7, 1, [key 24 8, key 16 8, key 8 8, key 0 8]⟩]

/-- Registers OBS_ (part 1). -/
def regsObs0 : List RegRow := [
  ⟨"OBS_BASE", 0x060000, [], 0x00000000, 10, 1, 1, [key 16 1, keyAs 0 16 1000 65535 true 1]⟩,
  ⟨"OBS_ISRC", 0x060004, [], 0x00000000, 10, 1, 1, [key 24 1, key 16 7, key 8 7, key 0 7]⟩,
  ⟨"OBS_XL", 0x060008, [], 0x0019999A, 10, 1, 1, [keyIn 0 32 0 8388608]⟩,
  ⟨"OBS_HPF", 0x06000C, [], 0x000001F4, 10, 1, 1, [keyIn 0 16 1 2000]⟩,
  ⟨"OBS_WIN", 0x060010, [], 0x051402BC, 10, 1, 1, [keyIn 16 16 1001 2000, keyIn 0 16 100 999]⟩,
  ⟨"OBS_CHECK", 0x060014, [], 0x0096012C, 10, 1, 1, [keyIn 16 16 10 1000, keyIn 0 16 10 1000]⟩,
  ⟨"OBS_TIDES", 0x060018, [], 0x07D00014, 10, 1, 1, [keyIn 16 16 1 65535, keyIn 0 8 1 255]⟩,
  ⟨"OBS_HEALTH", 0x06001C, [], 0x00000000, 10, 1, 1, [fld 16 16 .ro, fld 8 8 .ro, fld 3 1 .ro, fld 2 1 .ro, fld 1 1 .ro, fld 0 1 .ro]⟩,
  ⟨"OBS_TRK_SRC", 0x060080, [], 0x00000000, 10, 1, 1, [key 31 1, key 30 1, key 24 4, key 16 7, key 8 7, key 0 7]⟩,
  ⟨"OBS_TRK_CFG", 0x060084, [], 0x000000C8, 10, 1, 1, [keyIn 0 16 10 1000]⟩,
  ⟨"OBS_TRK_STATUS", 0x060088, [], 0x00000000, 10, 1, 1, [fld 4 1 .ro, fld 3 1 .ro, fld 2 1 .ro, fld 1 1 .ro, fld 0 1 .ro]⟩,
  ⟨"OBS_SNAP_TIDE", 0x060020, [], 0x00000000, 10, 1, 1, [fld 0 32 .ro]⟩,
  ⟨"OBS_PSI_A", 0x060024, [], 0x00000000, 10, 1, 1, [fld 0 32 .ro]⟩,
  ⟨"OBS_PSI_B", 0x060028, [], 0x00000000, 10, 1, 1, [fld 0 32 .ro]⟩,
  ⟨"OBS_ANGLE", 0x06002C, [], 0x00000000, 10, 1, 1, [fld 0 32 .ro]⟩,
  ⟨"OBS_FREQ", 0x060030, [], 0x00000000, 10, 1, 1, [fld 0 32 .ro]⟩,
  ⟨"OBS_P", 0x060034, [], 0x00000000, 10, 1, 1, [fld 0 32 .ro]⟩,
  ⟨"OBS_Q", 0x060038, [], 0x00000000, 10, 1, 1, [fld 0 32 .ro]⟩,
  ⟨"OBS_RESIDUAL", 0x06003C, [], 0x00000000, 10, 1, 1, [fld 0 32 .ro]⟩,
  ⟨"OBS_TRK_ANGLE", 0x06008C, [], 0x00000000, 10, 1, 1, [fld 0 32 .ro]⟩]

/-- Registers OBS_ (part 2). -/
def regsObs1 : List RegRow := [
  ⟨"OBS_TRK_FREQ", 0x060090, [], 0x00000000, 10, 1, 1, [fld 0 32 .ro]⟩,
  ⟨"OBS_TRK_VMAG", 0x060094, [], 0x00000000, 10, 1, 1, [fld 0 32 .ro]⟩]

/-- Registers DPC_. -/
def regsDpc : List RegRow := [
  ⟨"DPC_CTRL", 0x060100, [], 0x00000000, 10, 1, 1, [fld 0 1 .rw]⟩,
  ⟨"DPC_STATE", 0x060104, [], 0x00000000, 10, 1, 1, [fld 8 1 .ro, fld 7 1 .ro, fld 6 1 .w1c, fld 5 1 .ro, fld 4 1 .w1c, fld 0 2 .ro]⟩,
  ⟨"DPC_CONFIG", 0x060108, [], 0xC0000000, 10, 1, 1, [key 31 1, key 30 1, key 24 1, key 16 6, key 8 5, key 4 3, key 0 3]⟩,
  ⟨"DPC_HYST", 0x06010C, [], 0x051F051F, 10, 1, 1, [keyIn 16 16 1 65535, key 0 16]⟩,
  ⟨"DPC_FB_CFG", 0x060180, [], 0x047E03E8, 10, 1, 1, [keyIn 16 16 1000 1250, keyIn 0 16 200 10000]⟩,
  ⟨"DPC_FB_STATUS", 0x060188, [], 0x00000000, 10, 1, 1, [fld 16 16 .ro, fld 4 2 .ro, fld 2 2 .ro, fld 0 2 .ro]⟩,
  ⟨"DPC_COUNTS", 0x060124, [], 0x00000000, 10, 1, 1, [fld 16 16 .rc, fld 0 16 .rc]⟩,
  ⟨"DPC_PREF", 0x060128, [], 0x00000000, 10, 1, 1, [fld 0 32 .ro]⟩,
  ⟨"DPC_QREF", 0x06012C, [], 0x00000000, 10, 1, 1, [fld 0 32 .ro]⟩,
  ⟨"DPC_FREEBOARD", 0x060130, [], 0x00000000, 10, 1, 1, [fld 0 32 .ro]⟩,
  ⟨"DPC_UREQ", 0x060134, [], 0x00000000, 10, 1, 1, [fld 0 32 .ro]⟩,
  ⟨"DPC_QSET", 0x060110, [], 0x00000000, 10, 1, 1, [fld 0 32 .rw]⟩,
  ⟨"DPC_PMAX", 0x060114, [], 0x01000000, 10, 1, 1, [key 0 32]⟩,
  ⟨"DPC_PMIN", 0x060118, [], 0xFF000000, 10, 1, 1, [key 0 32]⟩,
  ⟨"DPC_QMAX", 0x06011C, [], 0x01000000, 10, 1, 1, [keyIn 0 32 0 33554432]⟩,
  ⟨"DPC_FB_MARGIN", 0x060120, [], 0x000CCCCD, 10, 1, 1, [keyIn 0 32 0 8388608]⟩,
  ⟨"DPC_FB_RV", 0x060184, [], 0x000CCCCD, 10, 1, 1, [keyIn 0 32 0 16777216]⟩]

/-- Registers SEL_. -/
def regsSel : List RegRow := [
  ⟨"SEL_CONFIG", 0x060200, [], 0x028F0A00, 10, 1, 1, [key 16 16, keyIn 8 8 1 255, key 0 1]⟩,
  ⟨"SEL_TIE", 0x060204, [], 0x00000010, 10, 1, 1, [keyIn 0 16 0 4095]⟩,
  ⟨"SEL_STACKx", 0x060210, [(3, 4)], 0x00000000, 10, 1, 1, [fld 31 1 .ro, fld 16 8 .ro, fld 8 8 .ro, fld 0 8 .ro]⟩,
  ⟨"SEL_ADMITx_LO", 0x060240, [(3, 8)], 0x00000000, 10, 1, 2, [key 0 32]⟩,
  ⟨"SEL_ADMITx_HI", 0x060244, [(3, 8)], 0x00000000, 10, 1, 0, [key 0 16]⟩,
  ⟨"SEL_POS_r_s", 0x061000, [(3, 512), (48, 8)], 0x00000000, 10, 1, 1, [fld 31 1 .ro, fld 30 1 .ro, fld 29 1 .ro, fld 28 1 .ro, fld 27 1 .ro, fld 26 1 .ro, fld 25 1 .ro, fld 8 2 .ro, fld 0 8 .ro]⟩,
  ⟨"SEL_VAVAILx", 0x060220, [(3, 4)], 0x00000000, 10, 1, 1, [fld 0 32 .ro]⟩,
  ⟨"SEL_WEAR_r_s", 0x061004, [(3, 512), (48, 8)], 0x00000000, 10, 1, 1, [fld 0 32 .ro]⟩]

/-- Registers MOD_ (part 1). -/
def regsMod0 : List RegRow := [
  ⟨"MOD_CTRL", 0x070000, [], 0x00000000, 10, 7, 1, [fld 0 1 .rw]⟩,
  ⟨"MOD_STATUS", 0x070004, [], 0x00000000, 10, 7, 1, [fld 9 1 .w1c, fld 8 1 .ro, fld 4 2 .ro, fld 3 1 .ro, fld 2 1 .ro, fld 1 1 .ro, fld 0 1 .ro]⟩,
  ⟨"MOD_CONFIG", 0x070008, [], 0x00000000, 10, 7, 1, [key 1 1, keyAs 0 1 0 1 false 4]⟩,
  ⟨"MOD_HBn_TIMING", 0x070010, [(4, 4)], 0x19000C80, 10, 7, 1, [keyIn 16 14 0 16000, keyIn 0 14 0 16000]⟩,
  ⟨"MOD_CARRIER", 0x070020, [], 0x0000C350, 10, 7, 1, [keyAs 0 17 10000 100000 false 6]⟩,
  ⟨"MOD_DAB_CFG", 0x070024, [], 0x2AAB00B6, 10, 7, 1, [keyAs 16 16 1 16384 false 6, keyAs 0 16 1 16384 false 6]⟩,
  ⟨"MOD_DAB_SRC", 0x070028, [], 0x00000000, 10, 7, 1, [keyAs 0 5 0 31 false 2]⟩,
  ⟨"MOD_SEC_PHASE", 0x07002C, [], 0x00000000, 10, 7, 1, [keyAs 16 16 0 65535 false 4, keyAs 0 16 0 65535 false 4]⟩,
  ⟨"MOD_AFE_CFG", 0x070030, [], 0x00320008, 10, 7, 1, [keyAs 16 8 1 255 false 6, keyAs 0 8 1 255 false 2]⟩,
  ⟨"MOD_INV_CFG", 0x070034, [], 0x00002710, 10, 7, 1, [keyAs 16 16 0 65535 false 4, keyAs 0 16 2000 50000 false 4]⟩,
  ⟨"MOD_INV_SRC", 0x070038, [], 0x00000000, 10, 7, 1, [keyAs 24 5 0 31 false 4, keyAs 16 5 0 31 false 4, keyAs 8 5 0 31 false 4, keyAs 0 5 0 31 false 4]⟩,
  ⟨"MOD_GD8_TIMING", 0x07003C, [], 0x00000C80, 10, 7, 1, [keyIn 0 14 0 16000]⟩,
  ⟨"MOD_TRIPt_CFG", 0x070040, [(4, 4)], 0x20000000, 10, 7, 1, [key 31 1, key 30 1, key 28 2, key 24 2, key 16 8, key 0 8]⟩,
  ⟨"MOD_TRIP_STATUS", 0x070050, [], 0x00000000, 10, 7, 1, [fld 8 4 .w1c, fld 4 4 .ro, fld 0 4 .ro]⟩,
  ⟨"MOD_TRIP_CLEAR", 0x070054, [], 0x00000000, 10, 7, 1, [fld 0 4 .wo]⟩,
  ⟨"MOD_AFE_STATE", 0x070060, [], 0x00000100, 10, 7, 1, [fld 24 8 .ro, fld 16 2 .ro, fld 9 1 .ro, fld 8 1 .ro, fld 0 2 .ro]⟩,
  ⟨"MOD_DAB_PHASE", 0x070064, [], 0x00000000, 10, 7, 1, [fld 0 32 .ro]⟩,
  ⟨"MOD_DROP", 0x070068, [], 0x00000000, 10, 7, 1, [fld 0 16 .rc]⟩,
  ⟨"MOD_CELL_COUNTS", 0x07006C, [], 0x00000000, 10, 7, 1, [fld 16 16 .rc, fld 0 16 .rc]⟩,
  ⟨"MOD_INV_REFl", 0x070080, [(4, 4)], 0x00000000, 10, 7, 1, [fld 0 32 .ro]⟩]

/-- Registers MOD_ (part 2). -/
def regsMod1 : List RegRow := [
  ⟨"MOD_SW_AFE_LO", 0x070070, [], 0x00000000, 10, 7, 2, [fld 0 32 .ro]⟩,
  ⟨"MOD_SW_AFE_HI", 0x070074, [], 0x00000000, 10, 7, 0, [fld 0 16 .ro]⟩,
  ⟨"MOD_SW_DAB_LO", 0x070078, [], 0x00000000, 10, 7, 2, [fld 0 32 .ro]⟩,
  ⟨"MOD_SW_DAB_HI", 0x07007C, [], 0x00000000, 10, 7, 0, [fld 0 16 .ro]⟩]

/-- Registers LPE_ (part 1). -/
def regsLpe0 : List RegRow := [
  ⟨"LPE_PASS", 0x080000, [], 0x00000000, 11, 7, 1, [fld 0 32 .ro]⟩,
  ⟨"LPE_FE_CLEAR", 0x080004, [], 0x00000000, 11, 7, 1, [fld 0 32 .wo]⟩,
  ⟨"LPE_AC", 0x080008, [], 0x00000000, 11, 4, 1, [key 16 16, key 13 3, keyIn 0 13 0 8000]⟩,
  ⟨"LPE_SETk", 0x080040, [(16, 4)], 0x00000000, 11, 7, 1, [fld 0 32 .rw]⟩,
  ⟨"LPE_SETk_INIT", 0x080080, [(16, 4)], 0x00000000, 11, 7, 1, [key 0 32]⟩,
  ⟨"LPE_LOOPn_CFG", 0x081000, [(32, 64)], 0x00000001, 11, 7, 1, [key 31 1, key 29 2, key 28 1, key 27 1, key 26 1, key 23 3, key 19 4, key 8 8, keyIn 0 8 1 255]⟩,
  ⟨"LPE_LOOPn_SRC", 0x081004, [(32, 64)], 0x00000000, 11, 7, 1, [key 18 9, key 9 9, key 0 9]⟩,
  ⟨"LPE_LOOPn_FE", 0x081030, [(32, 64)], 0x000003E8, 11, 7, 1, [keyIn 0 16 1 65535]⟩,
  ⟨"LPE_LOOPn_FLAGS", 0x081034, [(32, 64)], 0x00000000, 11, 7, 1, [fld 31 1 .ro, fld 30 1 .ro, fld 29 1 .ro, fld 28 1 .ro, fld 27 1 .ro, fld 9 1 .w1c, fld 8 1 .w1c, fld 7 1 .w1c, fld 6 1 .w1c, fld 5 1 .w1c, fld 4 1 .w1c, fld 3 1 .w1c, fld 2 1 .w1c, fld 1 1 .w1c, fld 0 1 .w1c]⟩,
  ⟨"LPE_GRPg", 0x082000, [(8, 4)], 0x00FF0100, 11, 7, 1, [fld 16 8 .ro, key 8 1, key 0 4]⟩,
  ⟨"LPE_GENg_CFG", 0x083000, [(8, 32)], 0x00000000, 11, 7, 1, [key 0 9]⟩,
  ⟨"LPE_GENg_STATUS", 0x08301C, [(8, 32)], 0x00000000, 11, 7, 1, [fld 4 1 .ro, fld 3 1 .ro, fld 2 1 .ro, fld 1 1 .ro, fld 0 1 .ro]⟩,
  ⟨"LPE_LOOPn_KP", 0x081008, [(32, 64)], 0x00000000, 11, 7, 1, [key 0 32]⟩,
  ⟨"LPE_LOOPn_KI", 0x08100C, [(32, 64)], 0x00000000, 11, 7, 1, [key 0 32]⟩,
  ⟨"LPE_LOOPn_KD", 0x081010, [(32, 64)], 0x00000000, 11, 7, 1, [key 0 32]⟩,
  ⟨"LPE_LOOPn_KF", 0x081014, [(32, 64)], 0x00000000, 11, 7, 1, [key 0 32]⟩,
  ⟨"LPE_LOOPn_IMAX", 0x081018, [(32, 64)], 0x7FFFFFFF, 11, 7, 1, [key 0 32]⟩,
  ⟨"LPE_LOOPn_IMIN", 0x08101C, [(32, 64)], 0x80000000, 11, 7, 1, [key 0 32]⟩,
  ⟨"LPE_LOOPn_OMAX", 0x081020, [(32, 64)], 0x7FFFFFFF, 11, 7, 1, [key 0 32]⟩,
  ⟨"LPE_LOOPn_OMIN", 0x081024, [(32, 64)], 0x80000000, 11, 7, 1, [key 0 32]⟩]

/-- Registers LPE_ (part 2). -/
def regsLpe1 : List RegRow := [
  ⟨"LPE_LOOPn_FE_LIMIT", 0x081028, [(32, 64)], 0x7FFFFFFF, 11, 7, 1, [keyIn 0 32 0 2147483647]⟩,
  ⟨"LPE_LOOPn_FE_VALUE", 0x08102C, [(32, 64)], 0x00000000, 11, 7, 1, [key 0 32]⟩,
  ⟨"LPE_LOOPn_OUT", 0x081038, [(32, 64)], 0x00000000, 11, 7, 1, [fld 0 32 .ro]⟩,
  ⟨"LPE_LOOPn_INTEG", 0x08103C, [(32, 64)], 0x00000000, 11, 7, 1, [fld 0 32 .ro]⟩,
  ⟨"LPE_GRPg_OUT", 0x082020, [(8, 4)], 0x00000000, 11, 7, 1, [fld 0 32 .ro]⟩,
  ⟨"LPE_GENg_VMAX", 0x083004, [(8, 32)], 0x00000000, 11, 7, 1, [key 0 32]⟩,
  ⟨"LPE_GENg_AMAX", 0x083008, [(8, 32)], 0x00000000, 11, 7, 1, [key 0 32]⟩,
  ⟨"LPE_GENg_JMAX", 0x08300C, [(8, 32)], 0x00000000, 11, 7, 1, [key 0 32]⟩,
  ⟨"LPE_GENg_GMAX", 0x083010, [(8, 32)], 0x7FFFFFFF, 11, 7, 1, [key 0 32]⟩,
  ⟨"LPE_GENg_GMIN", 0x083014, [(8, 32)], 0x80000000, 11, 7, 1, [key 0 32]⟩,
  ⟨"LPE_GENg_OUT", 0x083018, [(8, 32)], 0x00000000, 11, 7, 1, [fld 0 32 .ro]⟩]

/-- Registers GDR_. -/
def regsGdr : List RegRow := [
  ⟨"GDR_STATUS", 0x090000, [], 0x00000000, 13, 7, 1, [fld 21 1 .ro, fld 20 1 .ro, fld 19 1 .ro, fld 18 1 .ro, fld 17 1 .ro, fld 16 1 .ro, fld 8 4 .ro, fld 0 4 .ro]⟩,
  ⟨"GDR_CH_STATUS", 0x090004, [], 0x00000000, 13, 7, 1, [fld 16 9 .ro, fld 0 9 .ro]⟩,
  ⟨"GDR_HBn_FAULT", 0x090010, [(4, 4)], 0x00000000, 13, 7, 1, [fld 16 16 .rc, fld 6 1 .w1c, fld 5 1 .w1c, fld 4 1 .w1c, fld 3 1 .w1c, fld 2 1 .w1c, fld 1 1 .w1c]⟩,
  ⟨"GDR_DESAT", 0x090020, [], 0x80C803E8, 13, 7, 1, [key 31 1, keyIn 16 10 0 1000, keyIn 0 13 200 5000]⟩,
  ⟨"GDR_CHAN_CFG", 0x090024, [], 0x01FF0000, 13, 7, 1, [key 16 9, key 8 4, key 0 4]⟩,
  ⟨"GDR_BS", 0x090028, [], 0x00C803E8, 13, 7, 1, [keyIn 16 16 10 1000, keyIn 0 16 100 10000]⟩,
  ⟨"GDR_OVk_CFG", 0x090030, [(3, 4)], 0x00000FFF, 13, 7, 1, [key 31 1, key 23 8, key 12 11, key 0 12]⟩,
  ⟨"GDR_CHOP_CFG", 0x090040, [], 0x00000505, 13, 7, 1, [key 31 1, key 16 4, keyIn 8 8 1 255, keyIn 0 8 1 255]⟩,
  ⟨"GDR_CHOP_CHECK", 0x090044, [], 0x000000C8, 13, 7, 1, [keyIn 0 16 10 10000]⟩,
  ⟨"GDR_BUS", 0x090050, [], 0x00000000, 13, 7, 1, [fld 16 12 .ro, fld 0 12 .ro]⟩,
  ⟨"GDR_CHOP_COUNT", 0x090054, [], 0x00000000, 13, 7, 1, [fld 0 32 .ro]⟩,
  ⟨"GDR_BS_NOTCH", 0x090058, [], 0x00000000, 13, 7, 1, [fld 0 32 .ro]⟩,
  ⟨"GDR_SLUICE", 0x090060, [], 0x00000000, 13, 7, 1, [fld 16 16 .rc, fld 4 1 .w1c, fld 3 1 .ro, fld 2 1 .ro, fld 1 1 .ro, fld 0 1 .ro]⟩]

/-- Registers FLT_. -/
def regsFlt : List RegRow := [
  ⟨"FLT_STICKYk", 0x030000, [(4, 4)], 0x00000000, 1, 7, 1, [fld 0 32 .ro]⟩,
  ⟨"FLT_ACTIVEk", 0x030010, [(4, 4)], 0x00000000, 1, 7, 1, [fld 0 32 .ro]⟩,
  ⟨"FLT_WIREk", 0x030020, [(4, 4)], 0x00000000, 1, 7, 1, [fld 0 32 .ro]⟩,
  ⟨"FLT_LEVELj", 0x030040, [(8, 4)], 0x00000000, 1, 7, 1, [fld 0 32 .ro]⟩,
  ⟨"FLT_SUMMARY", 0x030080, [], 0x00000000, 1, 7, 1, [fld 31 1 .ro, fld 8 1 .ro, fld 7 1 .ro, fld 4 3 .ro, fld 0 4 .ro]⟩,
  ⟨"FLT_CONFIG", 0x030084, [], 0x00000011, 1, 7, 1, [key 8 1, key 4 2, key 0 2]⟩,
  ⟨"FLT_COUNTc", 0x030090, [(4, 4)], 0x00000000, 1, 7, 1, [fld 16 16 .rc, fld 0 16 .rc]⟩]

/-- Registers INT_. -/
def regsInt : List RegRow := [
  ⟨"INT_PENDk", 0x038000, [(8, 4)], 0x00000000, 1, 7, 1, [fld 0 32 .rw]⟩,
  ⟨"INT_ENk", 0x038020, [(8, 4)], 0x00000000, 1, 7, 1, [fld 0 32 .rw]⟩,
  ⟨"INT_TGTj", 0x038040, [(16, 4)], 0x00000000, 1, 7, 1, [fld 0 32 .rw]⟩,
  ⟨"INT_WINNERt", 0x038100, [(4, 4)], 0x00000100, 1, 7, 1, [fld 0 9 .ro]⟩,
  ⟨"INT_FBt", 0x038110, [(4, 4)], 0x00000000, 1, 7, 1, [fld 4 1 .rw, fld 0 2 .rw]⟩,
  ⟨"INT_STATUS", 0x038120, [], 0x00000000, 1, 7, 1, [fld 4 4 .ro, fld 0 4 .ro]⟩]

/-- Registers STR_. -/
def regsStr : List RegRow := [
  ⟨"STR_DATA_LO", 0x03C000, [], 0x00000000, 1, 7, 2, [fld 0 32 .rc]⟩,
  ⟨"STR_DATA_HI", 0x03C004, [], 0x00000000, 1, 7, 0, [fld 0 32 .ro]⟩,
  ⟨"STR_COUNT", 0x03C008, [], 0x00000000, 1, 7, 1, [fld 16 16 .rc, fld 0 13 .ro]⟩,
  ⟨"STR_DROP", 0x03C00C, [], 0x00000000, 1, 7, 1, [fld 0 16 .rc]⟩,
  ⟨"STR_MARK", 0x03C010, [], 0x00000000, 1, 7, 1, [fld 0 16 .wo]⟩,
  ⟨"STR_LOGENk", 0x03C020, [(8, 4)], 0x00000000, 1, 7, 1, [key 0 32]⟩]

/-- Registers WRD_. -/
def regsWrd : List RegRow := [
  ⟨"WRD_CFG", 0x0A0000, [], 0x6014000A, 14, 7, 1, [key 31 1, key 30 1, key 29 1, key 28 1, keyIn 16 8 1 255, keyIn 0 8 0 100]⟩,
  ⟨"WRD_CTRL", 0x0A0004, [], 0x00000000, 14, 7, 1, [fld 1 1 .wo, fld 0 1 .wo]⟩,
  ⟨"WRD_A_STATUS", 0x0A0010, [], 0x00000000, 14, 7, 1, [fld 20 1 .ro, fld 19 1 .ro, fld 18 1 .ro, fld 17 1 .ro, fld 16 1 .ro, fld 10 1 .ro, fld 9 1 .ro, fld 8 1 .ro, fld 7 1 .ro, fld 6 1 .ro, fld 5 1 .ro, fld 4 1 .ro, fld 3 1 .ro, fld 0 3 .ro]⟩,
  ⟨"WRD_B_STATUS", 0x0A0110, [], 0x00000000, 15, 7, 1, [fld 20 1 .ro, fld 19 1 .ro, fld 18 1 .ro, fld 17 1 .ro, fld 16 1 .ro, fld 10 1 .ro, fld 9 1 .ro, fld 8 1 .ro, fld 7 1 .ro, fld 6 1 .ro, fld 5 1 .ro, fld 4 1 .ro, fld 3 1 .ro, fld 0 3 .ro]⟩,
  ⟨"WRD_CFG_B", 0x0A0100, [], 0x6014000A, 15, 7, 1, [fld 0 32 .ro]⟩,
  ⟨"WRD_EVENTS", 0x0A0020, [], 0x00000000, 14, 7, 1, [fld 1 1 .w1c, fld 0 1 .w1c]⟩,
  ⟨"WRD_COUNTS", 0x0A0024, [], 0x00000000, 14, 7, 1, [fld 16 16 .rc, fld 0 16 .rc]⟩,
  ⟨"WRD_DISC", 0x0A0028, [], 0x00000000, 14, 7, 1, [fld 0 8 .ro]⟩]

/-- Registers THM_. -/
def regsThm : List RegRow := [
  ⟨"THM_DIE", 0x0B0000, [], 0x00000000, 0, 7, 1, [fld 31 1 .ro, fld 30 1 .ro, fld 0 16 .ro]⟩,
  ⟨"THM_CONFIG", 0x0B0004, [], 0x00000A05, 1, 7, 1, [keyAs 16 16 10 65535 true 7, keyIn 8 8 0 50, keyIn 0 8 0 20]⟩,
  ⟨"THM_STEPk", 0x0B0014, [(4, 4)], 0x00000000, 1, 1, 1, [key 31 1, keyIn 16 11 0 2000, key 0 16]⟩,
  ⟨"THM_STATUS", 0x0B0030, [], 0x00000000, 1, 7, 1, [fld 16 16 .ro, fld 8 8 .ro, fld 3 1 .ro, fld 0 3 .ro]⟩,
  ⟨"THM_HOTTEST", 0x0B0034, [], 0x00000000, 1, 7, 1, [fld 15 1 .ro, fld 13 2 .ro, fld 6 7 .ro, fld 0 3 .ro]⟩,
  ⟨"THM_LIMIT", 0x0B0038, [], 0x7FFFFFFF, 1, 7, 1, [fld 0 32 .ro]⟩]

/-- Registers VLT_. -/
def regsVlt : List RegRow := [
  ⟨"VLT_STATUS", 0x0C0000, [], 0x00000000, 3, 7, 1, [fld 8 4 .ro, fld 6 1 .w1c, fld 5 1 .ro, fld 4 1 .ro, fld 3 1 .ro, fld 0 2 .ro]⟩,
  ⟨"VLT_GEN", 0x0C0004, [], 0x00000000, 3, 7, 1, [fld 0 32 .ro]⟩,
  ⟨"VLT_JNL_FIRST", 0x0C0008, [], 0x00000000, 3, 7, 1, [fld 0 32 .ro]⟩,
  ⟨"VLT_JNL_NEXT", 0x0C000C, [], 0x00000000, 3, 7, 1, [fld 0 32 .ro]⟩,
  ⟨"VLT_JNL_FREE", 0x0C0010, [], 0x00000000, 3, 7, 1, [fld 0 17 .ro]⟩,
  ⟨"VLT_KEEP", 0x0C0014, [], 0x00000000, 3, 7, 1, [key 0 32]⟩,
  ⟨"VLT_COUNTS", 0x0C0018, [], 0x00000000, 3, 7, 1, [fld 16 16 .rc, fld 0 16 .rc]⟩,
  ⟨"VLT_WEARs", 0x0C0100, [(64, 4)], 0x00000000, 3, 7, 1, [fld 24 8 .ro, fld 0 17 .ro]⟩]

/-- Registers NET_. -/
def regsNet : List RegRow := [
  ⟨"NET_CONFIG", 0x0D0000, [], 0x00000003, 7, 1, 1, [keyIn 8 2 0 2, key 5 1, key 4 1, key 1 1, key 0 1]⟩,
  ⟨"NET_Pp_STATUS", 0x0D0020, [(2, 16)], 0x00000000, 7, 1, 1, [fld 16 16 .rc, fld 1 1 .ro, fld 0 1 .ro]⟩,
  ⟨"NET_Pp_CORR", 0x0D0024, [(2, 16)], 0x00000000, 7, 1, 1, [fld 16 16 .ro, fld 0 16 .ro]⟩,
  ⟨"NET_MAC_LO", 0x0D0004, [], 0x00000000, 7, 1, 2, [key 0 32]⟩,
  ⟨"NET_MAC_HI", 0x0D0008, [], 0x00000000, 7, 1, 0, [key 0 16]⟩,
  ⟨"NET_MGMT", 0x0D000C, [], 0x800088B5, 7, 1, 1, [key 31 1, key 0 16]⟩,
  ⟨"NET_HOST_ETYPE", 0x0D0010, [], 0x00000000, 7, 1, 1, [key 16 16, key 0 16]⟩,
  ⟨"NET_Pp_RXCOUNT", 0x0D0028, [(2, 16)], 0x00000000, 7, 1, 1, [fld 0 32 .rc]⟩,
  ⟨"NET_Pp_ERR", 0x0D002C, [(2, 16)], 0x00000000, 7, 1, 1, [fld 16 16 .rc, fld 0 16 .rc]⟩,
  ⟨"NET_RED_COUNTS", 0x0D0040, [], 0x00000000, 7, 1, 1, [fld 16 16 .rc, fld 0 16 .rc]⟩,
  ⟨"NET_RED_STATUS", 0x0D0044, [], 0x00000000, 7, 1, 1, [fld 16 16 .rc, fld 0 16 .rc]⟩,
  ⟨"NET_RX_STATUS", 0x0D0050, [], 0x00000000, 7, 1, 1, [fld 16 16 .rc, fld 4 3 .ro, fld 0 4 .ro]⟩,
  ⟨"NET_RX_POP", 0x0D0054, [], 0x00000000, 7, 1, 1, [fld 0 1 .wo]⟩,
  ⟨"NET_LATE", 0x0D005C, [], 0x00000000, 7, 1, 1, [fld 0 32 .rc]⟩]

/-- Registers TIM_. -/
def regsTim : List RegRow := [
  ⟨"TIM_CTRL", 0x0D8020, [], 0x00000000, 1, 7, 1, [fld 9 1 .wo, fld 8 1 .rw, fld 0 2 .rw]⟩,
  ⟨"TIM_STATUS", 0x0D8024, [], 0x00000000, 1, 7, 1, [fld 4 1 .ro, fld 3 1 .w1c, fld 2 1 .w1c, fld 1 1 .w1c, fld 0 1 .ro]⟩,
  ⟨"TIM_CONFIG", 0x0D801C, [], 0x000FA0C8, 1, 7, 1, [keyIn 10 17 10 100000, keyIn 0 10 1 500]⟩,
  ⟨"TIM_NOW", 0x0D8000, [], 0x00000000, 1, 7, 1, [fld 0 32 .ro]⟩,
  ⟨"TIM_SECOND", 0x0D8004, [], 0x3B9ACA00, 1, 7, 1, [fld 0 32 .rw]⟩,
  ⟨"TIM_STEP", 0x0D8008, [], 0x00000000, 1, 7, 1, [fld 0 32 .wo]⟩,
  ⟨"TIM_OFFSET", 0x0D800C, [], 0x00000000, 1, 7, 1, [fld 0 32 .wo]⟩,
  ⟨"TIM_RATE", 0x0D8010, [], 0x00000000, 1, 7, 1, [fld 0 32 .ro]⟩,
  ⟨"TIM_INTEG", 0x0D8014, [], 0x00000000, 1, 7, 1, [fld 0 32 .ro]⟩,
  ⟨"TIM_SERVO", 0x0D8018, [], 0x1000028F, 1, 7, 1, [key 16 16, key 0 16]⟩,
  ⟨"TIM_TIDE_NS", 0x0D8028, [], 0x00000000, 1, 7, 2, [fld 0 32 .ro]⟩,
  ⟨"TIM_TIDE_NUM", 0x0D802C, [], 0x00000000, 1, 7, 0, [fld 0 32 .ro]⟩]

/-- Registers SV_. -/
def regsSv : List RegRow := [
  ⟨"SV_PUBp_CFG", 0x0E0000, [(8, 256)], 0x02082710, 8, 1, 1, [key 31 1, key 30 1, key 29 1, keyIn 24 4 1 8, keyIn 16 5 1 16, key 0 16]⟩,
  ⟨"SV_PUBp_CHc", 0x0E0080, [(8, 256), (16, 4)], 0x00000000, 8, 1, 1, [key 8 24, key 4 2, key 0 4]⟩,
  ⟨"SV_SUBs_CFG", 0x0E1000, [(16, 256)], 0x02804000, 8, 1, 1, [key 31 1, key 30 1, key 29 1, key 28 1, keyIn 24 4 1 8, keyIn 22 2 0 2, keyIn 16 5 0 16, key 0 16]⟩,
  ⟨"SV_SUBs_STATUS", 0x0E1018, [(16, 256)], 0x00000000, 8, 1, 1, [fld 16 16 .ro, fld 4 1 .ro, fld 3 1 .ro, fld 2 1 .ro, fld 1 1 .ro, fld 0 1 .ro]⟩,
  ⟨"SV_PUBp_NET", 0x0E0004, [(8, 256)], 0xC0004000, 8, 1, 1, [key 31 1, key 28 3, key 16 12, keyIn 0 16 16384 32767]⟩,
  ⟨"SV_PUBp_DST_LO", 0x0E0008, [(8, 256)], 0x00000000, 8, 1, 2, [key 0 32]⟩,
  ⟨"SV_SUBs_SRC_LO", 0x0E1008, [(16, 256)], 0x00000000, 8, 1, 2, [key 0 32]⟩,
  ⟨"SV_PUBp_DST_HI", 0x0E000C, [(8, 256)], 0x00000000, 8, 1, 0, [key 0 16]⟩,
  ⟨"SV_SUBs_SRC_HI", 0x0E100C, [(16, 256)], 0x00000000, 8, 1, 0, [key 0 16]⟩,
  ⟨"SV_PUBp_CONFREV", 0x0E0010, [(8, 256)], 0x00000001, 8, 1, 1, [key 0 32]⟩,
  ⟨"SV_PUBp_STATUS", 0x0E0014, [(8, 256)], 0x00000000, 8, 1, 1, [fld 16 16 .rc, fld 0 16 .ro]⟩,
  ⟨"SV_PUBp_IDi", 0x0E0020, [(8, 256), (9, 4)], 0x00000000, 8, 1, 1, [key 0 32]⟩,
  ⟨"SV_SUBs_MAP", 0x0E1004, [(16, 256)], 0x00000000, 8, 1, 1, [key 16 8, key 8 8, key 0 8]⟩,
  ⟨"SV_SUBs_CONFREV", 0x0E1010, [(16, 256)], 0x00000001, 8, 1, 1, [key 0 32]⟩,
  ⟨"SV_SUBs_VSCALE", 0x0E1014, [(16, 256)], 0x00000000, 8, 1, 1, [key 0 32]⟩,
  ⟨"SV_SUBs_LOST", 0x0E101C, [(16, 256)], 0x00000000, 8, 1, 1, [fld 0 32 .rc]⟩,
  ⟨"SV_SUBs_IDi", 0x0E1020, [(16, 256), (9, 4)], 0x00000000, 8, 1, 1, [key 0 32]⟩,
  ⟨"SV_SUBs_VALc", 0x0E1080, [(16, 256), (16, 8)], 0x00000000, 8, 1, 1, [fld 0 32 .ro]⟩,
  ⟨"SV_SUBs_QUALc", 0x0E1084, [(16, 256), (16, 8)], 0x00000000, 8, 1, 1, [fld 0 32 .ro]⟩]

/-- Registers GSE_ (part 1). -/
def regsGse0 : List RegRow := [
  ⟨"GSE_PUBg_CFG", 0x0E8000, [(16, 512)], 0x00000000, 8, 1, 1, [key 31 1, key 30 1, keyIn 24 5 0 16, keyIn 0 16 0 16383]⟩,
  ⟨"GSE_PUBg_MEMm", 0x0E8040, [(16, 512), (16, 4)], 0x00000000, 8, 1, 1, [key 30 2, keyIn 28 2 0 2, key 0 9]⟩,
  ⟨"GSE_SUBs_CFG", 0x0EA000, [(64, 256)], 0x00000000, 8, 1, 1, [key 31 1, key 30 1, key 29 1, keyIn 24 5 1 16, key 20 4, key 0 16]⟩,
  ⟨"GSE_SUBs_STATUS", 0x0EA018, [(64, 256)], 0x00000000, 8, 1, 1, [fld 4 1 .ro, fld 3 1 .ro, fld 2 1 .ro, fld 1 1 .ro, fld 0 1 .ro]⟩,
  ⟨"GSE_TRIPk", 0x0EE000, [(8, 4)], 0x10000000, 8, 1, 1, [key 31 1, key 30 1, key 29 1, keyIn 27 2 1 3, key 16 6, key 0 4]⟩,
  ⟨"GSE_PUBg_DST_LO", 0x0E8008, [(16, 512)], 0x00000000, 8, 1, 2, [key 0 32]⟩,
  ⟨"GSE_SUBs_SRC_LO", 0x0EA008, [(64, 256)], 0x00000000, 8, 1, 2, [key 0 32]⟩,
  ⟨"GSE_PUBg_DST_HI", 0x0E800C, [(16, 512)], 0x00000000, 8, 1, 0, [key 0 16]⟩,
  ⟨"GSE_SUBs_SRC_HI", 0x0EA00C, [(64, 256)], 0x00000000, 8, 1, 0, [key 0 16]⟩,
  ⟨"GSE_PUBg_NET", 0x0E8004, [(16, 512)], 0xC0000000, 8, 1, 1, [key 31 1, key 28 3, key 16 12]⟩,
  ⟨"GSE_PUBg_CONFREV", 0x0E8010, [(16, 512)], 0x00000001, 8, 1, 1, [key 0 32]⟩,
  ⟨"GSE_PUBg_TIMES", 0x0E8014, [(16, 512)], 0x03E807D0, 8, 1, 1, [keyIn 16 16 1 60000, keyIn 0 16 100 65535]⟩,
  ⟨"GSE_PUBg_STNUM", 0x0E8018, [(16, 512)], 0x00000000, 8, 1, 1, [fld 0 32 .ro]⟩,
  ⟨"GSE_PUBg_SQNUM", 0x0E801C, [(16, 512)], 0x00000000, 8, 1, 1, [fld 0 32 .ro]⟩,
  ⟨"GSE_PUBg_HVm", 0x0E8080, [(16, 512), (16, 4)], 0x00000000, 8, 1, 1, [fld 0 32 .rw]⟩,
  ⟨"GSE_PUBg_REFi", 0x0E8100, [(16, 512), (16, 4)], 0x00000000, 8, 1, 1, [key 0 32]⟩,
  ⟨"GSE_PUBg_DSETi", 0x0E8140, [(16, 512), (16, 4)], 0x00000000, 8, 1, 1, [key 0 32]⟩,
  ⟨"GSE_PUBg_GOIDi", 0x0E8180, [(16, 512), (16, 4)], 0x00000000, 8, 1, 1, [key 0 32]⟩,
  ⟨"GSE_SUBs_TYPES", 0x0EA004, [(64, 256)], 0x00000000, 8, 1, 1, [key 0 32]⟩,
  ⟨"GSE_SUBs_CONFREV", 0x0EA010, [(64, 256)], 0x00000001, 8, 1, 1, [key 0 32]⟩]

/-- Registers GSE_ (part 2). -/
def regsGse1 : List RegRow := [
  ⟨"GSE_SUBs_ASCALE", 0x0EA014, [(64, 256)], 0x00000000, 8, 1, 1, [key 0 32]⟩,
  ⟨"GSE_SUBs_STNUM", 0x0EA01C, [(64, 256)], 0x00000000, 8, 1, 1, [fld 0 32 .ro]⟩,
  ⟨"GSE_SUBs_SQNUM", 0x0EA020, [(64, 256)], 0x00000000, 8, 1, 1, [fld 0 32 .ro]⟩,
  ⟨"GSE_SUBs_VALm", 0x0EA040, [(64, 256), (16, 4)], 0x00000000, 8, 1, 1, [fld 0 32 .ro]⟩,
  ⟨"GSE_SUBs_REFi", 0x0EA080, [(64, 256), (16, 4)], 0x00000000, 8, 1, 1, [key 0 32]⟩,
  ⟨"GSE_TRIP_STATUS", 0x0EE020, [], 0x00000000, 8, 1, 1, [fld 0 32 .ro]⟩,
  ⟨"GSE_PUB_FORCE", 0x0EE024, [], 0x00000000, 8, 1, 1, [fld 0 32 .wo]⟩]

/-- Registers GAL_. -/
def regsGal : List RegRow := [
  ⟨"GAL_STATUS", 0x0F0000, [], 0x00000000, 9, 7, 1, [fld 16 16 .ro, fld 0 12 .ro]⟩,
  ⟨"GAL_PAGE", 0x0F0004, [], 0x00000000, 9, 7, 1, [fld 0 1 .rw]⟩,
  ⟨"GAL_TRIG", 0x0F0008, [], 0x00000000, 9, 7, 1, [fld 0 16 .wo]⟩,
  ⟨"GAL_FREE", 0x0F000C, [], 0x00000000, 9, 7, 1, [fld 0 16 .wo]⟩,
  ⟨"GAL_PROFp_CFG", 0x0F0100, [(4, 64)], 0x00000001, 9, 7, 1, [key 31 1, key 30 1, key 29 1, key 28 1, key 26 2, key 25 1, key 23 2, key 16 5, keyIn 0 16 1 65535]⟩,
  ⟨"GAL_CHc", 0x0F0400, [(32, 4)], 0x00000000, 9, 7, 1, [key 29 3, key 16 7, key 12 2, key 9 1, key 0 9]⟩,
  ⟨"GAL_PROFp_CONDi", 0x0F011C, [(4, 64), (2, 8)], 0x00000000, 9, 7, 1, [key 31 1, key 30 1, key 28 2, key 21 5, key 16 5, key 0 16]⟩,
  ⟨"GAL_PROFp_CHMASK", 0x0F0104, [(4, 64)], 0x00000000, 9, 7, 1, [key 0 32]⟩,
  ⟨"GAL_PROFp_PRE", 0x0F0108, [(4, 64)], 0x00000000, 9, 7, 1, [key 0 24]⟩,
  ⟨"GAL_PROFp_POST", 0x0F010C, [(4, 64)], 0x00000001, 9, 7, 1, [keyIn 0 24 1 16777215]⟩,
  ⟨"GAL_PROFp_REGION", 0x0F0110, [(4, 64)], 0x00010000, 9, 7, 1, [keyIn 16 9 1 256, key 0 8]⟩,
  ⟨"GAL_PROFp_HOLD", 0x0F0114, [(4, 64)], 0x00000000, 9, 7, 1, [key 0 32]⟩,
  ⟨"GAL_PROFp_LINES", 0x0F0118, [(4, 64)], 0x00000000, 9, 7, 1, [key 0 32]⟩,
  ⟨"GAL_PROFp_THi", 0x0F0120, [(4, 64), (2, 8)], 0x00000000, 9, 7, 1, [key 0 32]⟩,
  ⟨"GAL_PROFp_COUNTS", 0x0F012C, [(4, 64)], 0x00000000, 9, 7, 1, [fld 16 16 .rc, fld 0 16 .rc]⟩,
  ⟨"GAL_PROFp_LAST", 0x0F0130, [(4, 64)], 0x00000000, 9, 7, 1, [fld 31 1 .ro, fld 0 16 .ro]⟩]

/-- Registers TWN_. -/
def regsTwn : List RegRow := [
  ⟨"TWN_CFG", 0x100000, [], 0x6000A808, 1, 1, 1, [key 31 1, key 30 1, key 29 1, key 28 1, keyIn 8 16 1 8760, keyIn 0 8 2 64]⟩,
  ⟨"TWN_SHARE", 0x100004, [], 0x00000000, 1, 1, 1, [key 0 4]⟩,
  ⟨"TWN_LINK", 0x100008, [], 0x00000000, 1, 1, 1, [key 0 16]⟩,
  ⟨"TWN_STATUS", 0x100010, [], 0x00000000, 1, 1, 1, [fld 16 16 .ro, fld 8 1 .ro, fld 7 1 .ro, fld 6 1 .ro, fld 5 1 .ro, fld 4 1 .ro, fld 0 3 .ro]⟩,
  ⟨"TWN_COUNTS", 0x100014, [], 0x00000000, 1, 1, 1, [fld 28 4 .rc, fld 24 4 .rc, fld 16 8 .rc, fld 0 16 .rc]⟩,
  ⟨"TWN_LINK_DELAY", 0x100018, [], 0x00000000, 1, 1, 1, [fld 0 32 .ro]⟩,
  ⟨"TWN_SHARE_DROP", 0x10001C, [], 0x00000000, 1, 1, 1, [fld 0 32 .rc]⟩,
  ⟨"TWN_SWAP_TIDE", 0x100020, [], 0x00000000, 1, 1, 1, [fld 0 32 .ro]⟩]

/-- Registers SPR_. -/
def regsSpr : List RegRow := [
  ⟨"SPR_CFG", 0x100100, [], 0x00640100, 1, 7, 1, [keyAs 31 1 0 1 false 1, keyAs 30 1 0 1 false 1, keyAs 16 8 1 255 false 1, keyAs 8 8 0 47 false 1]⟩,
  ⟨"SPR_CHARGE", 0x100104, [], 0x014003E8, 1, 7, 1, [keyAs 16 16 0 4095 false 1, keyAs 0 16 10 60000 false 1]⟩,
  ⟨"SPR_STATUS", 0x10010C, [], 0x00000000, 1, 7, 1, [fld 31 1 .ro, fld 28 3 .ro, fld 24 2 .ro, fld 16 7 .ro, fld 0 8 .ro]⟩,
  ⟨"SPR_STACKx", 0x100110, [(3, 4)], 0x00000000, 1, 7, 1, [fld 16 8 .ro, fld 8 8 .ro, fld 0 8 .ro]⟩,
  ⟨"SPR_WEAR_CFG", 0x100204, [], 0x40100401, 1, 7, 1, [keyAs 24 8 0 255 false 2, keyAs 16 8 0 255 false 2, keyAs 8 8 0 255 false 2, keyAs 0 8 0 255 false 2]⟩,
  ⟨"SPR_WEAR_CFG2", 0x100208, [], 0x01100014, 1, 7, 1, [keyAs 24 8 0 255 false 2, keyAs 16 8 0 255 false 2, keyAs 0 6 0 47 false 2]⟩,
  ⟨"SPR_FB_MIN", 0x100108, [], 0x00051EB8, 1, 7, 1, [keyAs 0 32 0 8388608 false 1]⟩,
  ⟨"SPR_FAILEDx_LO", 0x100140, [(3, 8)], 0x00000000, 1, 7, 2, [keyAs 0 32 0 4294967295 false 1]⟩,
  ⟨"SPR_FAILEDx_HI", 0x100144, [(3, 8)], 0x00000000, 1, 7, 0, [keyAs 0 16 0 65535 false 1]⟩,
  ⟨"SPR_WEAR", 0x100200, [], 0x00000000, 1, 7, 1, [fld 0 32 .ro]⟩,
  ⟨"SPR_WEAR_WARN", 0x10020C, [], 0xFFFFFFFF, 1, 7, 1, [keyAs 0 32 0 4294967295 false 2]⟩,
  ⟨"SPR_BINk", 0x100210, [(4, 4)], 0x00000000, 1, 7, 1, [fld 0 32 .ro]⟩,
  ⟨"SPR_HOT", 0x100220, [], 0x00000000, 1, 7, 1, [fld 0 32 .ro]⟩,
  ⟨"SPR_RIPPLE", 0x100224, [], 0x00000000, 1, 7, 1, [fld 0 32 .ro]⟩,
  ⟨"SPR_WEAR_SAVEi", 0x100240, [(9, 4)], 0x00000000, 1, 7, 1, [keyAs 0 32 0 4294967295 false 2]⟩]

/-- The registers of one 64 KiB block of Table 4-1. -/
def blockRegs (b : Nat) : List RegRow :=
  match b with
  | 0 => regsHst
  | 1 => regsPwr ++ regsClk
  | 2 => regsRve
  | 3 => regsFlt ++ regsInt ++ regsStr
  | 4 => regsCul0 ++ regsCul1
  | 5 => regsAdc0 ++ regsAdc1
  | 6 => regsObs0 ++ regsObs1 ++ regsDpc ++ regsSel
  | 7 => regsMod0 ++ regsMod1
  | 8 => regsLpe0 ++ regsLpe1
  | 9 => regsGdr
  | 10 => regsWrd
  | 11 => regsThm
  | 12 => regsVlt
  | 13 => regsNet ++ regsTim
  | 14 => regsSv ++ regsGse0 ++ regsGse1
  | 15 => regsGal
  | 16 => regsTwn ++ regsSpr
  | _ => []

/-- True when `r` is the offset of an element of an array of the given counts and strides (largest stride first). -/
def inDims : List (Nat × Nat) → Nat → Bool
  | [], r => r == 0
  | (n, st) :: ds, r => decide (r / st < n) && inDims ds (r % st)

/-- The row of the register at byte address `a` (a multiple of 4). -/
def findReg (a : Nat) : Option RegRow :=
  (blockRegs (a / 0x10000)).find? (fun r => decide (r.base ≤ a) && inDims r.dims (a - r.base))

/-- The reset value of the register at `a`; 0 at an unassigned address (R9). -/
def resetWord (a : Nat) : Word := match findReg a with | some r => r.reset | none => 0

/-- The mask of the fields of a row that satisfy `p`. -/
def RegRow.maskOf (r : RegRow) (p : FieldRow → Bool) : Word :=
  (r.fields.filter p).foldl (fun m f => m ||| fieldMask f.lo f.w) 0

/-- The mask of the CFG fields of a register. -/
def RegRow.cfgMask (r : RegRow) : Word := r.maskOf (fun f => f.acc == .cfg)

/-- The mask of the fields of one access type. -/
def RegRow.accMask (r : RegRow) (a : Acc) : Word := r.maskOf (fun f => f.acc == a)

/-- The holding polder of the register at `a` (Table 4-1); 16 where there is none. -/
def polderOf (a : Nat) : Nat := match findReg a with | some r => r.polder | none => 16

end Sys2Proof.Machine
end

