-- ==== Sys2Proof/Machine/SMap.lean ====
section
/-! DEFINITION. Sparse data by key in ONE canonical form: a list of key and value pairs, keys strictly rising.
`SMap.set` keeps every written entry; `Memory.set` (the memory of bytes) removes an entry that equals what an
unlisted address reads as. -/
namespace Sys2Proof.Machine

/-- The value a list of pairs holds for key `k`. -/
def SMap.find {α : Type} : List (Nat × α) → Nat → Option α
  | [], _ => none
  | (a, v) :: r, k => if k = a then some v else if k < a then none else SMap.find r k

/-- The list with the value of key `k` set to `v`, keys kept rising. -/
def SMap.set {α : Type} : List (Nat × α) → Nat → α → List (Nat × α)
  | [], k, v => [(k, v)]
  | (a, w) :: r, k, v =>
    if k = a then (k, v) :: r
    else if k < a then (k, v) :: (a, w) :: r
    else (a, w) :: SMap.set r k v

/-- The list without key `k`. -/
def SMap.erase {α : Type} (m : List (Nat × α)) (k : Nat) : List (Nat × α) := m.filter (fun p => p.1 != k)

/-- Keys strictly rising. -/
def SMap.wf {α : Type} (m : List (Nat × α)) : Bool :=
  match m with
  | [] => true
  | [_] => true
  | p :: q :: r => decide (p.1 < q.1) && SMap.wf (q :: r)

/-- What a byte of the Gallery SRAM reads as while nothing has stored it (DESIGN CHOICE, assumption 3). -/
def emptyByte : Byte := 0

/-- The byte at an address of a memory of bytes. -/
def Memory.get (m : List (Nat × Byte)) (a : Nat) : Byte := (SMap.find m a).getD emptyByte

/-- The memory with the byte at `a` set to `b`, in canonical form. -/
def Memory.set (m : List (Nat × Byte)) (a : Nat) (b : Byte) : List (Nat × Byte) :=
  if b = emptyByte then SMap.erase m a else SMap.set m a b

/-- The memory with the bytes `bs` stored from address `a` on. -/
def Memory.setAll (m : List (Nat × Byte)) : Nat → List Byte → List (Nat × Byte)
  | _, [] => m
  | a, b :: bs => Memory.setAll (Memory.set m a b) (a + 1) bs

/-- The bytes from `a` on, `n` of them. -/
def Memory.getAll (m : List (Nat × Byte)) : Nat → Nat → List Byte
  | _, 0 => []
  | a, n + 1 => Memory.get m a :: Memory.getAll m (a + 1) n

/-- The canonical form: addresses strictly rising, no entry equal to what an unlisted address reads as. -/
def Memory.wf (m : List (Nat × Byte)) : Bool := SMap.wf m && m.all (fun p => p.2 != emptyByte)

end Sys2Proof.Machine
end

