-- ==== Sys2Proof/Config.lean ====
section
/-! DEFINITION. What the spec leaves open: values with no body, so that nothing proves what they are. -/
namespace Sys2Proof

/-- A fresh value that the spec leaves undefined, the `n`-th of a run (assumption 1). -/
opaque Config.freeValue : Nat → Nat

/-- The messages of 64 bytes that carry a snapshot of decision state over the twin link (R454), the `n`-th of a run: the spec gives
them no layout (assumption 104). -/
opaque Config.snapshotMessages : Nat → List (List Byte)

/-- HST_REVISION of this unit (R469: not listed in the manual). -/
opaque Config.revision : Word

/-- The 32-bit control quantity (R3) that the device's fixed-point arithmetic gives for an exact value (R216). -/
opaque Config.fxRound : Rat → Word

/-- Which result (converter in bits 5:4, entry in 3:0) is the leg current of half-bridge HBn: the spec names no input (R157, assumption
100). -/
opaque Config.legEntry : Nat → BitVec 6

/-- The value the device's arithmetic gives for a quotient by 0. -/
opaque Config.fxOverZero : Rat → Rat

/-- The device's constants pi and the square root of 3 (R217, R242). -/
opaque Config.fxPi : Rat
opaque Config.fxSqrt3 : Rat

/-- The device's square root, arctangent, arcsine, cosine and sine (R216). Angles as R4, other values as R3. -/
opaque Config.fxSqrt : Word → Word
opaque Config.fxAtan2 : Word → Word → Word
opaque Config.fxArcsin : Word → Word
opaque Config.fxCos : Word → Word
opaque Config.fxSin : Word → Word

/-- Where in its period, in millionths, the fallback's carrier starts (R216, R244: the same in every device). -/
opaque Config.carrierStart : Nat

/-- The angle (R4) the device's arithmetic gives for an exact number of turns. -/
opaque Config.fxAngle : Rat → Word

/-- The square root of R298 in generator units, and the cosine of R300 with 30 fraction bits. -/
opaque Config.genSqrt : Nat → Nat
opaque Config.cos30 : Word → Int

end Sys2Proof
end

