-- ==== Sys2Proof/Machine/State.lean ====
section
/-! DEFINITION. The state of the block as plain data: the registers of the host address space, what each block holds
beside them, the pins, and the queue of waiting commands. -/
namespace Sys2Proof.Machine

/-- Why the block stops with a fault. Nothing of the spec's table does so: the device's own faults are state (chapter 11). -/
inductive Fault where
  /-- Raised by nothing: kept so that the type has a value. Safe. -/
  | none
  deriving DecidableEq, Repr

/-- Why a command is refused. -/
inductive Refusal where
  /-- The command has no meaning yet (Machine/Dispatch.lean only). Safe. -/
  | notModelled (mnemonic : String)
  deriving DecidableEq, Repr

/-- The states of the device: Crest standby and the states of Table 3-11. -/
inductive Phase where
  | crest
  | starting
  | service
  | ready
  | stopping
  deriving DecidableEq, Repr

/-- Power, wake and start-up (chapter 3): what PWR_ registers do not hold. -/
structure PowerSt where
  /-- VCREST is above its threshold (R54). -/
  vcrest : Bool := true
  /-- Every monitored supply is above its threshold (R55). -/
  suppliesGood : Bool := true
  /-- VIO3 is present (R472). -/
  vio3 : Bool := true
  /-- VIO1 and VIO2 are present (bits 0 and 1): a land of a bank without supply is high-impedance (R53). -/
  vio : BitVec 2 := 3
  /-- The present levels of the strap lands (R11). -/
  straps : Straps := ⟨false, false, false, false⟩
  /-- The Crest role latch (R11); none after VCREST fell (R54). -/
  latch : Option Straps := some ⟨false, false, false, false⟩
  /-- PWR_STATE, Table 3-11. -/
  phase : Phase := .crest
  /-- The polders on and past power-good (PWR_POLDER_STATE). -/
  on : BitVec 16 := 1
  /-- The polders started that have not reached power-good (R79). -/
  starting : List Nat := []
  /-- Groups of polders still to start, in order (R78, Table 3-8). -/
  queue : List (List Nat) := []
  /-- A polder start failed: no further polder is started (R79). -/
  blocked : Bool := false
  /-- A start cause of power is latched (R85). -/
  startCause : Bool := true
  /-- The wake request latches (R84). -/
  reqWaken : Bool := false
  reqDrip : Bool := false
  reqGuard : Bool := false
  reqLane : BitVec 10 := 0
  /-- Directions LANE_WAKE or a lane latch asked for that could not wake yet: their Culvert polder was off (R81), or the device
  transmits nothing (R104). -/
  laneTx : BitVec 10 := 0
  laneRx : BitVec 10 := 0
  /-- The WAKEn land is held low. -/
  wakenLow : Bool := false
  /-- The guard lands A1, A2, B1, B2 (bits 0 to 3): present and accepted levels (R472). -/
  guardPin : BitVec 4 := 0
  guardAccepted : BitVec 4 := 0
  /-- Start-up milestones (Table 3-8). -/
  thermalDone : Bool := false
  configDone : Bool := false
  calStarted : Bool := false
  /-- The internal calibration of start-up runs. -/
  calRun : Bool := false
  calDone : Bool := false
  /-- The drip clock runs: 64 cycles were seen, and none was lost since (R83, R472). It runs on through standby. -/
  dripRuns : Bool := false
  /-- The part of the present drip cycle that has passed, in 2^-32 ns times 32,768 (R83, assumption 80). -/
  dripPart : Nat := 0
  /-- The pending shutdown: the reading that caused the stop (R82, R385). -/
  pendingShutdown : Option (BitVec 16) := none
  /-- The Breach flag (R334). -/
  breach : Bool := false
  deriving DecidableEq, Repr

/-- What the PLL is doing (R92, R94). -/
inductive Attempt where
  | none
  | stored
  | full
  | reengage
  deriving DecidableEq, Repr

/-- The clock block (chapter 3) beside its CLK_ registers. -/
structure ClockSt where
  attempt : Attempt := .none
  /-- Error signal of source 2: a failed attempt and no lock since. -/
  noLock : Bool := false
  /-- Error signal of source 5. -/
  holdLong : Bool := false
  /-- Re-engagement failed: holdover until CLOCK_RELOCK (R94). -/
  stay : Bool := false
  /-- A start-up attempt failed and start-up waits (R474). -/
  retry : Bool := false
  /-- Start-up waits for a lock since an attempt failed (R474). -/
  startWait : Bool := false
  /-- The P0 receive clock is absent and the lock sequence waits for it (R104). -/
  waitP0 : Bool := false
  /-- A lock was declared since polder 4 started (R101). -/
  everLocked : Bool := false
  /-- The divider grid was anchored by a SYNC_IN edge (R101). -/
  anchored : Bool := false
  /-- The CLOCK_RELOCK in progress: its mailbox and plan (R97). -/
  relock : Option (Nat × Nat) := Option.none
  /-- The attempt that waits for the P0 clock is a full search (R92, R104). -/
  full : Bool := false
  /-- The relock returns from the service plan: role polders start and calibrate before its response (Table 3-7). -/
  restart : Bool := false
  deriving DecidableEq, Repr

/-- A host port's snapshot and write buffer (R112, R113). -/
structure PortSt where
  /-- Item address, its words as captured, and the next unit that may be read from it. -/
  snap : Option (Nat × List Word × Nat) := none
  /-- Item address and the units staged for it. -/
  wbuf : Option (Nat × List (Nat × Nat)) := none
  deriving DecidableEq, Repr

/-- Where an SPI transaction stands (R117, R118). -/
inductive SpiPhase where
  | idle
  | ignored
  | writing
  | turnaround
  | reading
  deriving DecidableEq, Repr

/-- The SPI target. -/
structure SpiSt where
  phase : SpiPhase := .idle
  header : Word := 0
  addr : Nat := 0
  inc : Bool := false
  /-- The words captured for the data frames to come: item address, its words, the word to return, whether its side effects
  apply. -/
  captured : List (Nat × List Word × Word × Bool) := []
  /-- What SPI_SDO returned during the last frame; none where the device drove nothing. -/
  sdo : Option Word := none
  /-- SPI_CSn has risen since that frame: SPI_SDO is high-impedance (R62). -/
  finished : Bool := false
  deriving DecidableEq, Repr

/-- A mailbox beside its registers (R125 to R129, R134, R139). -/
structure MbSt where
  /-- The accepted 64-byte request. -/
  req : List Byte := []
  /-- The response formed, and that it is formed (RESPONSE_COMPLETE then writes it). -/
  rsp : List Byte := []
  ready : Bool := false
  /-- A long command runs on. -/
  running : Bool := false
  /-- The resources it holds, as RVE_RESOURCE bits. -/
  held : BitVec 10 := 0
  /-- M2: source address and Ethernet port of the request. -/
  mac : List Byte := []
  ethPort : Nat := 0
  /-- M3: seconds extension and origin device ID of the sender. -/
  seconds : Word := 0
  origin : Nat := 0
  /-- Twin operation (R447): the command is copied; it waits for its start boundary; the standby's status, once it came. -/
  copied : Bool := false
  hold : Bool := false
  partner : Option Nat := none
  /-- A ring command that runs on (R168, R172, R176): its stage, tides since acceptance and in the stage; values of NEXT still to be
  committed (R29), and that a commit of one is under way. -/
  stage : Nat := 0
  tides : Nat := 0
  inStage : Nat := 0
  nexts : List Nat := []
  waits : Bool := false
  /-- STATE of a mailbox without a register (4: the partner's copy; 5 to 8: the device's own on rings 0 to 3). -/
  st : Nat := 0
  deriving DecidableEq, Repr

/-- A key of the staged set (R122, R139). -/
structure StagedKey where
  addr : Nat
  lo : Nat
  w : Nat
  value : Nat
  /-- Mailbox, origin device ID and seconds extension of its last staging. -/
  mailbox : Nat
  origin : Nat
  seconds : Word
  deriving DecidableEq, Repr

/-- The Reeve (polder 2) beside its registers. -/
structure ReeveSt where
  mb : List MbSt := List.replicate 11 {}
  /-- The mailbox last taken (R126). -/
  last : Nat := 3
  staged : List StagedKey := []
  /-- Resources held by an action of the device itself (an automatic calibration, retirement or swap). -/
  autoHeld : BitVec 10 := 0
  deriving DecidableEq, Repr

/-- The fault collector (R327 to R339). -/
structure FaultSt where
  sticky : BitVec 128 := 0
  /-- Effective classes of sticky sources, two bits each (R331). -/
  level : BitVec 256 := 0
  wire : BitVec 128 := 0
  /-- Status words of the latched mode (R328). -/
  latched : BitVec 128 := 0
  /-- The signals as last sampled. -/
  prev : BitVec 128 := 0
  /-- Pulse signals and injections of this core clock; 0 between steps. -/
  pulses : BitVec 128 := 0
  injected : BitVec 128 := 0
  /-- FLT_COUNTc EVENTS and ESCALATED, c = 0 to 3. -/
  events : List Nat := [0, 0, 0, 0]
  escalated : List Nat := [0, 0, 0, 0]
  /-- WIRING in effect (R328). -/
  wiring : Bool := false
  /-- ALIVE toggles; its level (R337). -/
  aliveRun : Bool := false
  alive : Bool := false
  /-- READY was reached since polder 1 started (R338). -/
  readyOnce : Bool := false
  deriving DecidableEq, Repr

/-- The interrupt controller (R340 to R348). -/
structure IntSt where
  pend : BitVec 256 := 0
  en : BitVec 256 := 0
  /-- INT_TGT: two bits per source. -/
  tgt : BitVec 512 := 0
  /-- INT_FBt: FB_EN and FB_TARGET. -/
  fb : List (Bool × Nat) := [(false, 0), (false, 0), (false, 0), (false, 0)]
  /-- HSLEEPnt low after filtering. -/
  sleep : BitVec 4 := 0
  /-- Per target, a source that left it within the last two core clocks (R345, R346, R348). -/
  race : List (Option Nat) := [none, none, none, none]
  /-- Per target, whether the race is one of a fallback's end, where 0x100 is no choice (R348). -/
  raceFb : List Bool := [false, false, false, false]
  /-- Per target, the kinds of events seen since its race began, as bits (`Spaced.bit`). -/
  raceSeen : List (BitVec 8) := [0, 0, 0, 0]
  /-- Arm bits of the "first after read as 0" sources (R471), by source number. -/
  arm : BitVec 256 := BitVec.allOnes 256
  deriving DecidableEq, Repr

/-- An entry offered to Strata (Table 11-4 without its time). -/
structure StrataOffer where
  kind : Nat
  cls : Nat
  escalated : Bool
  injected : Bool
  code : Nat
  deriving DecidableEq, Repr

/-- Strata (R349 to R352). -/
structure StrataSt where
  log : List (BitVec 64) := []
  /-- The queues of the four ports: fault events, clearings, interrupt raises, host markers. -/
  queues : List (List StrataOffer) := [[], [], [], []]
  /-- How many of the last entries of the raises' queue were offered in this core clock; 0 between steps. -/
  now : Nat := 0
  overrun : Nat := 0
  drop : Nat := 0
  deriving DecidableEq, Repr

/-- What a transmit direction sent last in a tide (R142, R151, R182). -/
inductive TxItem where
  | nothing
  | idle
  | status (b : Byte)
  | frame (f : TideFrame)
  deriving DecidableEq, Repr

/-- A Culvert port beside its CUL_Pn registers. -/
structure CulPort where
  /-- The peer's READY and WRAPPING as last received (Table 5-2). -/
  peerReady : Bool := false
  peerWrapping : Bool := false
  /-- Tides for which own and peer READY have held, up to 16 (R165). -/
  bothReady : Nat := 0
  /-- Consecutive tides in which the peer announced not rooted, up to 8 (R146). -/
  notRooted : Nat := 0
  /-- The device left a wrap at this port at the last boundary (R165). -/
  wrapLeft : Bool := false
  /-- It wraps again at the next boundary (R165). -/
  wrapAgain : Bool := false
  /-- What the transmit direction sends. -/
  tx : TxItem := .nothing
  /-- A frame reached the port since the last boundary. -/
  seen : Bool := false
  /-- ECHO_COUNT of the last intact frame of each ORIGIN (R449). -/
  echo : List (Option Nat) := [none, none]
  deriving DecidableEq, Repr

/-- A frame's records as an origin received them (R31). -/
structure RecFrame where
  ring : Nat
  dir : Nat
  tide : Nat
  /-- The tide in which it was received. -/
  at_ : Nat
  wrapped : Bool
  /-- The record area. -/
  records : List Byte
  deriving DecidableEq, Repr

/-- A command entry that waits for its apply boundary: its tide, its value and its rank of preference (R33). -/
structure WaitEntry where
  tide : Nat
  value : Nat
  rank : Nat
  deriving DecidableEq, Repr

/-- A trigger token to be sent (R180, R181). -/
structure Token where
  line : Nat
  tide : Nat
  offset : Nat
  repeated : Bool
  /-- Directions in which it was sent: bit 2 r + d in an origin, bit d in another device. -/
  sent : Nat
  deriving DecidableEq, Repr

/-- How far a message over the message channel is (R171). -/
inductive MsgPhase where
  | sending (chunk : Nat)
  | waitAck
  | busyWait
  | waitRsp
  | given
  deriving DecidableEq, Repr

/-- A request of the station in flight on a ring (R133, R171). -/
structure RemoteSt where
  /-- The mailbox of the REMOTE. -/
  mailbox : Nat
  dest : Nat
  bytes : List Byte
  phase : MsgPhase
  tries : Nat
  /-- Response chunks received so far. -/
  rsp : List (Option (List Byte))
  /-- The timeout in force when it was sent, in ms (R140). -/
  timeout : Nat
  deriving DecidableEq, Repr

/-- A message of the station's own that waits for the channel of a ring: the ring, the slot it goes to, the mailbox that takes the
answer (9: none), its 64 bytes (R168, R172, R459, R462). -/
structure OwnMsg where
  ring : Nat
  slot : Nat
  mailbox : Nat
  bytes : List Byte
  deriving DecidableEq, Repr

/-- The message channel of a cell or port device (R170, R171). -/
structure MsgDev where
  chunks : List (Option (List Byte)) := [none, none, none]
  /-- The tides of the last chunks taken: their other copies are ignored (R170). -/
  taken : List Nat := []
  /-- TAG of the last request accepted. -/
  lastTag : Option Byte := none
  /-- The last acknowledge (its payload byte), and the tide whose frames carry it, once one has passed (R170). -/
  ack : Option Byte := none
  ackAt : Option Nat := none
  /-- The request in execution was a message to slot 127, which is not answered (R170). -/
  silent : Bool := false
  /-- The response to send. -/
  out : List Byte := []
  /-- The tides of the response chunks written so far, by chunk: both directions of a tide carry the same one (R171). -/
  outAt : List Nat := []
  phase : MsgPhase := .given
  tries : Nat := 0
  deriving DecidableEq, Repr

/-- Rings and tides (polders 5 and 6) beside the CUL_ registers. -/
structure CulvertSt where
  ports : List CulPort := List.replicate 10 {}
  /-- The reference port of a cell or port device (R90, R146). -/
  refPort : Nat := 0
  /-- Number taken over from a header, for the next boundary (R177). -/
  takeover : Option Nat := none
  /-- Tides for which the numbering has matched, up to 16; a matching frame was seen in this tide. -/
  tideMatch : Nat := 16
  matched : Bool := false
  /-- Tide boundaries run (a first frame was numbered, or the station is READY). -/
  running : Bool := false
  /-- The last record completed (eight bytes), and the record of this tide as written into frames. -/
  record : List Byte := List.replicate 8 0
  slot : List Byte := List.replicate 8 0
  /-- The records of the last tides, by tide, newest first: a frame gets that of its own tide (R158). -/
  slots : List (Nat × List Byte) := []
  /-- Tides left in which the device, about to enter standby, sends LEAVING (R167). -/
  leaving : Option Nat := none
  /-- Own entries that wait (R33). -/
  entries : List WaitEntry := []
  /-- Apply tides of the entries of which a copy came in time or was counted late: further copies are not counted (R34). -/
  taken : List Nat := []
  /-- Boundary placement in steps of 156.25 ps before the arrival (R173, R174). -/
  place : Int := 0
  /-- The placement at the last boundary. -/
  placeNow : Int := 0
  /-- The half of L received last in each direction: tide, half, value (R152). -/
  loopHalf : List (Option (Nat × Nat × Nat)) := [none, none]
  /-- An UNWRAP frame was seen: the tide of the boundary at which wraps may be left (R165). -/
  unwrapAt : Option Nat := none
  tokens : List Token := []
  /-- Station: records received. -/
  recs : List RecFrame := []
  /-- Station: the record held per position, by 128 * ring + slot (R31); the bytes of a quantity from 4-byte records, with the
  tide of the last one (R156). -/
  held : List (Nat × List Byte) := []
  tele : List (Nat × Nat × List Byte) := []
  /-- Station: command entries of the next frame, per ring, by position. -/
  cmds : List (List Nat) := [[], [], [], []]
  /-- Station: the entries sent in earlier tides: tide, ring, entries (for shared use, R446). -/
  echo : Nat := 0
  /-- The tide's decision was completed (R179). Before the first one the count advances as well (DESIGN CHOICE, assumption 58). -/
  decided : Bool := true
  /-- Origin: rings whose next frames carry UNWRAP. -/
  unwrap : List Bool := [false, false, false, false]
  /-- Origin: an acknowledge to send on a ring, to a slot. -/
  ackTo : List (Option Nat) := [none, none, none, none]
  remote : List (Option RemoteSt) := [none, none, none, none]
  /-- Station: the tides of the response chunks last taken on each ring: their other copies are ignored (R170, R171). -/
  rspAt : List (List Nat) := [[], [], [], []]
  /-- Station: the last value in effect of each telemetry quantity of a position, by 32 * (128 * ring + slot) + selector (R157). -/
  quant : List (Nat × Nat) := []
  /-- Station: messages of its own that wait, in order (R168, R172). -/
  sentMsgs : List OwnMsg := []
  msg : MsgDev := {}
  /-- Station: device IDs found by discovery, per ring in slot order, and positions excluded (R30). -/
  ids : List (List Nat) := [[], [], [], []]
  excluded : List (Nat × Nat) := []
  /-- Temporary slot of a discovery frame (R172). -/
  tempSlot : Nat := 0
  /-- Origin: rings on which a frame returned wrapped in this tide (R164). -/
  wrappedNow : List Bool := [false, false, false, false]
  /-- Station: frames that are to come back: ring, direction, tide. -/
  due : List (Nat × Nat × Nat) := []
  /-- The same, with a wrap elsewhere than at the sleeping block. -/
  unplanned : List Bool := [false, false, false, false]
  /-- The position after which direction-0 frames return wrapped (0: they do not), per ring, and the tides for which the ring
  still gets no LOOP_VALID (R460). -/
  wrapPoint : List Nat := [0, 0, 0, 0]
  noLoop : List Nat := [0, 0, 0, 0]
  deriving DecidableEq, Repr

/-- A converter of the measurement front end beside its registers (chapter 6). -/
structure AdcConv where
  /-- The entry whose conversion ends next in the round in progress (R189). -/
  next : Nat := 0
  /-- Bit k: entry k has produced a result since polder 12 started (R204). -/
  produced : BitVec 16 := 0
  /-- Entries in the order of their last results, newest first (R214). -/
  recent : List Nat := []
  /-- Bit k: entry k has given the tracker a result since its last update (R241). -/
  unseen : BitVec 16 := 0
  /-- The start time of a round that waits for OFFSET to pass (2^-32 ns of the timebase, R194). -/
  due : Option Nat := none
  /-- The round in progress began in this ADC clock, as far as the events since tell: the kinds seen since (R192). -/
  began : Option (BitVec 8) := none
  deriving DecidableEq, Repr

/-- The measurement front end (polder 12) beside its ADC_ registers. -/
structure AdcSt where
  conv : List AdcConv := [{}, {}, {}, {}]
  /-- A calibration has ended since polder 12 started, so CAL_TEMP holds (R208). -/
  calibrated : Bool := false
  deriving DecidableEq, Repr



/-- The level of a half-bridge: both switches off, the low switch on, the high switch on, or (chopper half-bridges of a
station, R319) both channels on. -/
inductive HbLevel where
  | off
  | low
  | high
  | both
  deriving DecidableEq, Repr

/-- What a DAB bridge is doing (R269). -/
inductive DabRun where
  | off
  | running
  | refresh
  deriving DecidableEq, Repr

/-- A DAB bridge (R266 to R269). Positions in edge steps count from the present tide boundary. -/
structure BridgeSt where
  run : DabRun := .off
  /-- Wave phase of the last edge (the phase in force) and of the edge scheduled next. -/
  psi : Nat := 0
  psiNext : Nat := 0
  lastAt : Int := 0
  nextAt : Int := 0
  /-- Leg a is HIGH in the wave. -/
  high : Bool := false
  /-- Edges since the bridge started. -/
  edges : Nat := 0
  deriving DecidableEq, Repr

/-- The modulators (polder 10, chapter 8) beside their MOD_ registers. -/
structure ModSt where
  /-- EN in effect: a transition to 1 waits for the next aligned boundary (R253). -/
  en : Bool := false
  /-- Trips cleared whose outputs return at the next boundary (R277). -/
  releasing : BitVec 4 := 0
  /-- The clocks of polder 10 are stopped (R278). -/
  frozen : Bool := false
  /-- The level each function commands. -/
  func : List HbLevel := [.off, .off, .off, .off]
  /-- Inputs of the channels (ranks 3 to 7, R304). -/
  inp : List HbLevel := [.off, .off, .off, .off]
  inp8 : Bool := false
  /-- The executed entry in force and the AFE state under it (R261 to R265). -/
  entry : Nat := 0
  afeOn : Bool := false
  /-- Consecutive missing boundaries (R265). -/
  missing : Nat := 0
  bridges : List BridgeSt := [{}, {}]
  /-- Inverter: the legs run; the references latched at the last valley, and in force; a reference was clipped there. -/
  invRun : Bool := false
  invLatched : List Int := [0, 0, 0, 0]
  invRef : List Int := [0, 0, 0, 0]
  invClip : Bool := false
  /-- The legs are HIGH in their wave (R272). -/
  invWave : List Bool := [false, false, false, false]
  /-- The timebase (2^-32 ns) at the last tide boundary, and as each switch last turned off at its output (R258): high and low of
  HB0, of HB1 and so on. -/
  boundaryAt : Nat := 0
  offAt : List (Option Nat) := [none, none, none, none, none, none, none, none]
  /-- MOD_ registers and keys as they stood when the clocks stopped: what reads return during freeze (R278). -/
  stopRegs : List (Nat × Word) := []
  stopCfg : List (Nat × Word) := []
  deriving DecidableEq, Repr

/-- A refresh notch of a half-bridge (R311): the timebase (2^-32 ns) at its start, and how many of its later edges have passed: the
low switch's turn-on and turn-off. -/
structure Notch where
  start : Nat := 0
  stage : Nat := 0
  deriving DecidableEq, Repr

/-- Gate drive and bus (polder 13, chapter 10) beside their GDR_ registers. -/
structure GdrSt where
  /-- Causes of the present holds, per half-bridge: bits 1 to 6 as GDR_HBn_FAULT. -/
  cause : List Nat := [0, 0, 0, 0]
  /-- Channels (GD0 to GD7) whose input has had an edge since their half-bridge's newest cause, with the conditions of every set cause
absent (R309). -/
  edges : BitVec 8 := 0
  /-- The refresh notches in progress, per half-bridge (R311). -/
  notch : List (Option Notch) := [none, none, none, none]
  /-- Comparators 1 to 3 above (bits 0 to 2). -/
  above : BitVec 3 := 0
  /-- The OV3 block was released; the half-bridges return at the next boundary (R318). -/
  ov3Wait : Bool := false
  /-- The chopper function commands on; its check runs (R319). -/
  chop : Bool := false
  check : Bool := false
  /-- The Sluice request of the entry in force has closed the command; a closure waits (R321, R322). -/
  sluice : Bool := false
  sluiceWait : Bool := false
  deriving DecidableEq, Repr

/-- Lands and channel dies outside the polders. -/
structure PinSt where
  /-- Channel dies GD0 to GD8: output on. -/
  gates : BitVec 9 := 0
  /-- Lands TRIP0 to TRIP3: high. -/
  trips : BitVec 4 := 0
  deriving DecidableEq, Repr



/-- A Warden's exchange (R364); the checksum stands for the copy of WRD_CFG it is formed over. -/
structure WrdExchange where
  guard : Bool
  discrepancy : Bool
  estop : Bool
  state : Nat
  tested : Bool
  enable : Bool
  safeOut : Bool
  readback : Bool
  /-- Time since the start of the most recent test pulse, in 100 µs; none before the first. -/
  pulseAge : Option Nat
  checksum : Word
  deriving DecidableEq, Repr

/-- A Warden channel beside its status register. -/
structure WrdChan where
  /-- Filtered levels of GUARD_x1, GUARD_x2 and ESTOP_x; none before the first one (R358). -/
  guard1 : Option Bool := none
  guard2 : Option Bool := none
  estop : Option Bool := none
  /-- Last exchange sent, and last exchange received from the partner. -/
  sent : Option WrdExchange := none
  got : Option WrdExchange := none
  /-- The last comparison showed a discrepancy of kind CROSS, CONFIG. -/
  cross : Bool := false
  config : Bool := false
  /-- No intact exchange has arrived for 2 ms (SILENT). -/
  silent : Bool := false
  /-- There was a discrepancy at the last exchange this channel sent. -/
  disc : Bool := false
  /-- A test pulse is in progress. -/
  pulse : Bool := false
  /-- Age the next exchange reports of the most recent test pulse, in 100 µs; none before the first. -/
  pulseAge : Option Nat := none
  /-- The automatic release request of this stay in ARMED is still to be made (R363). -/
  autoReq : Bool := false
  deriving DecidableEq, Repr

/-- The Wardens (polders 14 and 15). -/
structure WrdSt where
  a : WrdChan := {}
  b : WrdChan := {}
  deriving DecidableEq, Repr

/-- The roles; `none` for the reserved strap code and while the role latch holds nothing. -/
inductive Role where
  | station
  | cell
  | port
  | none
  deriving DecidableEq, Repr

/-- A journal record (Table 13-5), and the generation named in its flash word (R385). -/
structure JRecord where
  seq : Nat
  time : Nat
  seconds : Word
  kind : Nat
  internal : Bool
  mailbox : Nat
  origin : Nat
  key : Nat
  old : Word
  new : Word
  gen : Nat := 0
  deriving DecidableEq, Repr

/-- The commit record word of a generation (R382). -/
structure GenRecord where
  gen : Nat
  count : Nat
  crc : Word
  deriving DecidableEq, Repr

/-- The words of a generation as its slot holds them (R382): the header's generation number and entry count; the entry words, one per
CFG register of the role it was written in (unlisted: reset value); the commit record, none while it is not programmed or not intact
under ECC; `spoilt` says that a header or entry word has wrong bits that the ECC does not correct (R381). -/
structure SlotSt where
  gen : Nat
  count : Nat
  role : Role
  cfg : List (Nat × Word)
  record : Option GenRecord := none
  spoilt : Bool := false
  deriving DecidableEq, Repr

/-- For whom a commit runs: VAULT_COMMIT of a mailbox; a command's internal commit, with the answer it gives on success;
an action of the device itself, the operation of a ring or a swap (R138). -/
inductive CommitFor where
  | host (n : Nat)
  | command (n : Nat) (status : Nat) (data : List Byte)
  | own (who : Nat)
  deriving DecidableEq, Repr

/-- The operations of a commit, in order (R383). -/
inductive VaultStage where
  | erase
  | page (left : Nat)
  | journal
  | record
  deriving DecidableEq, Repr

/-- A commit in progress (R383). -/
structure VaultOp where
  for_ : CommitFor
  /-- The keys it changes, in the order of their journal records, with the origins of R139. -/
  keys : List StagedKey
  internal : Bool
  /-- The Vault's own records: kind, OLD, NEW. Those of a sector remapped meanwhile come last. -/
  own : List (Nat × Word × Word)
  seconds : Word
  /-- The operation that runs, or starts at the next reading within the window. -/
  stage : VaultStage := .erase
  busy : Bool := false
  /-- A first reading within the window has come: something is written. -/
  begun : Bool := false
  /-- The ns times at which the journal records are written, once their programming has begun. -/
  times : List Nat := []
  deriving DecidableEq, Repr

/-- The Vault (polder 3; its flash keeps its contents). -/
structure VltSt where
  slots : List (Option SlotSt) := [none, none, none, none]
  /-- Generation in force and its slot. -/
  gen : Nat := 0
  slot : Nat := 0
  journal : List JRecord := []
  /-- VLT_JNL_FIRST and VLT_JNL_NEXT. -/
  first : Nat := 1
  next : Nat := 1
  /-- Aborted commits not yet recorded: generation, and whether the device saw the abort and has not stopped since (R385). -/
  aborts : List (Nat × Bool) := []
  /-- Sectors remapped and not yet recorded: logical sector, spare (R387). -/
  remaps : List (Nat × Nat) := []
  /-- The logical sector that the last write at a start-up used (R385, R387). -/
  startWrite : Option Nat := none
  op : Option VaultOp := none
  /-- The image of the export in progress (R132). -/
  image : Option (List Byte) := none
  /-- Physical sector of each logical sector, erase cycles of each physical sector, sectors marked bad, spares used (R387). -/
  map : List Nat := List.range 64
  erases : List Nat := List.replicate 72 0
  bad : List Nat := []
  spares : Nat := 0
  /-- Source 202 is to be raised when the free records fall to its level. -/
  lowArm : Bool := true
  /-- Statuses of ended commits of the device's own actions: the operation of a ring (0 to 2), a swap (4). -/
  results : List (Nat × Nat) := []
  deriving DecidableEq, Repr

/-- The timebase (polder 1) beside its TIM_ registers (chapter 14). -/
structure TimeSt where
  /-- The timebase in units of 2^-32 ns. -/
  now : Nat := 0
  /-- The grid instant taken last at each RATE: the second mark then in TIM_SECOND, and k (R407). -/
  grid : List (Nat × Nat × Nat) := []
  deriving DecidableEq, Repr

/-- A sample that waits for the launch of its frame: smpCnt, the round of each converter started at its instant, and the
results of that round written so far, per channel: code and SAT (R411, R412). -/
structure SvWait where
  count : Nat
  rounds : List (Option Nat)
  values : List (Option (Int × Bool))
  deriving DecidableEq, Repr

/-- What a queued frame carries: a frame; the host's transmit slot; samples of a publisher whose content is fixed at launch; a
GOOSE repeat, fixed at formation. -/
inductive TxWhat where
  | frame (f : EthFrame)
  | slot (j : Nat) (f : EthFrame)
  | sv (p : Nat) (seq : Option Nat) (samples : List SvWait)
  | goose (g : Nat) (f : EthFrame)
  deriving DecidableEq, Repr

/-- A frame that waits for a port: its class (Table 14-1) and launch time. -/
structure TxFrame where
  cls : Nat
  launch : Option Nat
  what : TxWhat
  deriving DecidableEq, Repr

/-- A redundant frame as the duplicate table holds it: sequence number, ports seen (bit p), time of its last copy. -/
structure DupEntry where
  src : List Byte
  seq : Nat
  ports : Nat
  time : Nat
  deriving DecidableEq, Repr

/-- A host receive slot (Table 14-2). -/
structure RxSlot where
  port : Nat
  stamp : Nat
  frac : Nat
  bytes : List Byte
  deriving DecidableEq, Repr

/-- A host transmit slot (Table 14-2): its control word, stamps, and the memory words by offset. -/
structure TxSlot where
  ctrl : Word := 0
  stamps : List Nat := [0, 0]
  fracs : List Nat := [0, 0]
  /-- Ports on which the frame has still to leave. -/
  left : Nat := 0
  mem : List (Nat × Word) := []
  deriving DecidableEq, Repr

/-- The Ethernet ports (polder 7) beside the NET_ registers. -/
structure NetSt where
  /-- Waiting frames per port, in arrival order, and the frame in transmission. -/
  waiting : List (List TxFrame) := [[], []]
  sending : List (Option TxFrame) := [none, none]
  /-- The next redundancy sequence number. -/
  seq : Nat := 0
  dups : List DupEntry := []
  /-- Receive slots: contents, index of the oldest, number filled. -/
  rx : List (Option RxSlot) := List.replicate 8 none
  head : Nat := 0
  count : Nat := 0
  tx : List TxSlot := [{}, {}, {}, {}]
  /-- Last management request accepted: source, TAG, time. -/
  mgmt : Option (List Byte × Byte × Nat) := none
  deriving DecidableEq, Repr

/-- A sampled-values subscription (R413, R414). -/
structure SvSub where
  valid : Bool := false
  /-- Valid at some time since the last commit. -/
  was : Bool := false
  /-- The last smpCnt taken; consecutive accepted frames without a gap. -/
  last : Option Nat := none
  run : Nat := 0
  deriving DecidableEq, Repr

/-- A GOOSE publisher (R417). -/
structure GsePub where
  stNum : Nat := 0
  sqNum : Nat := 0
  /-- Interval to the next transmission, in µs. -/
  interval : Nat := 0
  /-- Values of the members at the last state. -/
  last : List Word := []
  deriving DecidableEq, Repr

/-- A GOOSE subscription (R418, R419). -/
structure GseSub where
  valid : Bool := false
  was : Bool := false
  /-- stNum and sqNum last taken. -/
  last : Option (Nat × Nat) := none
  deadline : Nat := 0
  deriving DecidableEq, Repr

/-- Streams (polder 8) beside the SV_ and GSE_ registers. -/
structure StmSt where
  pub : List (List SvWait) := List.replicate 8 []
  sub : List SvSub := List.replicate 16 {}
  gpub : List GsePub := List.replicate 16 {}
  gsub : List GseSub := List.replicate 64 {}
  /-- GOOSE trips asserted, and the level of each while its subscription was last valid (R420). -/
  trips : BitVec 8 := 0
  tripHeld : BitVec 8 := 0
  deriving DecidableEq, Repr

/-- A sample instant of a profile: tide, step k, ns time. -/
structure GalInstant where
  tide : Nat
  step : Nat
  ns : Nat
  deriving DecidableEq, Repr

/-- A capture profile beside its GAL_ registers (R425 to R432). -/
structure GalProf where
  /-- State code of Table 15-2. -/
  state : Nat := 0
  /-- The slot being filled, and the next position in it. -/
  slot : Nat := 0
  pos : Nat := 0
  /-- Samples stored since the last entry into FILLING. -/
  stored : Nat := 0
  /-- Their instants, newest first (the last 80). -/
  recent : List GalInstant := []
  /-- The words of the last sample, by channel (R428). -/
  last : List (Nat × Word) := []
  /-- Per condition, the direction that fired and has not returned (true: rising). -/
  fired : List (Option Bool) := [none, none]
  /-- Samples since one taken with TIMEBASE_DEGRADED, since one across the wrap of R6. -/
  degraded : Option Nat := none
  wrapped : Option Nat := none
  /-- The instant of the last sample, stored or not. -/
  seen : Option GalInstant := none
  /-- Triggers counted in a hold-off (R430). -/
  counted : Nat := 0
  /-- Last event time taken per line: tide and offset (R432). -/
  taken : List (Nat × Nat × Nat) := []
  /-- Index of the record in progress, and its samples from the trigger sample on (R426). -/
  record : Nat := 0
  got : Nat := 0
  deriving DecidableEq, Repr

/-- A record descriptor (Table 15-3). -/
structure GalRecord where
  index : Nat
  profile : Nat
  complete : Bool
  overwritten : Bool
  degraded : Bool
  nointerp : Bool
  tidewrap : Bool
  cause : Nat
  lines : Word
  other : Nat
  frac : Nat
  div : Nat
  jTide : Nat
  jStep : Nat
  jNs : Nat
  seconds : Word
  pre : Nat
  post : Nat
  start : Nat
  base : Nat
  limit : Nat
  chmask : Word
  gen : Word
  deriving DecidableEq, Repr

/-- The Gallery (polder 9). -/
structure GallerySt where
  prof : List GalProf := [{}, {}, {}, {}]
  /-- The last 64 descriptors, newest first. -/
  records : List GalRecord := []
  /-- Index the next record receives. -/
  next : Nat := 0
  /-- Records not freed: index, profile, first byte, end; oldest first. -/
  held : List (Nat × Nat × Nat × Nat) := []
  /-- The SRAM by byte offset. -/
  mem : List (Nat × Byte) := []
  deriving DecidableEq, Repr

/-- A message of the twin link under way: type (1 request, 2 response), 64 bytes, the next chunk, the mailbox it concerns. -/
structure TwinMsg where
  type : Nat
  bytes : List Byte
  chunk : Nat
  mailbox : Nat
  deriving DecidableEq, Repr

/-- Twin operation (R439 to R455) beside the TWN_ registers. -/
structure TwinSt where
  /-- EN in force. -/
  operating : Bool := false
  /-- The partner was seen since PAIRING was entered; tides of silence on both paths after READY, up to 1,000. -/
  partnerSeen : Bool := false
  silentBoth : Nat := 0
  /-- Tides since the later of the last swap and the pairing; when a refused swap is tried again (R455). -/
  hourTides : Nat := 0
  retryAt : Option Nat := none
  /-- In this tide: an intact twin-link frame came; its ECHO_COUNT, or that of a ring frame of the partner, advanced. -/
  linkGot : Bool := false
  linkMoved : Bool := false
  ringMoved : Bool := false
  /-- An intact frame came in the last tide; one with the partner's CFG_CRC has come. -/
  linkHere : Bool := false
  crcKnown : Bool := false
  /-- Consecutive tides without an advancing frame, up to 255. -/
  linkSilent : Nat := 0
  ringSilent : Nat := 0
  /-- Last ECHO_COUNT on the link and per ring. -/
  linkCount : Option Nat := none
  ringCount : List (Option Nat) := [none, none, none, none]
  /-- The partner's device ID, as known with its last frame (R26, R30). -/
  partnerId : Nat := 0
  /-- The partner's ECHO_STATE, COMMITTED and RESYNC as last received. -/
  partner : Nat := 0
  partnerCommitted : Bool := false
  partnerResync : Bool := false
  /-- The partner's RING_OK by tide of its frame; own record sources are looked up. -/
  partnerRings : Option (Nat × Nat) := none
  /-- Own command areas, by ring, of the last tides (R453). -/
  areas : List (Nat × List (List Byte)) := []
  /-- Arrival of the partner's last frame here, and of ours there, in 15.625 ps. -/
  xOwn : Option Int := none
  xPartner : Option Int := none
  /-- Twin B: where its boundary belongs, in 15.625 ps on the scale of the placement (R443). -/
  target : Int := 0
  /-- An advancing ACTIVE partner was seen while ACTIVE (R452). -/
  rival : Bool := false
  /-- The active's BLOCKED and OV2: received, and in effect. -/
  blockedNext : Bool := false
  ov2Next : Bool := false
  blocked : Bool := false
  ov2 : Bool := false
  /-- Results of this tide; those of the tide before (for the next frame, and for a standby that misses one). -/
  shareNow : List SharedRes := []
  shareLast : List SharedRes := []
  /-- Shared results by the tide of their presentation; presented ones, newest first. -/
  shared : List (Nat × List SharedRes) := []
  presented : List SharedRes := []
  /-- Inputs to be sent; inputs that wait for their boundary. -/
  queueOut : List TwinInput := []
  queued : List (Nat × TwinInput) := []
  /-- Last values sent: own sensors by number, GOOSE analogue. -/
  sentSensors : List (Nat × Nat) := []
  sentGoose : Option (Option Int) := none
  /-- In effect: GOOSE analogue; voltages of a sample so far; smpCnt of the last sample. -/
  goose : Option Int := none
  svParts : List (Nat × Option Int) := []
  svLast : Option Nat := none
  /-- Messages to be sent; chunks received, with the type. -/
  msgOut : List TwinMsg := []
  msgIn : List (Option (List Byte)) := [none, none, none]
  /-- Mailboxes (by number) whose copied command starts at a tide's boundary. -/
  starts : List (Nat × Nat) := []
  /-- Telemetry to be sent to a twin B whose chain is cut: slot, ring, selector, record tide, value. -/
  teleOut : List (Nat × Nat × Nat × Nat × Nat) := []
  /-- Tides to the swap boundary; the mailbox that waits for it (none: the device's own swap). -/
  swapIn : Option Nat := none
  swapBy : Option Nat := none
  /-- The internal commit of PREF after a swap is to be made; it has begun. -/
  swapCommit : Bool := false
  swapBegan : Bool := false
  /-- The mailbox of a TWIN_RESYNC that runs. -/
  resyncBy : Option Nat := none
  /-- A copied commit is complete here and waits for the partner: the configuration before it. -/
  commitHeld : Option (List (Nat × Word)) := none
  /-- COMMITTED went out in the last frame. -/
  committedSent : Bool := false
  /-- The partner's commit of the same keys failed: the keys act here, and the twins are no longer matched (R447). -/
  alone : Bool := false
  /-- This twin became active without its partner's frame of the tide: its own results of the tide before go on (R450, R451). -/
  tookOver : Bool := false
  /-- Tides, up to 1,024, for which an UNALIGNED twin B has measured the twin link (Table 5-11, R443). -/
  measured : Nat := 0
  /-- The active's snapshot for a resync is to be taken at the end of this decision (R454). -/
  snapWait : Bool := false
  /-- Tide and CMD_CRC of the active's last frame (R453, R454). -/
  crcSeen : Option (Nat × Nat) := none
  deriving DecidableEq, Repr

/-- A bring-in or retirement that runs (R458 to R464): OP of SPR_STATUS, the mailbox (none: the device's own), ring, slot, STEP,
tides since acceptance and in this step. -/
structure SpareOp where
  kind : Nat
  mailbox : Option Nat
  ring : Nat
  slot : Nat
  step : Nat
  since : Nat
  inStep : Nat
  /-- The target slept at acceptance; it was found as expected, its Wardens released (R459). -/
  asleep : Bool
  verified : Bool
  /-- A retirement marks the position failed (R464). -/
  failed : Bool
  /-- An internal commit of the operation runs. -/
  commit : Bool
  /-- A worn cell to be retired after this bring-in; a failed one is to be replaced after this retirement. -/
  worn : Option Nat
  replace : Bool
  /-- Output state of a cell that charges. -/
  code : Nat
  /-- Requests sent in the verification of a target (Table 16-7). -/
  asked : Nat := 0
  /-- The commit of FIRST_ASLEEP of a woken target has still to be completed. -/
  sleepKey : Bool := false
  deriving DecidableEq, Repr

/-- Spares (station) beside the SPR_ registers. -/
structure SpareSt where
  ops : List SpareOp := []
  /-- Triggers of automatic actions that wait: ring, slot, failed or worn. -/
  auto : List (Nat × Nat × Bool) := []
  /-- Tides with FAULT of 3 or more, per position (128 * ring + slot). -/
  faults : List (Nat × Nat) := []
  /-- Positions that reported WEAR. -/
  worn : List Nat := []
  /-- Interrupt 242 was raised for a stack (bit x). -/
  low : BitVec 3 := 0
  /-- Requests of the device's own sent so far: their TAG counts them, so that none is taken for a repeat (R171). -/
  sent : Nat := 0
  /-- Stacks whose charging cell changes state in this tide (R461). -/
  still : BitVec 3 := 0
  deriving DecidableEq, Repr

/-- Wear measurement of a cell (R456): the last reversal, the extreme since, its direction (true: rising), hot samples of 10 ms,
ripple tides, tides since the AFE last changed state. -/
structure WearSt where
  turn : Option Int := none
  peak : Int := 0
  rising : Bool := true
  hot : Nat := 0
  ripple : Nat := 0
  quiet : Nat := 1000
  /-- The AFE and DAB switching counts while polder 10, which shows them, is off: as loaded at the start of polder 1, or as counted. -/
  switching : Option (Nat × Nat) := none
  deriving DecidableEq, Repr


/-- The whole block. -/
structure State where
  /-- Registers, by byte address: bits that are not configuration. Unlisted: reset value. -/
  regs : List (Nat × Word) := []
  /-- CFG registers as committed (what CONFIG_READ and the host read). Unlisted: reset value. -/
  cfg : List (Nat × Word) := []
  /-- CFG registers as the blocks use them (a key whose change waits still holds its old value here). -/
  eff : List (Nat × Word) := []
  pwr : PowerSt := {}
  clk : ClockSt := {}
  /-- The unit that HD carried in the last bus cycle; none where HD stayed high-impedance throughout it (R65, R68). HD is driven
  within a read cycle alone, and a cycle is one step: between commands HD is high-impedance (`State.hdLand`). -/
  hdRead : Option (BitVec 16) := none
  bus : PortSt := {}
  spiPort : PortSt := {}
  spi : SpiSt := {}
  rve : ReeveSt := {}
  flt : FaultSt := {}
  int : IntSt := {}
  str : StrataSt := {}
  cul : CulvertSt := {}
  adc : AdcSt := {}
  dpc : DpcSt := {}
  mod : ModSt := {}
  gdr : GdrSt := {}
  pins : PinSt := {}
  lpe : LpeSt := {}
  wrd : WrdSt := {}
  vlt : VltSt := {}
  thm : ThmSt := {}
  tim : TimeSt := {}
  net : NetSt := {}
  stm : StmSt := {}
  gal : GallerySt := {}
  twn : TwinSt := {}
  spr : SpareSt := {}
  wear : WearSt := {}
  /-- Error signal of source 1 (R83). -/
  dripLost : Bool := false
  /-- The next free value (the model's own, assumption 1). -/
  free : Nat := 0
  /-- The commands that wait, first in, first out. -/
  pending : List Instr := []
  deriving DecidableEq, Repr

/-- The machine right after VCREST rose (assumption 2): every register at its reset value, Crest alone on, the start
cause POWER_ON latched, no command waiting. -/
def State.reset : State := {}

end Sys2Proof.Machine
end

