-- ==== Sys2Proof/Machine/Ops.lean ====
section
/-! DEFINITION. Named operations over registers, polders and roles. -/
namespace Sys2Proof.Machine

/-- The answer of a meaning that completes. -/
abbrev Ans := Host.Outcome State Fault Refusal

/-! ## One part of the state replaced -/

def State.withRegs (s : State) (v : List (Nat × Word)) : State := { s with regs := v }
def State.withCfg (s : State) (v : List (Nat × Word)) : State := { s with cfg := v }
def State.withEff (s : State) (v : List (Nat × Word)) : State := { s with eff := v }
def State.withPwr (s : State) (v : PowerSt) : State := { s with pwr := v }
def State.withClk (s : State) (v : ClockSt) : State := { s with clk := v }
def State.withHdRead (s : State) (v : Option (BitVec 16)) : State := { s with hdRead := v }
def State.withBus (s : State) (v : PortSt) : State := { s with bus := v }
def State.withSpiPort (s : State) (v : PortSt) : State := { s with spiPort := v }
def State.withSpi (s : State) (v : SpiSt) : State := { s with spi := v }
def State.withRve (s : State) (v : ReeveSt) : State := { s with rve := v }
def State.withFlt (s : State) (v : FaultSt) : State := { s with flt := v }
def State.withInt (s : State) (v : IntSt) : State := { s with int := v }
def State.withStr (s : State) (v : StrataSt) : State := { s with str := v }
def State.withCul (s : State) (v : CulvertSt) : State := { s with cul := v }
def State.withAdc (s : State) (v : AdcSt) : State := { s with adc := v }
def State.withDpc (s : State) (v : DpcSt) : State := { s with dpc := v }
def State.withMod (s : State) (v : ModSt) : State := { s with mod := v }
def State.withGdr (s : State) (v : GdrSt) : State := { s with gdr := v }
def State.withPins (s : State) (v : PinSt) : State := { s with pins := v }
def State.withLpe (s : State) (v : LpeSt) : State := { s with lpe := v }
def State.withWrd (s : State) (v : WrdSt) : State := { s with wrd := v }
def State.withVlt (s : State) (v : VltSt) : State := { s with vlt := v }
def State.withThm (s : State) (v : ThmSt) : State := { s with thm := v }
def State.withTim (s : State) (v : TimeSt) : State := { s with tim := v }
def State.withNet (s : State) (v : NetSt) : State := { s with net := v }
def State.withStm (s : State) (v : StmSt) : State := { s with stm := v }
def State.withGal (s : State) (v : GallerySt) : State := { s with gal := v }
def State.withTwn (s : State) (v : TwinSt) : State := { s with twn := v }
def State.withSpr (s : State) (v : SpareSt) : State := { s with spr := v }
def State.withWear (s : State) (v : WearSt) : State := { s with wear := v }
def State.withDripLost (s : State) (v : Bool) : State := { s with dripLost := v }
def State.withFree (s : State) (v : Nat) : State := { s with free := v }

/-! ## Registers -/

/-- The register at byte address `a`: its bits that are not configuration. -/
def State.word (s : State) (a : Nat) : Word := (SMap.find s.regs a).getD (resetWord a)

/-- The register at `a` as committed configuration. -/
def State.cfgWord (s : State) (a : Nat) : Word := (SMap.find s.cfg a).getD (resetWord a)

/-- The register at `a` as the blocks use it. -/
def State.effWord (s : State) (a : Nat) : Word := (SMap.find s.eff a).getD (resetWord a)

/-- `s` with the register at `a` set to `v`. -/
def State.setWord (s : State) (a : Nat) (v : Word) : State := s.withRegs (SMap.set s.regs a v)

/-- The number a field holds (no configuration key). -/
def State.get (s : State) (f : Fld) : Nat := bitsOf (s.word f.addr) f.lo f.w

/-- The same, read as a signed number. -/
def State.getS (s : State) (f : Fld) : Int := toSigned f.w (s.get f)

/-- True when a one-bit field holds 1. -/
def State.is (s : State) (f : Fld) : Bool := s.get f != 0

/-- `s` with a field set to (the low bits of) `v`. -/
def State.put (s : State) (f : Fld) (v : Nat) : State := s.setWord f.addr (setBits (s.word f.addr) f.lo f.w v)

/-- `s` with a field set to the two's complement of `i`. -/
def State.putS (s : State) (f : Fld) (i : Int) : State := s.put f (ofSigned f.w i)

/-- `s` with a field set to 1 or 0. -/
def State.flag (s : State) (f : Fld) (b : Bool) : State := s.put f (b2n b)

/-- `s` with a counting field advanced by one, saturating. -/
def State.bump (s : State) (f : Fld) : State := s.put f (satInc f.w (s.get f))

/-- `s` with a counting field advanced by one, wrapping. -/
def State.bumpWrap (s : State) (f : Fld) : State := s.put f (s.get f + 1)

/-- The value of a configuration key as its block uses it. -/
def State.cf (s : State) (f : Fld) : Nat := bitsOf (s.effWord f.addr) f.lo f.w

/-- The same, signed. -/
def State.cfS (s : State) (f : Fld) : Int := toSigned f.w (s.cf f)

/-- True when a one-bit configuration key in effect is 1. -/
def State.cfIs (s : State) (f : Fld) : Bool := s.cf f != 0

/-- The value of a configuration key as committed. -/
def State.cfgOf (s : State) (f : Fld) : Nat := bitsOf (s.cfgWord f.addr) f.lo f.w

/-- The configuration in effect of the registers whose address satisfies `p` becomes the committed one. -/
def State.applyKeys (s : State) (p : Nat → Bool) : State :=
  s.withEff ((s.cfg.filter (fun kv => p kv.1)).foldl (fun m kv => SMap.set m kv.1 kv.2)
                    (s.eff.filter (fun kv => !p kv.1)))

/-- True when a register whose address satisfies `p` holds committed keys that are not yet in effect. -/
def State.keysWait (s : State) (p : Nat → Bool) : Bool :=
  (s.cfg.any (fun kv => p kv.1 && s.effWord kv.1 != kv.2)) ||
  (s.eff.any (fun kv => p kv.1 && s.cfgWord kv.1 != kv.2))

/-! ## Free values -/

/-- A fresh value below `n` that nothing constrains, and the state that has used it (assumption 1). -/
def State.fresh (s : State) (n : Nat) : Nat × State := (Config.freeValue s.free % n, (s.withFree (s.free + 1)))

/-! ## Roles (R11 to R13, R17) -/

/-- The role a strap setting selects (R12). -/
def roleOf (t : Straps) : Role :=
  match t.role1, t.role0 with
  | false, false => .station
  | false, true => .cell
  | true, false => .port
  | true, true => .none

/-- The latched role. -/
def State.role (s : State) : Role := match s.pwr.latch with | some t => roleOf t | none => .none

def State.isStation (s : State) : Bool := s.role == .station
def State.isCell (s : State) : Bool := s.role == .cell
def State.isPort (s : State) : Bool := s.role == .port

/-- The bit of a role in a role mask. -/
def Role.bit : Role → Nat
  | .station => 1
  | .cell => 2
  | .port => 4
  | .none => 0

/-- True when the mask `m` names role `r`. -/
def inRole (m : Nat) (r : Role) : Bool := m / r.bit % 2 == 1 && r != .none

/-- True when the latched TWIN strap selects station B (R13; ignored in cell and port roles). -/
def State.isTwinB (s : State) : Bool := match s.pwr.latch with | some t => t.twin && roleOf t == .station | none => false

/-- The polders a role uses (Table 1-2). -/
def rolePolders : Role → List Nat
  | .station => [0, 1, 2, 3, 4, 5, 6, 7, 8, 9, 10, 11, 12, 13, 14, 15]
  | .cell => [0, 1, 2, 3, 4, 5, 9, 10, 11, 12, 13, 14, 15]
  | .port => [0, 1, 2, 3, 4, 5, 9, 10, 11, 12, 13, 14, 15]
  | .none => [0]

/-- Polder `p` is on and past power-good. -/
def State.isOn (s : State) (p : Nat) : Bool := s.pwr.on.getLsbD p

/-- R53: bank VIO1, VIO2 or VIO3 has its supply. -/
def State.bank (s : State) (n : Nat) : Bool :=
  match n with
  | 1 => s.pwr.vio.getLsbD 0
  | 2 => s.pwr.vio.getLsbD 1
  | _ => s.pwr.vio3

/-- The device is awake past start-up or at rest in it: STARTING, SERVICE or READY. -/
def State.awake (s : State) : Bool :=
  s.pwr.phase == .starting || s.pwr.phase == .service || s.pwr.phase == .ready

/-! ## Time -/

/-- The ns timebase (R402): the whole nanoseconds, modulo 2^32. -/
def State.nowNs (s : State) : Nat := s.tim.now / 2 ^ 32 % 2 ^ 32

/-- The last on-die reading, 0.0625 °C per count (held in Crest, R82). -/
def State.dieTemp (s : State) : Int := s.getS F.THM_DIE_TEMP

end Sys2Proof.Machine
end

