-- ==== Sys2Proof/Machine/Ints.lean ====
section
/-! DEFINITION. Interrupts and the event strata: raising a source, presentation to targets, offering and accepting
Strata entries (11_faults_interrupts.md R340 to R352, R471). -/
namespace Sys2Proof.Machine

/-- Offer an entry to the queue of Strata port `q`; the second part says that it was dropped (R349). -/
def offerCore (t : StrataSt) (q : Nat) (e : StrataOffer) : StrataSt × Bool :=
  let l := t.queues.getD q []
  if l.length < 16 then ({ t with queues := t.queues.set q (l ++ [e]) }, false)
  else ({ t with drop := satInc 16 t.drop }, true)

/-- The entry of a raise of interrupt source `n` (Table 11-4). -/
def raiseEntry (n : Nat) : StrataOffer := ⟨2, 0, false, false, n⟩

/-- An entry among entries of one core clock, by ascending source (R349). -/
def insertRaise (e : StrataOffer) : List StrataOffer → List StrataOffer
  | [] => [e]
  | x :: xs => if x.code ≤ e.code then x :: insertRaise e xs else e :: x :: xs

/-- R349: a raise of source `n` is offered: among the raises of the same core clock it stands in ascending source order. With a
full queue the last entry of that order is dropped, which the second part says. -/
def offerRaise (t : StrataSt) (n : Nat) : StrataSt × Bool :=
  let l := t.queues.getD 2 []
  let l' := l.take (l.length - t.now) ++ insertRaise (raiseEntry n) (l.drop (l.length - t.now))
  if l.length < 16 then ({ t with queues := t.queues.set 2 l', now := t.now + 1 }, false)
  else ({ t with queues := t.queues.set 2 (l'.take 16), drop := satInc 16 t.drop }, true)

/-- Raises of source `n` are logged (STR_LOGENk). -/
def State.logged (s : State) (n : Nat) : Bool := natBit (s.cf (F.STR_LOGENk_LOGEN (n / 32))) (n % 32)

/-- Set INT_PEND bit `n`. -/
def State.setPend (s : State) (n : Nat) : State := s.withInt { s.int with pend := s.int.pend ||| (1#256 <<< n) }

/-- A raise of source 167, whose own entry is offered but raises nothing further. -/
def State.raise167 (s : State) : State :=
  if s.int.arm.getLsbD 167 then
    let s := s.setPend 167
    let s := s.withInt { s.int with arm := s.int.arm &&& ~~~(1#256 <<< 167) }
    if s.logged 167 then s.withStr (offerRaise s.str 167).1 else s
  else s

/-- Offer an entry to Strata port `q`; a drop may raise source 167 (R343, R471). -/
def State.offer (s : State) (q : Nat) (e : StrataOffer) : State :=
  if s.isOn 1 then
    let r := offerCore s.str q e
    let s := s.withStr r.1
    if r.2 then s.raise167 else s
  else s

/-- A raise of source `n` is offered to Strata; a drop may raise source 167 (R343, R349, R471). -/
def State.offerRaise (s : State) (n : Nat) : State :=
  let r := Machine.offerRaise s.str n
  let s := s.withStr r.1
  if r.2 then s.raise167 else s

/-- Interrupt source `n` is raised: its pending bit is set, and the raise is offered to Strata if logged (R340, R349).
Without polder 1 nothing is held. -/
def State.raiseInt (s : State) (n : Nat) : State :=
  if s.isOn 1 then
    let s := s.setPend n
    if s.logged n then s.offerRaise n else s
  else s

/-- An event that advances a count: source `n` is raised if its arm bit is set, which clears the bit (R471). -/
def State.raiseFirst (s : State) (n : Nat) : State :=
  if s.int.arm.getLsbD n then
    (s.withInt { s.int with arm := s.int.arm &&& ~~~(1#256 <<< n) }).raiseInt n
  else s

/-- The arm bit of source `n` is set: its count was read as 0, or its polder started (R471). -/
def State.armInt (s : State) (n : Nat) : State :=
  s.withInt { s.int with arm := s.int.arm ||| (1#256 <<< n) }

/-- INT_TGT field of source `n`. -/
def IntSt.target (t : IntSt) (n : Nat) : Nat := (t.tgt.extractLsb' (2 * n) 2).toNat

/-- INT_FBt. -/
def IntSt.fallback (t : IntSt) (k : Nat) : Bool × Nat := t.fb.getD k (false, 0)

/-- Source `n` reaches target `k` through a fallback (R348). -/
def IntSt.viaFallback (t : IntSt) (n k : Nat) : Bool :=
  let h := t.target n
  h != k && t.sleep.getLsbD h && (t.fallback h).1 && (t.fallback h).2 == k

/-- Source `n` is presented to target `k` (R340, R348). -/
def IntSt.presented (t : IntSt) (n k : Nat) : Bool :=
  t.pend.getLsbD n && t.en.getLsbD n && (t.target n == k || t.viaFallback n k)

/-- The highest source below `n` presented to target `k`; 256 when there is none (R340). -/
def IntSt.winnerBelow (t : IntSt) (k : Nat) : Nat → Nat
  | 0 => 256
  | n + 1 => if t.presented n k then n else t.winnerBelow k n

/-- INT_WINNERt with no race (R340). -/
def IntSt.winner (t : IntSt) (k : Nat) : Nat := t.winnerBelow k 256

/-- IRQt (R340). -/
def IntSt.irq (t : IntSt) (k : Nat) : Bool := t.winner k != 256

/-- Source `n` may have left target `k` by a change of masks, targets or fallbacks: a race of two core clocks begins when
it was the winner (R345, R346, R348). -/
def IntSt.raceFrom (old new : IntSt) (fb : Bool) : IntSt :=
  let w := fun k => old.winner k
  let left := fun k => w k != 256 && !new.presented (w k) k
  { new with
    race := [0, 1, 2, 3].map (fun k => if left k then some (w k) else new.race.getD k none),
    raceFb := [0, 1, 2, 3].map (fun k => if left k then fb else new.raceFb.getD k false),
    raceSeen := [0, 1, 2, 3].map (fun k => if left k then 0 else new.raceSeen.getD k 0) }

/-- Events of one kind lie two core clocks apart at least: tide boundaries, the accesses of each host port, ALIVE divider edges. -/
inductive Spaced where
  | tide
  | bus
  | spi
  | alive
  deriving DecidableEq, Repr

/-- The bit of a kind in `IntSt.raceSeen` (bits 3 and 4 are start events of converters). -/
def Spaced.bit : Spaced → BitVec 8
  | .tide => 1
  | .bus => 2
  | .spi => 4
  | .alive => 32

/-- An event of kind `e`: a race that has seen one of its kind already is over, the others have seen it now (assumption 80). -/
def IntSt.spaced (t : IntSt) (e : Spaced) : IntSt :=
  let done := fun k => (t.raceSeen.getD k 0) &&& e.bit != 0
  { t with
    race := [0, 1, 2, 3].map (fun k => if done k then none else t.race.getD k none),
    raceSeen := [0, 1, 2, 3].map (fun k => if done k then 0 else t.raceSeen.getD k 0 ||| e.bit) }

/-- A race that began at an event of kind `e` has seen that event. -/
def IntSt.marked (t : IntSt) (e : Spaced) : IntSt :=
  { t with raceSeen := [0, 1, 2, 3].map (fun k => t.raceSeen.getD k 0 ||| e.bit) }

/-- An event of the kinds `m`: a round that has seen one of them already began in an earlier ADC clock (R192, assumption 80). -/
def AdcConv.spaced (c : AdcConv) (m : BitVec 8) : AdcConv :=
  { c with began := c.began.bind (fun b => if b &&& m != 0 then none else some (b ||| m)) }

/-- An event of the kinds `m` for every converter. -/
def State.adcSpaced (s : State) (m : BitVec 8) : State :=
  s.withAdc { s.adc with conv := s.adc.conv.map (fun c => c.spaced m) }

/-- `s` at an event of kind `e`: open races (R345) and ADC clocks (R192) that have seen one already are over. -/
def State.spaced (s : State) (e : Spaced) : State := (s.withInt (s.int.spaced e)).adcSpaced e.bit

/-- What began at the event of kind `e` that `s` comes from has seen it. -/
def State.marked (s : State) (e : Spaced) : State :=
  (s.withInt (s.int.marked e)).withAdc { s.adc with conv := s.adc.conv.map (fun c => { c with began := c.began.map (· ||| e.bit) }) }

/-- Two core clocks have passed: open races and ADC clocks are over (R345, R346, R348, R192). -/
def State.clocksPassed (s : State) : State :=
  (s.withInt { s.int with race := [none, none, none, none], raceFb := [false, false, false, false], raceSeen := [0, 0, 0, 0] }).withAdc
    { s.adc with conv := s.adc.conv.map (fun c => { c with began := none }) }

/-- What a read of INT_WINNERt returns: the winner, or, while a race is open, one of the values R345, R346 and R348 leave
open, chosen by a free value (assumption 1). -/
def State.readWinner (s : State) (k : Nat) : Nat × State :=
  match s.int.race.getD k none with
  | none => (s.int.winner k, s)
  | some src =>
    let r := s.fresh (if s.int.raceFb.getD k false then 2 else 3)
    (match r.1 with | 0 => src | 1 => s.int.winner k | _ => 256, r.2)

/-- The 64 bits of an entry accepted at ns time `t` (Table 11-4). -/
def entryBits (e : StrataOffer) (t : Nat) : BitVec 64 :=
  BitVec.ofNat 64 (2 ^ 63 + e.kind % 8 * 2 ^ 60 + e.cls % 4 * 2 ^ 58 + b2n e.escalated * 2 ^ 57
    + b2n e.injected * 2 ^ 56 + e.code % 2 ^ 16 * 2 ^ 32 + t % 2 ^ 32)

/-- The first port with a waiting entry, its entry, and the queues without it. -/
def takeOffer : List (List StrataOffer) → Option (StrataOffer × List (List StrataOffer))
  | [] => none
  | [] :: qs => (takeOffer qs).map (fun r => (r.1, [] :: r.2))
  | (e :: l) :: qs => some (e, l :: qs)

/-- The entry `e` enters the log at the present time; a full log loses its oldest unread entry, which counts as an overrun
and may raise source 166 (R350, R352, R471). -/
def State.acceptEntry (s : State) (e : StrataOffer) : State :=
  let b := entryBits e s.nowNs
  if s.str.log.length < 4096 then s.withStr { s.str with log := s.str.log ++ [b] }
  else
    let s := s.withStr { s.str with log := s.str.log.drop 1 ++ [b], overrun := satInc 16 s.str.overrun }
    s.raiseFirst 166

end Sys2Proof.Machine
end

