-- ==== Sys2Proof/Machine/FltOps.lean ====
section
/-! DEFINITION. What the fault collector shows: classes pending, ALIVE, FAULTn, FLT_SUMMARY (11_faults_interrupts.md R333,
R337, R338). -/
namespace Sys2Proof.Machine

/-- Effective class of sticky source `n`. -/
def State.effClass (s : State) (n : Nat) : Nat := (s.flt.level.extractLsb' (2 * n) 2).toNat

/-- R333: class `c` pends. -/
def State.classPend (s : State) (c : Nat) : Bool :=
  (List.range 128).any (fun n => s.flt.sticky.getLsbD n && s.effClass n == c) || (c == 3 && s.pwr.breach)

/-- R333: CLASS_PEND. -/
def State.classes (s : State) : Nat := [0, 1, 2, 3].foldl (fun m c => if s.classPend c then m + 2 ^ c else m) 0

/-- R333: HIGHEST, the FAULT field of the records. -/
def State.highest (s : State) : Nat := [0, 1, 2, 3].foldl (fun h c => if s.classPend c then c + 1 else h) 0

/-- R337: none of the conditions that stop ALIVE holds. -/
def State.aliveMayRun (s : State) : Bool :=
  decide (s.highest ≤ s.cf F.FLT_CONFIG_ALIVE_MIN) && s.is F.PWR_STATE_DRIP_OK && s.pwr.phase == .ready

/-- R338: FAULTn is pulled low. -/
def State.faultnLow (s : State) : Bool :=
  s.isOn 1 && (decide (s.highest > s.cf F.FLT_CONFIG_FAULTN_MIN) || !s.flt.readyOnce)

/-- R337: ALIVE stops, low, as soon as a condition of it holds. -/
def State.aliveFollow (s : State) : State :=
  if s.aliveMayRun then s else s.withFlt { s.flt with aliveRun := false, alive := false }

/-- FLT_SUMMARY. -/
def State.fltSummary (s : State) : Word :=
  BitVec.ofNat 32 (b2n s.pwr.breach * 2 ^ 31 + b2n s.faultnLow * 256 + b2n (!s.flt.aliveRun) * 128 + s.highest * 16 + s.classes)

end Sys2Proof.Machine
end

