-- ==== Sys2Proof/Machine/ReeveOps.lean ====
section
/-! DEFINITION. What every Reeve command uses: the mailboxes, their resources and the forming of responses
(04_host_reeve.md R124 to R129, R136). -/
namespace Sys2Proof.Machine

/-- The status codes of Table 4-7. -/
inductive Status where
  | ok | busy | badArg | refusedState | tempWindow | vaultFull | timeout | notInRole | idExhausted | diverged | factoryOnly
  deriving DecidableEq, Repr

/-- The STATUS byte (Table 4-7). -/
def Status.code : Status → Nat
  | .ok => 0
  | .busy => 1
  | .badArg => 2
  | .refusedState => 3
  | .tempWindow => 4
  | .vaultFull => 5
  | .timeout => 6
  | .notInRole => 7
  | .idExhausted => 8
  | .diverged => 9
  | .factoryOnly => 10

/-- Resource bits of RVE_RESOURCE. -/
def resVault : BitVec 10 := 0x001
def resClock : BitVec 10 := 0x002
def resMeasure : BitVec 10 := 0x004
def resRing (r : Nat) : BitVec 10 := 0x010 <<< r
def resRings (mask : Nat) : BitVec 10 := BitVec.ofNat 10 (mask % 16 * 16)
def resTwin : BitVec 10 := 0x100
def resSleep : BitVec 10 := 0x200

/-- The internal mailboxes for the commands that an active twin copies, at most one of each of its M0 to M2 (R447). -/
def copyMailboxes : List Nat := [4, 9, 10]

/-- The mailboxes whose commands the Reeve executes. Those of its own ring messages, 5 to 8, are not among them. -/
def mailboxes : List Nat := [0, 1, 2, 3] ++ copyMailboxes

/-- Commands that commit: their response waits for the partner's status (R447). -/
def commits (code : Nat) : Bool := [0x09, 0x12, 0x30, 0x40, 0x41].contains code

/-- Mailbox `n`. -/
def State.mb (s : State) (n : Nat) : MbSt := s.rve.mb.getD n {}

/-- `s` with mailbox `n` replaced. -/
def State.setMb (s : State) (n : Nat) (m : MbSt) : State :=
  s.withRve { s.rve with mb := s.rve.mb.set n m }

/-- The resources held now (RVE_RESOURCE). -/
def State.held (s : State) : BitVec 10 := s.rve.mb.foldl (fun h m => h ||| m.held) s.rve.autoHeld

/-- Code, tag, LEN and flags of an accepted request (Table 4-3), and byte `i` of its arguments. -/
def MbSt.code (m : MbSt) : Nat := leAt m.req 0 1
def MbSt.tag (m : MbSt) : Nat := leAt m.req 1 1
def MbSt.len (m : MbSt) : Nat := leAt m.req 2 1
def MbSt.flags (m : MbSt) : Nat := leAt m.req 3 1
def MbSt.arg (m : MbSt) (i n : Nat) : Nat := leAt m.req (4 + i) n

/-- Mailbox states. -/
def mbIdle : Nat := 0
def mbQueued : Nat := 1
def mbExecuting : Nat := 2
def mbDone : Nat := 3

/-- STATE of mailbox `n`. -/
def State.mbState (s : State) (n : Nat) : Nat := if n < 4 then s.get (F.RVE_Mn_STATE_STATE n) else (s.mb n).st

/-- The response of mailbox `n` is formed with a status, data and the bytes 60 to 63; its resources are free again. A status
other than OK has no data (R129). -/
def State.respondWith (s : State) (n : Nat) (st : Status) (data rhdr : List Byte) : State :=
  let m := s.mb n
  let d := if st = .ok then data.take 56 else []
  let rh := if st = .ok then rhdr else []
  s.setMb n { m with
    rsp := [BitVec.ofNat 8 m.code, BitVec.ofNat 8 m.tag, BitVec.ofNat 8 st.code, BitVec.ofNat 8 d.length]
           ++ padTo 56 d ++ padTo 4 rh,
    ready := true, running := false, held := 0 }

/-- The response of mailbox `n` is formed. -/
def State.respond (s : State) (n : Nat) (st : Status) (data : List Byte) : State := s.respondWith n st data []

/-- Mailbox `n` executes a command of code `c` that is neither running on nor answered yet. -/
def State.takes (s : State) (n c : Nat) : Bool :=
  s.isOn 2 && s.mbState n == mbExecuting && (s.mb n).code == c && !(s.mb n).running && !(s.mb n).ready && !(s.mb n).hold && mailboxes.contains n

/-- Mailbox `n` executes a long command of code `c` that runs on. -/
def State.runs (s : State) (n c : Nat) : Bool :=
  s.isOn 2 && s.mbState n == mbExecuting && (s.mb n).code == c && (s.mb n).running && !(s.mb n).ready && mailboxes.contains n

/-- Mailbox `n` runs on with resources held. -/
def State.runOn (s : State) (n : Nat) (r : BitVec 10) : State := s.setMb n { s.mb n with running := true, held := r }

/-- The mailbox that runs a long command of code `c`, if any. -/
def State.runner (s : State) (c : Nat) : Option Nat := mailboxes.find? (fun n => s.runs n c)

/-- Origin of a request (R139): its mailbox, the origin device ID and the seconds extension. A partner's copy and the device's
own requests count as mailbox 0 (DESIGN CHOICE, assumption 71). -/
def State.originOf (s : State) (n : Nat) : Nat × Nat × Word :=
  if n = 3 then (3, (s.mb 3).origin, (s.mb 3).seconds)
  else (if n < 3 then n else 0, s.cf F.HST_DEVICE_ID_DEVICE_ID, s.word R.RVE_HOST_SECONDS)

/-- The 64 request bytes in the request buffer of mailbox `n` (R128). -/
def State.requestBytes (s : State) (n : Nat) : List Byte :=
  (List.range 16).flatMap (fun k => leBytes 4 (s.word (R.RVE_Mn_REQk n k)).toNat)

/-- `s` with 64 bytes in the words of mailbox `n` from the register of word 0 on. -/
def State.fillWords (s : State) (a : Nat) (bs : List Byte) : State :=
  (List.range 16).foldl (fun s k => s.setWord (a + 4 * k) (BitVec.ofNat 32 (leAt bs (4 * k) 4))) s

/-- R125: the doorbell of mailbox `n`: accepted in IDLE and DONE, with a copy of the request; otherwise ignored, and LOST is
set. `f` adds what the mailbox's path knows of the sender. -/
def State.ring (s : State) (n : Nat) (f : MbSt → MbSt) : State :=
  if s.isOn 2 then
    if s.mbState n = mbIdle || s.mbState n = mbDone then
      let req := s.requestBytes n
      let s := s.setMb n (f { req := req })
      let s := s.put (F.RVE_Mn_STATE_TAG n) (leAt req 1 1)
      let s := s.put (F.RVE_Mn_STATE_CODE n) (leAt req 0 1)
      s.put (F.RVE_Mn_STATE_STATE n) mbQueued
    else s.put (F.RVE_Mn_STATE_LOST n) 1
  else s

/-- The doorbell of mailbox `n` would be accepted. -/
def State.ringable (s : State) (n : Nat) : Bool := s.isOn 2 && (s.mbState n == mbIdle || s.mbState n == mbDone)

/-- The commands of Table 4-5: argument length allowed, flag bits allowed. -/
def commandForm (code len flags : Nat) : Option Bool :=
  let exact := fun n => some (len == n && flags == 0)
  match code with
  | 0x01 | 0x02 | 0x08 | 0x12 | 0x21 | 0x42 | 0x43 => exact 0
  | 0x09 | 0x32 | 0x33 | 0x40 | 0x41 | 0x51 => exact 2
  | 0x10 => some (decide (flags < 2) && ((len % 12 == 0 && decide (12 ≤ len ∧ len ≤ 60)) || (len == 0 && flags == 1)))
  | 0x11 => some (len == 4 && decide (flags < 4))
  | 0x13 | 0x14 | 0x28 => exact 4
  | 0x20 | 0x30 | 0x31 | 0x50 | 0x52 | 0x61 => exact 1
  | 0x60 => exact 16
  | 0x70 => some (decide (12 ≤ len ∧ len ≤ 60) && flags == 0)
  | _ => none

/-- The reserved bits of the arguments of a command (Tables 3-5, 4-5 and 4-6), as a mask of its first four argument bytes. -/
def reservedArgs (code : Nat) : BitVec 32 :=
  match code with
  | 0x20 | 0x30 | 0x31 => 0x000000F0
  | 0x28 => 0xFFFFFFF8
  | 0x32 | 0x33 => 0x0000FC00
  | 0x70 => 0xFFFF0000
  | _ => 0

/-- R128: a request is malformed: unknown code, wrong argument length, a reserved flag or a reserved argument bit. -/
def malformed (req : List Byte) : Bool :=
  !(commandForm (leAt req 0 1) (leAt req 2 1) (leAt req 3 1)).getD false
    || BitVec.ofNat 32 (leAt req 4 4) &&& reservedArgs (leAt req 0 1) != 0

/-- Commands of the station role alone (Table 4-5). -/
def stationOnly (code : Nat) : Bool := [0x09, 0x30, 0x31, 0x40, 0x41, 0x42, 0x43, 0x70].contains code

end Sys2Proof.Machine
end

