-- ==== Sys2Proof/Machine/Polders.lean ====
section
/-! DEFINITION. Starting and stopping polders (03_polders_clocks.md R77 to R82, R86, R88). -/
namespace Sys2Proof.Machine

/-- What the Vault's flash keeps without supply; a commit in progress is gone, and no abort counts as seen (R384, R385). -/
def VltSt.nonVolatile (v : VltSt) : VltSt :=
  { v with op := none, image := none, results := [], startWrite := none, aborts := v.aborts.map (fun a => (a.1, false)) }

/-- R384: a supply loss or a fall of VCREST ends a commit: nothing of it is valid, and its abort was not seen. -/
def State.cutCommit (s : State) : State :=
  match s.vlt.op with
  | some o => s.withVlt { s.vlt with
      op := none, aborts := if o.begun then s.vlt.aborts ++ [(s.vlt.gen + 1, false)] else s.vlt.aborts }
  | none => s

/-- The Culvert's state without the ports of polder `p`; the rings belong to polder 5. Which port is the PLL's reference is polder
4's (R90). -/
def CulvertSt.without (c : CulvertSt) (p : Nat) : CulvertSt :=
  if p = 5 then { ports := List.replicate 5 {} ++ c.ports.drop 5, refPort := c.refPort } else { c with ports := c.ports.take 5 ++ List.replicate 5 {} }

/-- R284: without tide boundaries the loop engine publishes 0 for every output; what is not due when boundaries return keeps
that 0 (R287; DEDUCED, assumption 102). -/
def State.lpeSilent (s : State) : State :=
  if s.isOn 11 then
    let s := (List.range 32).foldl (fun s n => s.setWord (R.LPE_LOOPn_OUT n) 0) s
    let s := (List.range 8).foldl (fun s g => (s.setWord (R.LPE_GRPg_OUT g) 0).setWord (R.LPE_GENg_OUT g) 0) s
    s.withLpe { s.lpe with
      pass := none, loops := s.lpe.loops.map (fun l => { l with out := 0 }), groups := s.lpe.groups.map (fun g => (0, g.2)) }
  else s

/-- What a polder's blocks hold beside registers is lost when it goes off (R80); the Vault's flash keeps its contents. Without
polder 13 no gate is on (R55). -/
def State.dropHidden (s : State) (p : Nat) : State :=
  match p with
  | 1 => (((((((((((s.withFlt {}).withInt {}).withStr {}).withBus {}).withSpiPort {}).withSpi {}).withHdRead none).withTim {}).withThm {}).withTwn {}).withSpr {}).withWear {}
  | 2 => s.withRve {}
  | 3 => let s := s.cutCommit; (s.withVlt s.vlt.nonVolatile)
  | 4 => (s.withClk {}).withCul { s.cul with refPort := 0 }
  | 5 => (s.withCul (s.cul.without 5)).lpeSilent
  | 6 => s.withCul (s.cul.without 6)
  | 7 => s.withNet {}
  | 8 => s.withStm {}
  | 9 => s.withGal {}
  | 10 => (s.withDpc {}).withMod {}
  | 11 => s.withLpe {}
  | 12 => ((s.withAdc {}).withPwr { s.pwr with calRun := false }).withRve { s.rve with autoHeld := s.rve.autoHeld &&& ~~~resMeasure }
  | 13 => (s.withGdr {}).withPins { s.pins with gates := 0 }
  | 14 => s.withWrd { s.wrd with a := {} }
  | 15 => s.withWrd { s.wrd with b := {} }
  | _ => s

/-- R456: a cell keeps its switching counts while polder 10 is off. -/
def State.keepSwitching (s : State) (p : Nat) : State :=
  let count := fun (lo : Nat) => (s.word lo).toNat + (s.word (lo + 4)).toNat % 65536 * 2 ^ 32
  if p = 10 && s.isCell && s.isOn 10 then
    s.withWear { s.wear with switching := some (count R.MOD_SW_AFE_LO, count R.MOD_SW_DAB_LO) }
  else s

/-- Polder `p` goes off: registers and memory of its blocks are lost (R80). PWR_STATE lies in polder 1, and R82 does not keep
DRIP_OK: it is 0 after standby until 64 drip cycles have been seen anew, and the drip alarm is unarmed meanwhile (DESIGN CHOICE,
assumption 18). -/
def State.polderOff (s : State) (p : Nat) : State :=
  let s := s.keepSwitching p
  let s := ((s.withPwr { s.pwr with on := s.pwr.on &&& ~~~(1#16 <<< p), starting := s.pwr.starting.filter (· != p) }).withRegs (s.regs.filter (fun kv => polderOf kv.1 != p))).withEff (s.eff.filter (fun kv => polderOf kv.1 != p))
  s.dropHidden p

/-- The polders `ps` go off, in that order. -/
def State.poldersOff (s : State) (ps : List Nat) : State := ps.foldl State.polderOff s

/-- Every polder a start of `p` needs on first (Table 3-1, taken to its end). -/
def polderNeeds : Nat → List Nat
  | 1 => [4]
  | 2 => [4, 1, 3]
  | 3 => [4]
  | 8 => [4, 1, 7]
  | 13 => [4, 1, 14, 15]
  | 0 => []
  | 4 => []
  | _ => [4, 1]

/-- The order in which demanded polders start: groups of Table 3-8, then the Culvert polders. -/
def startOrder : List (List Nat) := [[4], [1, 3], [2, 15], [14], [9, 10, 11, 12], [13], [7], [8], [5, 6]]

/-- The groups of `startOrder` restricted to the polders `want`. -/
def groupsOf (want : List Nat) : List (List Nat) :=
  (startOrder.map (fun g => g.filter (fun p => want.contains p))).filter (fun g => !g.isEmpty)

/-- Drop polders that are on, and groups left empty, from the front of the queue; the first group starts. -/
def nextGroup (on : BitVec 16) : List (List Nat) → List Nat × List (List Nat)
  | [] => ([], [])
  | g :: gs =>
    let h := g.filter (fun p => !on.getLsbD p)
    if h.isEmpty then nextGroup on gs else (h, gs)

/-- When no polder is starting, the next group starts (R78); nothing starts after a start failure (R79). -/
def State.startNext (s : State) : State :=
  if s.pwr.blocked then s.withPwr { s.pwr with queue := [] }
  else if s.pwr.starting.isEmpty then
    let r := nextGroup s.pwr.on s.pwr.queue
    s.withPwr { s.pwr with starting := r.1, queue := r.2 }
  else s

/-- The service plan is in force (CLK_STATUS PLAN), or a relock to it is in progress: the polders of R88 are off and cannot be
started. -/
def State.servicePlan (s : State) : Bool :=
  s.get F.CLK_STATUS_PLAN == 1 || (match s.clk.relock with | some r => r.2 == 1 | none => false)

/-- Polders that the service plan keeps off (R88). -/
def serviceOff : List Nat := [5, 6, 7, 8, 10, 12, 13]

/-- A demand for the polders `ps` of the role: they and what they need start, in order (R78); in the service plan those of
R88 do not. -/
def State.demand (s : State) (ps : List Nat) : State :=
  let ps := ps.filter (fun p => (rolePolders s.role).contains p && !(s.servicePlan && serviceOff.contains p))
  let want := (ps.flatMap (fun p => p :: polderNeeds p)).filter (fun p => !s.isOn p && !s.pwr.starting.contains p)
  (s.withPwr { s.pwr with queue := s.pwr.queue ++ groupsOf want }).startNext

/-- R86, R88: a command of mailbox `n` that needs the polders `ps`: none while they are on. Where the service plan (R88) or a
failed start (R79) keeps one off it answers REFUSED_STATE; otherwise they start, and the command stays in execution until they are
on (assumption 19). -/
def State.needPolders (s : State) (n : Nat) (ps : List Nat) : Option State :=
  if ps.all s.isOn then none
  else if (s.servicePlan && ps.any (fun p => serviceOff.contains p && !s.isOn p)) || s.pwr.blocked then
    some (s.respond n .refusedState [])
  else some (s.demand ps)

/-- The wake latches start empty again; a WAKEn land still low latches at once (R108, R473). -/
def State.clearWake (s : State) : State :=
  let s := s.withPwr { s.pwr with reqWaken := s.pwr.wakenLow, reqDrip := false, reqGuard := false, reqLane := 0,
                                  startCause := false }
  if s.pwr.wakenLow then s.put F.PWR_WAKE_CAUSE_WAKEN 1 else s

/-- The wake latches are empty: only a new wake event starts the device (R103). -/
def State.dropWake (s : State) : State :=
  s.withPwr { s.pwr with reqWaken := false, reqDrip := false, reqGuard := false, reqLane := 0, startCause := false }

/-- Every polder but Crest goes off, in the order of Table 3-10, and the device is in Crest standby. The wake enables take
effect at this entry (R109). -/
def State.toCrest (s : State) : State :=
  let s := s.poldersOff [13, 10, 12, 11, 9, 8, 7, 6, 5, 14, 15, 2, 3, 1, 4]
  let s := s.withCfg (s.cfg.filter (fun kv => polderOf kv.1 == 0))
  let s := s.applyKeys (fun a => polderOf a == 0)
  s.withPwr { s.pwr with phase := .crest, starting := [], queue := [], blocked := false, on := 1, laneTx := 0, laneRx := 0,
                         thermalDone := false, configDone := false, calStarted := false, calRun := false, calDone := false }

end Sys2Proof.Machine
end

