-- ==== Sys2Proof/Machine/CulvertOps.lean ====
section
/-! DEFINITION. Rings and tides: ports, wraps, frames, the CRC, the message channel's layout, tokens, alignment
(05_culvert.md). -/
namespace Sys2Proof.Machine

/-- A fault signal of source `n` is pulsed; the collector takes it at the end of the step (R327). -/
def State.fault (s : State) (n : Nat) : State :=
  if s.isOn 1 then s.withFlt { s.flt with pulses := s.flt.pulses ||| (1#128 <<< n) } else s

/-! ## Ports -/

/-- Port `p` beside its registers. -/
def State.cport (s : State) (p : Nat) : CulPort := s.cul.ports.getD p {}

/-- `s` with port `p` replaced. -/
def State.setCport (s : State) (p : Nat) (c : CulPort) : State :=
  s.withCul { s.cul with ports := s.cul.ports.set p c }

/-- Port `p` transmits `t`. -/
def State.send (s : State) (p : Nat) (t : TxItem) : State := s.setCport p { s.cport p with tx := t }

/-- The polder of a port. -/
def portPolder (p : Nat) : Nat := if p < 5 then 5 else 6

/-- The ports that carry rings (or the twin link) in the device's role (R19, R20). -/
def State.usedPorts (s : State) : List Nat :=
  match s.role with
  | .station => if s.twn.operating then [0, 1, 2, 3, 8] else [0, 1, 2, 3, 4, 5, 6, 7]
  | .cell => [0, 1]
  | .port => [0, 1]
  | .none => []

/-- The own ring index of a cell or port device (R24). -/
def State.ownRing (s : State) : Nat := s.cf F.HST_PLACE_RING

/-- The own slot (R21, R23). -/
def State.ownSlot (s : State) : Nat := if s.isStation then 0 else s.cf F.HST_PLACE_SLOT

/-- R22: the place is committed. -/
def State.placed (s : State) : Bool := s.isStation || s.cf F.HST_PLACE_SLOT != 0

/-- The ring index a port serves (Table 1-4; the own ring in cell and port roles). -/
def State.portRing (s : State) (p : Nat) : Option Nat :=
  if s.isStation then
    if s.twn.operating then (if p < 4 then some p else none) else (if p < 8 then some (p / 2) else none)
  else if p < 2 then some s.ownRing else none

/-- The ring ID of a ring index of this converter (R22). -/
def State.ringId (s : State) (r : Nat) : Nat := s.cf F.HST_PLACE_CONVERTER * 4 + r

/-- R149: a port is usable. -/
def State.usable (s : State) (p : Nat) : Bool :=
  s.get (F.CUL_Pn_STATUS_RX_STATE p) == 5 && s.is (F.CUL_Pn_STATUS_PEER_RX_UP p)

/-- R162: a cell or port device wraps at each used port that is not usable. A wrap at the one usable port ends at once: with both
ports wrapping no frame, and so no UNWRAP, could ever be taken (DEDUCED, assumption 20). -/
def State.updateWraps (s : State) : State :=
  if s.isStation then s
  else
    let u0 := s.usable 0
    let u1 := s.usable 1
    let w := fun (own other : Bool) (p : Nat) => !own || (other && s.is (F.CUL_Pn_STATUS_WRAPPED p))
    (s.flag (F.CUL_Pn_STATUS_WRAPPED 0) (w u0 u1 0)).flag (F.CUL_Pn_STATUS_WRAPPED 1) (w u1 u0 1)

/-- USABLE, and READY with it, after a change of RX_STATE or PEER_RX_UP; wraps follow. -/
def State.updateUsable (s : State) (p : Nat) : State :=
  let u := s.usable p
  let s := s.flag (F.CUL_Pn_STATUS_USABLE p) u
  let s := if u then s else (s.put (F.CUL_Pn_STATUS_READY p) 0).setCport p { s.cport p with bothReady := 0 }
  if s.usedPorts.contains p then s.updateWraps else s

/-- RX_STATE of port `p` becomes `v`; a change raises the port's interrupt (R148, R184). -/
def State.rxState (s : State) (p v : Nat) : State :=
  let s := if s.get (F.CUL_Pn_STATUS_RX_STATE p) = v then s else s.raiseInt p
  (s.put (F.CUL_Pn_STATUS_RX_STATE p) v).updateUsable p

/-- R142: code errors of port `p` are counted. -/
def State.codeErrors (s : State) (p n : Nat) : State :=
  s.put (F.CUL_Pn_ERRORS_CODE p) (min 65535 (s.get (F.CUL_Pn_ERRORS_CODE p) + n))

/-- Code errors that an awake receiver of a powered port sees. -/
def State.heardErrors (s : State) (p n : Nat) : State :=
  if decide (p < 10) && s.isOn (portPolder p) && s.get (F.CUL_Pn_STATUS_RX_STATE p) != 0 then s.codeErrors p n else s

/-- A transition of port `p` out of UP (R150): counted; on a used port a "port down" fault, unless the port was LEAVING and went
DOWN. -/
def State.leftUp (s : State) (p : Nat) (quiet : Bool) : State :=
  let s := s.bump (F.CUL_Pn_ERRORS_DOWN p)
  if quiet || !s.usedPorts.contains p then s else s.fault 16

/-- The PLL is locked or coasting (R149). -/
def State.pllRuns (s : State) : Bool := s.is F.CLK_STATUS_LOCKED || s.is F.CLK_STATUS_HOLDOVER

/-- R146: the device is rooted. -/
def State.rooted (s : State) : Bool :=
  s.isStation || (s.is F.CLK_STATUS_LOCKED && !s.is F.CLK_STATUS_HOLDOVER
    && s.is (F.CUL_Pn_STATUS_PEER_ROOTED s.cul.refPort))

/-- CLK_STATUS SOURCE for the reference in use. -/
def State.referenceSource (s : State) : Nat := if s.isStation then 0 else 1 + s.cul.refPort

/-- The transmit direction of port `p` is awake. -/
def State.txAwake (s : State) (p : Nat) : Bool := s.isOn (portPolder p) && s.is (F.CUL_Pn_STATUS_TX_AWAKE p)

/-- Any Culvert transmit direction is awake. -/
def State.anyTxAwake (s : State) : Bool := (List.range 10).any s.txAwake

/-- R81: both directions of all ports of a Culvert polder are asleep. -/
def State.portsAsleep (s : State) (polder : Nat) : Bool :=
  (if polder = 5 then [0, 1, 2, 3, 4] else [5, 6, 7, 8, 9]).all
    (fun p => !s.is (F.CUL_Pn_STATUS_TX_AWAKE p) && !s.is (F.CUL_Pn_STATUS_RX_AWAKE p))

/-- A transmit direction wakes or sleeps (R182), a state change of the port (R184; DEDUCED, assumption 37). -/
def State.wakeTx (s : State) (p : Nat) : State :=
  if s.is (F.CUL_Pn_STATUS_TX_AWAKE p) then s else ((s.put (F.CUL_Pn_STATUS_TX_AWAKE p) 1).send p .idle).raiseInt p
def State.sleepTx (s : State) (p : Nat) : State :=
  if s.is (F.CUL_Pn_STATUS_TX_AWAKE p) then ((s.put (F.CUL_Pn_STATUS_TX_AWAKE p) 0).send p .nothing).raiseInt p
  else s.send p .nothing

/-- R20: port `p` is one of P2 to P4 of a cell or port device, whose lanes stay asleep. -/
def State.unusedPort (s : State) (p : Nat) : Bool := !s.isStation && decide (2 ≤ p)

/-- A receive direction wakes at DOWN, or goes to sleep (R182). DETECT is 0 from then on, and stays 0 while traffic resumes on the
sleeping direction (DESIGN CHOICE, assumption 58). -/
def State.wakeRx (s : State) (p : Nat) : State :=
  if s.is (F.CUL_Pn_STATUS_RX_AWAKE p) || s.unusedPort p then s else (s.put (F.CUL_Pn_STATUS_RX_AWAKE p) 1).rxState p 1
def State.sleepRx (s : State) (p : Nat) : State :=
  ((s.put (F.CUL_Pn_STATUS_RX_AWAKE p) 0).put (F.CUL_Pn_STATUS_DETECT p) 0).rxState p 0

/-- No transmit direction may send: SERVICE (Table 3-11), or a PLL that neither is locked nor coasts (R91, R104). -/
def State.noTransmit (s : State) : Bool := s.pwr.phase == .service || !s.pllRuns

/-- The polders whose ports serve ring `r` (R86). -/
def State.ringPolders (s : State) (r : Nat) : List Nat :=
  5 :: (if (List.range 10).any (fun p => s.portRing p == some r && portPolder p == 6) then [6] else [])

/-- A request as a message of the station: where the seconds extension and the sender's ID travel is not stated: message bytes 52
to 59 (DESIGN CHOICE, assumption 23). -/
def State.message (s : State) (enc : List Byte) (seconds : Nat) : List Byte :=
  padTo 52 enc ++ leBytes 4 seconds ++ leBytes 4 (s.cf F.HST_DEVICE_ID_DEVICE_ID) ++ List.replicate 4 0

/-- A request of the device's own: its TAG counts them, so that no device takes it for a repeat (R171; DESIGN CHOICE, assumption 58). -/
def State.ownRequest (s : State) (code flags : Nat) (args : List Byte) : List Byte :=
  [BitVec.ofNat 8 code, BitVec.ofNat 8 (0x80 + s.spr.sent % 128), BitVec.ofNat 8 args.length, BitVec.ofNat 8 flags] ++ args

/-- A request of the station's own to position `q` of ring `r` joins the messages that wait for the ring's channel; its answer goes
to mailbox `m`. -/
def State.queueOwn (s : State) (r q m : Nat) (req : List Byte) : State :=
  (s.withCul { s.cul with sentMsgs := s.cul.sentMsgs ++ [⟨r, q, m, s.message req (s.word R.RVE_HOST_SECONDS).toNat⟩] }).withSpr
    { s.spr with sent := s.spr.sent + 1 }

/-- A message of the station's own whose answer no mailbox takes. -/
def State.sendOwn (s : State) (r q code flags : Nat) (args : List Byte) : State := s.queueOwn r q 9 (s.ownRequest code flags args)

/-- A transmit direction is asked for: it wakes if its polder is on and the device may transmit, else it waits (R81, R104). -/
def State.askTx (s : State) (p : Nat) : State :=
  if s.isOn (portPolder p) && !s.noTransmit then
    (s.wakeTx p).withPwr { s.pwr with laneTx := s.pwr.laneTx &&& ~~~(1#10 <<< p) }
  else s.withPwr { s.pwr with laneTx := s.pwr.laneTx ||| (1#10 <<< p) }

/-- A receive direction is asked for: it wakes if its polder is on, else it waits for it (R81). -/
def State.askRx (s : State) (p : Nat) : State :=
  if s.isOn (portPolder p) then (s.wakeRx p).withPwr { s.pwr with laneRx := s.pwr.laneRx &&& ~~~(1#10 <<< p) }
  else s.withPwr { s.pwr with laneRx := s.pwr.laneRx ||| (1#10 <<< p) }

/-- R182: traffic resumes on port `p`: source 19 when its receive direction sleeps. -/
def State.laneHeard (s : State) (p : Nat) : State := if s.is (F.CUL_Pn_STATUS_RX_AWAKE p) then s else s.raiseInt 19

/-- READY at the end of start-up: the transmit directions of the role's ports start with idles, their receive directions at DOWN
(Table 3-8), each as soon as its polder is on. -/
def State.txIdle (s : State) : State := s.usedPorts.foldl (fun s p => (s.askTx p).askRx p) s

/-- The port status character the device sends on port `p` (Table 5-2). -/
def State.portStatus (s : State) (p : Nat) : Byte :=
  BitVec.ofNat 8 (b2n (s.is (F.CUL_Pn_STATUS_WRAPPED p)) * 16 + b2n (s.is (F.CUL_Pn_STATUS_READY p)) * 8
    + b2n s.cul.leaving.isSome * 4 + b2n s.rooted * 2 + b2n (s.get (F.CUL_Pn_STATUS_RX_STATE p) == 5))

/-- ROOTED as the peer of port `p` announces it; tides of "not rooted" count on (R146). -/
def State.peerRooted (s : State) (p : Nat) (b : Bool) : State :=
  let s := s.flag (F.CUL_Pn_STATUS_PEER_ROOTED p) b
  s.setCport p { s.cport p with notRooted := if b then 0 else satInc 4 (s.cport p).notRooted }

/-! ## Frames -/

/-- One bit step of the CRC-32 of IEEE 802.3, reflected. -/
def crcBit (c : Word) : Word := if c.getLsbD 0 then (c >>> 1) ^^^ 0xEDB88320#32 else c >>> 1

/-- One byte of the CRC. -/
def crcByte (c : Word) (b : Byte) : Word :=
  crcBit (crcBit (crcBit (crcBit (crcBit (crcBit (crcBit (crcBit (c ^^^ (b.setWidth 32)))))))))

/-- R143: the CRC-32 of IEEE 802.3 over a list of bytes. -/
def crc32 (bs : List Byte) : Word := ~~~(bs.foldl crcByte 0xFFFFFFFF#32)

/-- The device has tide boundaries: a station's own, or those of the tide frames received (R424, R284). -/
def State.boundaries (s : State) : Bool := s.isOn 5 && (s.isStation || s.cul.running) && s.role != .none

/-- The CRC the frame should carry. -/
def TideFrame.goodCrc (f : TideFrame) : Word := crc32 (f.header ++ f.body)

/-- The frame is intact: its CRC is good and its header is whole. -/
def TideFrame.intact (f : TideFrame) : Bool := f.crc == f.goodCrc && f.header.length == 16

/-- The frame carries a stomped CRC (R143). -/
def TideFrame.stomped (f : TideFrame) : Bool := f.crc == ~~~f.goodCrc

/-- Header fields of Table 5-6. -/
def TideFrame.tide (f : TideFrame) : Nat := leAt f.header 0 4
def TideFrame.ringId (f : TideFrame) : Nat := leAt f.header 4 1
def TideFrame.flagBit (f : TideFrame) (i : Nat) : Bool := natBit (leAt f.header 5 1) i
def TideFrame.dir (f : TideFrame) : Nat := b2n (f.flagBit 0)
def TideFrame.origin (f : TideFrame) : Nat := b2n (f.flagBit 1)
def TideFrame.isWrapped (f : TideFrame) : Bool := f.flagBit 2
def TideFrame.apply (f : TideFrame) : Nat := leAt f.header 6 1 % 128
def TideFrame.loopHigh (f : TideFrame) : Bool := natBit (leAt f.header 6 1) 7
def TideFrame.echoState (f : TideFrame) : Nat := leAt f.header 7 1 / 32
def TideFrame.echoCount (f : TideFrame) : Nat := leAt f.header 7 1 % 32
def TideFrame.token (f : TideFrame) (i : Nat) : Nat := leAt f.header (8 + 3 * i) 3
def TideFrame.loopWord (f : TideFrame) : Nat := leAt f.header 14 2

/-- The frame with a fresh CRC, stomped when `bad` (R143). -/
def TideFrame.seal (f : TideFrame) (bad : Bool) : TideFrame :=
  { f with crc := if bad then ~~~f.goodCrc else f.goodCrc }

/-- A list of bytes with the bytes `v` in place of those from offset `o`. -/
def patch (bs : List Byte) (o : Nat) (v : List Byte) : List Byte := bs.take o ++ v ++ bs.drop (o + v.length)

/-- Header flags of byte 5 rewritten for the port the frame leaves on (R152). -/
def State.reflag (s : State) (p : Nat) (wrap : Bool) (f : TideFrame) : TideFrame :=
  let b := leAt f.header 5 1
  let keep := b % 4 + b / 32 % 4 * 32 + (if wrap || natBit b 2 then 4 else 0)
  let v := keep + b2n s.rooted * 8 + b2n (s.get (F.CUL_Pn_STATUS_RX_STATE p) == 5) * 16
    + b2n s.cul.leaving.isSome * 128
  { f with header := patch f.header 5 [BitVec.ofNat 8 v] }

/-- Positions, command bytes and record size of a ring (R153). -/
def State.positions (s : State) (r : Nat) : Nat := s.cf (F.CUL_RINGr_FORMAT_POSITIONS r)
def State.cmdBytes (s : State) (r : Nat) : Nat :=
  if s.cfIs (F.CUL_RINGr_FORMAT_CMD_WIDTH r) then s.positions r else (s.positions r + 1) / 2
def State.recSize (s : State) (r : Nat) : Nat := if s.cfIs (F.CUL_RINGr_FORMAT_REC_SIZE r) then 8 else 4

/-- Where the record of position `q` of ring `r` begins in the body (R153). -/
def State.recAt (s : State) (r q : Nat) : Nat := s.cmdBytes r + (q - 1) * s.recSize r

/-- The command entry of position `q` of ring `r` in a body (R153). -/
def State.entryIn (s : State) (r q : Nat) (body : List Byte) : Nat :=
  if s.cfIs (F.CUL_RINGr_FORMAT_CMD_WIDTH r) then leAt body (q - 1) 1
  else leAt body ((q - 1) / 2) 1 / (if q % 2 = 1 then 1 else 16) % 16

/-- The command area that carries the entries `es` of positions 1, 2, 3 ... (R153). -/
def State.cmdArea (s : State) (r : Nat) (es : List Nat) : List Byte :=
  let e := fun q => es.getD (q - 1) 0
  if s.cfIs (F.CUL_RINGr_FORMAT_CMD_WIDTH r) then (List.range (s.positions r)).map (fun i => BitVec.ofNat 8 (e (i + 1)))
  else (List.range (s.cmdBytes r)).map (fun i =>
    BitVec.ofNat 8 (e (2 * i + 1) % 16 + (if 2 * i + 2 ≤ s.positions r then e (2 * i + 2) % 16 * 16 else 0)))

/-- What an origin puts into a record slot nobody has written: zeros with STALE set (DESIGN CHOICE, assumption 21). -/
def emptyRecord (size : Nat) : List Byte := patch (List.replicate size 0) 2 [1]

/-! ## The message channel (R169) -/

/-- A chunk of the message channel. -/
structure Chunk where
  dest : Nat
  src : Nat
  type : Nat
  idx : Nat
  last : Bool
  payload : List Byte
  deriving DecidableEq, Repr

/-- The last 32 bytes of a body as a chunk (Table 5-10). -/
def chunkOf (body : List Byte) : Chunk :=
  let m := body.drop (body.length - 32)
  let b2 := leAt m 2 1
  ⟨leAt m 0 1 % 128, leAt m 1 1 % 128, b2 / 64, b2 / 16 % 4, natBit b2 3, bytesAt m 4 (leAt m 3 1)⟩

/-- A chunk's 32 bytes. -/
def Chunk.bytes (c : Chunk) : List Byte :=
  [BitVec.ofNat 8 c.dest, BitVec.ofNat 8 c.src, BitVec.ofNat 8 (c.type * 64 + c.idx * 16 + b2n c.last * 8),
   BitVec.ofNat 8 c.payload.length] ++ padTo 28 c.payload

/-- A body with the chunk `c` in its message channel. -/
def putChunk (body : List Byte) (c : Chunk) : List Byte := body.take (body.length - 32) ++ c.bytes

/-- An empty channel. -/
def emptyChunk : Chunk := ⟨0, 0, 0, 0, false, []⟩

/-- Chunk `k` of the 64-byte message `m` from slot `src` to `dest`. -/
def chunkFrom (m : List Byte) (dest src type k : Nat) : Chunk :=
  ⟨dest, src, type, k, k == 2, bytesAt m (28 * k) (if k = 2 then 8 else 28)⟩

/-- The station's request on ring `r`. -/
def State.remoteOn (s : State) (r : Nat) : Option RemoteSt := (s.cul.remote.getD r none)

/-- `s` with the station's request on ring `r` replaced. -/
def State.setRemote (s : State) (r : Nat) (x : Option RemoteSt) : State :=
  s.withCul { s.cul with remote := s.cul.remote.set r x }

/-- Tide `t` joins the tides `l` that are remembered: those up to 128 tides away from it. -/
def keepTide (t : Nat) (l : List Nat) : List Nat :=
  t :: l.filter (fun u => u != t && decide ((t + 2 ^ 32 - u) % 2 ^ 32 ≤ 128 ∨ (u + 2 ^ 32 - t) % 2 ^ 32 ≤ 128))

/-! ## Tokens (R180, R181) -/

/-- The 24 bits of a token sent in a frame of tide `t`. -/
def Token.bits (k : Token) (t : Nat) : Nat :=
  2 ^ 23 + b2n k.repeated * 2 ^ 22 + k.line % 32 * 2 ^ 17 + (t + 2 ^ 32 - k.tide) % 2 ^ 32 % 16 * 2 ^ 13 + k.offset % 8192

/-- The age a token would carry in a frame of tide `t`. -/
def Token.age (k : Token) (t : Nat) : Nat := (t + 2 ^ 32 - k.tide) % 2 ^ 32

/-- Put the tokens that wait for direction `p` into the empty token fields of a frame; what was put is marked as sent. -/
def putTokens (p : Nat) (f : TideFrame) : List Token → TideFrame × List Token
  | [] => (f, [])
  | k :: ks =>
    let slot := if f.token 0 / 2 ^ 23 = 0 then some 0 else if f.token 1 / 2 ^ 23 = 0 then some 1 else none
    match slot with
    | some i =>
      if natBit k.sent p || k.age f.tide > 15 then
        let r := putTokens p f ks
        (r.1, k :: r.2)
      else
        let f' := { f with header := patch f.header (8 + 3 * i) (leBytes 3 (k.bits f.tide)) }
        let r := putTokens p f' ks
        (r.1, { k with sent := k.sent + 2 ^ p } :: r.2)
    | none => (f, k :: ks)

/-- A trigger of line `l` at an event time is raised (R181): its token waits for the next frames. -/
def State.raiseToken (s : State) (line tide offset : Nat) (repeated : Bool) : State :=
  s.withCul { s.cul with tokens := s.cul.tokens ++ [⟨line, tide, offset, repeated, 0⟩] }

/-- The tide by which a frame of direction `d` arrives late at the device: whole tides of its delay. -/
def State.delayTides (s : State) (d : Nat) : Nat :=
  ((if d = 0 then s.getS F.CUL_COMP0_COMP0 else s.getS F.CUL_COMP1_COMP1) / 64000).toNat

/-- Tokens for which no frame of an AGE up to 15 passes any more (frames come late by their delay) are discarded; those that were sent in no direction are counted as lost (R181, R184; that one sent in
some of its directions does not count is a DESIGN CHOICE, assumption 58). -/
def State.dropTokens (s : State) (t : Nat) : State :=
  let last := 15 + (if s.isStation then 0 else max (s.delayTides 0) (s.delayTides 1))
  let late := s.cul.tokens.filter (fun k => decide (k.age t > last) && k.sent == 0)
  let s := s.withCul { s.cul with tokens := s.cul.tokens.filter (fun k => decide (k.age t ≤ last)) }
  late.foldl (fun s _ => (s.bump F.CUL_TRIG_LOST).raiseInt 20) s

/-- R460: the wrap point of a ring is `v` now (0: no wrap); at a change no LOOP_VALID goes out for 2,048 tides. -/
def State.wrapPointAt (s : State) (r v : Nat) : State :=
  if s.cul.wrapPoint.getD r 0 = v then s
  else s.withCul { s.cul with wrapPoint := s.cul.wrapPoint.set r v, noLoop := s.cul.noLoop.set r 2048 }

/-! ## Alignment (R173, R174) -/

/-- The alignment state changes (R184: source 16). -/
def State.setAlign (s : State) (v : Nat) : State :=
  if s.get F.CUL_ALIGN_STATE = v then s else (s.put F.CUL_ALIGN_STATE v).raiseInt 16

/-- The compensation in use: comp0 with the reference on P0, comp1 on P1 (R173), in units of 15.625 ps. -/
def State.compInUse (s : State) : Int :=
  if s.cul.refPort = 0 then s.getS F.CUL_COMP0_COMP0 else s.getS F.CUL_COMP1_COMP1

/-- Half of a number, rounded to the nearest (a half up; DEDUCED, assumption 22). -/
def halfRound (x : Int) : Int := (x + 1) / 2

/-- Units of 15.625 ps to steps of 156.25 ps, rounded to the nearest. -/
def unitsToSteps (x : Int) : Int := (x + 5) / 10

/-- The boundary moves by one step toward the computed value. -/
def State.stepAlign (s : State) : State :=
  let t := unitsToSteps s.compInUse
  let p := s.cul.place
  s.withCul { s.cul with place := if p < t then p + 1 else if t < p then p - 1 else p }

/-- The device aligns its boundary: a cell or port device to the rings, twin B to twin A (R174, R443). -/
def State.aligns (s : State) : Bool := !s.isStation || (s.twn.operating && s.isTwinB)

/-- R174: HOLD on PLL holdover. -/
def State.alignHoldover (s : State) : State :=
  if s.isOn 5 && s.aligns && (s.get F.CUL_ALIGN_STATE = 1 || s.get F.CUL_ALIGN_STATE = 2) then s.setAlign 3 else s

/-- R174: SLEWING on re-engagement. -/
def State.alignReengaged (s : State) : State :=
  if s.isOn 5 && s.aligns && s.get F.CUL_ALIGN_STATE = 3 then s.setAlign 2 else s

/-- R174: UNALIGNED after a change of HST_PLACE; the entries that wait were read for the old place. -/
def State.unalign (s : State) : State :=
  if s.isOn 5 && !s.isStation then
    let s := s.setAlign 0
    s.withCul { s.cul with place := 0, tideMatch := 16, takeover := none, entries := [], taken := [] }
  else s

end Sys2Proof.Machine
end

