-- ==== Sys2Proof/Machine/Adc.lean ====
section
/-! DEFINITION. The measurement front end (06_measurement.md R186 to R212). -/
namespace Sys2Proof.Machine

/-- The registers of converter `n`'s sequence (R193). -/
def adcSeq (n : Nat) (a : Nat) : Bool := decide (0x50100 + 0x100 * n ≤ a) && decide (a < 0x50200 + 0x100 * n)

/-- The last code of an entry. -/
def State.adcCode (s : State) (n k : Nat) : Int := s.getS (F.ADC_RESn_k_VALUE n k)

/-- R197: a code as a control quantity. -/
def perUnit (code scale : Int) : Int := satSigned 32 (code * scale / 32768)

/-- R197: the last result of an entry as a control quantity, with the SCALE in force now: after a change of SCALE it is shown with the
new one until the entry's next result (DESIGN CHOICE, assumption 98). -/
def State.adcPu (s : State) (n k : Nat) : Int := perUnit (s.adcCode n k) (s.cfS (F.ADC_SEQn_SCALEk_SCALE n k))

/-- R444: converter `n` is shared: the control takes the presented results of both twins. -/
def State.isShared (s : State) (n : Nat) : Bool := s.twn.operating && natBit (s.cf F.TWN_SHARE_SHARE_CONV) n

/-- The result of an entry as the decision logic takes it (R197, R444). -/
def State.ctlPu (s : State) (n k : Nat) : Int :=
  if s.isShared n then
    match s.twn.presented.find? (fun x => x.conv == n && x.entry == k) with
    | some x => perUnit x.code (s.cfS (F.ADC_SEQn_SCALEk_SCALE n k))
    | none => 0
  else s.adcPu n k

/-- R198: the VDC field of the device's records. -/
def State.recVdc (s : State) : Nat :=
  if s.isOn 12 && s.cfIs F.ADC_VDC_EN then
    (clampInt 0 65535 (s.adcCode (s.cf F.ADC_VDC_CONV) (s.cf F.ADC_VDC_ENTRY) * s.cf F.ADC_VDC_VDC_FS / 32768)).toNat
  else 0

/-! ## NTC linearisers (R203, R204) -/

/-- Breakpoint T(i) of lineariser `m`. -/
def State.ntcPoint (s : State) (m i : Nat) : Int :=
  if i % 2 = 0 then s.cfS (F.ADC_NTCm_Tj_T_EVEN m (i / 2)) else s.cfS (F.ADC_NTCm_Tj_T_ODD m (i / 2))

/-- R203: the temperature of a code. -/
def State.ntcTemp (s : State) (m : Nat) (code : Int) : Int :=
  let u := (code + 32768).toNat
  let i := u / 4096
  s.ntcPoint m i + (s.ntcPoint m (i + 1) - s.ntcPoint m i) * (u % 4096 : Nat) / 4096

/-- VALID of lineariser `m`, and its temperature while it is valid (R204). -/
def State.ntcRefresh (s : State) (m : Nat) : State :=
  let n := s.cf (F.ADC_NTCm_SRC_CONV m)
  let k := s.cf (F.ADC_NTCm_SRC_ENTRY m)
  let w := s.cf (F.ADC_SEQn_ENTRYk_WIN n k)
  let bad := s.cfIs (F.ADC_SEQn_ENTRYk_WEN n k) && s.cfIs (F.ADC_WINw_CONFIG_EN w) && s.cfIs (F.ADC_WINw_CONFIG_SENSOR w)
    && s.is (F.ADC_WINw_STATUS_INVALID w)
  let ok := s.cfIs (F.ADC_NTCm_SRC_EN m) && (s.adc.conv.getD n {}).produced.getLsbD k && !bad
  let s := s.flag (F.ADC_NTCm_VALUE_VALID m) ok
  if ok then s.putS (F.ADC_NTCm_VALUE_TEMP m) (s.ntcTemp m (s.adcCode n k)) else s

/-! ## Starts of rounds (R189 to R196) -/

/-- A skipped or ignored start counts, and raises source 61 (R192, R196, R206). -/
def State.adcSkip (s : State) (n : Nat) : State := (s.bump (F.ADC_SEQn_STATUS_SKIP n)).raiseInt 61

/-- The kinds of start events beside those of `Spaced`: the converter's own source, and ADC_START. -/
def adcOwn : BitVec 8 := 8
def adcHost : BitVec 8 := 16

/-- R189: from an instant `d` ns after a step of the edge-clock grid to the next step, in 2^-32 ns. -/
def gridSlack (d : Nat) : Nat := (ceilDiv (32 * d) 5 * 5 - 32 * d) * 2 ^ 27

/-- R189: the ns time of the hold of entry 0 of a round of converter `n` that starts at `t` (2^-32 ns), `d` ns after a step of the
grid. -/
def State.holdTime (s : State) (n d t : Nat) : Nat :=
  ((t + gridSlack d) / 2 ^ 32 + 10 * s.cf (F.ADC_SEQn_ENTRYk_TS n 0)) % 2 ^ 32

/-- R190, R193: a round of converter `n` starts, with the entries committed, at `t`; the linearisers follow the entries (R204). -/
def State.adcBegin (s : State) (n d t : Nat) (kinds : BitVec 8) : State :=
  let s := [0, 1, 2, 3].foldl State.ntcRefresh (s.applyKeys (adcSeq n))
  let s := s.bumpWrap (F.ADC_SEQn_STATUS_ROUND n)
  let s := s.put (F.ADC_SEQn_STATUS_BUSY n) 1
  let s := s.put (F.ADC_SEQn_STAMP_STAMP n) (s.holdTime n d t)
  let c : AdcConv := s.adc.conv.getD n {}
  s.withAdc { s.adc with conv := s.adc.conv.set n { c with next := 0, began := some kinds } }

/-- R192, R206: a start event of converter `n`, of its own source or (`own` false) a host start, whose start time is `t` (2^-32 ns), `d`
ns after a step of the grid. Starts of one ADC clock start one round; a round that runs is not disturbed. -/
def State.adcStartAt (s : State) (n d t : Nat) (own : Bool) : State :=
  if s.isOn 12 && decide (n < 4) then
    let c : AdcConv := s.adc.conv.getD n {}
    let c := if own then c.spaced adcOwn else c
    let s := s.withAdc { s.adc with conv := s.adc.conv.set n c }
    if s.is (F.ADC_SEQn_STATUS_CAL n) then (if s.cfgOf (F.ADC_SEQn_CTRL_EN n) = 1 then s.adcSkip n else s)
    else if s.is (F.ADC_SEQn_STATUS_BUSY n) then
      (if c.began.isSome then s else (s.bump (F.ADC_SEQn_STATUS_OVERRUN n)).raiseInt 61)
    else if s.cfgOf (F.ADC_SEQn_CTRL_EN n) = 1 then s.adcBegin n d t (if own then adcOwn else 0)
    else s
  else s

/-- The same for a start time that is now. -/
def State.adcStart (s : State) (n d : Nat) (own : Bool) : State := s.adcStartAt n d s.tim.now own

/-- R194: the start time that converter `n` waits for has come; the timebase has reached it, or passed it since. -/
def State.adcDue (s : State) (n : Nat) : State :=
  let c : AdcConv := s.adc.conv.getD n {}
  match c.due with
  | none => s
  | some t =>
    let s := s.withAdc { s.adc with conv := s.adc.conv.set n { c with due := none } }
    let s := if laterThan (t / 2 ^ 32) (s.tim.now / 2 ^ 32) then s.withTim { s.tim with now := t % 2 ^ 64 } else s
    s.adcStartAt n (s.cfgOf (F.ADC_SEQn_TIDE_OFFSET n)) (t % 2 ^ 64) true

/-- A start time that has passed with no command of its own has come all the same (assumption 80). -/
def State.adcPast (s : State) (n : Nat) : State :=
  match (s.adc.conv.getD n {}).due with
  | some t => if laterThan (t / 2 ^ 32) (s.tim.now / 2 ^ 32) then s else s.adcDue n
  | none => s

/-- R194: the boundary of tide `t` is a start of converter `n`: at once, or when OFFSET has passed. -/
def State.adcTide (s : State) (t n : Nat) : State :=
  let s := s.adcDue n
  if s.isOn 12 && s.cfgOf (F.ADC_SEQn_CTRL_SOURCE n) == 1 && s.cfgOf (F.ADC_SEQn_CTRL_EN n) == 1
      && t % max 1 (s.cfgOf (F.ADC_SEQn_TIDE_DIV n)) == 0 then
    let o := s.cfgOf (F.ADC_SEQn_TIDE_OFFSET n)
    if o = 0 then s.adcStart n 0 true
    else
      let c : AdcConv := s.adc.conv.getD n {}
      s.withAdc { s.adc with conv := s.adc.conv.set n { c with due := some (s.tim.now + o * 2 ^ 32) } }
  else s

/-- R195: the timebase steps by `v` ns: start times that converters wait for move along. -/
def State.stepDue (s : State) (v : Int) : State :=
  s.withAdc { s.adc with conv := s.adc.conv.map (fun c => { c with due := c.due.map (fun t => ofSigned 64 (t + v * 2 ^ 32)) }) }

/-! ## Window comparators (R199 to R202) -/

/-- A leave event of comparator `w` (R200, R211). -/
def State.winLeave (s : State) (w : Nat) : State :=
  let s := s.put F.ADC_WIN_EVENT_LEFT (s.get F.ADC_WIN_EVENT_LEFT ||| 2 ^ w)
  let s := s.raiseInt (if w < 24 then 32 + w else 56)
  if s.cf (F.ADC_WINw_CONFIG_FCLASS w) = 0 then s else s.fault (32 + w)

/-- The comparator state after value `v` (0 INSIDE, 1 HIGH, 2 LOW) and whether it is a leave event (R199). -/
def winNext (st : Nat) (v high low hyst : Int) : Nat × Bool :=
  if st = 0 then (if v > high then (1, true) else if v < low then (2, true) else (0, false))
  else if st = 1 then (if v < low then (2, true) else if v ≤ high - hyst then (0, false) else (1, false))
  else (if v > high then (1, true) else if v ≥ low + hyst then (0, false) else (2, false))

/-- STATE and INVALID of comparator `w`, in its own register and in the summaries. -/
def State.winShow (s : State) (w st : Nat) (inv : Bool) : State :=
  let bit := fun (x : Nat) (b : Bool) => if natBit x w == b then x else if b then x + 2 ^ w else x - 2 ^ w
  let s := s.put (F.ADC_WINw_STATUS_STATE w) st
  let s := s.flag (F.ADC_WINw_STATUS_INVALID w) inv
  let s := s.put F.ADC_WIN_STATE_OUT (bit (s.get F.ADC_WIN_STATE_OUT) (st != 0))
  s.put F.ADC_WIN_SENSOR_INVALID (bit (s.get F.ADC_WIN_SENSOR_INVALID) inv)

/-- A result evaluated against the operating band. -/
def State.winBand (s : State) (w : Nat) (v : Int) : State :=
  let r := winNext (s.get (F.ADC_WINw_STATUS_STATE w)) v (s.cfS (F.ADC_WINw_LIMITS_HIGH w)) (s.cfS (F.ADC_WINw_LIMITS_LOW w))
    (s.cf (F.ADC_WINw_CONFIG_HYST w))
  let s := s.putS (F.ADC_WINw_STATUS_LAST w) v
  let s := s.winShow w r.1 (s.is (F.ADC_WINw_STATUS_INVALID w))
  if r.2 then s.winLeave w else s

/-- A result sent to comparator `w` (R199, R202). -/
def State.winEval (s : State) (w : Nat) (v : Int) : State :=
  if s.cfIs (F.ADC_WINw_CONFIG_EN w) then
    if s.cfIs (F.ADC_WINw_CONFIG_SENSOR w) then
      let out := decide (v < s.cfS (F.ADC_WINw_VALID_VLOW w)) || decide (v > s.cfS (F.ADC_WINw_VALID_VHIGH w))
      let inv := s.is (F.ADC_WINw_STATUS_INVALID w)
      if out == inv then
        let s := s.put (F.ADC_WINw_STATUS_RUN w) 0
        if inv then s else s.winBand w v
      else
        let run := s.get (F.ADC_WINw_STATUS_RUN w) + 1
        if run ≥ s.cf (F.ADC_WINw_CONFIG_DEBOUNCE w) then
          let s := s.put (F.ADC_WINw_STATUS_RUN w) 0
          let s := s.winShow w (s.get (F.ADC_WINw_STATUS_STATE w)) (!inv)
          if inv then s.winBand w v else s.raiseInt 62
        else
          let s := s.put (F.ADC_WINw_STATUS_RUN w) run
          if inv then s else s.winBand w v
    else s.winBand w v
  else s

/-- R201, R202: comparator keys changed: a disabled comparator is INSIDE and valid; without sensor mode it is valid at once; a
newly enabled one, or one newly in sensor mode, starts valid with a count of 0. -/
def State.winKeys (s : State) : State :=
  (List.range 32).foldl (fun s w =>
    if !s.cfIs (F.ADC_WINw_CONFIG_EN w) then
      (s.winShow w 0 false).put (F.ADC_WINw_STATUS_RUN w) 0
    else if !s.cfIs (F.ADC_WINw_CONFIG_SENSOR w) then
      (s.winShow w (s.get (F.ADC_WINw_STATUS_STATE w)) false).put (F.ADC_WINw_STATUS_RUN w) 0
    else s) s

/-! ## Conversions -/

/-- R115: a new result stands in the register at `a`: the side effect of an SPI capture of the one before no longer applies. -/
def State.newResult (s : State) (a : Nat) : State :=
  s.withSpi { s.spi with captured := s.spi.captured.map (fun c => if c.1 = a then (c.1, c.2.1, c.2.2.1, false) else c) }

/-- R187: v_diff × gain × 32,768 / 1.5 V for `pv` picovolts, rounded down, and how what is left compares with half a code. -/
def codeBelow (gain : Nat) (pv : Int) : Int × Ordering :=
  let num := pv * 2 ^ gain * 32768
  let den : Int := 1500000000000
  (num / den, compare (2 * (num % den)) den)

/-- R187: the code before it is limited. Which way a value half way between two codes goes is left open (assumption 1). -/
def State.codeOf (s : State) (gain : Nat) (pv : Int) : Int × State :=
  match codeBelow gain pv with
  | (q, .lt) => (q, s)
  | (q, .gt) => (q + 1, s)
  | (q, .eq) =>
    let r := s.fresh 2
    (q + r.1, r.2)

/-- R187, R191: the result of the round's next entry is written; `raw` is its code before it is limited. -/
def State.adcCodeWritten (s : State) (n : Nat) (raw : Int) : State :=
  let c := s.adc.conv.getD n {}
  let k := c.next
  let code := clampInt (-32768) 32767 raw
  let sat := code == -32768 || code == 32767
  let c' : AdcConv := { c with next := k + 1, began := none,
                               unseen := if s.isShared n then c.unseen else c.unseen ||| (1#16 <<< k),
                               produced := c.produced ||| (1#16 <<< k), recent := k :: c.recent.filter (· != k) }
  let s := s.withAdc { s.adc with conv := s.adc.conv.set n c' }
  let s := (s.newResult (R.ADC_RESn_k n k)).put (F.ADC_RESn_k_FRESH n k) 1
  let s := s.put (F.ADC_RESn_k_ROUND n k) (s.get (F.ADC_SEQn_STATUS_ROUND n))
  let s := s.flag (F.ADC_RESn_k_SAT n k) sat
  let s := s.putS (F.ADC_RESn_k_VALUE n k) code
  let s := if sat then s.bump (F.ADC_SEQn_STATUS_SAT n) else s
  let w := s.cf (F.ADC_SEQn_ENTRYk_WIN n k)
  let s := if s.cfIs (F.ADC_SEQn_ENTRYk_WEN n k) then
      let s := s.winEval w code
      s.flag (F.ADC_RESn_k_WOUT n k) (s.get (F.ADC_WINw_STATUS_STATE w) != 0)
    else s.put (F.ADC_RESn_k_WOUT n k) 0
  let s := [0, 1, 2, 3].foldl (fun s m => s.ntcRefresh m) s
  if k ≥ s.cf (F.ADC_SEQn_CTRL_LAST n) then (s.put (F.ADC_SEQn_STATUS_BUSY n) 0).raiseInt (57 + n) else s

/-- R187, R191: the conversion of the round's next entry ends; `pv` is v_diff at its hold, in picovolts (0 at input 25, whose inputs
are tied together). -/
def State.adcResult (s : State) (n : Nat) (pv : Int) : State :=
  let k := (s.adc.conv.getD n {}).next
  let v := if s.cf (F.ADC_SEQn_ENTRYk_INPUT n k) = 25 then 0 else pv
  let x := s.codeOf (s.cf (F.ADC_SEQn_ENTRYk_GAIN n k)) v
  x.2.adcCodeWritten n x.1

/-! ## Calibration (R205 to R209) -/

/-- The converters of a mask begin to calibrate (Table 6-4). -/
def State.calStart (s : State) (mask : Nat) : State :=
  let s := s.put F.ADC_CAL_STATUS_RUNNING (s.get F.ADC_CAL_STATUS_RUNNING ||| mask)
  ([0, 1, 2, 3].filter (natBit mask)).foldl (fun s n =>
    (s.put (F.ADC_SEQn_STATUS_CAL n) 1).put (F.ADC_SEQn_STATUS_BUSY n) 0) s

/-- R207: the last on-die reading lies in the calibration window. -/
def State.calWindow (s : State) : Bool := decide (-880 ≤ s.dieTemp) && decide (s.dieTemp ≤ 2400)

/-- Trims (offset and gain word, four weight words) within Table 6-6. -/
def trimsPass (t : List Word) : Bool :=
  let og := t.getD 0 0
  let weights := (t.drop 1).flatMap (fun x => [0, 8, 16, 24].map (fun i => toSigned 8 (bitsOf x i 8)))
  decide ((toSigned 16 (bitsOf og 0 16)).natAbs ≤ 4096) && decide ((toSigned 16 (bitsOf og 16 16)).natAbs ≤ 5242)
    && weights.all (fun x => decide (x.natAbs ≤ 96))

/-- The live trims of converter `n` become `t`. -/
def State.setTrims (s : State) (n : Nat) (t : List Word) : State :=
  let s := s.setWord (R.ADC_TRIMn_OG n) (t.getD 0 0)
  [0, 1, 2, 3].foldl (fun s j => s.setWord (R.ADC_TRIMn_CWj n j) (t.getD (j + 1) 0)) s

/-- The stored trims of converter `n` (R209). -/
def State.storedTrims (s : State) (n : Nat) : List Word :=
  s.effWord (R.ADC_STOREn_OG n) :: [0, 1, 2, 3].map (fun j => s.effWord (R.ADC_STOREn_CWj n j))

/-- One converter's calibration ends with the trims `t`. Where a failing converter ran on trims of a passed calibration,
R205 keeps them and R209 returns to the stored ones: which is left open (assumption 30). -/
def State.calEnd (s : State) (n : Nat) (t : List Word) : State :=
  let s := s.put (F.ADC_SEQn_STATUS_CAL n) 0
  let v := s.get F.ADC_CAL_STATUS_VALID
  let f := s.get F.ADC_CAL_STATUS_FAIL
  if trimsPass t then
    let s := s.setTrims n t
    let s := s.put F.ADC_CAL_STATUS_VALID (v ||| 2 ^ n)
    s.put F.ADC_CAL_STATUS_FAIL (if natBit f n then f - 2 ^ n else f)
  else
    let s := (s.put F.ADC_CAL_STATUS_FAIL (f ||| 2 ^ n)).fault 65
    if natBit v n then
      let r := s.fresh 2
      if r.1 = 0 then r.2 else (r.2.setTrims n (s.storedTrims n)).put F.ADC_CAL_STATUS_VALID (v - 2 ^ n)
    else s

/-- R208: an on-die reading more than 40 °C from CAL_TEMP sets DRIFT. -/
def State.driftCheck (s : State) : State :=
  if s.isOn 12 && s.adc.calibrated && !s.is F.ADC_CAL_STATUS_DRIFT
      && decide ((s.dieTemp - s.getS F.ADC_CAL_STATUS_CAL_TEMP).natAbs > 640) then
    (s.put F.ADC_CAL_STATUS_DRIFT 1).raiseInt 63
  else s

end Sys2Proof.Machine
end

