-- ==== Sys2Proof/Machine/DriveOps.lean ====
section
/-! DEFINITION. Modulator outputs and the drive path: precedence of output control, keys that wait for EN, half-bridge faults,
OV2, the Sluice command (08_modulation.md R252 to R281, 10_gate_drive.md R304 to R326). Dead time, the edge grid and the
channel delays pass within one event. -/
namespace Sys2Proof.Machine

/-! ## Keys (R255, R326) -/

/-- A register whose keys wait while EN = 1. -/
def modKey (a : Nat) : Bool :=
  a / 65536 == 7 || (a / 65536 == 9 && !(decide (0x90030 ≤ a) && decide (a ≤ 0x90038)) && a != 0x90044)

/-- A GDR_ register whose keys act at commit. -/
def gdrAtOnce (a : Nat) : Bool := a / 65536 == 9 && !modKey a

/-- True when both Warden enables are present (R355). -/
def State.pulsesReleased (s : State) : Bool :=
  s.isOn 14 && s.isOn 15 && s.is F.WRD_A_STATUS_ENABLE && s.is F.WRD_B_STATUS_ENABLE

/-- Every channel is pulse-blocked by the Wardens (R355). -/
def State.pulseBlocked (s : State) : Bool := !s.pulsesReleased

/-- The OV3 block, and its release until the next boundary, hold the half-bridges OFF (R318). -/
def State.ov3Holds (s : State) : Bool := s.is F.GDR_STATUS_OV3_BLOCK || s.gdr.ov3Wait

/-- HBn is a chopper half-bridge of a station (R319). -/
def State.chopHb (s : State) (n : Nat) : Bool := s.isStation && natBit (s.cf F.GDR_CHOP_CFG_CHOP_HB) n

/-- HBn is held under R308. -/
def State.hbHeld (s : State) (n : Nat) : Bool := natBit (s.get F.GDR_STATUS_HB_HOLD) n

/-! ## Precedence (Table 8-2) -/

/-- Trip `t` forces its levels: latched, or cleared and not yet returned (R275, R277). -/
def State.tripForces (s : State) (t : Nat) : Bool :=
  natBit (s.get F.MOD_TRIP_STATUS_LATCHED) t || s.mod.releasing.getLsbD t

/-- The safe-level codes that the forcing trips give HBn (3, no action, left out). -/
def State.tripCodes (s : State) (n : Nat) : List Nat :=
  (([0, 1, 2, 3].filter s.tripForces).map (fun t => s.cf (F.MOD_TRIPt_CFG_SAFE_HB t) / 4 ^ n % 4)).filter (· != 3)

/-- R275: the combined safe level of HBn; none when no trip names it. -/
def State.tripLevel (s : State) (n : Nat) : Option HbLevel :=
  match s.tripCodes n with
  | [] => none
  | c :: cs =>
    if c = 0 || cs.any (· != c) then some .off else if c = 1 then some .low else some .high

/-- The same for GD8. -/
def State.tripGd8 (s : State) : Option Bool :=
  match (([0, 1, 2, 3].filter s.tripForces).map (fun t => s.cf (F.MOD_TRIPt_CFG_SAFE_GD8 t))).filter (· != 3) with
  | [] => none
  | c :: cs => some (c == 1 && cs.all (· == 1))

/-- What the function of HBn commands (rank 7). -/
def State.funcLevel (s : State) (n : Nat) : HbLevel :=
  if s.chopHb n then (if s.gdr.chop then .both else .off) else s.mod.func.getD n .off

/-- Rank 6: in a refresh notch both switches are off for the dead time, then the low switch is on, then both are off (R311). -/
def State.notched (s : State) (n : Nat) (f : HbLevel) : HbLevel :=
  match s.gdr.notch.getD n none with
  | none => f
  | some x => if f = .low then .low else if x.stage = 1 then .low else .off

/-- The input of HBn: ranks 3 to 7 (R304). A device without a committed place holds it OFF (R22). -/
def State.inputLevel (s : State) (n : Nat) : HbLevel :=
  if !s.isOn 10 || !s.placed then .off
  else match s.tripLevel n with
    | some l => l
    | none => if s.mod.frozen then s.mod.inp.getD n .off else if s.mod.en then s.notched n (s.funcLevel n) else .off

/-- The input of GD8. -/
def State.inputGd8 (s : State) : Bool :=
  if !s.isOn 10 then false
  else match s.tripGd8 with
    | some b => b
    | none => if s.mod.frozen then s.mod.inp8 else s.mod.en && s.gdr.chop

/-- Channels of HBn that level `l` turns on. -/
def levelBits (n : Nat) : HbLevel → Nat
  | .off => 0
  | .low => 2 ^ (2 * n + 1)
  | .high => 2 ^ (2 * n)
  | .both => 2 ^ (2 * n) + 2 ^ (2 * n + 1)

/-- HBn carries its input: neither the Wardens nor rank 2 hold it (ranks 1 and 2). -/
def State.passes (s : State) (n : Nat) : Bool :=
  s.isOn 13 && s.pulsesReleased && !s.hbHeld n && (s.chopHb n || !s.ov3Holds)

/-- Channel `k` belongs to the chopper (R319). -/
def State.chopChannel (s : State) (k : Nat) : Bool := k == 8 || s.chopHb (k / 2)

/-- The channels that stay off after a failed chopper check or a chopper's desaturation, whatever holds their inputs on (R305, R320). -/
def State.chopOff (s : State) : BitVec 9 :=
  if s.isOn 13 && s.is F.GDR_STATUS_CHOP_FAULT then
    (List.range 9).foldl (fun b k => if s.chopChannel k then b ||| (1#9 <<< k) else b) 0
  else 0

/-- The outputs of the nine channels. A channel in undervoltage never turns on (R306). -/
def State.gateBits (s : State) : Nat :=
  let hb := [0, 1, 2, 3].foldl (fun b n => if s.passes n then b + levelBits n (s.mod.inp.getD n .off) else b) 0
  let g8 := if s.isOn 13 && s.pulsesReleased && s.mod.inp8 then 256 else 0
  let uv := if s.isOn 13 then s.get F.GDR_CH_STATUS_UVLO else 0
  (BitVec.ofNat 9 (hb + g8) &&& ~~~(BitVec.ofNat 9 uv) &&& ~~~s.chopOff).toNat

/-! ## Half-bridge faults (R308) -/

/-- A cause (bit 1 to 6 of GDR_HBn_FAULT) of a fault of HBn arises. -/
def State.hbFault (s : State) (n cause : Nat) : State :=
  let s := s.setWord (R.GDR_HBn_FAULT n) (setBits (s.word (R.GDR_HBn_FAULT n)) cause 1 1)
  let c := s.gdr.cause.getD n 0
  let s := if natBit c cause && s.hbHeld n then s
    else s.withGdr { s.gdr with cause := s.gdr.cause.set n (if natBit c cause then c else c + 2 ^ cause),
                                edges := s.gdr.edges &&& ~~~(3#8 <<< (2 * n)) }
  if s.hbHeld n then s
  else
    let s := s.bump (F.GDR_HBn_FAULT_COUNT n)
    let s := s.put F.GDR_STATUS_HB_HOLD (s.get F.GDR_STATUS_HB_HOLD + 2 ^ n)
    s.raiseInt (80 + n)

/-- R306: a channel in undervoltage whose input is on faults its half-bridge, unless rank 1, supply loss or OV3 hold it. -/
def State.uvloFaults (s : State) : State :=
  if s.isOn 13 && s.pulsesReleased then
    [0, 1, 2, 3].foldl (fun s n =>
      if s.ov3Holds && !s.chopHb n then s
      else
        let on := levelBits n (s.mod.inp.getD n .off)
        let uv := s.get F.GDR_CH_STATUS_UVLO
        let s := if natBit on (2 * n) && natBit uv (2 * n) then s.hbFault n 3 else s
        if natBit on (2 * n + 1) && natBit uv (2 * n + 1) then s.hbFault n 4 else s) s
  else s

/-- HB0 and HB1 are both taken from their function by ranks 1 to 5 (R264). A half-bridge that a trip does not name goes on with its
function (R276). A half-bridge fault is not among them: the function goes on making the edges that end its hold (R309). -/
def State.afeHeld (s : State) : Bool :=
  !s.pulsesReleased || !s.placed || s.ov3Holds || ((s.tripLevel 0).isSome && (s.tripLevel 1).isSome) || !s.mod.en

/-- R309: the conditions of the set causes of HBn are absent, as far as the device shows them: undervoltage, and the
two inputs not both on. -/
def State.holdClears (s : State) (n : Nat) : Bool :=
  let c := s.gdr.cause.getD n 0
  let u := s.get F.GDR_CH_STATUS_UVLO
  !(natBit c 3 && natBit u (2 * n)) && !(natBit c 4 && natBit u (2 * n + 1))
    && !(natBit c 5 && s.mod.inp.getD n .off == .both)

/-- The channels of the half-bridges whose clearing conditions are all absent: an edge of another one ends no hold (R309). -/
def State.edgesCount (s : State) : BitVec 8 :=
  [0, 1, 2, 3].foldl (fun b n => if s.holdClears n then b ||| (3#8 <<< (2 * n)) else b) 0

/-- The inputs of the half-bridges become `new`: what turned off, and when (R258), and which inputs had an edge at which the
conditions of every set cause are absent (R309). -/
def State.setInputs (s : State) (new : List HbLevel) : State :=
  let bits := fun (l : List HbLevel) => BitVec.ofNat 8 ([0, 1, 2, 3].foldl (fun b n => b + levelBits n (l.getD n .off)) 0)
  let old := bits s.mod.inp
  let m : ModSt := { s.mod with
    inp := new,
    offAt := (List.range 8).map (fun k =>
      if old.getLsbD k && !(bits new).getLsbD k then some s.tim.now else s.mod.offAt.getD k none) }
  let s := s.withMod m
  s.withGdr { s.gdr with edges := s.gdr.edges ||| ((old ^^^ bits new) &&& s.edgesCount) }

/-- No source of ranks 1 to 5 holds HBn. -/
def State.unheld (s : State) (n : Nat) : Bool :=
  s.passes n && s.isOn 10 && (s.tripLevel n).isNone && !s.mod.frozen && s.mod.en

/-- R311: a notch is over when a source of ranks 1 to 5 takes its half-bridge, or its function turns the low switch on. -/
def State.notchesLeft (s : State) : State :=
  s.withGdr { s.gdr with notch := [0, 1, 2, 3].map (fun n =>
    if s.unheld n && s.funcLevel n != .low then s.gdr.notch.getD n none else none) }

/-- Every output follows its present cause: inputs, undervoltage faults, gates, the copies in GDR_ and MOD_ registers. -/
def State.drive (s : State) : State :=
  let s := if s.isCell && s.mod.afeOn && !s.mod.frozen && s.afeHeld then
      s.withMod { s.mod with afeOn := false, func := (s.mod.func.set 0 .off).set 1 .off } else s
  let s := s.notchesLeft
  let g8 := s.inputGd8
  let s := s.setInputs ([0, 1, 2, 3].map s.inputLevel)
  let s := s.withMod { s.mod with inp8 := g8 }
  let s := s.uvloFaults
  let g := s.gateBits
  let s := s.withPins { s.pins with gates := BitVec.ofNat 9 g }
  let s := if s.isOn 13 then
      let s := s.put F.GDR_CH_STATUS_ON g
      let s := s.flag F.GDR_STATUS_CHOP_ON (natBit g 8)
      let w := s.get F.GDR_STATUS_BS_WARN
      s.put F.GDR_STATUS_BS_WARN
        ([0, 1, 2, 3].foldl (fun b n => if natBit w n && natBit g (2 * n) then b + 2 ^ n else b) 0)
    else s
  if s.isOn 10 && s.isCell then s.flag F.MOD_AFE_STATE_BLOCKED (g % 16 == 0) else s

/-- R311: the time after a notch's start at which its next edge lies, in 2^-32 ns: the low switch on, off, and the notch's end. -/
def State.notchDue (s : State) (n stage : Nat) : Nat :=
  let dead := s.cf (F.MOD_HBn_TIMING_DEAD n) * (5 * 2 ^ 27)
  let low := s.cf F.GDR_BS_GDR_BSREFRESH * 2 ^ 32
  match stage with
  | 0 => dead
  | 1 => dead + low
  | _ => 2 * dead + low

/-- The next edge of the notch of HBn, where its time has come. At the end the half-bridge takes what its function commands. -/
def State.notchEdge (s : State) (n : Nat) : State :=
  match s.gdr.notch.getD n none with
  | none => s
  | some x =>
    if s.notchDue n x.stage ≤ (s.tim.now + 2 ^ 64 - x.start) % 2 ^ 64 then
      let next := if x.stage < 2 then some { x with stage := x.stage + 1 } else none
      (s.withGdr { s.gdr with notch := s.gdr.notch.set n next }).drive
    else s

/-- R311: every edge of a refresh notch up to the present time, in its order. -/
def State.notchTo (s : State) : State :=
  if s.gdr.notch.any (·.isSome) && !s.mod.frozen then
    [0, 1, 2, 3].foldl (fun s n => ((s.notchEdge n).notchEdge n).notchEdge n) s
  else s

/-- Every half-bridge and GD8 are off (OUT_OFF of R156). -/
def State.bridgesOff (s : State) : Bool := s.pins.gates == 0

/-! ## EN, freeze and trips -/

/-- MOD_STATUS FUNCTION (Table 8-1). -/
def State.showFunction (s : State) : State :=
  s.put F.MOD_STATUS_FUNCTION
    (match s.role with
     | .cell => 1
     | .port => if s.cfIs F.MOD_CONFIG_MOD_PORT_MODE then 3 else 2
     | _ => 0)

/-- Trip `t` latches (R275). Its class may be "none": then no fault. -/
def State.tripLatch (s : State) (t : Nat) : State :=
  let l := s.get F.MOD_TRIP_STATUS_LATCHED
  if natBit l t then s
  else
    let s := s.put F.MOD_TRIP_STATUS_LATCHED (l + 2 ^ t)
    let s := s.put F.MOD_STATUS_TRIPPED 1
    let s := s.withMod { s.mod with releasing := s.mod.releasing &&& ~~~(1#4 <<< t) }
    (s.raiseInt (64 + t)).drive

/-- R274: the land of trip `t` is at the level POL selects. -/
def State.tripLand (s : State) (t : Nat) : Bool := s.pins.trips.getLsbD t != s.cfIs (F.MOD_TRIPt_CFG_POL t)

/-- The keys of trip `t` have changed (R274): not active with EN = 0; with FILTER = 0 the land's level acts at once; a filtered trip
waits for its samples. -/
def State.tripKey (s : State) (t : Nat) : State :=
  let a := s.get F.MOD_TRIP_STATUS_ACTIVE
  let was := natBit a t
  let now := s.cfIs (F.MOD_TRIPt_CFG_EN t) && (if s.cf (F.MOD_TRIPt_CFG_FILTER t) = 0 then s.tripLand t else was)
  let s := if now == was then s else s.put F.MOD_TRIP_STATUS_ACTIVE (if now then a + 2 ^ t else a - 2 ^ t)
  if now && !was then s.tripLatch t else s

/-- Keys of trips and chopper have changed: a chopper whose EN is 0 is off (R319). -/
def State.tripKeys (s : State) : State :=
  let s : State := if s.isOn 13 && !s.cfIs F.GDR_CHOP_CFG_EN then
      s.withGdr { s.gdr with chop := false, check := false } else s
  [0, 1, 2, 3].foldl State.tripKey s

/-- The keys of modulators and gate drive that waited come in force. A port device that changes its sub-mode (MOD_PORT_MODE)
leaves nothing of the functions of the old one running: those of the new one start under R269 and R273. -/
def State.applyModKeys (s : State) : State :=
  let mode := s.cfIs F.MOD_CONFIG_MOD_PORT_MODE
  let s := s.applyKeys modKey
  if s.isPort && s.cfIs F.MOD_CONFIG_MOD_PORT_MODE != mode then
    s.withMod { s.mod with func := [.off, .off, .off, .off], bridges := [{}, {}], invRun := false }
  else s

/-- The held keys take effect (R255). -/
def State.applyHeld (s : State) : State :=
  if s.keysWait modKey || s.is F.MOD_STATUS_PENDING then
    let s := s.applyModKeys
    let s := s.put F.MOD_STATUS_PENDING 0
    ((s.showFunction.tripKeys).raiseInt 74).drive
  else s

/-- EN becomes 0: every switch off, and the held keys take effect (R253, R255). -/
def State.modDisable (s : State) : State :=
  let s := (s.put F.MOD_CTRL_EN 0).put F.MOD_STATUS_ENABLED 0
  let s := s.withMod { s.mod with en := false }
  (s.drive).applyHeld

/-- EN becomes 1; the outputs return at the next aligned boundary (R253). Not while the Breach flag is set (R334). -/
def State.modEnable (s : State) : State :=
  if s.pwr.breach then s else (s.put F.MOD_CTRL_EN 1).put F.MOD_STATUS_ENABLED 1

/-- R253: MOD_CTRL EN is written. Writes are ignored during freeze (R278). -/
def State.writeEn (s : State) (v : Bool) : State :=
  if s.isOn 10 && !s.mod.frozen && s.is F.MOD_CTRL_EN != v then (if v then s.modEnable else s.modDisable) else s

/-- R254: EN at READY. -/
def State.enAtReady (s : State) : State :=
  if s.isOn 10 && !s.isStation && s.cfIs F.MOD_CONFIG_MOD_EN_AT_START then s.modEnable else s

/-- R277: a clear of trip `t`; the second part says that it was accepted. -/
def State.tripRelease (s : State) (t : Nat) : State × Bool :=
  let l := s.get F.MOD_TRIP_STATUS_LATCHED
  if !natBit l t then (s, true)
  else if natBit (s.get F.MOD_TRIP_STATUS_ACTIVE) t then
    let s := s.put F.MOD_TRIP_STATUS_REFUSED (s.get F.MOD_TRIP_STATUS_REFUSED ||| 2 ^ t)
    ((s.raiseInt 68).fault 80, false)
  else
    let s := s.put F.MOD_TRIP_STATUS_LATCHED (l - 2 ^ t)
    let s := s.flag F.MOD_STATUS_TRIPPED (l != 2 ^ t)
    ((s.withMod { s.mod with releasing := s.mod.releasing ||| (1#4 <<< t) }).drive, true)

/-- R277: MOD_TRIP_CLEAR is written. -/
def State.tripClears (s : State) (mask : Nat) : State :=
  if s.isOn 10 && !s.mod.frozen then
    ([0, 1, 2, 3].filter (natBit mask)).foldl (fun s t => (s.tripRelease t).1) s
  else s

/-! ## The carrier (R256, R257) -/

/-- inc of a frequency in Hz (R256; no tie can occur). -/
def carrierInc (f : Nat) : Nat := (f * 2 ^ 33 + 6400000000) / 12800000000

/-- The carrier phase at the boundary of tide `t`, shifted by `shift`. -/
def carrierPhase (f shift t : Nat) : Nat := (t * 6400 * carrierInc f + shift) % 2 ^ 32

/-- R257: the step, counted from the boundary of tide `t`, at which the carrier reaches `theta`. -/
def edgeStep (f shift t theta : Nat) : Nat :=
  ceilDiv ((theta % 2 ^ 32 + 2 ^ 32 - carrierPhase f shift t) % 2 ^ 32) (carrierInc f)

/-- The present tide. -/
def State.tide (s : State) : Nat := s.get F.CUL_TIDE_TIDE

/-- A dropped pulse (R258). -/
def State.dropPulse (s : State) : State := (s.bump F.MOD_DROP_COUNT).raiseFirst 69

/-- R258: the steps by which the partner of the switch that level `l` of HBn turns on delays it: DEAD while the partner is on, or
what is left of it since it turned off. -/
def State.deadLeft (s : State) (n : Nat) (l : HbLevel) : Int :=
  let dead : Int := s.cf (F.MOD_HBn_TIMING_DEAD n)
  let partner := if l = .high then 2 * n + 1 else 2 * n
  if s.mod.inp.getD n .off = (if l = .high then HbLevel.low else HbLevel.high) then dead
  else match s.mod.offAt.getD partner none with
    | some t => max 0 (dead - ((s.tim.now + 2 ^ 64 - t) % 2 ^ 64 / (5 * 2 ^ 27) : Nat))
    | none => 0

/-- R258: a commanded interval of `w` steps of level `l` of HBn is too short for a pulse. -/
def State.tooShort (s : State) (n : Nat) (l : HbLevel) (w : Int) : Bool :=
  decide (w - s.deadLeft n l < s.cf (F.MOD_HBn_TIMING_MINP n))

/-- The function of HBn commands `l` for the next `w` steps: a pulse too short is dropped, and the half-bridge keeps its
level (R258). -/
def State.command (s : State) (n : Nat) (l : HbLevel) (w : Int) : State :=
  if s.mod.func.getD n .off = l then s
  else if s.tooShort n l w then s.dropPulse
  else s.withMod { s.mod with func := s.mod.func.set n l }

/-- The function of HBn commands `l`, with no pulse to test. -/
def State.setFunc (s : State) (n : Nat) (l : HbLevel) : State := s.withMod { s.mod with func := s.mod.func.set n l }

/-! ## 48-bit counts (R7) -/

/-- A 48-bit saturating count in two words advances by one. -/
def State.bump48 (s : State) (lo : Nat) : State :=
  let v := (s.word lo).toNat + (s.word (lo + 4)).toNat % 65536 * 2 ^ 32
  let v := satInc 48 v
  (s.setWord lo (BitVec.ofNat 32 v)).setWord (lo + 4) (BitVec.ofNat 32 (v / 2 ^ 32))

/-! ## The cell's AFE (R260 to R265) -/

/-- Table 8-3. -/
def afeLevels : Nat → HbLevel × HbLevel
  | 1 => (.high, .low)
  | 2 => (.low, .high)
  | 3 => (.high, .high)
  | _ => (.low, .low)

/-- An output state is applied at this boundary (R261, R262). -/
def State.afeApply (s : State) (st : Nat) : State :=
  let s := if st != s.get F.MOD_AFE_STATE_STATE || !s.mod.afeOn then s.bump48 R.MOD_SW_AFE_LO else s
  let l := afeLevels st
  let s := (s.setFunc 0 l.1).setFunc 1 l.2
  let s := s.withMod { s.mod with afeOn := true }
  let s := s.put F.MOD_AFE_STATE_STATE st
  s.put F.MOD_AFE_STATE_DWELL_LEFT (s.cf F.MOD_AFE_CFG_MOD_AFE_DWELL)

/-- HB0 and HB1 go OFF under R264 or R265. -/
def State.afeOff (s : State) : State :=
  ((s.setFunc 0 .off).setFunc 1 .off).withMod { ((s.setFunc 0 .off).setFunc 1 .off).mod with afeOn := false }

/-- The pending state at a boundary; `asked` says that an entry executed here asks for it (R262, R264). -/
def State.afeBoundary (s : State) (asked : Bool) : State :=
  let st := s.get F.MOD_AFE_STATE_PENDING_STATE
  let s :=
    if !natBit s.mod.entry 3 || s.is F.MOD_STATUS_CMD_LOST then s.afeOff
    else if s.afeHeld then s
    else if !s.mod.afeOn then (if asked then s.afeApply st else s)
    else if st = s.get F.MOD_AFE_STATE_STATE then s
    else if s.get F.MOD_AFE_STATE_DWELL_LEFT = 0 then s.afeApply st
    else if asked then (s.bump F.MOD_CELL_COUNTS_DEFERRED).raiseFirst 70
    else s
  s.flag F.MOD_AFE_STATE_PENDING (s.mod.afeOn && s.get F.MOD_AFE_STATE_STATE != s.get F.MOD_AFE_STATE_PENDING_STATE)

/-! ## Sluice (R321 to R324) -/

/-- The Sluice command follows its causes; a change raises source 87 (R321, R324). -/
def State.sluiceFollow (s : State) : State :=
  let c := s.isCell && (s.gdr.sluice || s.is F.GDR_SLUICE_LOCAL)
  if s.is F.GDR_SLUICE_CMD == c then s
  else
    let s := s.flag F.GDR_SLUICE_CMD c
    let s := (s.flag F.GDR_SLUICE_A_LAND c).flag F.GDR_SLUICE_B_LAND c
    s.raiseInt 87

/-- HB0 and HB1 are OFF or in state 0b00 (R322): both OFF, both LOW, or state 0b00 in force with neither HIGH. -/
def State.afeZero (s : State) : Bool :=
  let g := s.pins.gates.toNat % 16
  g == 0 || g == 10 || (s.mod.afeOn && s.get F.MOD_AFE_STATE_STATE == 0 && g % 2 == 0 && g / 4 % 2 == 0)

/-- R322: the Sluice request of an executed entry (`some`), or a closure that waits, at this boundary. -/
def State.sluiceBoundary (s : State) (req : Option Bool) : State :=
  if !s.isOn 13 || !s.isCell then s
  else
    let s := match req with
      | some false => s.withGdr { s.gdr with sluice := false, sluiceWait := false }
      | some true =>
        if s.gdr.sluice || s.gdr.sluiceWait then s
        else if s.afeZero then s.withGdr { s.gdr with sluice := true }
        else (s.bump F.GDR_SLUICE_DEFERRED).withGdr { s.gdr with sluiceWait := true }
      | none => s
    let s := if s.gdr.sluiceWait && s.afeZero then
        s.withGdr { s.gdr with sluice := true, sluiceWait := false } else s
    s.sluiceFollow

/-! ## DAB bridges (R266 to R270) -/

/-- Bridge `b`; its two half-bridges; the HB numbers by role (Table 8-1). -/
def State.bridge (s : State) (b : Nat) : BridgeSt := s.mod.bridges.getD b {}
def State.setBridge (s : State) (b : Nat) (x : BridgeSt) : State :=
  s.withMod { s.mod with bridges := s.mod.bridges.set b x }
def State.bridgeHb (s : State) (b : Nat) : Nat := if s.isCell then 2 else 2 * b

/-- DAB bridges of the role: one in a cell, two in a port device in DAB-secondary mode. -/
def State.dabBridges (s : State) : List Nat :=
  if s.isCell then [0] else if s.isPort && !s.cfIs F.MOD_CONFIG_MOD_PORT_MODE then [0, 1] else []

/-- DAB mode of the entry in force: 0 off, 1 run, 2 hold, 3 refresh; RUN of a port entry as mode 1 (R261, R270). -/
def State.dabMode (s : State) : Nat :=
  if s.isCell then s.mod.entry / 16 % 4 else s.mod.entry % 2

/-- The fixed wave phase of a bridge at its start: 0 in the cell, MOD_SEC_PHASE in a port device (R266, R269). -/
def State.startPhase (s : State) (b : Nat) : Nat :=
  if s.isCell then 0
  else (if b = 0 then s.cf F.MOD_SEC_PHASE_BRIDGE0 else s.cf F.MOD_SEC_PHASE_BRIDGE1) * 65536

/-- R317: OV2 state. -/
def State.ov2 (s : State) : Bool := s.isOn 13 && s.is F.GDR_STATUS_OV2_ACTIVE

/-- R267: the target phase of the cell's loop, and that it was limited. -/
def State.dabTarget (s : State) : Int × Bool :=
  let t := s.getS (F.LPE_LOOPn_OUT_VALUE (s.cf F.MOD_DAB_SRC_MOD_DAB_LOOP)) * 64
  let m : Int := (s.cf F.MOD_DAB_CFG_MOD_DAB_PHMAX * 65536 : Nat)
  let c := clampInt (-m) m t
  let c := if s.ov2 && decide (c < 0) then 0 else c
  (c, c != t)

/-- MOD_STATUS DAB_LIMIT; its rising edge raises source 72. -/
def State.dabLimit (s : State) (v : Bool) : State :=
  let old := s.is F.MOD_STATUS_DAB_LIMIT
  let s := s.flag F.MOD_STATUS_DAB_LIMIT v
  if v && !old then s.raiseInt 72 else s

/-- The wave phase aimed at by the next edge of bridge `b`, at wave phase `psi` now (R267, R268, R269). -/
def State.nextPsi (s : State) (b : Nat) (psi : Nat) : Nat × State :=
  let r : Int × State :=
    if s.isCell then
      if s.dabMode = 1 then let t := s.dabTarget; (t.1, s.dabLimit t.2) else (psi, s.dabLimit false)
    else (s.startPhase b, s)
  let st : Int := (s.cf F.MOD_DAB_CFG_MOD_DAB_STEP * 65536 : Nat)
  let d := clampInt (-st) st (toSigned 32 (ofSigned 32 (r.1 - psi)))
  (ofSigned 32 (psi + d), r.2)

/-- The levels of a bridge's legs for the half-cycle until its next edge, tested under R258. -/
def State.legs (s : State) (b : Nat) (high : Bool) (w : Int) : State :=
  let n := s.bridgeHb b
  (s.command n (if high then .high else .low) w).command (n + 1) (if high then .low else .high) w

/-- Bridge `b` has an edge at its scheduled place; the next one is formed (R267, R268). -/
def State.dabEdge (s : State) (b : Nat) : State :=
  let x := s.bridge b
  let high := !x.high
  let r := s.nextPsi b x.psiNext
  let s := r.2
  let f := s.cf F.MOD_CARRIER_MOD_CARRIER_FREQ
  let aim := (r.1 + if high then 2 ^ 31 else 0) % 2 ^ 32
  let at' : Int := edgeStep f 0 s.tide aim
  let s := s.legs b high (at' - x.nextAt)
  let s := s.setBridge b { x with psi := x.psiNext, psiNext := r.1, lastAt := x.nextAt, nextAt := at',
                                  high := high, edges := x.edges + 1 }
  let s := if s.isCell then s.put F.MOD_DAB_PHASE_PHASE x.psiNext else s
  let s := if (x.edges + 1) % 2 == 0 && b == 0 then s.bump48 R.MOD_SW_DAB_LO else s
  s.drive

/-- Bridge `b` starts at a quarter-point: at its wave's 90 degrees with leg a HIGH, at 270 degrees with leg a LOW (R269). -/
def State.dabStart (s : State) (b : Nat) (second : Bool) : State :=
  let psi := s.startPhase b
  let high := !second
  let f := s.cf F.MOD_CARRIER_MOD_CARRIER_FREQ
  let at' : Int := edgeStep f 0 s.tide ((psi + if high then 2 ^ 31 else 0) % 2 ^ 32)
  let from_ : Int := edgeStep f 0 s.tide ((psi + 2 ^ 30 + if second then 2 ^ 31 else 0) % 2 ^ 32)
  let s := s.legs b high (at' - from_)
  let s := s.setBridge b { run := .running, psi := psi, psiNext := psi, lastAt := from_, nextAt := at', high := high }
  let s := if s.isCell then s.put F.MOD_DAB_PHASE_PHASE psi else s
  s.drive

/-- Both legs of bridge `b` go OFF, or LOW for refresh. -/
def State.dabHalt (s : State) (b : Nat) (refresh : Bool) : State :=
  let n := s.bridgeHb b
  let l := if refresh then HbLevel.low else HbLevel.off
  (((s.setFunc n l).setFunc (n + 1) l).setBridge b { run := if refresh then .refresh else .off }).drive

/-- The DAB mode of an executed entry at its apply boundary: moves between OFF and refresh happen here, the others at a
quarter-point (R269). -/
def State.dabEntry (s : State) : State :=
  s.dabBridges.foldl (fun s b =>
    match (s.bridge b).run, s.dabMode with
    | .off, 3 => s.dabHalt b true
    | .refresh, 0 => s.dabHalt b false
    | _, _ => s) s

/-- R268: the carrier moved by `d` against the wave of every running bridge; edges already placed stay at their instants,
which lie `steps` earlier against the new boundary. -/
def State.carrierMoved (s : State) (d : Int) (steps : Int) : State :=
  s.dabBridges.foldl (fun s b =>
    let x := s.bridge b
    if x.run = .running then
      s.setBridge b { x with psi := ofSigned 32 (x.psi + d), psiNext := ofSigned 32 (x.psiNext + d),
                             lastAt := x.lastAt - steps, nextAt := x.nextAt - steps }
    else s) s

/-- A control quantity's exact value where it is one, else as the device rounds it (R216). -/
def fxExact (x : Rat) : Int :=
  let y := x * 2 ^ 24
  if y.den = 1 ∧ -(2 ^ 31) ≤ y.num ∧ y.num < 2 ^ 31 then y.num else (Config.fxRound x).toInt

/-- R270: the transfer estimate p_est of a cell. -/
def State.pEst (s : State) : Int :=
  if !s.isCell then 0
  else
    let phi := toSigned 32 (s.get F.MOD_DAB_PHASE_PHASE)
    let v := if s.cfIs F.ADC_VDC_EN then s.adcPu (s.cf F.ADC_VDC_CONV) (s.cf F.ADC_VDC_ENTRY) else 0
    fxExact (4 * (phi : Rat) * (2 ^ 31 - phi.natAbs) * v / 2 ^ 62 / 2 ^ 24)

/-! ## Inverter legs (R271 to R273) -/

/-- The duty of a reference as a carrier angle: (1 + r) / 2 of a half circle. -/
def dutyAngle (r : Int) : Int := (r + 2 ^ 24) * 2 ^ 6

/-- The steps from edge `x` to edge `y`, carrier angles counted from the carrier's next passage through `center` (R257). -/
def State.invSteps (s : State) (center : Nat) (x y : Int) : Int :=
  let f := s.cf F.MOD_INV_CFG_MOD_INV_FREQ
  let sh := s.cf F.MOD_INV_CFG_MOD_INV_SHIFT * 65536
  let c : Int := ((center + 2 ^ 32 - carrierPhase f sh s.tide) % 2 ^ 32 : Nat)
  let up := fun (a : Int) => -((-(c + a)) / (carrierInc f : Int))
  up y - up x

/-- Loop of leg `l` (A, B, C, neutral). -/
def State.invLoop (s : State) (l : Nat) : Nat :=
  match l with
  | 0 => s.cf F.MOD_INV_SRC_LOOP_A
  | 1 => s.cf F.MOD_INV_SRC_LOOP_B
  | 2 => s.cf F.MOD_INV_SRC_LOOP_C
  | _ => s.cf F.MOD_INV_SRC_LOOP_N

/-- A port device in inverter mode. -/
def State.isInverter (s : State) : Bool := s.isPort && s.cfIs F.MOD_CONFIG_MOD_PORT_MODE

/-- The carrier's phase `n` steps after the boundary of the present tide (R271). -/
def State.invPhase (s : State) (n : Nat) : Nat :=
  let f := s.cf F.MOD_INV_CFG_MOD_INV_FREQ
  (carrierPhase f (s.cf F.MOD_INV_CFG_MOD_INV_SHIFT * 65536) s.tide + n * carrierInc f) % 2 ^ 32

/-- R272: a leg of reference `r` is HIGH at carrier phase `psi`: d > c. -/
def invHigh (r : Int) (psi : Nat) : Bool :=
  if psi < 2 ^ 31 then decide ((psi : Int) < dutyAngle r) else decide ((2 ^ 32 : Int) - dutyAngle r < psi)

/-- A leg's interval of `w` steps at level `l`: none without length (R272); one too short is dropped (R258). -/
def State.invInterval (s : State) (n : Nat) (l : HbLevel) (w : Int) : State := if w ≤ 0 then s else s.command n l w

/-- R272: the legs at carrier phase `psi`: one whose wave has had an edge takes its level for the whole interval that the edge begins;
`next` are the references from the next peak on. -/
def State.invEval (s : State) (psi : Nat) (next : List Int) : State :=
  [0, 1, 2, 3].foldl (fun s n =>
    let b := invHigh (s.mod.invRef.getD n 0) psi
    if b == s.mod.invWave.getD n false then s
    else
      let s := s.withMod { s.mod with invWave := s.mod.invWave.set n b }
      let d := dutyAngle (s.mod.invRef.getD n 0)
      if b then s.invInterval n .high (s.invSteps 0 (-d) d)
      else s.invInterval n .low (s.invSteps (2 ^ 31) (d - 2 ^ 31) (2 ^ 31 - dutyAngle (next.getD n 0)))) s

/-- The legs follow their wave to `n` steps after the boundary of the present tide. -/
def State.invFollow (s : State) (n : Nat) : State :=
  if s.isInverter && s.mod.invRun then s.invEval (s.invPhase n) s.mod.invLatched else s

/-- R253: at a boundary leg `n` takes the level of its wave; the second part is the steps until its next edge. -/
def State.invReturn (s : State) (n : Nat) : State × Int :=
  let psi := s.invPhase 0
  let r := s.mod.invRef.getD n 0
  let b := invHigh r psi
  let r' := if psi < 2 ^ 31 then s.mod.invLatched.getD n 0 else r
  let edge := if b then (dutyAngle r).toNat else ((2 ^ 32 : Int) - dutyAngle r').toNat
  let w := edgeStep (s.cf F.MOD_INV_CFG_MOD_INV_FREQ) (s.cf F.MOD_INV_CFG_MOD_INV_SHIFT * 65536) s.tide edge
  ((s.setFunc n (if b then .high else .low)).withMod { (s.setFunc n (if b then .high else .low)).mod with
    invWave := s.mod.invWave.set n b }, w)

/-! ## OV2, OV3 and chopper -/

/-- R317: OV2 state follows the comparators and CHOP_FAULT. -/
def State.ov2Follow (s : State) : State :=
  let one := s.is F.GDR_STATUS_CHOP_FAULT && s.gdr.above.getLsbD 0
  let act := one || s.gdr.above.getLsbD 1
  let s := s.flag F.GDR_STATUS_OV2_FROM_OV1 one
  if s.is F.GDR_STATUS_OV2_ACTIVE == act then s else (s.flag F.GDR_STATUS_OV2_ACTIVE act).raiseInt 85

/-- R318: the OV3 block sets. -/
def State.ov3Block (s : State) : State :=
  if s.is F.GDR_STATUS_OV3_BLOCK then s
  else
    let s := s.put F.GDR_STATUS_OV3_BLOCK 1
    let s := s.withGdr { s.gdr with ov3Wait := false }
    let s := s.raiseInt 86
    let s := s.drive
    if s.isCell then (s.put F.GDR_SLUICE_LOCAL 1).sluiceFollow else s

/-- R318: FAULT_ACK of "bus OV3"; refused while comparator 3 is above. -/
def State.ov3Release (s : State) : State × Bool :=
  if !s.is F.GDR_STATUS_OV3_BLOCK then (s, true)
  else if s.gdr.above.getLsbD 2 then (s, false)
  else
    let s := s.put F.GDR_STATUS_OV3_BLOCK 0
    let s := s.withGdr { s.gdr with ov3Wait := true }
    let s := s.raiseInt 86
    (if s.isCell then (s.put F.GDR_SLUICE_LOCAL 0).sluiceFollow else s, true)

/-- Comparator `k` (0 to 2) becomes above or below (R314, R317, R318). -/
def State.ovSet (s : State) (k : Nat) (above : Bool) : State :=
  let a := if above then s.gdr.above ||| (1#3 <<< k) else s.gdr.above &&& ~~~(1#3 <<< k)
  let s := s.withGdr { s.gdr with above := a }
  let s := s.flag F.GDR_STATUS_OV1_ABOVE (a.getLsbD 0)
  let s := if k = 2 && above then s.ov3Block else s
  s.ov2Follow

/-- R314: a comparator with EN = 0 is below. -/
def State.ovKeys (s : State) : State :=
  [0, 1, 2].foldl (fun s k =>
    if s.gdr.above.getLsbD k && !s.cfIs (F.GDR_OVk_CFG_EN (k + 1)) then s.ovSet k false else s) s

/-- R320: CHOP_FAULT sets: the chopper turns off and stays off. -/
def State.chopFault (s : State) : State :=
  if s.is F.GDR_STATUS_CHOP_FAULT then s
  else
    let s := s.withGdr { s.gdr with chop := false, check := false }
    let s := s.put F.GDR_STATUS_CHOP_FAULT 1
    ((s.raiseInt 84).ov2Follow).drive

/-- R320: FAULT_ACK of "chopper failed". -/
def State.chopClear (s : State) : State :=
  if s.is F.GDR_STATUS_CHOP_FAULT then ((s.put F.GDR_STATUS_CHOP_FAULT 0).raiseInt 84).ov2Follow else s

/-- Committed modulation and gate-drive keys: at once where they may act (R255, R326), otherwise held with PENDING set. -/
def State.modCommitted (s : State) : State :=
  let s := if s.isOn 13 then (s.applyKeys gdrAtOnce).ovKeys else s
  if s.isOn 10 && !s.mod.frozen && s.keysWait modKey then
    if s.is F.MOD_CTRL_EN then s.put F.MOD_STATUS_PENDING 1
    else (s.applyModKeys.showFunction.tripKeys).drive
  else s

end Sys2Proof.Machine
end

