-- ==== Sys2Proof/Machine/LpeOps.lean ====
section
/-! DEFINITION. The loop engine's pass: sources, loops, coefficient swap, selector groups, following error, profile generators
(09_loop_engine.md R282 to R300). -/
namespace Sys2Proof.Machine

/-- Saturation to a signed 32-bit number (R282). -/
def sat32 (i : Int) : Int := satSigned 32 i

/-- Loop `n`, generator `g`. -/
def State.loop (s : State) (n : Nat) : LoopSt := s.lpe.loops.getD n {}
def State.setLoop (s : State) (n : Nat) (l : LoopSt) : State :=
  s.withLpe { s.lpe with loops := s.lpe.loops.set n l }

/-- The registers of loop `n`. -/
def loopKey (n : Nat) (a : Nat) : Bool := decide (0x81000 + 0x40 * n ≤ a) && decide (a < 0x81040 + 0x40 * n)

/-- Group and generator keys, LPE_AC: they act at the first pass after their commit (R302). -/
def passKey (a : Nat) : Bool := a == 0x80008 || (decide (0x82000 ≤ a) && decide (a < 0x84000))

/-! ## Sources (R283, R300) -/

/-- An exact value as the device's fixed-point number (R216). -/
def fx (x : Rat) : Int := (Config.fxRound x).toInt

/-- A quotient; by 0 it is what the device's arithmetic gives (not stated). -/
def ratio (a b : Rat) : Rat := if b = 0 then Config.fxOverZero a else a / b

/-- A control quantity as an exact number of per unit (R3). -/
def pu (i : Int) : Rat := (i : Rat) / 2 ^ 24

/-- R215: the VDC of a record in per unit. -/
def State.vdcPu (s : State) (vdc : Nat) : Int :=
  let b := s.cf F.OBS_BASE_VBASE
  if b = 0 then fx (Config.fxOverZero vdc) else ((vdc * 2 ^ 20 / b : Nat) : Int)

/-- Internal quantities 6 to 8: the AC reference of phase `k` in tide `t` (R300). -/
def State.acRef (s : State) (k t : Nat) : Int :=
  let fr := s.cf F.LPE_AC_FREQ
  if fr = 0 then 0
  else
    let inc := (fr * 2 ^ 25 + 390625) / 781250
    let th : Nat := (t * inc + s.cf F.LPE_AC_SHIFT * 65536) % 2 ^ 32
    let y := s.getS (F.LPE_GENg_OUT_VALUE (s.cf F.LPE_AC_GEN))
    sat32 (y * Config.cos30 (BitVec.ofInt 32 ((th : Int) - k * 0x55555555)) / 2 ^ 30)

/-- Internal quantity `c` (Table 9-3). `vmean` is the mean vdc_pu of the admitted cells. -/
def State.internalQ (s : State) (c t : Nat) (vmean : Int) : Int :=
  match c with
  | 0 => if s.isStation && s.isOn 10 then s.getS F.OBS_P_VALUE else 0
  | 1 => if s.isStation && s.isOn 10 then s.getS F.OBS_Q_VALUE else 0
  | 2 => if s.isStation && s.isOn 10 then s.getS F.OBS_TRK_VMAG_VALUE else 0
  | 3 => if s.isStation then vmean else 0
  | 4 => if s.isCell && s.isOn 10 then s.pEst else 0
  | 5 => if s.isCell && s.isOn 10 then toSigned 32 (s.get F.MOD_DAB_PHASE_PHASE) / 64 else 0
  | 6 => if s.isPort then s.acRef 0 t else 0
  | 7 => if s.isPort then s.acRef 1 t else 0
  | 8 => if s.isPort then s.acRef 2 t else 0
  | _ => 0

/-- The value a 9-bit source code selects, as it stands at the boundary (Table 9-2); `adc` gives converter results. -/
def State.sourceWith (s : State) (adc : Nat → Nat → Int) (t : Nat) (vmean : Int) (code : Nat) : Int :=
  let low := code % 64
  match code / 64 with
  | 1 => adc (low / 16) (low % 16)
  | 2 => s.getS (F.LPE_LOOPn_OUT_VALUE (low % 32))
  | 3 => s.getS (F.LPE_GENg_OUT_VALUE (low % 8))
  | 4 => s.getS (F.LPE_SETk_VALUE (low % 16))
  | 5 => s.internalQ (low % 16) t vmean
  | _ => 0

/-- The same with the device's own converter results. -/
def State.source (s : State) (t : Nat) (vmean : Int) (code : Nat) : Int :=
  s.sourceWith (fun n k => if s.isOn 12 then s.adcPu n k else 0) t vmean code

/-- The same as the decision logic takes it (R444). -/
def State.ctlSource (s : State) (t : Nat) (vmean : Int) (code : Nat) : Int :=
  s.sourceWith (fun n k => if s.isOn 12 || s.isShared n then s.ctlPu n k else 0) t vmean code

/-! ## One loop (R287 to R292) -/

/-- The coefficients of loop `n` that a pass uses. -/
structure Coef where
  kp : Int
  ki : Int
  kd : Int
  kf : Int
  df : Nat
  imin : Int
  imax : Int
  omin : Int
  omax : Int
  fb : Int
  ff : Int
  deriving DecidableEq, Repr

/-- The active copy of loop `n`, with the values its feedback and feedforward sources give. -/
def State.coef (s : State) (n : Nat) (src : Nat → Int) : Coef where
  kp := s.cfS (F.LPE_LOOPn_KP_VALUE n)
  ki := s.cfS (F.LPE_LOOPn_KI_VALUE n)
  kd := s.cfS (F.LPE_LOOPn_KD_VALUE n)
  kf := s.cfS (F.LPE_LOOPn_KF_VALUE n)
  df := s.cf (F.LPE_LOOPn_CFG_DF n)
  imin := s.cfS (F.LPE_LOOPn_IMIN_VALUE n)
  imax := s.cfS (F.LPE_LOOPn_IMAX_VALUE n)
  omin := s.cfS (F.LPE_LOOPn_OMIN_VALUE n)
  omax := s.cfS (F.LPE_LOOPn_OMAX_VALUE n)
  fb := src (s.cf (F.LPE_LOOPn_SRC_FB n))
  ff := src (s.cf (F.LPE_LOOPn_SRC_FF n))

/-- Flag bits of LPE_LOOPn_FLAGS. -/
def flagSat (x : Int) (bit : Nat) : Nat := if sat32 x = x then 0 else 2 ^ bit

/-- d and f that coefficients `c` would give from this pass's inputs. -/
def termsDF (c : Coef) (d fbPrev : Int) : Int :=
  let raw := sat32 (c.kd * (fbPrev - c.fb) / 2 ^ 24)
  sat32 (d + (raw - d) / 2 ^ c.df) + sat32 (c.kf * c.ff / 2 ^ 24)

/-- R292: steps 1 to 3 of the swap, from the old coefficients to the new; `newFb` says that the FB source changed. -/
def swapLoop (l : LoopSt) (old new : Coef) (newFb : Bool) : LoopSt :=
  let fbPrev := if newFb then new.fb else l.fbPrev
  if l.a < new.imin || new.imax < l.a then
    { l with a := clampInt new.imin new.imax l.a, fbPrev := fbPrev, flags := l.flags ||| 2 ^ 8 ||| 2 ^ 3, raise_ := true }
  else if l.a = old.imin || l.a = old.imax then { l with fbPrev := fbPrev, flags := l.flags ||| 2 ^ 3 }
  else
    let v := l.a + termsDF old l.d l.fbPrev - termsDF new l.d fbPrev
    let a := clampInt new.imin new.imax v
    { l with a := a, fbPrev := fbPrev, flags := if a = v then l.flags else l.flags ||| 2 ^ 3 }

/-- R287, R288, R289: one evaluation with error `e`, coefficients `c` and output limits `lo`, `hi`. -/
def evalLoop (l : LoopSt) (c : Coef) (ref lo hi : Int) : LoopSt :=
  let e := sat32 (ref - c.fb)
  let f := sat32 (c.kf * c.ff / 2 ^ 24)
  let fl0 := flagSat (ref - c.fb) 0 ||| flagSat (c.kf * c.ff / 2 ^ 24) 5
  let l := if l.fresh then
      { l with a := clampInt c.imin c.imax 0, ePrev := e, fbPrev := c.fb, d := 0, clamped := 0, fresh := false, enabling := false } else l
  if l.latched then { l with e := e, f := f, flags := l.flags ||| fl0 }
  else
    let dp := c.kp * (e - l.ePrev) / 2 ^ 24
    let di := c.ki * e / 2 ^ 32
    let inc := sat32 (sat32 dp + sat32 di)
    let inc := if l.clamped = 1 && decide (inc > 0) then 0 else inc
    let inc := if l.clamped = -1 && decide (inc < 0) then 0 else inc
    let a := clampInt c.imin c.imax (l.a + inc)
    let raw := sat32 (c.kd * (l.fbPrev - c.fb) / 2 ^ 24)
    let dx := l.d + (raw - l.d) / 2 ^ c.df
    let d := sat32 dx
    let u := sat32 (a + d + f)
    let out := clampInt lo hi u
    let lim := a == c.imin || a == c.imax
    { l with
      a := a, d := d, e := e, f := f, out := out, ePrev := e, fbPrev := c.fb,
      clamped := if out < u then 1 else if u < out then -1 else 0,
      outClamped := out != u, aLimit := lim,
      flags := l.flags ||| fl0 ||| flagSat dp 1 ||| flagSat di 2 ||| flagSat dx 4 ||| flagSat (a + d + f) 6
        ||| (if lim then 2 ^ 3 else 0) ||| (if out != u then 2 ^ 7 else 0) }

/-- Loop `n` is a member of group `g`, whether it is enabled or not (R293; a disabled member counts with its output 0, assumption 77). -/
def State.member (s : State) (n g : Nat) : Bool :=
  s.cfIs (F.LPE_LOOPn_CFG_GROUP_EN n) && s.cf (F.LPE_LOOPn_CFG_GROUP n) == g

/-- The output a frozen loop publishes (R296). -/
def State.frozenOut (s : State) (n : Nat) (out : Int) : Int :=
  if s.cfIs (F.LPE_LOOPn_CFG_FE_ACTION n) then
    clampInt (s.cfS (F.LPE_LOOPn_OMIN_VALUE n)) (s.cfS (F.LPE_LOOPn_OMAX_VALUE n)) (s.cfS (F.LPE_LOOPn_FE_VALUE_VALUE n))
  else out

/-- Tide `t` is one of loop `n`'s, under the DIV and PHASE of its active copy (R287, R291). -/
def State.loopTide (s : State) (n t : Nat) : Bool :=
  let key := fun (f : Fld) => if (s.loop n).enabling then s.cfgOf f else s.cf f
  key (F.LPE_LOOPn_CFG_DIV n) != 0 && t % key (F.LPE_LOOPn_CFG_DIV n) == key (F.LPE_LOOPn_CFG_PHASE n)

/-- Loop `n` is due in tide `t` (R287). -/
def State.loopDue (s : State) (n t : Nat) : Bool := s.cfIs (F.LPE_LOOPn_CFG_EN n) && s.loopTide n t

/-- R297: what a release of its following-error latch does to loop `n`, which resumes from its published output. -/
def State.released (s : State) (n : Nat) (l : LoopSt) : LoopSt :=
  { l with latched := false, count := 0, ePrev := l.e,
           a := clampInt (s.cfS (F.LPE_LOOPn_IMIN_VALUE n)) (s.cfS (F.LPE_LOOPn_IMAX_VALUE n)) (l.out - l.d - l.f) }

/-- R297: the following-error latch of loop `n` is released; its interrupt source is raised. -/
def State.feRelease (s : State) (n : Nat) : State :=
  if (s.loop n).latched then
    ((s.setLoop n (s.released n (s.loop n))).put (F.LPE_LOOPn_FLAGS_FE_LATCHED n) 0).raiseInt (96 + n)
  else s

/-- R291: the committed EN of loop `n` comes in force, and no other key of it. -/
def State.applyEn (s : State) (n : Nat) : State :=
  let a := R.LPE_LOOPn_CFG n
  let b := natBit (s.cfgWord a).toNat 31
  if s.cfIs (F.LPE_LOOPn_CFG_EN n) == b then s
  else s.withEff (SMap.set s.eff a (setBits (s.effWord a) 31 1 (b2n b)))

/-- R291: keys of loop `n` beside EN wait for its swap evaluation. -/
def State.swapWaits (s : State) (n : Nat) : Bool := (s.applyEn n).keysWait (loopKey n)

/-- EN of loop `n` at a pass: a loop that is disabled publishes 0, and its latch is released (R290, R291). -/
def State.loopEn (s : State) (n : Nat) : State :=
  let s := s.applyEn n
  if s.cfIs (F.LPE_LOOPn_CFG_EN n) then s
  else
    let l := s.loop n
    s.setLoop n { l with out := 0, latched := false, count := 0, fresh := true, enabling := false,
                         raise_ := l.raise_ || l.latched }

/-- Loop `n` at a pass of tide `t`: swap and evaluation, when it is due (R287 to R292, R296). Where OV2_CLAMP makes the limits cross,
the lower one wins if u is below it, else the upper one (DESIGN CHOICE, assumption 102). -/
def State.loopPass (s : State) (t : Nat) (src : Nat → Int) (n : Nat) : State :=
  if s.loopDue n t then
    let wait := s.keysWait (loopKey n)
    let old := s.coef n src
    let oldFb := s.cf (F.LPE_LOOPn_SRC_FB n)
    let s := if wait then s.applyKeys (loopKey n) else s
    let new := s.coef n src
    let l := s.loop n
    let l := if wait && !l.latched && !l.fresh then
        swapLoop l old new (s.cf (F.LPE_LOOPn_SRC_FB n) != oldFb) else l
    let lo := if s.ov2 && s.cf (F.LPE_LOOPn_CFG_OV2_CLAMP n) == 1 then max new.omin 0 else new.omin
    let hi := if s.ov2 && s.cf (F.LPE_LOOPn_CFG_OV2_CLAMP n) == 2 then min new.omax 0 else new.omax
    let l := evalLoop l new (src (s.cf (F.LPE_LOOPn_SRC_REF n))) lo hi
    s.setLoop n (if l.latched then { l with out := s.frozenOut n l.held } else l)
  else s

/-- R294: group `g` in a pass that is one of its members', be they disabled (assumption 77); `due` are the loops whose tide it is. -/
def State.groupPass (s : State) (due : List Nat) (g : Nat) : State :=
  let ms := (List.range 32).filter (fun n => s.member n g)
  match ms with
  | [] => s.withLpe { s.lpe with groups := s.lpe.groups.set g ((s.lpe.groups.getD g (0, none)).1, none) }
  | m :: _ =>
    if ms.any (due.contains ·) then
      let w := ms.foldl (fun w n => min w (s.loop n).out) (s.loop m).out
      let win := (ms.find? (fun n => (s.loop n).out == w)).getD m
      let sh := s.cf (F.LPE_GRPg_TRACK_SHIFT g)
      let s := ms.foldl (fun s n =>
        let l := s.loop n
        let l := { l with winner := n == win }
        if n != win && !l.latched && s.cfIs (F.LPE_GRPg_TRACK_EN g) then
          s.setLoop n { l with a := clampInt (s.cfS (F.LPE_LOOPn_IMIN_VALUE n)) (s.cfS (F.LPE_LOOPn_IMAX_VALUE n))
                                      (l.a + (w - l.out) / 2 ^ sh) }
        else s.setLoop n l) s
      s.withLpe { s.lpe with groups := s.lpe.groups.set g (w, some win) }
    else s

/-- R295 to R297: following-error supervision of a loop evaluated in this pass. -/
def State.feSupervise (s : State) (n : Nat) : State :=
  let l := s.loop n
  let time := s.cf (F.LPE_LOOPn_FE_FE_TIME n)
  let bad := decide ((l.e.natAbs : Int) > s.cfS (F.LPE_LOOPn_FE_LIMIT_VALUE n))
  if l.latched then
    if s.cfIs (F.LPE_LOOPn_CFG_FE_AUTO n) then
      let c := if bad then 0 else l.count + 1
      s.setLoop n (if c ≥ time then { s.released n l with raise_ := true } else { l with count := c })
    else s
  else if s.cfIs (F.LPE_LOOPn_CFG_GROUP_EN n) && !l.winner then s.setLoop n { l with count := 0 }
  else
    let c := if bad then l.count + 1 else 0
    if c ≥ time then
      s.setLoop n { l with latched := true, count := 0, flags := l.flags ||| 2 ^ 9, raise_ := true,
                           held := l.out, out := s.frozenOut n l.out }
    else s.setLoop n { l with count := c }

/-! ## Profile generators (R298, R299) -/

/-- What the using function gives a bound generator (R237, R299): target, its limits, freeze, the toward-zero rule. -/
structure Binding where
  target : Int
  lo : Int
  hi : Int
  frozen : Bool
  towardZero : Bool
  atOnce : Bool
  deriving DecidableEq, Repr

/-- The sign of a number. -/
def sgn (i : Int) : Int := if i > 0 then 1 else if i < 0 then -1 else 0

/-- R298: one step in units of 2^-64 pu; the last part says that the toward-zero rule stopped it. -/
def genStep (g : GenSt) (x lo hi vmax amax jmax : Int) (frozen tz : Bool) : GenSt :=
  if g.y > hi || g.y < lo then { g with y := clampInt lo hi g.y, v := 0, a := 0, hold := false }
  else if frozen then { g with v := 0, a := 0, hold := false }
  else
    let err := x - g.y
    if vmax = 0 then { g with y := x, v := 0, a := 0, hold := false }
    else
      let vd := sgn err * (if amax = 0 then vmax else min vmax (Config.genSqrt (2 * amax * err.natAbs).toNat : Nat))
      let ad := clampInt (-amax) amax (vd - g.v)
      let a := if amax = 0 then g.a else if jmax = 0 then ad else g.a + clampInt (-jmax) jmax (ad - g.a)
      let v := if amax = 0 then vd else clampInt (-vmax) vmax (g.v + a)
      let y := g.y + v
      let y := if tz && decide (sgn y * sgn g.y < 0) then 0 else y
      if tz && decide (y.natAbs > g.y.natAbs) then { g with v := 0, a := 0, hold := true }
      else if x - y = 0 || sgn (x - y) != sgn err then { g with y := x, v := 0, a := 0, hold := false }
      else { g with y := y, v := v, a := a, hold := false }

/-- Generator `g` steps (R298); a bound one under what its user gives, with the target at once where VMAX is as 0 (R299). -/
def State.genPass (s : State) (src : Nat → Int) (bind : Nat → Option Binding) (g : Nat) : State :=
  let gmin := s.cfS (F.LPE_GENg_GMIN_VALUE g)
  let gmax := s.cfS (F.LPE_GENg_GMAX_VALUE g)
  let b := (bind g).getD ⟨src (s.cf (F.LPE_GENg_CFG_SRC g)), gmin, gmax, false, false, false⟩
  let lo := max gmin b.lo
  let hi := min gmax b.hi
  let u : Int := 2 ^ 40
  let x := clampInt lo hi b.target * u
  let st := s.lpe.gens.getD g {}
  let st := genStep st x (lo * u) (hi * u) (if b.atOnce then 0 else s.cf (F.LPE_GENg_VMAX_VALUE g) * 2 ^ 24)
    (s.cf (F.LPE_GENg_AMAX_VALUE g) * 2 ^ 12) (s.cf (F.LPE_GENg_JMAX_VALUE g)) b.frozen b.towardZero
  let st := { st with limited := st.y == lo * u || st.y == hi * u, frozen := b.frozen, bound := (bind g).isSome }
  s.withLpe { s.lpe with gens := s.lpe.gens.set g st }

/-! ## The pass (R284) -/

/-- One pass at the boundary of tide `t`; its results are published by LPE_PUBLISH. -/
def State.lpePass (s : State) (t : Nat) (vmean : Int) (bind : Nat → Option Binding) : State :=
  if s.isOn 11 then
    let s0 := s.applyKeys passKey
    let src := s0.ctlSource t vmean
    let s := (List.range 32).foldl State.loopEn s0
    let due := (List.range 32).filter (fun n => s.loopDue n t)
    let turn := (List.range 32).filter (fun n => s.loopTide n t)
    let s := (List.range 32).foldl (fun s n => s.loopPass t src n) s
    let s := (List.range 8).foldl (fun s g => s.groupPass turn g) s
    let s := due.foldl State.feSupervise s
    let s := (List.range 8).foldl (fun s g => s.genPass src bind g) s
    s.withLpe { s.lpe with pass := some t }
  else s

/-- The registers of loop `n` at publication (R284, R285); a disabled loop publishes 0 in a group too (R290, R291). What is not due keeps
its published output, the 0 of a silence of the tide boundaries too (R284, R287; DEDUCED, assumption 102). -/
def State.loopPublish (s : State) (n : Nat) : State :=
  let l := s.loop n
  let g := s.cf (F.LPE_LOOPn_CFG_GROUP n)
  let inGroup := s.member n g
  let out := if !s.cfIs (F.LPE_LOOPn_CFG_EN n) then 0 else if inGroup then (s.lpe.groups.getD g (0, none)).1 else l.out
  let s := s.putS (F.LPE_LOOPn_OUT_VALUE n) out
  let s := s.putS (F.LPE_LOOPn_INTEG_VALUE n) l.a
  let s := s.setWord (R.LPE_LOOPn_FLAGS n) (s.word (R.LPE_LOOPn_FLAGS n) ||| BitVec.ofNat 32 l.flags)
  let s := s.flag (F.LPE_LOOPn_FLAGS_SWAP_PENDING n) (s.swapWaits n)
  let s := s.flag (F.LPE_LOOPn_FLAGS_WINNER n) (inGroup && l.winner)
  let s := s.flag (F.LPE_LOOPn_FLAGS_FE_LATCHED n) l.latched
  let s := s.flag (F.LPE_LOOPn_FLAGS_A_LIMIT n) l.aLimit
  let s := s.flag (F.LPE_LOOPn_FLAGS_OUT_CLAMPED n) l.outClamped
  let s := s.setLoop n { l with flags := 0, raise_ := false }
  if l.raise_ then s.raiseInt (96 + n) else s

/-- The registers of generator `g` at publication. -/
def State.genPublish (s : State) (g : Nat) : State :=
  let x := s.lpe.gens.getD g {}
  let s := s.putS (F.LPE_GENg_OUT_VALUE g) (x.y / 2 ^ 40)
  let s := s.flag (F.LPE_GENg_STATUS_MOVING g) (x.v != 0)
  let s := s.flag (F.LPE_GENg_STATUS_LIMITED g) x.limited
  let s := s.flag (F.LPE_GENg_STATUS_HOLD g) x.hold
  let s := s.flag (F.LPE_GENg_STATUS_FROZEN g) x.frozen
  s.flag (F.LPE_GENg_STATUS_BOUND g) x.bound

/-- The registers of group `g` at publication. -/
def State.groupPublish (s : State) (g : Nat) : State :=
  let x := s.lpe.groups.getD g (0, none)
  let s := s.putS (F.LPE_GRPg_OUT_VALUE g) x.1
  s.put (F.LPE_GRPg_WINNER g) (x.2.getD 255)

/-- R284: everything is published together. -/
def State.lpePublish (s : State) : State :=
  match s.lpe.pass with
  | none => s
  | some t =>
    let s := s.put F.LPE_PASS_TIDE t
    let s := (List.range 32).foldl State.loopPublish s
    let s := (List.range 8).foldl State.groupPublish s
    let s := (List.range 8).foldl State.genPublish s
    s.withLpe { s.lpe with pass := none }

/-- R297: LPE_FE_CLEAR is written. -/
def State.feClear (s : State) (mask : Nat) : State :=
  if s.isOn 11 then ((List.range 32).filter (natBit mask)).foldl State.feRelease s else s

/-- Committed loop-engine keys: SWAP_PENDING of loops with waiting keys, EN set from 0 to 1 (R290, R291), set-point
initial values (Table 9-4). `old` are the registers before the commit. -/
def State.lpeCommitted (s : State) (old : Nat → Word) : State :=
  if s.isOn 11 then
    let s := (List.range 32).foldl (fun s n =>
      let a := R.LPE_LOOPn_CFG n
      let s := if natBit (s.cfgWord a).toNat 31 && !natBit (old a).toNat 31 then
          s.setLoop n { s.loop n with fresh := true, enabling := true } else s
      if s.swapWaits n then s.put (F.LPE_LOOPn_FLAGS_SWAP_PENDING n) 1 else s) s
    (List.range 16).foldl (fun s k =>
      let a := R.LPE_SETk_INIT k
      if s.cfgWord a = old a then s else s.setWord (R.LPE_SETk k) (s.cfgWord a)) s
  else s

end Sys2Proof.Machine
end

