-- ==== Sys2Proof/Machine/ThermOps.lean ====
section
/-! DEFINITION. The thermal manager of a station: sensors, substitution, derating (13_thermal_vault.md R376 to R379).
Temperatures are in 0.0625 °C. -/
namespace Sys2Proof.Machine

/-- The marker of a temperature without a valid reading (R376). -/
def noTemp : Nat := 0x80000000

/-- Key of sensor `m` (0 to 3 NTC, 4 on-die) of position `q` of ring `r`; own sensors have keys 0 to 4. -/
def sensorKey (r q m : Nat) : Nat := (r + 1) * 1024 + q * 8 + m

/-- R376: what the device sends for its NTC `m`, and for its on-die reading. -/
def State.ntcTele (s : State) (m : Nat) : Nat :=
  if s.isOn 12 && s.cfIs (F.ADC_NTCm_SRC_EN m) && s.is (F.ADC_NTCm_VALUE_VALID m) then
    ofSigned 32 (s.getS (F.ADC_NTCm_VALUE_TEMP m))
  else noTemp

def State.dieTele (s : State) : Nat := if s.is F.THM_DIE_VALID then ofSigned 32 s.dieTemp else noTemp

/-- `s` with sensor `k` replaced. -/
def State.setSensor (s : State) (k : Nat) (x : SensorSt) : State :=
  s.withThm { s.thm with sensors := SMap.set s.thm.sensors k x }

/-- The value of a sensor that takes part in T_max. -/
def SensorSt.value (x : SensorSt) : Int := x.subst.getD x.last

/-- R377, R379: sensor `k` delivers the telemetry value `v`. A first value that is not valid does not make it take part; a
marker after valid values is substituted. -/
def State.sensorTake (s : State) (k v : Nat) : State :=
  match SMap.find s.thm.sensors k with
  | none => if v = noTemp then s else s.setSensor k { last := toSigned 32 v, valid := true, subst := none }
  | some x =>
    if v = noTemp then
      match x.subst with
      | some _ => s.setSensor k { x with valid := false, run := 0 }
      | none => (s.setSensor k { x with valid := false, run := 0,
                                        subst := some (x.last + 16 * s.cf F.THM_CONFIG_THM_FAIL_MARGIN) }).raiseInt 198
    else s.setSensor k { x with last := toSigned 32 v, valid := true }

/-- Some substitution is held (fault source 104). -/
def State.substituting (s : State) : Bool := s.thm.sensors.any (fun p => p.2.subst.isSome)

/-- The sensors whose positions take part stay; the others go, with their substitutions (R377, R379). -/
def State.dropSensors (s : State) (live : Nat → Bool) : State :=
  let gone := s.thm.sensors.filter (fun p => !live p.1)
  let s := s.withThm { s.thm with sensors := s.thm.sensors.filter (fun p => live p.1) }
  if gone.any (fun p => p.2.subst.isSome) then s.raiseInt 198 else s

/-- R379: the tides for which a substituted sensor has delivered only valid values. -/
def State.countValid (s : State) : State :=
  s.withThm { s.thm with sensors := s.thm.sensors.map (fun p =>
    if p.2.subst.isSome && p.2.valid then (p.1, { p.2 with run := min 1000000 (p.2.run + 1) }) else p) }

/-- The hottest sensor: key and value; the lowest key of equal ones. -/
def hottest : List (Nat × SensorSt) → Option (Nat × Int)
  | [] => none
  | p :: ps =>
    match hottest ps with
    | some h => if h.2 > p.2.value then some h else some (p.1, p.2.value)
    | none => some (p.1, p.2.value)

/-- R378, R379: step `k` is entered after this decision, at T_max = `t`. -/
def State.stepEntered (s : State) (k : Nat) (t : Int) : Bool :=
  let e := s.thm.entered.getLsbD (k - 1)
  let temp := s.cfS (F.THM_STEPk_TEMP k)
  s.cfIs (F.THM_STEPk_EN k) &&
    (decide (t ≥ temp) || (e && (s.substituting || decide (t ≥ temp - 16 * s.cf F.THM_CONFIG_THM_HYST))))

/-- R378: a limit of `m` thousandths as a control quantity (R3). One that has no exact value is as the device rounds it (the spec
states no rounding; assumption 7). -/
def milliPu (m : Nat) : Int := if m * 2 ^ 24 % 1000 = 0 then ((m * 2 ^ 24 / 1000 : Nat) : Int) else fx ((m : Rat) / 1000)

/-- R377, R378: the derating of a decision tide; `live` says which sensors' positions take part. Without a sensor nothing
changes but what became disabled (assumption 60). -/
def State.thermalDecide (s : State) (live : Nat → Bool) : State :=
  let s := s.dropSensors live
  let s := if s.twn.operating then s else [0, 1, 2, 3].foldl (fun s m => s.sensorTake m (s.ntcTele m)) s
  let s := s.countValid
  let h := hottest s.thm.sensors
  let e := fun (k : Nat) => match h with
    | some x => s.stepEntered k x.2
    | none => s.cfIs (F.THM_STEPk_EN k) && s.thm.entered.getLsbD (k - 1)
  let bits := [1, 2, 3, 4].foldl (fun b k => if e k then b + 2 ^ (k - 1) else b) 0
  let step := [1, 2, 3, 4].foldl (fun b k => if e k then k else b) 0
  let s := if s.get F.THM_STATUS_STEP = step then s else s.raiseInt 197
  let s := s.withThm { s.thm with entered := BitVec.ofNat 4 bits }
  let s := s.put F.THM_STATUS_STEP step
  let n := (s.thm.sensors.filter (fun p => p.2.subst.isSome)).length
  let s := s.put F.THM_STATUS_SUBST (min n 255)
  let s := s.flag F.THM_STATUS_RATCHET (n != 0)
  let s := s.put F.THM_LIMIT_LIMIT (if step = 0 then 0x7FFFFFFF
    else ofSigned 32 (milliPu (s.cf (F.THM_STEPk_LIMIT step))))
  match h with
  | none => (s.put F.THM_STATUS_TMAX 0).setWord R.THM_HOTTEST 0
  | some x =>
    let s := s.putS F.THM_STATUS_TMAX x.2
    let own := decide (x.1 < 1024)
    s.setWord R.THM_HOTTEST (BitVec.ofNat 32 (b2n own * 2 ^ 15
      + (if own then 0 else (x.1 / 1024 - 1) * 2 ^ 13 + x.1 % 1024 / 8 * 2 ^ 6) + x.1 % 8))

/-- The derating limit in force (R378), as an Int. -/
def State.derate (s : State) : Int := s.getS F.THM_LIMIT_LIMIT

end Sys2Proof.Machine
end

