-- ==== Sys2Proof/Machine/GridOps.lean ====
section
/-! DEFINITION. Grid-side power control: observer, health, tracker, direct power control, level-step choice, cell selection,
freeboard, fallback modulator, control state (07_grid_control.md R213 to R247). A named quantity is the exact value of its
formula over stored quantities, taken through the device's own rounding (Config.fxRound, R216). -/
namespace Sys2Proof.Machine

/-- Polder 10 runs with its clocks, in station role. -/
def State.gridRuns (s : State) : Bool := s.isStation && s.isOn 10 && !s.mod.frozen

/-- R16: a station strapped B without twin operation; it starts no control. -/
def State.loneB (s : State) : Bool := s.isTwinB && !s.twn.operating

/-- The control state: 0 OFF, 1 DPC, 2 FALLBACK, 3 BLOCKED. -/
def State.ctl (s : State) : Nat := s.get F.DPC_STATE_STATE

/-- Nominal frequency in Hz. -/
def State.fNom (s : State) : Nat := if s.cfIs F.OBS_BASE_FNOM then 60 else 50

/-- A square root, cosine, sine, arctangent of control quantities (R216). -/
def fxSqrt (x : Rat) : Int := (Config.fxSqrt (Config.fxRound x)).toInt
def fxCos (a : Nat) : Int := (Config.fxCos (BitVec.ofNat 32 a)).toInt
def fxSin (a : Nat) : Int := (Config.fxSin (BitVec.ofNat 32 a)).toInt
def fxAtan2 (y x : Int) : Nat := (Config.fxAtan2 (BitVec.ofInt 32 y) (BitVec.ofInt 32 x)).toNat
def fxTurns (x : Rat) : Int := (Config.fxAngle x).toInt

/-! ## Positions and records (R31, R160, R215) -/

/-- Position `q` of stack `x`. -/
def State.pos (s : State) (x q : Nat) : PosSt := (s.dpc.pos.getD x []).getD (q - 1) {}
def State.setPos (s : State) (x q : Nat) (v : PosSt) : State :=
  s.withDpc { s.dpc with pos := s.dpc.pos.set x ((s.dpc.pos.getD x []).set (q - 1) v) }

/-- The positions of a stack that a state holds. -/
def stackPositions : List Nat := (List.range 48).map (· + 1)

/-- SEL_ADMIT names position `q` of stack `x`. -/
def State.admitKey (s : State) (x q : Nat) : Bool :=
  if q ≤ 32 then natBit (s.cf (F.SEL_ADMITx_LO_ADMIT x)) (q - 1) else natBit (s.cf (F.SEL_ADMITx_HI_ADMIT x)) (q - 33)

/-- R230: admitted, present and with a device ID (R26), not excluded by discovery (R30). -/
def State.admitted (s : State) (x q : Nat) : Bool :=
  s.admitKey x q && s.is (F.CUL_POS_r_s_PRESENT x q) && (s.cul.ids.getD x []).getD (q - 1) 0 != 0
    && !s.cul.excluded.contains (x, q)

/-- The cell charges in a bring-in (R461); it is being retired (R462); a stack makes no step in a tide in which its charging
cell changes state (R461). -/
def State.charging (s : State) (x q : Nat) : Bool :=
  s.spr.ops.any (fun o => o.kind == 1 && o.ring == x && o.slot == q && o.step == 7)
def State.retiring (s : State) (x q : Nat) : Bool := s.spr.ops.any (fun o => o.kind == 2 && o.ring == x && o.slot == q)
def State.still (s : State) (x : Nat) : Bool := s.spr.still.getLsbD x

/-- R230: available in this tide. -/
def State.available (s : State) (x q : Nat) : Bool :=
  let v := s.pos x q
  s.admitted x q && !s.retiring x q && decide (s.get (F.CUL_POS_r_s_STALE_RUN x q) < 2) && v.dwell == 0 && !v.sluice && decide (v.fault < 2)

/-- The record of position `q` of ring `r` in a frame of tide `t`, if that frame came back. -/
def State.recordOf (s : State) (r q t dir : Nat) : Option (List Byte) :=
  (s.cul.recs.find? (fun x => x.ring == r && x.dir == dir && x.tide == t)).map
    (fun x => bytesAt x.records ((q - 1) * s.recSize r) (s.recSize r))

/-- A record with STALE clear. -/
def freshRecord (b : List Byte) : Bool := !natBit (leAt b 2 1) 0

/-- R31: the record of tide `t` that the station uses: the direction-0 copy, or the direction-1 copy when the former did not
come or is stale. -/
def State.usedRecord (s : State) (r q t : Nat) : Option (List Byte) :=
  match s.recordOf r q t 0 with
  | some b => if freshRecord b then some b else
      match s.recordOf r q t 1 with
      | some c => some c
      | none => some b
  | none => s.recordOf r q t 1

/-- R446: twin A queues telemetry values of chains cut off from twin B. -/
def State.relayTele (s : State) (r q t k v : Nat) : State :=
  if s.twn.operating && !s.isTwinB && s.cf (F.CUL_RINGr_SLEEP_FIRST_ASLEEP r) != 0 && (k ≤ 4 || k = 12 || k = 31) then
    s.withTwn { s.twn with teleOut := s.twn.teleOut ++ [(q, r, k, t % 256, v)] }
  else s

/-- A telemetry quantity `k` of position `q` of ring `r` takes effect for the station's own use: sensors, wear score, Warden
state (R157, R233, R246, R377). -/
def State.useQuantity (s : State) (r q k v : Nat) : State :=
  let s := s.withCul { s.cul with quant := SMap.set s.cul.quant (32 * (128 * r + q) + k) v }
  if k ≤ 4 then s.sensorTake (sensorKey r q k) v
  else if k = 12 then (if r < 3 && decide (q ≤ 48) then s.put (F.SEL_WEAR_r_s_VALUE r q) v else s)
  else if k = 31 then (if r < 3 && decide (q ≤ 48) then s.setPos r q { s.pos r q with pulses := some (natBit v 8) } else s)
  else s

/-- What position `q` of ring `r` reported last in selector `k`. -/
def State.reported (s : State) (r q k : Nat) : Option Nat := SMap.find s.cul.quant (32 * (128 * r + q) + k)

/-- A quantity of the record of tide `t`; in twin operation those of R446 take effect 64 tides after that. -/
def State.takeQuantity (s : State) (r q t k v : Nat) : State :=
  if s.twn.operating && (k ≤ 4 || k = 12 || k = 31) then
    let s := s.relayTele r q t k v
    s.withThm { s.thm with late := s.thm.late ++ [(t, r * 128 + q, k, v)] }
  else s.useQuantity r q k v

/-- R446: quantities that waited in twin operation take effect at the decision of tide `t`, 64 tides after their record's. -/
def State.lateQuantities (s : State) (t : Nat) : State :=
  let due := fun (x : Nat × Nat × Nat × Nat) => !laterThan ((x.1 + 64) % 2 ^ 32) t
  (s.thm.late.filter due).foldl (fun s x => s.useQuantity (x.2.1 / 128) (x.2.1 % 128) x.2.2.1 x.2.2.2)
    (s.withThm { s.thm with late := s.thm.late.filter (fun x => !due x) })

/-- R156: the quantity of a record of tide `t`: whole in 8 bytes; in 4-byte records a byte at a time, over 4 tides without a
gap. Twin B takes the quantities of chains with a sleeping block from A's relay alone (R446). -/
def State.takeTelemetry (s : State) (r q t : Nat) (b : List Byte) : State :=
  if s.twn.operating && s.isTwinB && s.cf (F.CUL_RINGr_SLEEP_FIRST_ASLEEP r) != 0 then s
  else if s.recSize r = 8 then s.takeQuantity r q t (leAt b 3 1) (leAt b 4 4)
  else
    let i := r * 128 + q
    let old := match SMap.find s.cul.tele i with
      | some x => if (x.1 + 1) % 2 ^ 32 = t && x.2.length = t % 4 then x.2 else []
      | none => []
    let bytes := if t % 4 = 0 then [b.getD 3 0] else if old.isEmpty then [] else old ++ [b.getD 3 0]
    let s := s.withCul { s.cul with tele := SMap.set s.cul.tele i (t, bytes) }
    if bytes.length = 4 then s.takeQuantity r q t (t / 4 % 32) (leNat bytes) else s

/-- One more stale tide of a position (R160). Source 15 and fault 20 are raised each time the run reaches the limit, whether LIMIT is
still set from an earlier run or not (DEDUCED, assumption 96). -/
def State.posStale (s : State) (r q : Nat) : State :=
  let old := s.get (F.CUL_POS_r_s_STALE_RUN r q)
  let s := s.bump (F.CUL_POS_r_s_STALE_RUN r q)
  let s := s.bump (F.CUL_POS_r_s_STALE_TOTAL r q)
  let limit := s.cf F.CUL_CONFIG_CUL_STALE_LIMIT
  if old < limit && decide (limit ≤ s.get (F.CUL_POS_r_s_STALE_RUN r q)) then
    ((s.put (F.CUL_POS_r_s_LIMIT r q) 1).raiseInt 15).fault 20
  else s

/-- R160, R215: position `q` of ring `r` at the decision on the records of tide `t`. A stale record leaves the held values, and
so does every record of a ring that twins count as stale (`cut`, R445). A position that discovery did not find, or that sleeps, is
stale like any other without a record. -/
def State.posRecord (s : State) (r q t : Nat) (cut : Bool) : State :=
  if cut then s.posStale r q
  else match s.usedRecord r q t with
  | some b =>
    if freshRecord b then
      let s := s.put (F.CUL_POS_r_s_STALE_RUN r q) 0
      let s := s.withCul { s.cul with held := SMap.set s.cul.held (r * 128 + q) b }
      let s := s.takeTelemetry r q t b
      if r < 3 && decide (q ≤ 48) && s.isOn 10 then
        let v := leAt b 2 1
        s.setPos r q { s.pos r q with
          vdc := leAt b 0 2, fault := v / 2 % 8, warn := natBit v 4, sluice := natBit v 5 }
      else s
    else s.posStale r q
  | none => s.posStale r q

/-! ## Stacks -/

/-- What an output state contributes to a stack's level. -/
def stateLevel (c : Nat) : Int := if c = 1 then 1 else if c = 2 then -1 else 0

/-- The commanded state of a position. -/
def State.commanded (s : State) (x q : Nat) : Nat := s.get (F.SEL_POS_r_s_STATE x q)

/-- The commanded level of stack `x` (R226). -/
def State.level (s : State) (x : Nat) : Int := stackPositions.foldl (fun l q => l + stateLevel (s.commanded x q)) 0

/-- Count of admitted positions of stack `x`. -/
def State.admittedCount (s : State) (x : Nat) : Nat := (stackPositions.filter (s.admitted x)).length

/-- v_x: the vdc_pu of the admitted cells that do not report SLUICE (R227). -/
def State.vAvail (s : State) (x : Nat) : Int :=
  ((stackPositions.filter (fun q => s.admitted x q && !(s.pos x q).sluice)).map (fun q => s.vdcPu (s.pos x q).vdc)).foldl (· + ·) 0

/-- The mean vdc_pu of the admitted cells of the converter (Table 9-3). -/
def State.vMean (s : State) : Int :=
  let cells := [0, 1, 2].flatMap (fun x => (stackPositions.filter (s.admitted x)).map (fun q => s.vdcPu (s.pos x q).vdc))
  fx (ratio (pu (cells.foldl (· + ·) 0)) cells.length)

/-- The commanded state of a position changes by the decision of tide `t`: its apply tide, and its minimum dwell (R230, R32). -/
def State.commandPos (s : State) (x q c t : Nat) : State :=
  if s.commanded x q = c then s
  else
    let a := 1 + s.cf F.CUL_CONFIG_CUL_APPLY_DELAY
    let v := s.pos x q
    let s := s.setPos x q { v with coming := v.coming ++ [((t + a) % 2 ^ 32, c)],
                                   dwell := a + s.cf F.SEL_CONFIG_SEL_MIN_DWELL }
    s.put (F.SEL_POS_r_s_STATE x q) c

/-- The states whose apply tide has come are in force at the boundary of tide `t` (R215); dwell counts down. -/
def PosSt.atTide (v : PosSt) (t : Nat) : PosSt :=
  let due := v.coming.filter (fun k => !laterThan k.1 t)
  { v with force := match due.getLast? with | some k => k.2 | none => v.force,
           coming := v.coming.filter (fun k => laterThan k.1 t),
           dwell := v.dwell - 1 }

/-! ## Inputs from the converters (R214) -/

/-- The most recent result, as a control quantity, of a source (converter in 6:5, input code in 4:0). -/
def State.adcSource (s : State) (src : Nat) : Int :=
  let n := src / 32
  let recent := if s.isShared n then (s.twn.presented.filter (fun x => x.conv == n)).map (·.entry)
    else (s.adc.conv.getD n {}).recent
  match recent.find? (fun k => s.cf (F.ADC_SEQn_ENTRYk_INPUT n k) == src % 32) with
  | some k => s.ctlPu n k
  | none => 0

/-- Clarke transform. -/
def clarkeA (a b c : Int) : Int := fx ((2 * pu a - pu b - pu c) / 3)
def clarkeB (b c : Int) : Int := fx (ratio (pu b - pu c) Config.fxSqrt3)

/-! ## Observer (R217 to R219) -/

/-- w_c: the corner over the nominal frequency. -/
def State.wc (s : State) : Rat := (s.cf F.OBS_HPF_FC : Rat) / 100 / s.fNom

/-- x_l. -/
def State.xl (s : State) : Rat := pu (s.cfS F.OBS_XL_XL)

/-- u_x: what stack `x` applies by its states in force; a position that is neither admitted nor charges has none (R461). -/
def State.stackU (s : State) (x : Nat) : Int :=
  stackPositions.foldl (fun u q =>
    let v := s.pos x q
    if !v.sluice then u + stateLevel v.force * s.vdcPu v.vdc else u) 0

/-- R217: one step of the observer. -/
def State.observe (s : State) : State :=
  let d := s.dpc
  let k : Rat := 2 * Config.fxPi * s.fNom * 200 / 10 ^ 9
  let ia := s.adcSource (s.cf F.OBS_ISRC_IA)
  let ib := s.adcSource (s.cf F.OBS_ISRC_IB)
  let ic := if s.cfIs F.OBS_ISRC_IC_DERIVED then sat32 (-ia - ib) else s.adcSource (s.cf F.OBS_ISRC_IC)
  let iA := clarkeA ia ib ic
  let iB := clarkeB ib ic
  let uA := clarkeA (s.stackU 0) (s.stackU 1) (s.stackU 2)
  let uB := clarkeB (s.stackU 1) (s.stackU 2)
  let yA := fx (pu d.yA + k * (pu uA - s.wc * pu d.yA))
  let yB := fx (pu d.yB + k * (pu uB - s.wc * pu d.yB))
  let c := pu (fx (ratio s.wc (pu d.w)))
  let psiA := fx (pu yA + c * pu yB + s.xl * pu iA)
  let psiB := fx (pu yB - c * pu yA + s.xl * pu iB)
  let theta := fxAtan2 psiB psiA
  let dth := toSigned 32 (ofSigned 32 ((theta : Int) - d.theta))
  let w := fx (pu d.w + (ratio dth (k * 2 ^ 32 / (2 * Config.fxPi)) - pu d.w) / 256)
  let p := fx (pu w * (pu psiA * pu iB - pu psiB * pu iA))
  let q := fx (pu w * (pu psiA * pu iA + pu psiB * pu iB))
  s.withDpc { d with yA := yA, yB := yB, w := w, theta := theta, psiA := psiA, psiB := psiB, p := p, q := q,
                     i := [ia, ib, ic], iA := iA, iB := iB }

/-- The tracker's angle now: theta_t carried on with w_t from its last update (R240). -/
def State.trkAngle (s : State) : Nat :=
  match s.dpc.trkAt with
  | some l =>
    if s.cfIs F.OBS_TRK_SRC_SOURCE && l != s.nowNs then
      let dt : Rat := (toSigned 32 (ofSigned 32 ((s.nowNs : Int) - l)) : Rat) / 10 ^ 9
      ofSigned 32 (s.dpc.trkTheta + fxTurns (pu s.dpc.trkW * s.fNom * dt))
    else s.dpc.trkTheta
  | none => s.dpc.trkTheta

/-- R218: the observer is seeded from the tracker. -/
def State.seed (s : State) : State :=
  let d := s.dpc
  let eA := fx (pu d.trkV * pu (fxCos s.trkAngle))
  let eB := fx (pu d.trkV * pu (fxSin s.trkAngle))
  let psiA := fx (ratio (pu eB) (pu d.trkW))
  let psiB := fx (-(ratio (pu eA) (pu d.trkW)))
  let fA := fx (pu psiA - s.xl * pu d.iA)
  let fB := fx (pu psiB - s.xl * pu d.iB)
  let c := pu (fx (ratio s.wc (pu d.trkW)))
  let yA := fx (ratio (pu fA - c * pu fB) (1 + c * c))
  let yB := fx (ratio (pu fB + c * pu fA) (1 + c * c))
  s.withDpc { d with yA := yA, yB := yB, w := d.trkW, theta := fxAtan2 psiB psiA }

/-- |psi| as latched. -/
def State.fluxMag (s : State) : Int :=
  let a := pu (s.getS F.OBS_PSI_A_VALUE)
  let b := pu (s.getS F.OBS_PSI_B_VALUE)
  fxSqrt (a * a + b * b)

/-- R219: the outputs of the last step are latched at the boundary of tide `t`. -/
def State.latchObserver (s : State) (t : Nat) : State :=
  let d := s.dpc
  let eA := -(pu d.w * pu d.psiB) - pu d.trkV * pu (fxCos s.trkAngle)
  let eB := pu d.w * pu d.psiA - pu d.trkV * pu (fxSin s.trkAngle)
  let s := s.putS F.OBS_PSI_A_VALUE d.psiA
  let s := s.putS F.OBS_PSI_B_VALUE d.psiB
  let s := s.put F.OBS_ANGLE_VALUE ((d.theta + 2 ^ 30) % 2 ^ 32)
  let s := s.putS F.OBS_FREQ_VALUE d.w
  let s := s.putS F.OBS_P_VALUE d.p
  let s := s.putS F.OBS_Q_VALUE d.q
  let s := s.putS F.OBS_RESIDUAL_VALUE (fxSqrt (eA * eA + eB * eB))
  s.put F.OBS_SNAP_TIDE_VALUE t

/-- The tracker is valid. -/
def State.trkValid (s : State) : Bool := s.is F.OBS_TRK_STATUS_VALID

/-- R220, R221: the health checks on the latched values; the second part says healthy. -/
def State.health (s : State) : State × Bool :=
  let mag := s.fluxMag
  let w := s.getS F.OBS_FREQ_VALUE
  let flux := decide (mag * 1000 < s.cf F.OBS_WIN_FLUX_LOW * 2 ^ 24) || decide (mag * 1000 > s.cf F.OBS_WIN_FLUX_HIGH * 2 ^ 24)
  let rate := decide (((w - 2 ^ 24).natAbs : Int) * s.fNom * 100 > s.cf F.OBS_CHECK_RATE_DEV * 2 ^ 24)
  let susp := !s.trkValid
  let res := !susp && decide (s.getS F.OBS_RESIDUAL_VALUE * 1000 > s.cf F.OBS_CHECK_RES_LIMIT * 2 ^ 24)
  let s := s.flag F.OBS_HEALTH_FLUX_FAIL flux
  let s := s.flag F.OBS_HEALTH_RATE_FAIL rate
  let s := s.flag F.OBS_HEALTH_RES_FAIL res
  let s := s.flag F.OBS_HEALTH_RES_SUSP susp
  if flux || rate || res then
    let s := if s.ctl = 1 && s.get F.OBS_HEALTH_FAIL_RUN = 0 then s.raiseInt 94 else s
    ((s.bump F.OBS_HEALTH_FAIL_RUN).put F.OBS_HEALTH_OK_RUN 0, false)
  else ((s.bump F.OBS_HEALTH_OK_RUN).put F.OBS_HEALTH_FAIL_RUN 0, true)

/-! ## Tracker (R240, R241) -/

/-- The live conditions of R241 on magnitude, frequency and lock fail. -/
def DpcSt.magFails (d : DpcSt) : Bool := decide (d.trkV < 2 ^ 23) || decide (d.trkV > 3 * 2 ^ 23)
def DpcSt.freqFails (d : DpcSt) (fNom : Nat) : Bool := decide (((d.trkW - 2 ^ 24).natAbs : Int) * fNom > 5 * 2 ^ 24)
def DpcSt.lockFails (d : DpcSt) : Bool := decide ((d.trkVq.natAbs : Int) * 20 > d.trkV)

/-- The flags of these conditions. -/
def State.trkFlags (s : State) : State :=
  let s := s.flag F.OBS_TRK_STATUS_MAG_FAIL s.dpc.magFails
  let s := s.flag F.OBS_TRK_STATUS_FREQ_FAIL (s.dpc.freqFails s.fNom)
  s.flag F.OBS_TRK_STATUS_LOCK_FAIL s.dpc.lockFails

/-- R240: one update with the phase voltages of instant `at_` and the time `dt` (in s) since the last one. -/
def State.track (s : State) (va vb vc : Int) (at_ : Nat) (dt : Rat) : State :=
  let d := s.dpc
  let vA := pu (clarkeA va vb vc)
  let vB := pu (clarkeB vb vc)
  let co := pu (fxCos d.trkTheta)
  let si := pu (fxSin d.trkTheta)
  let vd := fx (vA * co + vB * si)
  let vq := fx (-(vA * si) + vB * co)
  let wn : Rat := 2 * Config.fxPi * s.cf F.OBS_TRK_CFG_BW / 10
  let r := ratio (pu vq) (pu vd)
  let wi := fx (pu d.trkWi + wn * wn * dt * r)
  let w := fx (1 + ratio (pu wi + 1414 / 1000 * wn * r) (2 * Config.fxPi * s.fNom))
  let v := fx (pu d.trkV + (pu vd - pu d.trkV) * dt * wn)
  let th := ofSigned 32 (d.trkTheta + fxTurns (pu w * s.fNom * dt))
  (s.withDpc { d with trkWi := wi, trkW := w, trkV := v, trkVq := vq, trkTheta := th, trkAt := some at_ }).trkFlags

/-- R415: the instant of sample `count` of a source of `rate`: after the latest local second mark that makes it not later than now. -/
def State.svInstant (s : State) (rate count : Nat) : Nat :=
  let t := fun (j : Nat) => (s.get F.TIM_SECOND_VALUE + 2 ^ 32 - j * 1000000000 + count * 1000000000 / rate) % 2 ^ 32
  if laterThan (t 1) s.nowNs then t 2 else t 1

/-- R240: an SV sample of instant `at_`; before the first one `dt` is `first`. -/
def State.trackSv (s : State) (va vb vc : Int) (at_ : Nat) (first : Rat) : State :=
  let dt : Rat := match s.dpc.trkAt with
    | some l => (toSigned 32 (ofSigned 32 ((at_ : Int) - l)) : Rat) / 10 ^ 9
    | none => first
  (s.track va vb vc at_ dt).put F.OBS_TRK_STATUS_SRC_LOST 0

/-- A source (R214) has written a result since the tracker's last update. -/
def State.srcNew (s : State) (src : Nat) : Bool :=
  let n := src / 32
  (List.range 16).any (fun k => (s.adc.conv.getD n {}).unseen.getLsbD k && s.cf (F.ADC_SEQn_ENTRYk_INPUT n k) == src % 32)

/-- R240, R241: the local source updates the tracker at the boundary; it is no longer lost once each phase has brought a new result. -/
def State.trackLocal (s : State) : State :=
  let src := [s.cf F.OBS_TRK_SRC_VA, s.cf F.OBS_TRK_SRC_VB, s.cf F.OBS_TRK_SRC_VC]
  let v := src.map s.adcSource
  let new := src.all s.srcNew
  let s := s.track (v.getD 0 0) (v.getD 1 0) (v.getD 2 0) s.nowNs (1 / 10 ^ 6)
  let s := s.withAdc { s.adc with conv := s.adc.conv.map (fun c => { c with unseen := 0 }) }
  if new then s.put F.OBS_TRK_STATUS_SRC_LOST 0 else s

/-- The tracker at an aligned boundary: the local source updates once per tide, and the angle is carried on to the boundary
(R240). -/
def State.trackTide (s : State) : State :=
  if s.cfIs F.OBS_TRK_SRC_EN then
    let s := if s.cfIs F.OBS_TRK_SRC_SOURCE then s else s.trackLocal
    let s := s.put F.OBS_TRK_ANGLE_VALUE s.trkAngle
    let s := s.putS F.OBS_TRK_FREQ_VALUE s.dpc.trkW
    s.putS F.OBS_TRK_VMAG_VALUE s.dpc.trkV
  else s

/-- The tracker's validity changes (R241). -/
def State.setTrkValid (s : State) (v : Bool) : State :=
  if s.trkValid == v then s
  else
    let s := (s.flag F.OBS_TRK_STATUS_VALID v).flag F.DPC_STATE_TRK_VALID v
    let s := s.raiseInt 91
    if s.ctl = 1 && !v then s.fault 74 else s

/-! ## Comparators, sector, direction (R223 to R225) -/

/-- R223: the power comparators. -/
def powerComparators (sP sQ eP eQ hP hQ : Int) : Int × Int :=
  let p := if eP > hP then 1 else if eP < -hP then -1
    else if sP = 1 && decide (eP ≤ 0) then 0 else if sP = -1 && decide (eP ≥ 0) then 0 else sP
  let q := if eQ > hQ then 1 else if eQ < -hQ then -1 else sQ
  (p, q)

/-- R224: the flux sector of a flux angle. -/
def fluxSector (theta : Nat) : Nat := (theta + 0x0AAAAAAB) % 2 ^ 32 * 12 / 2 ^ 32

/-- Table 7-2: the direction, in multiples of 60 degrees. -/
def stepDirection (k : Nat) (sP sQ : Int) : Nat :=
  let col := fun (l : List Nat) => l.getD k 0
  if sP = 1 then
    if sQ = 1 then col [4, 4, 5, 5, 0, 0, 1, 1, 2, 2, 3, 3] else col [5, 0, 0, 1, 1, 2, 2, 3, 3, 4, 4, 5]
  else
    if sQ = 1 then col [2, 3, 3, 4, 4, 5, 5, 0, 0, 1, 1, 2] else col [1, 1, 2, 2, 3, 3, 4, 4, 5, 5, 0, 0]

/-- Table 7-3: the single-stack and the two-stack step of a direction. -/
def stepVectors (d : Nat) : List Int × List Int :=
  match d with
  | 0 => ([1, 0, 0], [0, -1, -1])
  | 1 => ([0, 0, -1], [1, 1, 0])
  | 2 => ([0, 1, 0], [-1, 0, -1])
  | 3 => ([-1, 0, 0], [0, 1, 1])
  | 4 => ([0, 0, 1], [-1, -1, 0])
  | _ => ([0, -1, 0], [1, 0, 1])

/-! ## Cell selection (R230 to R235) -/

/-- R231: for a move of `m` (+1 or -1) at level `l`: the code inserted or removed, and whether it is an insertion. -/
def moveOf (m l : Int) : Nat × Bool :=
  if m > 0 then (if l ≥ 0 then (1, true) else (2, false)) else (if l > 0 then (1, false) else (2, true))

/-- Candidates of a move: available cells in a zero state for an insertion, in the state left for a removal. -/
def State.candidates (s : State) (x : Nat) (mv : Nat × Bool) : List Nat :=
  stackPositions.filter (fun q => s.available x q &&
    (if mv.2 then stateLevel (s.commanded x q) == 0 else s.commanded x q == mv.1))

/-- The candidates with the least of a measure. -/
def leastBy (f : Nat → Nat) (l : List Nat) : List Nat :=
  match l with
  | [] => []
  | a :: r => let m := r.foldl (fun m q => min m (f q)) (f a); l.filter (fun q => f q == m)

/-- R233: the preferred candidate: those within the tie band of the lowest or highest VDC (none: every one), then by BS_WARN,
wear score and slot. -/
def State.preferred (s : State) (x : Nat) (lowest : Option Bool) (insertion : Bool) (cs : List Nat) : Option Nat :=
  let v := fun q => (s.pos x q).vdc
  let tie := s.cf F.SEL_TIE_SEL_TIE_BAND
  let cs := match lowest with
    | some true => let m := (leastBy v cs).map v; cs.filter (fun q => decide (v q ≤ m.headD 0 + tie))
    | some false => let m := (leastBy (fun q => 65535 - v q) cs).map v; cs.filter (fun q => decide (v q + tie ≥ m.headD 0))
    | none => cs
  let cs := leastBy (fun q => b2n ((s.pos x q).warn == insertion)) cs
  let cs := leastBy (fun q => s.get (F.SEL_WEAR_r_s_VALUE x q)) cs
  cs.head?

/-- R232, R233: the cell that makes a move; `i` is the stack current. -/
def State.chooseCell (s : State) (x : Nat) (mv : Nat × Bool) (i : Int) : Option Nat :=
  let si := stateLevel mv.1 * i
  let db : Int := s.cf F.SEL_CONFIG_SEL_I_DEADBAND * 2 ^ 8
  let lowest := if si > db then some mv.2 else if si < -db then some (!mv.2) else none
  s.preferred x lowest mv.2 (s.candidates x mv)

/-- R234: the zero state a removal commands, and the alternation it leaves. -/
def State.zeroCode (s : State) (x q : Nat) : Nat × Bool :=
  let v := s.pos x q
  if v.warn || !s.cfIs F.SEL_CONFIG_SEL_ZERO_ALT then (0, v.alt) else (if v.alt then 0 else 3, !v.alt)

/-- Cell `q` is inserted or removed by the decision of tide `t`. -/
def State.moveCell (s : State) (x q : Nat) (mv : Nat × Bool) (t : Nat) : State :=
  if mv.2 then s.commandPos x q mv.1 t
  else
    let z := s.zeroCode x q
    let s := s.setPos x q { s.pos x q with alt := z.2 }
    s.commandPos x q z.1 t

/-- R226: stack `x` can make the move `m`. -/
def State.feasibleMove (s : State) (x : Nat) (m : Int) : Bool :=
  m == 0 || (!s.still x && !(s.candidates x (moveOf m (s.level x))).isEmpty
    && decide (m * s.level x < s.admittedCount x))

/-- R227: the cost of a step vector: the exact sums are compared, three times the cost, without rounding (DESIGN CHOICE,
assumption 101). -/
def State.stepCost (s : State) (v : List Int) : Int :=
  let va := [0, 1, 2].map s.vAvail
  let sum := va.foldl (· + ·) 0
  ([0, 1, 2].map (fun x => (3 * va.getD x 0 - sum) * v.getD x 0 * s.dpc.i.getD x 0)).foldl (· + ·) 0

/-- R226 to R228: the step vector for a direction; none when neither is feasible. -/
def State.chooseStep (s : State) (d : Nat) : Option (List Int) :=
  let v := stepVectors d
  let ok := fun (u : List Int) => [0, 1, 2].all (fun x => s.feasibleMove x (u.getD x 0))
  match ok v.1, ok v.2 with
  | true, true =>
    if s.cfIs F.DPC_CONFIG_BAL_EN && decide (s.stepCost v.2 < s.stepCost v.1) then some v.2 else some v.1
  | true, false => some v.1
  | false, true => some v.2
  | false, false => none

/-- R234: in a stack that makes no move, one available cell in 0b11 that reports BS_WARN goes to 0b00. -/
def State.warnShift (s : State) (x t : Nat) : State :=
  match stackPositions.find? (fun q => s.available x q && s.commanded x q == 3 && (s.pos x q).warn) with
  | some q => s.commandPos x q 0 t
  | none => s

/-- A step vector is carried out (R229 to R234). -/
def State.makeStep (s : State) (v : List Int) (t : Nat) : State :=
  [0, 1, 2].foldl (fun s x =>
    let m := v.getD x 0
    if m = 0 then s.warnShift x t
    else
      let mv := moveOf m (s.level x)
      match s.chooseCell x mv (s.dpc.i.getD x 0) with
      | some q => s.moveCell x q mv t
      | none => s) s

/-- R235: cells that report SLUICE or Overtop leave at once. -/
def State.unplannedExits (s : State) (t : Nat) : State :=
  [0, 1, 2].foldl (fun s x => stackPositions.foldl (fun s q =>
    let v := s.pos x q
    if stateLevel (s.commanded x q) != 0 && (v.sluice || decide (v.fault ≥ 3)) then s.commandPos x q 0 t else s) s) s

/-- The decision of state DPC (R222 steps 3 to 7). -/
def State.dpcDecide (s : State) (t : Nat) : State :=
  let eP := s.getS F.DPC_PREF_VALUE - s.getS F.OBS_P_VALUE
  let eQ := s.getS F.DPC_QREF_VALUE - s.getS F.OBS_Q_VALUE
  let c := powerComparators s.dpc.sP s.dpc.sQ eP eQ (s.cf F.DPC_HYST_HP * 2 ^ 8) (s.cf F.DPC_HYST_HQ * 2 ^ 8)
  let s := s.withDpc { s.dpc with sP := c.1, sQ := c.2 }
  if c.1 = 0 then (s.makeStep [0, 0, 0] t).withDpc { (s.makeStep [0, 0, 0] t).dpc with wasBlocked := false }
  else
    match s.chooseStep (stepDirection (fluxSector ((s.get F.OBS_ANGLE_VALUE + 3 * 2 ^ 30) % 2 ^ 32)) c.1 c.2) with
    | some v =>
      let s := s.makeStep v t
      s.withDpc { s.dpc with wasBlocked := false }
    | none =>
      let s := s.bump F.DPC_COUNTS_BLOCKED
      let s := if s.dpc.wasBlocked then s else s.raiseInt 92
      let s := s.makeStep [0, 0, 0] t
      s.withDpc { s.dpc with wasBlocked := true }

/-! ## Fallback modulator (R242 to R245) -/

/-- R242: u_alpha and u_beta for the apply tide, `ahead` tides on. -/
def State.fallbackU (s : State) (ahead : Nat) : Int × Int :=
  let d := s.dpc
  let th := ofSigned 32 (s.trkAngle + fxTurns (pu d.trkW * s.fNom * ahead / 10 ^ 6))
  let v := pu d.trkV
  let eA := pu (fx (v * pu (fxCos th)))
  let eB := pu (fx (v * pu (fxSin th)))
  let p := pu (s.getS F.DPC_PREF_VALUE)
  let q := pu (s.getS F.DPC_QREF_VALUE)
  let irA := pu (fx (ratio (p * eA + q * eB) (v * v)))
  let irB := pu (fx (ratio (p * eB - q * eA) (v * v)))
  let x := s.xl * pu d.trkW
  let rv := pu (s.cfS F.DPC_FB_RV_VALUE)
  (fx (eA + x * irB - rv * (pu d.iA - irA)), fx (eB - x * irA - rv * (pu d.iB - irB)))

/-- The references u_x of the three stacks. -/
def phaseRefs (u : Int × Int) : List Int :=
  [u.1, fx (-(pu u.1) / 2 + Config.fxSqrt3 / 2 * pu u.2), fx (-(pu u.1) / 2 - Config.fxSqrt3 / 2 * pu u.2)]

/-- A triangle between 0 and 1 at `ph` millionths of its period, rising first (DEDUCED, assumption 97), rounded down (DESIGN CHOICE,
assumption 101). -/
def triangle (ph : Nat) : Int :=
  let p : Int := (ph % 1000000 : Nat)
  if p < 500000 then p * 2 ^ 24 / 500000 else (1000000 - p) * 2 ^ 24 / 500000

/-- Table 7-4: the region of a modulation index. -/
def State.regionOf (s : State) (m : Int) : Nat :=
  if m ≤ 2 ^ 24 then 1 else if m * 1000 ≤ s.cf F.DPC_FB_CFG_M_SC * 2 ^ 24 then 2 else 3

/-- `a` put in its place of a sorted list. -/
def insertBy {α : Type} (le : α → α → Bool) (a : α) : List α → List α
  | [] => [a]
  | b :: r => if le a b then a :: b :: r else b :: insertBy le a r

/-- A list sorted by `le`; equal elements keep their order. -/
def sortBy {α : Type} (le : α → α → Bool) (l : List α) : List α := l.foldr (insertBy le) []

/-- Cells in the order in which they are preferred, at most `n` of them. -/
def State.rankFrom (s : State) (x : Nat) (lowest : Bool) : Nat → List Nat → List Nat
  | 0, _ => []
  | n + 1, cs =>
    match s.preferred x (some lowest) true cs with
    | some q => q :: s.rankFrom x lowest n (cs.filter (· != q))
    | none => []

/-- R245: the cells of a stack ranked for the staircase: one after the other, ties as in R233 (DEDUCED, assumption 97). -/
def State.rankCells (s : State) (x : Nat) : List Nat :=
  s.rankFrom x (decide (s.getS F.DPC_PREF_VALUE ≥ 0)) 48 (stackPositions.filter (s.available x))

/-- The target of a cell in a carrier region (R244), and how far its carrier has passed its reference: of the crossings that fall in one
tide that with the larger distance counts as the earlier (DESIGN CHOICE, assumption 101). -/
def carrierTarget (r : Int) (c : Int) : Int × Nat :=
  (if r > c then 1 else if -r > c then -1 else 0, (c - r.natAbs).natAbs)

/-- The targets of a stack: cell, target level, order of crossing (larger: earlier). References are clipped in over-modulation alone
(Table 7-4). The delay j / N is taken in whole millionths of the period, and alpha_n with the present tide's m (DESIGN CHOICE,
assumption 101). -/
def State.fallTargets (s : State) (f : FallSt) (r m : Int) (angle : Nat) : List (Nat × Int × Nat) :=
  if f.region = 3 then
    let n := f.ranks.length
    let half := angle % 2 ^ 31
    (List.range n).map (fun (j : Nat) =>
      let al := (Config.fxArcsin (Config.fxRound (ratio ((2 * j + 1 : Nat) : Rat) (((2 * n : Nat) : Rat) * pu m)))).toNat
      (f.ranks.getD j 0, if al ≤ half && half ≤ 2 ^ 31 - al then sgn r else 0, n - j))
  else
    let n := f.cells.length
    let rc := if f.region = 2 then clampInt (-(2 ^ 24)) (2 ^ 24) r else r
    (List.range n).map (fun j =>
      let t := carrierTarget rc (triangle (s.dpc.carrier + 1000000 - j * 1000000 / n))
      (f.cells.getD ((j + f.shift) % n) 0, t.1, t.2))

/-- One stack under the fallback modulator: region and ranks at zero crossings, carriers at their period's start, at most one
level of change (R229, R243 to R245). -/
def State.fallStack (s : State) (x t : Nat) (u m : Int) (angle : Nat) (period : Bool) : State :=
  let f := s.dpc.fall.getD x {}
  let r := fx (ratio (pu u) (pu (s.vAvail x)))
  let sg := sgn r
  let crossing := f.region == 0 || sg != f.sign
  let region := if crossing then s.regionOf m else f.region
  let f := { f with region := region, sign := sg,
                    ranks := if crossing then s.rankCells x else f.ranks,
                    cells := if period || f.cells.isEmpty then stackPositions.filter (s.available x) else f.cells,
                    shift := if period then f.shift + 1 else f.shift }
  let ts := s.fallTargets f r m angle
  let differs := ts.filter (fun k => s.available x k.1 && stateLevel (s.commanded x k.1) != k.2.1)
  let old := f.queue.filter (fun q => differs.any (fun k => k.1 == q))
  let new := sortBy (fun a b => decide (a.2.2 ≥ b.2.2)) (differs.filter (fun k => !old.contains k.1))
  let queue := old ++ new.map (·.1)
  match queue with
  | [] => (s.withDpc { s.dpc with fall := s.dpc.fall.set x { f with queue := [] } }).warnShift x t
  | q :: rest =>
    if s.still x then (s.withDpc { s.dpc with fall := s.dpc.fall.set x { f with queue := queue } }).warnShift x t
    else
    let s := s.withDpc { s.dpc with fall := s.dpc.fall.set x { f with queue := rest } }
    let target : Int := ((differs.find? (fun k => k.1 == q)).map (fun k => k.2.1)).getD 0
    let cur := stateLevel (s.commanded x q)
    if cur = 0 then s.commandPos x q (if target > 0 then 1 else 2) t
    else s.moveCell x q (s.commanded x q, false) t

/-- The decision of state FALLBACK (R242 to R245). -/
def State.fallbackDecide (s : State) (t : Nat) : State :=
  let u := s.fallbackU (1 + s.cf F.CUL_CONFIG_CUL_APPLY_DELAY)
  let mag := fxSqrt (pu u.1 * pu u.1 + pu u.2 * pu u.2)
  let refs := phaseRefs u
  let th := fxAtan2 u.2 u.1
  let c := s.dpc.carrier + s.cf F.DPC_FB_CFG_FC
  let s := s.withDpc { s.dpc with carrier := c % 1000000 }
  let ms := [0, 1, 2].map (fun x => fx (ratio (pu mag) (pu (s.vAvail x))))
  let s := [0, 1, 2].foldl (fun s x =>
    s.fallStack x t (refs.getD x 0) (ms.getD x 0) ((th + 2 ^ 30 + 2 ^ 32 - x * 0x55555555) % 2 ^ 32) (decide (c ≥ 1000000))) s
  let reg := fun x => (s.dpc.fall.getD x {}).region
  let s := s.put F.DPC_FB_STATUS_REGION_A (reg 0)
  let s := s.put F.DPC_FB_STATUS_REGION_B (reg 1)
  let s := s.put F.DPC_FB_STATUS_REGION_C (reg 2)
  let mm := (ms.foldl max 0 * 1000 / 2 ^ 24).toNat
  s.put F.DPC_FB_STATUS_M_MAX (min mm 65535)

/-- The fallback modulator is inactive (Table 7-4); its carriers will start at an open phase, the same in every device (R216,
assumption 41). -/
def State.fallReset (s : State) : State :=
  let s := s.withDpc { s.dpc with fall := [{}, {}, {}], carrier := Config.carrierStart % 1000000 }
  (((s.put F.DPC_FB_STATUS_REGION_A 0).put F.DPC_FB_STATUS_REGION_B 0).put F.DPC_FB_STATUS_REGION_C 0)

/-! ## References and freeboard (R237 to R239) -/

/-- OV2 as the decision logic takes it (R237, R444). -/
def State.sharedOv2 (s : State) : Bool := if s.twn.operating then s.twn.ov2 else s.ov2

/-- The limits of P*: its keys, the thermal derating and OV2 (R237); `derate` is the limit of chapter 13. -/
def State.pLimits (s : State) (derate : Int) : Int × Int :=
  let hi := min (s.cfS F.DPC_PMAX_VALUE) derate
  let hi := if s.sharedOv2 then min hi 0 else hi
  (max (s.cfS F.DPC_PMIN_VALUE) (-derate), hi)

/-- The generators are frozen (R237). -/
def State.refsFrozen (s : State) : Bool := s.ctl == 2 || s.ctl == 3

/-- The reactive source: DPC_QSET, or the GOOSE value while it is valid (R237). -/
def State.qSource (s : State) (goose : Option Int) : State :=
  if s.cfIs F.DPC_CONFIG_QSRC then
    match goose with
    | some v => (s.put F.DPC_STATE_Q_SRC_LOST 0).withDpc { s.dpc with qHeld := v }
    | none =>
      if s.is F.DPC_STATE_Q_SRC_LOST then s else (s.put F.DPC_STATE_Q_SRC_LOST 1).raiseInt 95
  else (s.put F.DPC_STATE_Q_SRC_LOST 0).withDpc { s.dpc with qHeld := s.getS F.DPC_QSET_VALUE }

/-- R299: what DPC gives the generators it binds. -/
def State.bindings (s : State) (derate : Int) (g : Nat) : Option Binding :=
  if !s.gridRuns then none
  else if s.cf F.DPC_CONFIG_P_PROF = g then
    let l := s.pLimits derate
    some ⟨s.getS (F.LPE_LOOPn_OUT_VALUE (s.cf F.DPC_CONFIG_P_LOOP)), l.1, l.2, s.refsFrozen, s.is F.DPC_STATE_FB_HOLD, false⟩
  else if s.cf F.DPC_CONFIG_Q_PROF = g then
    let m := s.cfS F.DPC_QMAX_VALUE
    some ⟨s.dpc.qHeld, -m, m, s.refsFrozen || s.is F.DPC_STATE_Q_SRC_LOST, false, false⟩
  else none

/-- P* and Q* in force at this decision (R237). -/
def State.takeRefs (s : State) (derate : Int) : State :=
  let l := s.pLimits derate
  let m := s.cfS F.DPC_QMAX_VALUE
  let gen := fun g => s.getS (F.LPE_GENg_OUT_VALUE g)
  let s' := s.putS F.DPC_PREF_VALUE (clampInt l.1 l.2 (gen (s.cf F.DPC_CONFIG_P_PROF)))
  let q := if s.cf F.DPC_CONFIG_P_PROF = s.cf F.DPC_CONFIG_Q_PROF then
      (if s.refsFrozen then s.getS F.DPC_QREF_VALUE else s.dpc.qHeld)
    else gen (s.cf F.DPC_CONFIG_Q_PROF)
  s'.putS F.DPC_QREF_VALUE (clampInt (-m) m q)

/-- R238, R239: freeboard. -/
def State.freeboard (s : State) : State :=
  let w := pu (s.getS F.OBS_FREQ_VALUE)
  let e := if s.ctl = 1 then pu (fx (w * pu s.fluxMag)) else pu s.dpc.trkV
  let x := s.xl * w
  let ud := pu (fx (e - ratio (x * pu (s.getS F.DPC_QREF_VALUE)) e))
  let uq := pu (fx (-(ratio (x * pu (s.getS F.DPC_PREF_VALUE)) e)))
  let req := fxSqrt (ud * ud + uq * uq)
  let v := min (s.vAvail 0) (min (s.vAvail 1) (s.vAvail 2))
  let fb := sat32 (v - req - s.cfS F.DPC_FB_MARGIN_VALUE)
  let was := decide (s.getS F.DPC_FREEBOARD_VALUE < 0)
  let s := s.putS F.DPC_UREQ_VALUE req
  let s := s.putS F.DPC_FREEBOARD_VALUE fb
  let hold := decide (fb ≤ 0)
  let s := if hold && !s.is F.DPC_STATE_FB_HOLD then s.raiseInt 89 else s
  let s := s.flag F.DPC_STATE_FB_HOLD hold
  if fb < 0 then
    let s := s.put F.DPC_STATE_FB_NEG 1
    if was then s else s.raiseInt 90
  else s

/-! ## Control state (R246) -/

/-- A change of control state (source 88); the fallback modulator starts anew in FALLBACK and is inactive elsewhere (R243). -/
def State.setCtl (s : State) (v : Nat) : State :=
  if s.ctl = v then s else (s.fallReset.put F.DPC_STATE_STATE v).raiseInt 88

/-- The first row of Table 7-5: some half-bridge of the station is pulse-blocked by the Wardens, by a trip that holds it OFF, or by OV3,
which leaves the chopper's half-bridges (R318). -/
def State.ownBlocked (s : State) : Bool :=
  s.pulseBlocked || [0, 1, 2, 3].any (fun n => (s.ov3Holds && !s.chopHb n) || s.tripLevel n == some .off)

/-- The first row of Table 7-5 applies: the station (in twin operation: the active, R444) or an admitted position is blocked. -/
def State.forcedOff (s : State) : Bool :=
  (if s.twn.operating then s.twn.blocked else s.ownBlocked)
    || [0, 1, 2].any (fun x => stackPositions.any (fun q => s.admitted x q && (s.pos x q).pulses != some true))

/-- Every stack and the port ring are aligned. -/
def State.ringsAligned (s : State) : Bool := [0, 1, 2, 3].all (fun r => s.get (F.CUL_RINGr_STATE_STATE r) == 2)

/-- The entry into FALLBACK: seeded, OK_RUN = 0, deciding from the next tide. -/
def State.toFallback (s : State) : State :=
  let s := s.seed.put F.OBS_HEALTH_OK_RUN 0
  s.setCtl 2

/-- Table 7-5, in its order; in OFF and BLOCKED the commanded states stay (R229, R236, assumption 45); the second part says that this tide's decision is the zero step. -/
def State.control (s : State) (healthy : Bool) : State × Bool :=
  let st := s.ctl
  let run := s.is F.DPC_CTRL_RUN
  let lost := decide (s.get F.OBS_HEALTH_FAIL_RUN ≥ s.cf F.OBS_TIDES_OBS_LOSS_TIDES) && !healthy
  if (st != 0 && !run) || ((st != 0 || run) && s.forcedOff) then
    ((s.put F.DPC_CTRL_RUN 0).setCtl 0, true)
  else if st = 0 then
    if run then
      if s.cf F.OBS_BASE_VBASE != 0 && s.trkValid && s.ringsAligned && !s.loneB then (s.toFallback, true)
      else (((s.put F.DPC_CTRL_RUN 0).put F.DPC_STATE_START_REFUSED 1).raiseInt 93, true)
    else (s, true)
  else if st = 1 then
    if lost && s.trkValid then
      (((s.toFallback).bump F.DPC_COUNTS_LOSSES).fault 72, true)
    else if lost then ((s.setCtl 3).fault 73, true)
    else (s, false)
  else if st = 2 then
    if !s.trkValid then ((s.setCtl 3).fault 73, true)
    else if s.get F.OBS_HEALTH_OK_RUN ≥ s.cf F.OBS_TIDES_OBS_REACQ_TIDES then
      let s := s.setCtl 1
      ((s.withDpc { s.dpc with sP := 0, sQ := 1, wasBlocked := false }), true)
    else if !healthy then (s.seed.put F.OBS_HEALTH_OK_RUN 0, false)
    else (s, false)
  else
    if s.cfIs F.DPC_CONFIG_AUTO_RESTART && s.trkValid then (s.toFallback, false) else (s, true)

/-! ## Entries and registers (R236) -/

/-- The command entry of position `q` of stack `x` (R236); `special` are the entries of running CELL_BRING_IN and CELL_RETIRE
commands and of the device's own retirements. -/
def State.entryOf (s : State) (x q : Nat) (special : List (Nat × Nat × Nat)) : Nat :=
  match special.find? (fun k => k.1 == x && k.2.1 == q) with
  | some k => k.2.2
  | none =>
    if s.admitted x q then
      match s.ctl with
      | 0 => 0
      | 3 => 0x10
      | _ => s.commanded x q + 0x18
    else 4

/-- SEL_ registers of stack `x`. -/
def State.showStack (s : State) (x : Nat) : State :=
  let s := stackPositions.foldl (fun s q =>
    let v := s.pos x q
    let a := R.SEL_POS_r_s x q
    let w := b2n (s.admitted x q) * 2 ^ 31 + b2n (s.available x q) * 2 ^ 30
      + b2n (decide (s.get (F.CUL_POS_r_s_STALE_RUN x q) ≥ 2)) * 2 ^ 29 + b2n (v.dwell != 0) * 2 ^ 28
      + b2n v.sluice * 2 ^ 27 + b2n (decide (v.fault ≥ 2)) * 2 ^ 26 + b2n v.warn * 2 ^ 25
      + s.commanded x q * 2 ^ 8 + min v.dwell 255
    s.setWord a (BitVec.ofNat 32 w)) s
  let n := s.admittedCount x
  let l := s.level x
  let s := s.putS (F.SEL_STACKx_LEVEL x) l
  let s := s.put (F.SEL_STACKx_AVAIL x) ((stackPositions.filter (s.available x)).length)
  let s := s.put (F.SEL_STACKx_ADMITTED x) n
  let s := s.flag (F.SEL_STACKx_AT_LIMIT x) (l.natAbs == n)
  s.putS (F.SEL_VAVAILx_VALUE x) (s.vAvail x)

/-- A register of this chapter. -/
def gridKey (a : Nat) : Bool := a / 65536 == 6

/-- R250: the keys of this chapter take effect at a decision tide; a newly admitted position has shown no pulses yet. -/
def State.gridKeys (s : State) : State :=
  let n := s.applyKeys gridKey
  [0, 1, 2].foldl (fun k x => stackPositions.foldl (fun k q =>
    if k.admitKey x q && !s.admitKey x q then k.setPos x q { k.pos x q with pulses := none } else k) k) n

/-- R215, R219, R230, R240: the aligned boundary of tide `t`, whether or not a decision follows: states come in force, dwell passes,
the tracker is carried on, the observer's outputs are latched. -/
def State.gridBoundary (s : State) (t : Nat) : State :=
  let s := s.withDpc { s.dpc with steps := 0, pos := s.dpc.pos.map (fun (l : List PosSt) => l.map (fun (v : PosSt) => PosSt.atTide v t)) }
  s.trackTide.latchObserver t

/-- R222: the decision of tide `t`, after its boundary (records taken already). -/
def State.gridDecide (s : State) (t : Nat) (derate : Int) (goose : Option Int) : State :=
  let h := s.health
  let s := h.1.qSource goose
  let s := s.takeRefs derate
  let c := s.control h.2
  let s := c.1
  let s := if c.2 then s.makeStep [0, 0, 0] t
    else if s.ctl = 1 then s.dpcDecide t
    else if s.ctl = 2 then s.fallbackDecide t
    else s
  let s := s.unplannedExits t
  let s := s.freeboard
  [0, 1, 2].foldl State.showStack s

/-- R247: DPC_CTRL RUN is written: it is the request bit of Table 7-5. A RUN set in another state than OFF has no effect. -/
def State.writeRun (s : State) (v : Bool) : State :=
  if s.gridRuns && !(v && s.ctl != 0) then s.flag F.DPC_CTRL_RUN v else s

end Sys2Proof.Machine
end

