-- ==== Sys2Proof/Machine/GalleryOps.lean ====
section
/-! DEFINITION. The Gallery: samples, profiles, triggers, records (15_gallery.md R423 to R436). -/
namespace Sys2Proof.Machine

def State.gp (s : State) (p : Nat) : GalProf := s.gal.prof.getD p {}
def State.setGp (s : State) (p : Nat) (x : GalProf) : State := s.withGal { s.gal with prof := s.gal.prof.set p x }

/-! ## Channels (R423, R424) -/

/-- The registers of TYPE 4. -/
def State.image (s : State) (code : Nat) : Word :=
  match code with
  | 0 => s.fltSummary
  | 1 => s.word R.GDR_STATUS
  | 2 => s.word R.MOD_STATUS
  | 3 => s.word R.MOD_TRIP_STATUS
  | 4 => s.word R.DPC_STATE
  | 5 => s.word R.WRD_A_STATUS
  | 6 => s.word R.CUL_ALIGN
  | 7 => s.word R.OBS_HEALTH
  | _ => 0

/-- The word of channel `c` as its source stands (Table 15-1). -/
def State.channel (s : State) (c : Nat) : Word :=
  let code := s.cf (F.GAL_CHc_CODE c)
  match s.cf (F.GAL_CHc_TYPE c) with
  | 1 =>
    let n := code / 16 % 4
    let k := code % 16
    if s.isOn 12 then BitVec.ofNat 32 (s.get (F.ADC_RESn_k_VALUE n k) + s.get (F.ADC_RESn_k_SAT n k) * 2 ^ 16
      + s.get (F.ADC_RESn_k_WOUT n k) * 2 ^ 17 + s.get (F.ADC_RESn_k_ROUND n k) * 2 ^ 20) else 0
  | 2 => BitVec.ofInt 32 (s.source s.tide s.vMean code)
  | 3 =>
    let b := if s.isStation then (SMap.find s.cul.held (s.cf (F.GAL_CHc_RING c) * 128 + s.cf (F.GAL_CHc_SLOT c))).getD []
      else s.cul.record
    BitVec.ofNat 32 (leAt b (if s.cfIs (F.GAL_CHc_HALF c) then 4 else 0) 4)
  | 4 => s.image code
  | _ => 0

/-- The channels of a profile, ascending. -/
def State.galChannels (s : State) (p : Nat) : List Nat := (List.range 32).filter (natBit (s.cf (F.GAL_PROFp_CHMASK_VALUE p)))

/-- B of R423, samples of a slot, S of R425, first byte of slot `i`. -/
def State.galB (s : State) (p : Nat) : Nat := 4 * (s.galChannels p).length
def State.galN (s : State) (p : Nat) : Nat := s.cf (F.GAL_PROFp_PRE_PRE p) + s.cf (F.GAL_PROFp_POST_POST p)
def State.galSlots (s : State) (p : Nat) : Nat := s.cf (F.GAL_PROFp_REGION_SIZE p) * 65536 / (s.galN p * s.galB p)
def State.galBase (s : State) (p i : Nat) : Nat := s.cf (F.GAL_PROFp_REGION_BASE p) * 65536 + i * (s.galN p * s.galB p)

/-! ## Slots (R425, R431) -/

/-- An unfreed record that lies in the bytes from `a` to `b`. -/
def overlaps (a b : Nat) (h : Nat × Nat × Nat × Nat) : Bool := decide (h.2.2.1 < b) && decide (a < h.2.2.2)

/-- Slot `i` of profile `p` holds no unfreed record of the profile. -/
def State.slotFree (s : State) (p i : Nat) : Bool :=
  let a := s.galBase p i
  let b := a + s.galN p * s.galB p
  !s.gal.held.any (fun h => h.2.1 == p && overlaps a b h)

/-- The first free slot at or after `i`, cyclically, among the next `k`. -/
def State.freeSlot (s : State) (p : Nat) : Nat → Nat → Option Nat
  | 0, _ => none
  | k + 1, i => if s.slotFree p i then some i else s.freeSlot p k (if i + 1 < s.galSlots p then i + 1 else 0)

/-- The slot filled next: a free one, from the one used last on; with OVERWRITE that of the profile's oldest record. -/
def State.nextSlot (s : State) (p : Nat) : Option Nat :=
  let n := s.galSlots p
  match s.freeSlot p n (if (s.gp p).slot < n then (s.gp p).slot else 0) with
  | some i => some i
  | none =>
    if n != 0 && s.cfIs (F.GAL_PROFp_CFG_OVERWRITE p) then
      match s.gal.held.find? (fun h => h.2.1 == p) with
      | some h => some ((h.2.2.1 - s.galBase p 0) / (s.galN p * s.galB p) % n)
      | none => some 0
    else none

/-- Record `i` gets its flag OVERWRITTEN. -/
def State.overwrite (s : State) (i : Nat) : State :=
  s.withGal { s.gal with records := s.gal.records.map (fun r => if r.index = i then { r with overwritten := true } else r) }

/-- GAL_STATUS STATE follows. -/
def State.galState (s : State) (p v : Nat) : State :=
  let s := s.setGp p { s.gp p with state := v }
  s.setWord R.GAL_STATUS (setBits (s.word R.GAL_STATUS) (3 * p) 3 v)

/-- Entry into FILLING: of slot `i`; records that lie there are overwritten. A profile with PRE = 0 is ARMED at once. -/
def State.fillSlot (s : State) (p i : Nat) : State :=
  let a := s.galBase p i
  let b := a + s.galN p * s.galB p
  let gone := s.gal.held.filter (overlaps a b)
  let s := gone.foldl (fun s h => s.overwrite h.1)
    (s.withGal { s.gal with held := s.gal.held.filter (fun h => !overlaps a b h) })
  let s := s.setGp p { s.gp p with slot := i, pos := 0, stored := 0, recent := [], degraded := none, wrapped := none }
  s.galState p (if s.cf (F.GAL_PROFp_PRE_PRE p) = 0 then 2 else 1)

/-- The hold-off is over: FILLING, or FULL without a slot (R430, R431). -/
def State.holdOver (s : State) (p : Nat) : State :=
  match s.nextSlot p with
  | some i => s.fillSlot p i
  | none => (s.galState p 5).raiseInt (172 + p)

/-! ## Records (R426, R430, R434) -/

/-- The descriptor of the record in progress is changed. -/
def State.galRecord (s : State) (p : Nat) (f : GalRecord → GalRecord) : State :=
  let i := (s.gp p).record
  s.withGal { s.gal with records := s.gal.records.map (fun r => if r.index = i && r.profile = p then f r else r) }

/-- POST samples are stored: the record is complete; IDLE with SINGLE, otherwise the hold-off (R430). -/
def State.galComplete (s : State) (p : Nat) : State :=
  let s := (s.galRecord p (fun r => { r with complete := true })).raiseInt (168 + p)
  if s.cfIs (F.GAL_PROFp_CFG_SINGLE p) then s.galState p 0
  else
    let s := (s.setGp p { s.gp p with counted := 0 }).galState p 4
    if s.cf (F.GAL_PROFp_CFG_HOLD_MODE p) = 0 || s.cf (F.GAL_PROFp_HOLD_VALUE p) = 0 then s.holdOver p else s

/-- A capture with POST samples stored is complete, once every cause of the core clock has been seen (R429). -/
def State.galEnough (s : State) (p : Nat) : State :=
  if (s.gp p).state = 3 && decide ((s.gp p).got ≥ s.cf (F.GAL_PROFp_POST_POST p)) then s.galComplete p else s

/-! ## Triggers (R428 to R433) -/

/-- A trigger of a profile: its cause (Table 15-3), how many stored samples lie at or after it (the oldest of them, or the next
sample, is the trigger sample j), FRAC, NOINTERP. -/
structure GalTrigger where
  cause : Nat
  after : Nat
  frac : Nat
  nointerp : Bool

/-- Bits LINES_SEEN and OTHER_SEEN of a cause. -/
def seenBits (c : Nat) (r : GalRecord) : GalRecord :=
  if c < 32 then { r with lines := r.lines ||| (1#32 <<< c) }
  else { r with other := if natBit r.other (c - 32) then r.other else r.other + 2 ^ (c - 32) }

/-- A cause seen during a capture (R429). -/
def State.coincident (s : State) (p c : Nat) : State := (s.galRecord p (seenBits c)).bump (F.GAL_PROFp_COUNTS_COINCIDENT p)

/-- The number of 200 ns instants of one round of tide numbers (R6). -/
def instants : Nat := 5 * 2 ^ 32

/-- The interval from sample instant `n` (5 times the tide number and the step) to the next one of divider `d`: `d`, or what is
left to the wrap of the tide number (R6). -/
def intervalAfter (d n : Nat) : Nat := if n + d < instants then d else instants - n

/-- The interval that ends at sample instant `n` of divider `d` (R6). -/
def intervalBefore (d n : Nat) : Nat := if n = 0 then instants - (instants - 1) / max 1 d * d else d

/-- An instant in steps of 200 ns from tide 0. -/
def GalInstant.index (x : GalInstant) : Nat := 5 * x.tide + x.step

/-- The sample instant of profile `p` that follows `x` (R424, R6). -/
def State.instantAfter (s : State) (p : Nat) (x : GalInstant) : GalInstant :=
  let i := intervalAfter (s.cf (F.GAL_PROFp_CFG_DIV p)) x.index
  let m := (x.index + i) % instants
  ⟨m / 5, m % 5, (x.ns + 200 * i) % 2 ^ 32⟩

/-- The last sample instant of profile `p` by the schedule of R424, from the last boundary in TIM_TIDE (R408). -/
def State.lastInstant (s : State) (p : Nat) : GalInstant :=
  let t := s.get F.TIM_TIDE_NUM_VALUE
  let b := s.get F.TIM_TIDE_NS_VALUE
  let cur := 5 * t + min 4 ((s.nowNs + 2 ^ 32 - b) % 2 ^ 32 / 200)
  let n := cur / max 1 (s.cf (F.GAL_PROFp_CFG_DIV p)) * max 1 (s.cf (F.GAL_PROFp_CFG_DIV p))
  ⟨n / 5, n % 5, ((b + 2 ^ 32 : Nat) + (200 * ((n : Int) - 5 * t))).toNat % 2 ^ 32⟩

/-- The sample instant of profile `p` before `x` (R424, R6). -/
def State.instantPrev (s : State) (p : Nat) (x : GalInstant) : GalInstant :=
  let i := intervalBefore (s.cf (F.GAL_PROFp_CFG_DIV p)) x.index
  let m := (x.index + instants - i) % instants
  ⟨m / 5, m % 5, (x.ns + 2 ^ 32 * 2048 - 200 * i) % 2 ^ 32⟩

/-- t(j-1) of a trigger in the present core clock: the last instant stored, else that of the schedule; not the present instant while its
sample has not been taken (R428). -/
def State.instantBefore (s : State) (p : Nat) : GalInstant :=
  match (s.gp p).recent.head? with
  | some x => x
  | none =>
    let x := s.lastInstant p
    if s.nowNs == x.ns && (s.gp p).seen != some x then s.instantPrev p x else x

/-- R433: the token of a record, at its trigger time: `x` is the trigger sample. R428's period is the interval that ends at it, R6's
at the wrap (DEDUCED, assumption 59). -/
def State.galToken (s : State) (p : Nat) (x : GalInstant) (frac : Nat) : State :=
  let d := intervalBefore (s.cf (F.GAL_PROFp_CFG_DIV p)) x.index
  let line := s.cf (F.GAL_PROFp_CFG_OUT_LINE p)
  let e : Int := (x.step * 1280 + 5 * d * frac : Nat) - 1280 * d
  let tide := ofSigned 32 (x.tide + e / 6400)
  let off := (e % 6400).toNat
  let y := s.gp p
  let s := s.setGp p { y with taken := SMap.set y.taken line (tide, off) }
  let s := if s.isOn 5 then s.raiseToken line tide off false else s
  s.raiseInt (176 + p)

/-- An accepted trigger: the record starts (R428, R434). -/
def State.galAccept (s : State) (p : Nat) (t : GalTrigger) : State :=
  let y := s.gp p
  let n := s.galN p
  let pre := s.cf (F.GAL_PROFp_PRE_PRE p)
  let a := s.galBase p y.slot
  let x := if t.after = 0 then s.instantAfter p (s.instantBefore p) else y.recent.getD (t.after - 1) (s.lastInstant p)
  let j := (y.pos + n - t.after % n) % n
  let i := s.gal.next
  let within := fun (o : Option Nat) (k : Nat) => match o with | some v => decide (v < k) | none => false
  let r : GalRecord := {
    index := i, profile := p, complete := false, overwritten := false, nointerp := t.nointerp,
    degraded := within y.degraded (pre + t.after), tidewrap := within y.wrapped (pre + t.after - 1),
    cause := t.cause, lines := 0, other := 0, frac := t.frac, div := s.cf (F.GAL_PROFp_CFG_DIV p),
    jTide := x.tide, jStep := x.step, jNs := x.ns, seconds := s.word R.RVE_HOST_SECONDS,
    pre := pre, post := t.after, start := a + (j + n - pre % n) % n * s.galB p,
    base := a, limit := a + n * s.galB p,
    chmask := s.effWord (R.GAL_PROFp_CHMASK p), gen := BitVec.ofNat 32 s.vlt.gen }
  let s := s.withGal { s.gal with
    records := (r :: s.gal.records).take 64,
    next := (i + 1) % 65536,
    held := s.gal.held.filter (fun (h : Nat × Nat × Nat × Nat) => h.1 != i) ++ [(i, p, a, a + n * s.galB p)] }
  let s := s.put F.GAL_STATUS_NEXT_INDEX s.gal.next
  let s := (s.put (F.GAL_PROFp_LAST_INDEX p) i).put (F.GAL_PROFp_LAST_EXISTS p) 1
  let s := (s.setGp p { s.gp p with record := i, got := t.after }).galState p 3
  if t.cause ≥ 32 && s.cfIs (F.GAL_PROFp_CFG_OUT_EN p) then s.galToken p x t.frac else s

/-- A trigger of profile `p` is taken: accepted, ignored, or entered in the record in progress (R429); a hold-off of triggers
counts it (R430). -/
def State.galTrigger (s : State) (p : Nat) (t : GalTrigger) : State :=
  let y := s.gp p
  if !s.cfIs (F.GAL_PROFp_CFG_EN p) then s
  else if y.state = 3 then s.coincident p t.cause
  else if y.state = 2 && decide (s.cf (F.GAL_PROFp_PRE_PRE p) + t.after ≤ y.stored) && decide (t.after ≤ s.cf (F.GAL_PROFp_POST_POST p)) then
    s.galAccept p t
  else
    let s := (s.bump (F.GAL_PROFp_COUNTS_IGNORED p)).raiseFirst 180
    if y.state = 4 && s.cf (F.GAL_PROFp_CFG_HOLD_MODE p) = 2 then
      let k := y.counted + 1
      let s := s.setGp p { y with counted := k }
      if k ≥ s.cf (F.GAL_PROFp_HOLD_VALUE p) then s.holdOver p else s
    else s

/-- FRAC of an event `d` after the last sample before it, of a period `per`. -/
def fracOf (d per : Nat) : Nat := min 255 (256 * d / max 1 per)

/-- A trigger timed by the present core clock: the next sample is its trigger sample, or one stored at this very time (R428). -/
def State.galNow (s : State) (p cause : Nat) : State :=
  let x := s.instantBefore p
  let per := 200 * intervalAfter (s.cf (F.GAL_PROFp_CFG_DIV p)) x.index
  let d := (s.nowNs + 2 ^ 32 - x.ns) % 2 ^ 32
  if d = 0 && (s.gp p).recent.head? == some x then s.galTrigger p ⟨cause, 1, 255, false⟩
  else s.galTrigger p ⟨cause, 0, fracOf d per, false⟩

/-- R330, R428: a fault event of effective class `c`. -/
def State.galFault (s : State) (c : Nat) : State :=
  if s.isOn 9 then
    [0, 1, 2, 3].foldl (fun s p =>
      if s.cfIs (F.GAL_PROFp_CFG_FAULT_EN p) && decide (c ≥ s.cf (F.GAL_PROFp_CFG_FAULT_MIN p)) then s.galNow p 34 else s) s
  else s

/-- R428: GAL_TRIG is written. -/
def State.galHost (s : State) (mask : Nat) : State :=
  if s.isOn 9 then ([0, 1, 2, 3].filter (natBit mask)).foldl (fun s p => s.galNow p 35) s else s

/-- Steps of 156.25 ps from the event (`tide`, `off`) to instant `x`. -/
def stepsFrom (tide off : Nat) (x : GalInstant) : Int :=
  toSigned 32 ((x.tide + 2 ^ 32 - tide) % 2 ^ 32) * 6400 + x.step * 1280 - off

/-- R428, R432: a token on `line` with event time (`tide`, `off`) reaches the recorder. -/
def State.tokenTrigger (s : State) (line tide off : Nat) : State :=
  if s.isOn 9 then
    [0, 1, 2, 3].foldl (fun s p =>
      let y := s.gp p
      if s.cfIs (F.GAL_PROFp_CFG_EN p) && natBit (s.cf (F.GAL_PROFp_LINES_VALUE p)) line
          && SMap.find y.taken line != some (tide, off) then
        let s := s.setGp p { y with taken := SMap.set y.taken line (tide, off) }
        let after := y.recent.takeWhile (fun x => decide (stepsFrom tide off x ≥ 0))
        let div := s.cf (F.GAL_PROFp_CFG_DIV p)
        let before := (y.recent.drop after.length).head?
        let at_ := match after.getLast?, before with
          | some x, _ => x
          | none, some x => s.instantAfter p x
          | none, none => s.instantAfter p (s.instantBefore p)
        let per := 1280 * intervalBefore div at_.index
        let d : Int := per - stepsFrom tide off at_
        s.galTrigger p ⟨line, after.length, fracOf d.toNat per, false⟩
      else s) s
  else s

/-! ## Samples (R424, R426) -/

/-- v of a level condition (R428). -/
def State.galValue (s : State) (c : Nat) (w : Word) : Int :=
  match s.cf (F.GAL_CHc_TYPE c) with
  | 1 => (w.extractLsb' 0 16).toInt
  | 3 => if s.cfIs (F.GAL_CHc_HALF c) then w.toInt else (w.toNat % 65536 : Nat)
  | _ => w.toInt

/-- Condition `i` of profile `p` between the words `a` and `b` of its channel: the direction it fires in, and FRAC (R428). -/
def State.galCondition (s : State) (p i : Nat) (a b : Word) : Option (Bool × Nat) :=
  let dir := s.cf (F.GAL_PROFp_CONDi_DIR p i)
  if s.cfIs (F.GAL_PROFp_CONDi_KIND p i) then
    let k := s.cf (F.GAL_PROFp_CONDi_BIT p i)
    if a.getLsbD k == b.getLsbD k then none
    else if natBit dir (if b.getLsbD k then 0 else 1) then some (b.getLsbD k, 255) else none
  else
    let c := s.cf (F.GAL_PROFp_CONDi_CH p i)
    let v := s.galValue c a
    let w := s.galValue c b
    let th := s.cfS (F.GAL_PROFp_THi_VALUE p i)
    let frac := min 255 (256 * (th - v).natAbs / (w - v).natAbs)
    if (s.gp p).fired.getD i none != none then none
    else if natBit dir 0 && decide (v < th) && decide (th ≤ w) then some (true, frac)
    else if natBit dir 1 && decide (v > th) && decide (th ≥ w) then some (false, frac)
    else none

/-- A fired level condition may fire again once a sample lies at or beyond TH ∓ HYST on its starting side (R428). -/
def State.galRearm (s : State) (p i : Nat) (b : Word) : State :=
  let y := s.gp p
  let w := s.galValue (s.cf (F.GAL_PROFp_CONDi_CH p i)) b
  let th := s.cfS (F.GAL_PROFp_THi_VALUE p i)
  let h : Int := s.cf (F.GAL_PROFp_CONDi_HYST p i)
  let back := match y.fired.getD i none with
    | some true => decide (w ≤ th - h)
    | some false => decide (w ≥ th + h)
    | none => false
  if back then s.setGp p { y with fired := y.fired.set i none } else s

/-- The conditions of profile `p` at a sample with the words `ws`: the earliest one triggers, ties in order; the other one is
seen in the capture (R428, R429). -/
def State.galConditions (s : State) (p : Nat) (ws : List (Nat × Word)) (after : Nat) : State :=
  let old := (s.gp p).last
  let fire := fun i =>
    let c := s.cf (F.GAL_PROFp_CONDi_CH p i)
    if s.cfIs (F.GAL_PROFp_CONDi_EN p i) then
      match SMap.find old c, SMap.find ws c with
      | some a, some b => s.galCondition p i a b
      | _, _ => none
    else none
  let f := [0, 1].filterMap (fun i => (fire i).map (fun r => (i, r)))
  let level := fun i => !s.cfIs (F.GAL_PROFp_CONDi_KIND p i)
  let s := f.foldl (fun s x => if level x.1 then s.setGp p { s.gp p with fired := (s.gp p).fired.set x.1 (some x.2.1) } else s) s
  let s := [0, 1].foldl (fun s i =>
    match SMap.find ws (s.cf (F.GAL_PROFp_CONDi_CH p i)) with
    | some b => s.galRearm p i b
    | none => s) s
  let f := match f with
    | [x, y] => if y.2.2 < x.2.2 then [y, x] else f
    | _ => f
  f.foldl (fun s x => s.galTrigger p ⟨32 + x.1, after, x.2.2, !level x.1⟩) s

/-- The captures that are complete at the end of a core clock. -/
def State.galDone (s : State) : State := if s.isOn 9 then [0, 1, 2, 3].foldl State.galEnough s else s

/-- One sample of profile `p` at step `k` of the present tide. -/
def State.galSample (s : State) (p k : Nat) : State :=
  let y := s.gp p
  let chans := s.galChannels p
  let ws := chans.map (fun c => (c, s.channel c))
  let store := y.state == 1 || y.state == 2 || y.state == 3
  let s := if store then
      let a := s.galBase p y.slot + y.pos * s.galB p
      let next := fun (o : Option Nat) (now : Bool) => if now then some 0 else o.map (· + 1)
      let wrapNow := match y.recent with
        | x :: _ => decide (s.tide < x.tide) && (s.instantAfter p x).index == 5 * s.tide + k && instants % max 1 (s.cf (F.GAL_PROFp_CFG_DIV p)) != 0
        | [] => false
      let s := s.withGal { s.gal with mem := Memory.setAll s.gal.mem a (ws.flatMap (fun (w : Nat × Word) => leBytes 4 w.2.toNat)) }
      s.setGp p { y with
        pos := if y.pos + 1 < s.galN p then y.pos + 1 else 0,
        stored := y.stored + 1,
        recent := List.take 80 (({ tide := s.tide, step := k, ns := s.nowNs } : GalInstant) :: y.recent),
        degraded := next y.degraded (s.is F.CLK_STATUS_TIMEBASE_DEGRADED),
        wrapped := next y.wrapped wrapNow }
    else s
  let s := if y.state = 1 && decide (y.stored + 1 ≥ s.cf (F.GAL_PROFp_PRE_PRE p)) then s.galState p 2 else s
  let s := if y.state = 3 then
      (s.galRecord p (fun r => { r with
          post := r.post + 1,
          jTide := if r.post = 0 then s.tide else r.jTide, jStep := if r.post = 0 then k else r.jStep,
          jNs := if r.post = 0 then s.nowNs else r.jNs,
          degraded := r.degraded || s.is F.CLK_STATUS_TIMEBASE_DEGRADED,
          tidewrap := r.tidewrap || ((s.gp p).wrapped == some 0 && r.pre + r.post != 0) })).setGp p { s.gp p with got := y.got + 1 }
    else s
  let s := s.galConditions p ws (if store then 1 else 0)
  s.setGp p { s.gp p with last := ws, seen := some ⟨s.tide, k, s.nowNs⟩ }

/-- R424: the sample instant at 200 ns times `k` after the boundary of the present tide. -/
def State.galInstant (s : State) (k : Nat) : State :=
  [0, 1, 2, 3].foldl (fun s p =>
    let d := s.cf (F.GAL_PROFp_CFG_DIV p)
    if s.cfIs (F.GAL_PROFp_CFG_EN p) && d != 0 && (5 * s.tide + k) % d == 0 then s.galSample p k else s) s

/-! ## Commands and readout (R427, R431, R435) -/

/-- R431: GAL_FREE is written. -/
def State.galFree (s : State) (i : Nat) : State :=
  if s.isOn 9 then
    let s := s.withGal { s.gal with held := s.gal.held.filter (fun h => h.1 != i) }
    [0, 1, 2, 3].foldl (fun s p =>
      if (s.gp p).state = 5 then
        match s.nextSlot p with
        | some j => s.fillSlot p j
        | none => s
      else s) s
  else s

/-- Table 15-3. -/
def GalRecord.bytes (r : GalRecord) : List Byte :=
  leBytes 2 r.index
    ++ [BitVec.ofNat 8 (r.profile + b2n r.complete * 4 + b2n r.overwritten * 8 + b2n r.degraded * 16 + b2n r.nointerp * 32
          + b2n r.tidewrap * 64), BitVec.ofNat 8 r.cause]
    ++ leBytes 4 r.lines.toNat ++ [BitVec.ofNat 8 r.other, BitVec.ofNat 8 r.frac] ++ leBytes 2 r.div
    ++ leBytes 4 r.jTide ++ [BitVec.ofNat 8 r.jStep, 0, 0, 0] ++ leBytes 4 r.jNs ++ leBytes 4 r.seconds.toNat
    ++ leBytes 4 r.pre ++ leBytes 4 r.post ++ leBytes 4 r.start ++ leBytes 4 r.base ++ leBytes 4 r.limit
    ++ leBytes 4 r.chmask.toNat ++ leBytes 4 r.gen.toNat

end Sys2Proof.Machine
end

