-- ==== Sys2Proof/Machine/NetOps.lean ====
section
/-! DEFINITION. Timebase, Ethernet ports, sampled values and GOOSE (14_network_time.md R393 to R422). Frames of IEC 61850 are
held as their contents; how they are encoded in bytes is that standard's. -/
namespace Sys2Proof.Machine

/-! ## Timebase (R402 to R408) -/

/-- The increment of one core clock, in 2^-32 ns (R402). -/
def State.tickStep (s : State) : Int :=
  if s.is F.CLK_STATUS_ON_SAFE then 40 * 2 ^ 32
  else if s.servicePlan then 20 * 2 ^ 32
  else 5 * 2 ^ 32 + (if s.isStation then s.getS F.TIM_RATE_VALUE else 0)

/-! ## What 400 ms end (R395, R400) -/

/-- The duplicate table now: entries forgotten 400 ms after their last frame; frames seen on one port only are counted then (R395). -/
def State.dupExpire (s : State) : State :=
  let old := fun (e : DupEntry) => laterThan s.nowNs (e.time + 400000000)
  let gone := s.net.dups.filter old
  let s := s.withNet { s.net with dups := s.net.dups.filter (fun e => !old e) }
  gone.foldl (fun s e =>
    if e.ports = 1 then (s.bump F.NET_RED_COUNTS_ONLY0).raiseFirst 130
    else if e.ports = 2 then (s.bump F.NET_RED_COUNTS_ONLY1).raiseFirst 130
    else s) s

/-- The last management request is too old to be repeated (R400). -/
def State.mgmtExpire (s : State) : State :=
  match s.net.mgmt with
  | some m => if laterThan s.nowNs (m.2.2 + 400000000) then s.withNet { s.net with mgmt := none } else s
  | none => s

/-- What time that has passed ends in the ports: duplicate entries and the last management request. -/
def State.netExpire (s : State) : State := s.dupExpire.mgmtExpire

/-- A step of the timebase by `v` ns ages nothing: the times kept move with it (R405). -/
def State.stepNet (s : State) (v : Int) : State :=
  let moved := fun (t : Nat) => ofSigned 32 (t + v)
  s.withNet { s.net with
    dups := s.net.dups.map (fun e => { e with time := moved e.time })
    mgmt := s.net.mgmt.map (fun m => (m.1, m.2.1, moved m.2.2)) }

/-- Time has passed to at least the ns time `t` (R5); with two core clocks or more, races and ADC clocks are over. -/
def State.reach (s : State) (t : Nat) : State :=
  if laterThan t s.nowNs then
    let far := decide (2 * s.tickStep ≤ ofSigned 64 ((t % 2 ^ 32 * 2 ^ 32 : Nat) - (s.tim.now : Int)))
    let s := ((s.withTim { s.tim with now := t % 2 ^ 32 * 2 ^ 32 }).netExpire).notchTo
    if far then s.clocksPassed else s
  else s

/-- The timebase moves by `d` (2^-32 ns). -/
def State.advance (s : State) (d : Int) : State :=
  s.withTim { s.tim with now := ofSigned 64 (s.tim.now + d) }

/-- rmax of R404. -/
def State.rateMax (s : State) : Int := ((s.cf F.TIM_CONFIG_TIM_RATE_MAX * 214748365 + 5000) / 10000 : Nat)

/-- R404: TIM_OFFSET is written. -/
def State.servo (s : State) (o : Int) : State :=
  if s.isStation && s.isOn 1 && s.is F.TIM_CTRL_SERVO_EN then
    let m := s.rateMax
    let a := s.getS F.TIM_INTEG_VALUE - s.cf F.TIM_SERVO_KI * o / 65536
    let integ := clampInt (-m) m a
    let b := integ - s.cf F.TIM_SERVO_KP * o / 65536
    let rate := clampInt (-m) m b
    let limit := integ != a || rate != b
    let rises := limit && !s.is F.TIM_STATUS_RATE_LIMIT
    let s := (s.putS F.TIM_INTEG_VALUE integ).putS F.TIM_RATE_VALUE rate
    let s := s.flag F.TIM_STATUS_RATE_LIMIT limit
    if rises then s.raiseInt 137 else s
  else s

/-- R404: 1 is written to SERVO_RESET. -/
def State.servoReset (s : State) : State :=
  if s.isOn 1 then ((s.put F.TIM_INTEG_VALUE 0).put F.TIM_RATE_VALUE 0).put F.TIM_STATUS_RATE_LIMIT 0 else s

/-- R406: the second mark is passed: it advances; the SV publishers take their committed keys (R422). -/
def svPubKey (a : Nat) : Bool := decide (0xE0000 ≤ a) && decide (a < 0xE0800)

def State.passMark (s : State) : State :=
  let s := s.put F.TIM_SECOND_VALUE (s.get F.TIM_SECOND_VALUE + 1000000000)
  let s := s.raiseInt 134
  if s.isOn 8 then s.applyKeys svPubKey else s

/-- TIM_NOW has reached or passed the mark. -/
def State.markReached (s : State) : Bool := !laterThan (s.get F.TIM_SECOND_VALUE) s.nowNs

/-- R406: TIM_SECOND is written by a host. -/
def State.writeSecond (s : State) (v : Nat) : State :=
  if s.isStation && s.isOn 1 then
    let sv := s.isOn 8 && (List.range 8).any (fun p => s.cfIs (F.SV_PUBp_CFG_EN p))
    let grid := s.isOn 12 && [0, 1, 2, 3].any (fun n => s.cfgOf (F.ADC_SEQn_CTRL_SOURCE n) == 2 && s.cfgOf (F.ADC_SEQn_CTRL_EN n) == 1)
    if !sv && !grid && laterThan v s.nowNs then s.put F.TIM_SECOND_VALUE v else s.put F.TIM_STATUS_SECOND_REFUSED 1
  else s

/-! ## Transmission (R397, R409) -/

/-- A MAC from its two registers. -/
def State.macAt (s : State) (lo : Nat) : List Byte := leBytes 4 (s.effWord lo).toNat ++ leBytes 2 ((s.effWord (lo + 4)).toNat % 65536)

/-- The device's own MAC. -/
def State.mac (s : State) : List Byte := s.macAt R.NET_MAC_LO

/-- NET_CONFIG MODE: PRP or HSR. -/
def State.redundant (s : State) : Bool := s.cf F.NET_CONFIG_MODE == 1 || s.cf F.NET_CONFIG_MODE == 2

/-- Whether port `p` is powered: ETH1 only under redundancy (R394). -/
def State.ethOn (s : State) (p : Nat) : Bool := s.isOn 7 && (p == 0 || (p == 1 && s.redundant))

/-- NET_CONFIG enables auto-negotiation on port `p` (R393). -/
def State.anegOn (s : State) (p : Nat) : Bool := s.cfIs (if p = 0 then F.NET_CONFIG_P0_ANEG else F.NET_CONFIG_P1_ANEG)

/-- A frame joins the waiting frames of port `p`. -/
def State.enqueue (s : State) (p : Nat) (t : TxFrame) : State :=
  s.withNet { s.net with waiting := s.net.waiting.set p (s.net.waiting.getD p [] ++ [t]) }

/-- The waiting frame that goes next on a port: the lowest class, timed frames whose launch has come before the others of their
class, in launch order (R397). Frames whose launch is still to come are no candidates. -/
def txBetter (a b : TxFrame) : Bool :=
  let rank := fun (t : TxFrame) => t.cls * 2 + b2n t.launch.isNone
  decide (rank a < rank b) || (rank a == rank b &&
    match a.launch, b.launch with
    | some x, some y => laterThan y x
    | _, _ => false)

def nextTx (due : TxFrame → Bool) : List TxFrame → Option TxFrame
  | [] => none
  | t :: ts =>
    match nextTx due ts with
    | some u => if due t && !txBetter u t then some t else some u
    | none => if due t then some t else none

/-- The list without the first element equal to `t`. -/
def dropTx (t : TxFrame) : List TxFrame → List TxFrame
  | [] => []
  | u :: us => if u == t then us else u :: dropTx t us

/-- ns time `t` has come. -/
def State.timeCame (s : State) (t : Nat) : Bool := !laterThan t s.nowNs

/-! ## Sampled values (R410 to R412) -/

/-- The samples/s of a RATE bit. -/
def svRate (b : Bool) : Nat := if b then 14400 else 4800

/-- Bytes of a text in registers, up to its 0. -/
def State.textAt (s : State) (a n : Nat) : List Byte :=
  ((List.range n).flatMap (fun i => leBytes 4 (s.effWord (a + 4 * i)).toNat)).takeWhile (· != 0)

/-- The quality word of a channel: validity in bits 1:0 (0 good, 1 invalid, 3 questionable), overflow 2, oldData 8, inaccurate
9, test 11 (PRESUMED: the bits of IEC 61850, assumption 62). -/
def svQuality (validity overflow old inaccurate test : Nat) : Word :=
  BitVec.ofNat 32 (validity + overflow * 4 + old * 256 + inaccurate * 512 + test * 2048)

/-- Channel `c` of a sample of publisher `p` as it is sent: value, quality, and whether it is oldData (R411, R412). -/
def State.svChannel (s : State) (p : Nat) (w : SvWait) (c : Nat) : (Word × Word) × Bool :=
  let n := s.cf (F.SV_PUBp_CHc_CONV p c)
  let k := s.cf (F.SV_PUBp_CHc_ENTRY p c)
  let test := s.cf (F.SV_PUBp_CFG_TEST p)
  let old := (w.values.getD c none).isNone
  let r := (w.values.getD c none).getD (s.adcCode n k, s.is (F.ADC_RESn_k_SAT n k))
  let v := BitVec.ofInt 32 (satSigned 32 (r.1 * s.cfS (F.SV_PUBp_CHc_SCALE p c) / 256))
  let q := if old then svQuality 1 0 1 0 test
    else if !natBit (s.get F.ADC_CAL_STATUS_VALID) n then svQuality 3 0 0 1 test
    else if r.2 then svQuality 1 1 0 0 test
    else svQuality 0 0 0 0 test
  ((v, q), old)

/-- smpSynch as published (R410). -/
def State.svSynch (s : State) : Nat :=
  if s.is F.CLK_STATUS_TIMEBASE_DEGRADED then 0 else s.get F.TIM_CTRL_SYNC_LEVEL

/-- The frame of publisher `p` at its launch. -/
def State.svFrame (s : State) (p : Nat) (seq : Option Nat) (ws : List SvWait) : EthFrame × Bool :=
  let chans := List.range (s.cf (F.SV_PUBp_CFG_NCH p))
  let asdu := fun (w : SvWait) => (⟨s.textAt (R.SV_PUBp_IDi p 0) 9, w.count, s.effWord (R.SV_PUBp_CONFREV p), s.svSynch,
    chans.map (fun c => (s.svChannel p w c).1)⟩ : SvAsdu)
  (⟨s.macAt (R.SV_PUBp_DST_LO p), s.mac,
    if s.cfIs (F.SV_PUBp_NET_VLAN_EN p) then some (s.cf (F.SV_PUBp_NET_PRIO p) * 8192 + s.cf (F.SV_PUBp_NET_VID p)) else none,
    seq, 0x88BA, .sv (s.cf (F.SV_PUBp_NET_APPID p)) false (ws.map asdu)⟩,
   ws.any (fun w => chans.any (fun c => (s.svChannel p w c).2)))

/-- The content of a publisher's frame is fixed in every waiting entry of the same samples, at the first launch of one. -/
def State.svLaunch (s : State) (p : Nat) (seq : Option Nat) (ws : List SvWait) : State :=
  let f := s.svFrame p seq ws
  let fix := fun (t : TxFrame) => if t.what == .sv p seq ws then { t with what := .frame f.1 } else t
  let s := s.withNet { s.net with waiting := s.net.waiting.map (fun l => l.map fix) }
  let s := match ws.getLast? with | some w => s.put (F.SV_PUBp_STATUS_SMPCNT p) w.count | none => s
  if f.2 then s.raiseInt 139 else s

/-- The best waiting frame that may start, on an idle port, starts (R397); on a port that is powered down nothing starts (R394):
its frames wait (DESIGN CHOICE, assumption 99). -/
def State.netStart (s : State) (p : Nat) : State :=
  if (s.net.sending.getD p none).isSome || !s.ethOn p then s
  else
    let due := fun (t : TxFrame) => match t.launch with | some x => s.timeCame x | none => true
    match nextTx due (s.net.waiting.getD p []) with
    | none => s
    | some t =>
      let s1 := match t.what with | .sv q seq ws => s.svLaunch q seq ws | _ => s
      let l := s.net.waiting.getD p []
      let i := l.findIdx (· == t)
      let t' := (s1.net.waiting.getD p []).getD i t
      s1.withNet { s1.net with
          waiting := s1.net.waiting.set p (dropTx t' (s1.net.waiting.getD p [])),
          sending := s1.net.sending.set p (some t') }

/-- A late timed frame is dropped (R409): LATE of its slot or stream, NET_LATE, source 138. -/
def State.txLate (s : State) (w : TxWhat) : State :=
  let s := (s.bump F.NET_LATE_VALUE).raiseInt 138
  match w with
  | .slot j _ =>
    let x := s.net.tx.getD j {}
    s.withNet { s.net with tx := s.net.tx.set j { x with ctrl := (x.ctrl ||| fieldMask 29 1) &&& ~~~(fieldMask 31 1), left := 0 } }
  | .sv p _ _ => s.bump (F.SV_PUBp_STATUS_LATE p)
  | _ => s

/-- A frame is sent on the ports given: with a launch time that is not earlier than now it waits in class 2 (R409). -/
def State.transmit (s : State) (ports : List Nat) (cls : Nat) (launch : Option Nat) (w : TxWhat) : State :=
  match launch with
  | some t =>
    if t % 2 ^ 32 == s.nowNs || laterThan t s.nowNs then
      ports.foldl (fun s p => (s.enqueue p ⟨cls, launch, w⟩).netStart p) s
    else s.txLate w
  | none => ports.foldl (fun s p => (s.enqueue p ⟨cls, none, w⟩).netStart p) s

/-- The ports of a redundant frame, and its sequence number: both ports in PRP and HSR, ETH0 alone in single mode (R394, R395). -/
def State.redundantPorts (s : State) : List Nat := if s.redundant then [0, 1] else [0]
def State.takeSeq (s : State) : Option Nat × State :=
  if s.redundant then (some s.net.seq, (s.withNet { s.net with seq := (s.net.seq + 1) % 65536 })) else (none, s)

/-- A frame of the device's own is sent as a redundant frame. -/
def State.sendRedundant (s : State) (cls : Nat) (launch : Option Nat) (w : Option Nat → TxWhat) : State :=
  let r := s.takeSeq
  r.2.transmit s.redundantPorts cls launch (w r.1)

/-- A management response of mailbox M2 (R129, R400): type 2, then the 64 bytes. -/
def State.mgmtResponse (s : State) (rsp : List Byte) : State :=
  if s.isOn 7 then
    s.sendRedundant 3 none (fun q => .frame ⟨(s.mb 2).mac, s.mac, none, q, s.cf F.NET_MGMT_ETYPE, .raw ([0, 2, 0, 0] ++ padTo 64 rsp)⟩)
  else s

/-! ## Publishers at a grid instant (R411, R412) -/

/-- m + floor(k * 10^9 / RATE). -/
def State.gridTime (s : State) (rate k : Nat) : Nat :=
  (s.get F.TIM_SECOND_VALUE + 2 ^ 32 - 1000000000 + k * 1000000000 / rate) % 2 ^ 32

/-- The samples that wait at publisher `p` are formed into a frame, launched at the instant of the group's last sample plus
DELAY; `before` says that their second has passed. -/
def State.svForm (s : State) (p : Nat) (before : Bool) : State :=
  match (s.stm.pub.getD p []).getLast? with
  | none => s
  | some w =>
    let ws := s.stm.pub.getD p []
    let no := max 1 (s.cf (F.SV_PUBp_CFG_NOASDU p))
    let last := w.count / no * no + no - 1
    let t := (s.gridTime (svRate (s.cfIs (F.SV_PUBp_CFG_RATE p))) last + s.cf (F.SV_PUBp_CFG_DELAY p)
      + 2 ^ 32 - b2n before * 1000000000) % 2 ^ 32
    let s := s.withStm { s.stm with pub := s.stm.pub.set p [] }
    s.sendRedundant 2 (some t) (fun q => .sv p q ws)

/-- Publisher `p` takes sample `k`; `rounds` are the rounds started at its instant. -/
def State.svSample (s : State) (p k : Nat) (rounds : List (Option Nat)) : State :=
  let no := max 1 (s.cf (F.SV_PUBp_CFG_NOASDU p))
  let s := match (s.stm.pub.getD p []).getLast? with
    | some w => if w.count / no = k / no then s else s.svForm p (decide (k < w.count))
    | none => s
  let w : SvWait := ⟨k, rounds, List.replicate (s.cf (F.SV_PUBp_CFG_NCH p)) none⟩
  let s := s.withStm { s.stm with pub := s.stm.pub.set p (s.stm.pub.getD p [] ++ [w]) }
  if (k + 1) % no = 0 then s.svForm p false else s

/-- A result of entry `k` of converter `n` in round `r` in a sample that waits (R412). -/
def svPut (chans : List (Nat × Nat)) (n k r : Nat) (v : Int × Bool) (w : SvWait) : SvWait :=
  if w.rounds.getD n none = some r then
    { w with values := (List.range w.values.length).map (fun c =>
        if chans.getD c (99, 0) = (n, k) && (w.values.getD c none).isNone then some v else w.values.getD c none) }
  else w

/-- R411, R412: a result reaches the samples of its instant, waiting or queued, unless their launch time has passed. -/
def State.svResult (s : State) (n k : Nat) : State :=
  if s.isOn 8 then
    let r := s.get (F.ADC_SEQn_STATUS_ROUND n)
    let v := (s.adcCode n k, s.is (F.ADC_RESn_k_SAT n k))
    let chans := fun p => (List.range (s.cf (F.SV_PUBp_CFG_NCH p))).map
      (fun c => (s.cf (F.SV_PUBp_CHc_CONV p c), s.cf (F.SV_PUBp_CHc_ENTRY p c)))
    let put := fun p (ws : List SvWait) => if ws.isEmpty then ws else ws.map (svPut (chans p) n k r v)
    let late := fun (t : TxFrame) => match t.launch with | some x => laterThan s.nowNs x | none => false
    let tx := fun (t : TxFrame) => match t.what with
      | .sv p q ws => if late t then t else { t with what := .sv p q (put p ws) }
      | _ => t
    (s.withStm { s.stm with pub := (List.range 8).map (fun p => put p (s.stm.pub.getD p [])) }).withNet { s.net with waiting := s.net.waiting.map (fun l => l.map tx) }
  else s

/-- R407: grid instant `k` of RATE `rate` has been taken already, or one after it in the same second. -/
def State.gridTaken (s : State) (rate k : Nat) : Bool :=
  match SMap.find s.tim.grid rate with
  | some x => x.1 == s.get F.TIM_SECOND_VALUE && decide (k ≤ x.2)
  | none => false

/-- R195, R407: grid instant `k` of RATE `rate`: converters on it start, publishers of that rate take a sample. -/
def State.gridInstant (s : State) (rate k : Nat) : State :=
  let s := s.reach (s.gridTime rate k)
  let s := s.withTim { s.tim with grid := SMap.set s.tim.grid rate (s.get F.TIM_SECOND_VALUE, k) }
  let hit := fun n => s.isOn 12 && s.cfgOf (F.ADC_SEQn_CTRL_SOURCE n) == 2 && s.cfgOf (F.ADC_SEQn_GRID_RATE n) == rate
  let r := [0, 1, 2, 3].foldl (fun (a : State × List (Option Nat)) n =>
    if hit n then
      let s' := a.1.adcStart n 0 true
      let ran := s'.is (F.ADC_SEQn_STATUS_BUSY n) && (s'.adc.conv.getD n {}).began.isSome
      (s', a.2 ++ [if ran then some (s'.get (F.ADC_SEQn_STATUS_ROUND n)) else none])
    else (a.1, a.2 ++ [none])) (s, [])
  if s.isOn 8 then
    (List.range 8).foldl (fun s p =>
      if s.cfIs (F.SV_PUBp_CFG_EN p) && svRate (s.cfIs (F.SV_PUBp_CFG_RATE p)) == rate then s.svSample p k r.2 else s) r.1
  else r.1

/-- The RATEs of the grids in use: of converters with SOURCE 2 and of SV publishers (R195). -/
def State.gridRates (s : State) : List Nat :=
  let conv := if s.isOn 12 then
      ([0, 1, 2, 3].filter (fun n => s.cfgOf (F.ADC_SEQn_CTRL_SOURCE n) == 2)).map (fun n => s.cfgOf (F.ADC_SEQn_GRID_RATE n))
    else []
  let pub := if s.isOn 8 then
      ((List.range 8).filter (fun p => s.cfIs (F.SV_PUBp_CFG_EN p))).map (fun p => svRate (s.cfIs (F.SV_PUBp_CFG_RATE p)))
    else []
  ((conv ++ pub).filter (· != 0)).eraseDups

/-- The grid instants of RATE `rate` in the second in progress that TIM_NOW has reached (R195). -/
def State.gridReached (s : State) (rate : Nat) : Nat :=
  let m := (s.get F.TIM_SECOND_VALUE + 2 ^ 32 - 1000000000) % 2 ^ 32
  if laterThan m s.nowNs then 0
  else ceilDiv (((s.nowNs + 2 ^ 32 - m) % 2 ^ 32 + 1) * rate) 1000000000

/-- R407: of the grid instants that a step carried TIM_NOW past, the last is taken, unless it was taken before an earlier negative
step, and the others are skipped; `old` is the state before the step. -/
def State.stepGrid (s old : State) : State :=
  let mark := s.get F.TIM_SECOND_VALUE != old.get F.TIM_SECOND_VALUE
  s.gridRates.foldl (fun s rate =>
    let k := s.gridReached rate
    if k != 0 && (mark || decide (old.gridReached rate < k)) && !s.gridTaken rate (k - 1) then s.gridInstant rate (k - 1) else s) s

/-- R405: TIM_STEP is written. What the step carries TIM_NOW past happens at once: the second mark, grid instants, queued launches
(R406, R407, R409). -/
def State.timeStep (s : State) (v : Int) : State :=
  if s.isStation && s.isOn 1 then
    if v.natAbs ≤ s.cf F.TIM_CONFIG_TIM_STEP_LIMIT then
      let before := s.markReached
      let t := ((s.advance (v * 2 ^ 32)).stepDue v).stepNet v
      let t := (t.put F.TIM_STATUS_STEP_DONE 1).raiseInt 136
      let t := if t.markReached && !before then t.passMark else t
      let t := if v > 0 then t.stepGrid s else t
      if s.isOn 7 then (t.netStart 0).netStart 1 else t
    else ((s.put F.TIM_STATUS_STEP_REFUSED 1).raiseInt 135).fault 108
  else s

/-! ## SV subscriptions (R413 to R415) -/

def State.svSub (s : State) (i : Nat) : SvSub := s.stm.sub.getD i {}
def State.setSvSub (s : State) (i : Nat) (x : SvSub) : State := s.withStm { s.stm with sub := s.stm.sub.set i x }

/-- Validity of SV subscription `i` changes (source 140). -/
def State.svValid (s : State) (i : Nat) (v : Bool) : State :=
  let x := s.svSub i
  let s := s.setSvSub i { x with valid := v, was := x.was || v, run := if v then x.run else 0 }
  let s := s.flag (F.SV_SUBs_STATUS_VALID i) v
  if x.valid == v then s else s.raiseInt 140

/-- A rejected frame: the reasons, and the subscription is invalid (R413). -/
def State.svReject (s : State) (i : Nat) (conf form low : Bool) : State :=
  let s := s.flag (F.SV_SUBs_STATUS_CONFREV i) conf
  let s := s.flag (F.SV_SUBs_STATUS_FORMAT i) form
  let s := s.flag (F.SV_SUBs_STATUS_SYNC_LOW i) low
  (s.put (F.SV_SUBs_STATUS_TIMEOUT i) 0).svValid i false

/-- R415, R240: a sample whose three voltages are good goes to the tracker, `gap` samples after the last one. -/
def State.svTrack (s : State) (i count gap : Nat) (chans : List (Word × Word)) : State :=
  if s.gridRuns && s.cfIs F.OBS_TRK_SRC_EN && s.cfIs F.OBS_TRK_SRC_SOURCE && s.cf F.OBS_TRK_SRC_SV_SLOT == i then
    let ch := fun c => chans.getD c (0, 1)
    let l := [ch (s.cf (F.SV_SUBs_MAP_VA i)), ch (s.cf (F.SV_SUBs_MAP_VB i)), ch (s.cf (F.SV_SUBs_MAP_VC i))]
    if l.all (fun x => x.2.toNat % 4 == 0) then
      let q := l.map (fun x => satSigned 32 (x.1.toInt * s.cfS (F.SV_SUBs_VSCALE_VALUE i) / 2 ^ 24))
      let rate := svRate (s.cfIs (F.SV_SUBs_CFG_RATE i))
      s.trackSv (q.getD 0 0) (q.getD 1 0) (q.getD 2 0) (s.svInstant rate count) ((gap : Rat) / rate)
    else s
  else s

/-- R444: in twin operation the active sends the three voltages of a sample of its valid subscription to both twins. -/
def State.svShare (s : State) (i : Nat) (a : SvAsdu) : State :=
  if s.get F.TWN_STATUS_STATE == 2 && (s.svSub i).valid && s.cfIs F.OBS_TRK_SRC_EN && s.cfIs F.OBS_TRK_SRC_SOURCE && s.cf F.OBS_TRK_SRC_SV_SLOT == i then
    let one := fun (k : Nat) (c : Nat) =>
      let x := a.channels.getD c (0, 1)
      (⟨k, a.count % 65536 + b2n (x.2.toNat % 4 == 0) * 65536, x.1⟩ : TwinInput)
    s.withTwn { s.twn with queueOut := s.twn.queueOut
      ++ [one 2 (s.cf (F.SV_SUBs_MAP_VA i)), one 3 (s.cf (F.SV_SUBs_MAP_VB i)), one 4 (s.cf (F.SV_SUBs_MAP_VC i))] }
  else s

/-- One ASDU of an accepted frame: taken if its smpCnt is later than the last taken; the second part says whether it was
taken and whether it left a gap (R413). -/
def State.svAsdu (s : State) (i : Nat) (a : SvAsdu) : State × Bool × Bool :=
  let rate := svRate (s.cfIs (F.SV_SUBs_CFG_RATE i))
  let d := match (s.svSub i).last with
    | some l => (a.count + rate - l % rate) % rate
    | none => 1
  if d = 0 || 2 * d ≥ rate then (s, false, false)
  else
    let s := s.setSvSub i { s.svSub i with last := some a.count }
    let s := s.put (F.SV_SUBs_STATUS_SMPCNT i) a.count
    let s := (List.range a.channels.length).foldl (fun s c =>
      let v := a.channels.getD c (0, 0)
      (s.setWord (R.SV_SUBs_VALc i c) v.1).setWord (R.SV_SUBs_QUALc i c) v.2) s
    let s := if s.twn.operating then s.svShare i a else s.svTrack i a.count d a.channels
    if d > 1 then
      let n := s.get (F.SV_SUBs_LOST_VALUE i) + (d - 1)
      ((s.put (F.SV_SUBs_LOST_VALUE i) (min n (2 ^ 32 - 1))).raiseInt 141, true, true)
    else (s, true, false)

/-- R414: the run of frames whose samples follow without gap, when a frame takes one more sample; `run` counts the frames before
this one, `sofar` is the run after this frame's samples taken so far. A gap before the first of them starts a run with this frame,
one between them ends the run. -/
def svRun (run : Nat) (sofar : Option Nat) (gap : Bool) : Nat :=
  match sofar with
  | some r => if gap then 0 else r
  | none => if gap then 1 else min 8 (run + 1)

/-- R413, R414: subscription `i` sees a frame that matches it. -/
def State.svFrameTo (s : State) (i : Nat) (sim : Bool) (as_ : List SvAsdu) : State :=
  if sim then s
  else
    let conf := as_.any (fun a => a.confRev != s.effWord (R.SV_SUBs_CONFREV i))
    let test := as_.any (fun a => (a.channels.getD 0 (0, 0)).2.getLsbD 11 != s.cfIs (F.SV_SUBs_CFG_TEST i))
    let form := as_.length != s.cf (F.SV_SUBs_CFG_NOASDU i) || test
      || as_.any (fun a => a.channels.length != s.cf (F.SV_SUBs_CFG_NCH i))
    let low := as_.any (fun a => decide (a.synch < s.cf (F.SV_SUBs_CFG_SYNC_MIN i)))
    if conf || form || low then s.svReject i conf form low
    else
      let r := as_.foldl (fun (x : State × Option Nat) a =>
        let y := x.1.svAsdu i a
        (y.1, if y.2.1 then some (svRun (s.svSub i).run x.2 y.2.2) else x.2)) (s, none)
      let s := r.1
      let x := s.svSub i
      let run := r.2.getD x.run
      let s := s.setSvSub i { x with run := run }
      if run ≥ 8 && !x.valid then (s.put (F.SV_SUBs_STATUS_TIMEOUT i) 0).svValid i true else s

/-- Fault source 109. -/
def State.svLost (s : State) : Bool :=
  s.isOn 8 && (List.range 16).any (fun i => s.cfIs (F.SV_SUBs_CFG_ALARM_EN i) && s.cfIs (F.SV_SUBs_CFG_EN i)
    && !(s.svSub i).valid && (s.svSub i).was)

/-! ## GOOSE publishers (R416, R417) -/

def State.gsePub (s : State) (g : Nat) : GsePub := s.stm.gpub.getD g {}
def State.setGsePub (s : State) (g : Nat) (x : GsePub) : State := s.withStm { s.stm with gpub := s.stm.gpub.set g x }

/-- Table 14-5. -/
def State.deviceBit (s : State) (c : Nat) : Bool :=
  match c with
  | 0 | 1 | 2 | 3 => s.classPend c
  | 4 => s.pwr.breach
  | 5 => s.ctl == 1
  | 6 => s.ctl == 2
  | 7 => s.ctl == 3
  | 8 => s.is F.DPC_STATE_FB_HOLD
  | 9 => s.is F.GDR_STATUS_OV2_ACTIVE
  | 10 => s.is F.GDR_STATUS_OV3_BLOCK
  | 11 => s.is F.GDR_STATUS_CHOP_FAULT
  | 12 | 13 | 14 | 15 => natBit (s.get F.MOD_TRIP_STATUS_LATCHED) (c - 12)
  | 16 => s.get F.WRD_A_STATUS_STATE == 3
  | 17 => s.isOn 15 && s.get (⟨F.WRD_A_STATUS_STATE.addr + 0x100, F.WRD_A_STATUS_STATE.lo, F.WRD_A_STATUS_STATE.w⟩ : Fld) == 3
  | 18 => s.is F.OBS_TRK_STATUS_VALID
  | _ => false

/-- Member `m` of publisher `g`: type and value now (R416). -/
def State.gseMember (s : State) (g m : Nat) : GooseMember :=
  let ty := s.cf (F.GSE_PUBg_MEMm_TYPE g m)
  let code := s.cf (F.GSE_PUBg_MEMm_CODE g m)
  let v : Word := match s.cf (F.GSE_PUBg_MEMm_SRC g m) with
    | 1 => BitVec.ofNat 32 (b2n (s.deviceBit code))
    | 2 => BitVec.ofInt 32 (s.source s.tide s.vMean code)
    | _ => s.word (R.GSE_PUBg_HVm g m)
  let mask := match ty with | 0 => 1 | 1 => 3 | 3 => 0x1FFF | _ => 0xFFFFFFFF
  ⟨ty, true, v &&& BitVec.ofNat 32 mask⟩

def State.gseMembers (s : State) (g : Nat) : List GooseMember := (List.range (s.cf (F.GSE_PUBg_CFG_NMEM g))).map (s.gseMember g)

/-- Some member that makes a new state differs from the last state. -/
def State.gseChanged (s : State) (g : Nat) : Bool :=
  let ms := s.gseMembers g
  (List.range ms.length).any (fun m =>
    let x := ms.getD m ⟨0, true, 0⟩
    x.type != 2 && x.value != (s.gsePub g).last.getD m 0)

/-- A frame of publisher `g` as formed now, `next` µs before the next one. -/
def State.gseFrame (s : State) (g : Nat) (seq : Option Nat) (next : Nat) : EthFrame :=
  let x := s.gsePub g
  ⟨s.macAt (R.GSE_PUBg_DST_LO g), s.mac,
   if s.cfIs (F.GSE_PUBg_NET_VLAN_EN g) then some (s.cf (F.GSE_PUBg_NET_PRIO g) * 8192 + s.cf (F.GSE_PUBg_NET_VID g)) else none,
   seq, 0x88B8,
   .goose (s.cf (F.GSE_PUBg_CFG_APPID g)) false
     ⟨s.textAt (R.GSE_PUBg_REFi g 0) 16, s.textAt (R.GSE_PUBg_DSETi g 0) 16, s.textAt (R.GSE_PUBg_GOIDi g 0) 16,
      ceilDiv (2 * next) 1000, x.stNum, x.sqNum, s.cfIs (F.GSE_PUBg_CFG_TEST g), s.effWord (R.GSE_PUBg_CONFREV g), false,
      (s.word R.RVE_HOST_SECONDS, s.nowNs), s.gseMembers g⟩⟩

/-- A number that rolls over from 2^32 - 1 to 1. -/
def rollOver (n : Nat) : Nat := if n + 1 < 2 ^ 32 then n + 1 else 1

/-- The frame with content `c` of publisher `g` has begun on some port: it is in transmission, or was the last one sent. -/
def State.gseBegun (s : State) (g : Nat) (c : GooseContent) : Bool :=
  s.net.sending.any (fun o => match o with
    | some t => (match t.what with
      | .goose k ⟨_, _, _, _, _, .goose _ _ x⟩ => k == g && x.stNum == c.stNum && x.sqNum == c.sqNum
      | _ => false)
    | none => false)
  || (s.get (F.GSE_PUBg_STNUM_VALUE g) == c.stNum && s.get (F.GSE_PUBg_SQNUM_VALUE g) == c.sqNum)

/-- R417: a new state of publisher `g`: the state before it is not sent any more if its first transmission has not started; what
has begun on one port still leaves on the other (R395). -/
def State.gseNew (s : State) (g : Nat) : State :=
  if s.isOn 8 && s.cfIs (F.GSE_PUBg_CFG_EN g) then
    let keep := fun (t : TxFrame) => match t.what with | .goose k ⟨_, _, _, _, _, .goose _ _ c⟩ => k != g || s.gseBegun g c | _ => true
    let s := s.withNet { s.net with waiting := s.net.waiting.map (fun (l : List TxFrame) => l.filter keep) }
    let x := s.gsePub g
    let next := min (s.cf (F.GSE_PUBg_TIMES_MIN_US g)) (s.cf (F.GSE_PUBg_TIMES_MAX_MS g) * 1000)
    let s := s.setGsePub g ⟨rollOver x.stNum, 0, next, (s.gseMembers g).map (fun (x : GooseMember) => x.value)⟩
    let s := s.raiseInt 152
    s.sendRedundant 1 none (fun q => .goose g (s.gseFrame g q next))
  else s

/-- R417: the repeat interval of publisher `g` expires. -/
def State.gseRepeat (s : State) (g : Nat) : State :=
  if s.isOn 8 && s.cfIs (F.GSE_PUBg_CFG_EN g) && (s.gsePub g).interval != 0 then
    let x := s.gsePub g
    let next := min (2 * x.interval) (s.cf (F.GSE_PUBg_TIMES_MAX_MS g) * 1000)
    let s := s.setGsePub g { x with sqNum := rollOver x.sqNum, interval := next }
    let t := s.nowNs
    s.sendRedundant 2 (some t) (fun q => .goose g (s.gseFrame g q next))
  else s

/-! ## GOOSE subscriptions and trips (R418 to R420) -/

def State.gseSub (s : State) (i : Nat) : GseSub := s.stm.gsub.getD i {}
def State.setGseSub (s : State) (i : Nat) (x : GseSub) : State := s.withStm { s.stm with gsub := s.stm.gsub.set i x }

/-- The level of GOOSE trip `k` (R420): while its subscription is invalid, the level when validity was lost is held. -/
def State.tripSignal (s : State) (k : Nat) : Bool :=
  let i := s.cf (F.GSE_TRIPk_SUB k)
  if !s.isOn 8 || !s.cfIs (F.GSE_TRIPk_EN k) then false
  else if (s.gseSub i).valid then
    (s.word (R.GSE_SUBs_VALm i (s.cf (F.GSE_TRIPk_MEM k)))).getLsbD 0 != s.cfIs (F.GSE_TRIPk_POL k)
  else s.cfIs (F.GSE_TRIPk_INVALID_TRIP k) || s.stm.tripHeld.getLsbD k

/-- `b` with bit `k` set to `v`. -/
def setBit8 (b : BitVec 8) (k : Nat) (v : Bool) : BitVec 8 := if b.getLsbD k == v then b else b ^^^ (1#8 <<< k)

/-- The trip signals follow; each change raises its source. The level of a valid subscription is kept for its loss. -/
def State.tripsFollow (s : State) : State :=
  (List.range 8).foldl (fun s k =>
    let v := s.tripSignal k
    let valid := (s.gseSub (s.cf (F.GSE_TRIPk_SUB k))).valid
    let s := if valid then s.withStm { s.stm with tripHeld := setBit8 s.stm.tripHeld k v } else s
    if s.stm.trips.getLsbD k == v then s
    else (s.withStm { s.stm with trips := s.stm.trips ^^^ (1#8 <<< k) }).raiseInt (144 + k)) s

/-- Validity of GOOSE subscription `i` changes (source 142). -/
def State.gseValid (s : State) (i : Nat) (v : Bool) : State :=
  let x := s.gseSub i
  let s := s.setGseSub i { x with valid := v, was := x.was || v }
  let s := s.flag (F.GSE_SUBs_STATUS_VALID i) v
  (if x.valid == v then s else s.raiseInt 142).tripsFollow

/-- R418: subscription `i` sees a frame that matches it. -/
def State.gooseTo (s : State) (i : Nat) (sim : Bool) (f : GooseContent) : State :=
  if sim || f.test != s.cfIs (F.GSE_SUBs_CFG_TEST i) then s
  else
    let n := s.cf (F.GSE_SUBs_CFG_NMEM i)
    let ty := fun m => s.cf (F.GSE_SUBs_TYPES_VALUE i) / 4 ^ m % 4
    let conf := f.confRev != s.effWord (R.GSE_SUBs_CONFREV i)
    let form := f.members.length != n || (List.range n).any (fun m =>
      let x := f.members.getD m ⟨0, false, 0⟩
      x.type != ty m || !x.fixed)
    if conf || form || f.ndsCom then
      let s := (s.flag (F.GSE_SUBs_STATUS_CONFREV i) conf).flag (F.GSE_SUBs_STATUS_FORMAT i) form
      ((s.flag (F.GSE_SUBs_STATUS_NDSCOM i) f.ndsCom).put (F.GSE_SUBs_STATUS_EXPIRED i) 0).gseValid i false
    else
      let x := s.gseSub i
      let fresh := match x.last with
        | some l => f.stNum != l.1 || laterThan f.sqNum l.2
        | none => true
      if fresh then
        let newState := match x.last with | some l => f.stNum != l.1 | none => true
        let s := s.setGseSub i { x with last := some (f.stNum, f.sqNum), deadline := (s.nowNs + f.ttl * 1000000) % 2 ^ 32 }
        let s := (s.put (F.GSE_SUBs_STNUM_VALUE i) f.stNum).put (F.GSE_SUBs_SQNUM_VALUE i) f.sqNum
        let s := (List.range n).foldl (fun s m => s.setWord (R.GSE_SUBs_VALm i m) (f.members.getD m ⟨0, true, 0⟩).value) s
        let s := if newState then s.raiseInt 143 else s
        (s.put (F.GSE_SUBs_STATUS_EXPIRED i) 0).gseValid i true
      else s

/-- Fault source 110. -/
def State.gooseLost (s : State) : Bool :=
  s.isOn 8 && (List.range 64).any (fun i => s.cfIs (F.GSE_SUBs_CFG_ALARM_EN i) && s.cfIs (F.GSE_SUBs_CFG_EN i)
    && !(s.gseSub i).valid && (s.gseSub i).was)

/-- R419: the analogue value of subscription `i` while it is valid. -/
def State.gooseAnalogue (s : State) (i : Nat) : Option Int :=
  if s.isOn 8 && (s.gseSub i).valid then
    let v := (s.word (R.GSE_SUBs_VALm i (s.cf (F.GSE_SUBs_CFG_AMEM i)))).toInt
    some (satSigned 32 (v * s.cfS (F.GSE_SUBs_ASCALE_VALUE i) / 2 ^ 24))
  else none

/-! ## Reception (R393, R395, R396, R398, R400) -/

/-- A redundant frame is looked up: the second part says that it is a duplicate. -/
def State.dupCheck (s : State) (p : Nat) (src : List Byte) (seq : Nat) : State × Bool :=
  if s.net.dups.any (fun e => e.src == src && e.seq == seq) then
    let up := fun (e : DupEntry) => if e.src == src && e.seq == seq then
      { e with ports := if natBit e.ports p then e.ports else e.ports + 2 ^ p, time := s.nowNs } else e
    ((s.withNet { s.net with dups := s.net.dups.map up }).bump F.NET_RED_STATUS_DUPLICATES, true)
  else
    let known := s.net.dups.any (fun e => e.src == src)
    let sources := (s.net.dups.map (·.src)).eraseDups.length
    if known || sources < 512 then
      ((s.withNet { s.net with dups := ⟨src, seq, 2 ^ p, s.nowNs⟩ :: s.net.dups }), false)
    else (s.bump F.NET_RED_STATUS_TABLE_FULL, false)

/-- The bytes of a frame from its destination address on. The spec leaves the encoding of the other bodies to their standards:
their bytes are a free value (assumption 1). -/
def State.frameBytes (s : State) (f : EthFrame) : List Byte × State :=
  let head := f.dst ++ f.src ++ (match f.vlan with | some v => [0x81, 0] ++ beBytes 2 v | none => []) ++ beBytes 2 f.etype
  match f.body with
  | .raw b => (head ++ b, s)
  | _ =>
    let n := s.fresh 1501
    let x := n.2.fresh (2 ^ (8 * n.1))
    (head ++ leBytes n.1 x.1, x.2)

/-- R398: a frame for the host fills a receive slot, or is discarded with OVERRUN. -/
def State.toHost (s : State) (p stamp frac : Nat) (f : EthFrame) : State :=
  if s.net.count < 8 then
    let i := (s.net.head + s.net.count) % 8
    let b := s.frameBytes f
    let s := b.2
    (s.withNet { s.net with rx := s.net.rx.set i (some ⟨p, stamp, frac, b.1⟩), count := s.net.count + 1 }).raiseInt 131
  else (s.bump F.NET_RX_STATUS_OVERRUN).raiseInt 133

/-- The payload of a management request: type 1, then 64 bytes (R400). -/
def isRequest (b : List Byte) : Bool := beAt b 0 2 == 1 && decide (68 ≤ b.length)

/-- R400: a management request `b` to the device. -/
def State.toMgmt (s : State) (p : Nat) (f : EthFrame) (b : List Byte) : State :=
  let req := bytesAt b 4 64
  let tag := req.getD 1 0
  let again := match s.net.mgmt with
    | some m => m.1 == f.src && m.2.1 == tag
    | none => false
  if again then s
  else if s.ringable 2 then
    let s := s.withNet { s.net with mgmt := some (f.src, tag, s.nowNs) }
    (s.fillWords (R.RVE_Mn_REQk 2 0) req).ring 2 (fun m => { m with mac := f.src, ethPort := p })
  else (s.ring 2 id).raiseInt 153

/-- A multicast or broadcast address. -/
def isGroup (a : List Byte) : Bool := (a.getD 0 0).getLsbD 0

/-- A received frame goes to the subscriptions and the management mailbox (R400, R413, R418); the second part says whether one of
them takes it. -/
def State.taken (s : State) (f : EthFrame) (p : Nat) : State × Bool :=
  let src := fun lo => s.macAt lo == List.replicate 6 0 || s.macAt lo == f.src
  match f.body with
  | .sv appid sim as_ =>
    let subs := if s.isOn 8 then (List.range 16).filter (fun i => s.cfIs (F.SV_SUBs_CFG_EN i)
      && s.cf (F.SV_SUBs_CFG_APPID i) == appid && src (R.SV_SUBs_SRC_LO i)
      && !as_.isEmpty && as_.all (fun a => a.id == s.textAt (R.SV_SUBs_IDi i 0) 9)) else []
    if f.etype != 0x88BA || subs.isEmpty then (s, false)
    else (subs.foldl (fun s i => s.svFrameTo i sim as_) s, true)
  | .goose appid sim g =>
    let subs := if s.isOn 8 then (List.range 64).filter (fun i => s.cfIs (F.GSE_SUBs_CFG_EN i)
      && s.cf (F.GSE_SUBs_CFG_APPID i) == appid && src (R.GSE_SUBs_SRC_LO i)
      && g.ref == s.textAt (R.GSE_SUBs_REFi i 0) 16) else []
    if f.etype != 0x88B8 || subs.isEmpty then (s, false)
    else (subs.foldl (fun s i => s.gooseTo i sim g) s, true)
  | .raw b =>
    if s.cfIs F.NET_MGMT_EN && f.etype == s.cf F.NET_MGMT_ETYPE && f.dst == s.mac && isRequest b then (s.toMgmt p f b, true)
    else (s, false)
  | .supervision => (s, false)

/-- A received frame goes to its consumers: the host's queue and those of `State.taken`; what no rule takes is counted (R398). -/
def State.consume (s : State) (p stamp frac : Nat) (f : EthFrame) : State :=
  let host := (f.dst == s.mac || isGroup f.dst) && (f.etype == 0x88F7 || (f.etype != 0
    && (f.etype == s.cf F.NET_HOST_ETYPE_ETYPE0 || f.etype == s.cf F.NET_HOST_ETYPE_ETYPE1)))
  let r := s.taken f p
  let s := if host then r.1.toHost p stamp frac f else r.1
  if host || r.2 then s else s.bump (F.NET_Pp_ERR_OTHER p)

/-- R395: HSR forwarding of a frame that is not addressed to the device alone, that it did not originate and has not forwarded
before. -/
def State.hsrForward (s : State) (p : Nat) (f : EthFrame) : State :=
  if s.cf F.NET_CONFIG_MODE = 2 && f.etype != 0x88F7 && f.dst != s.mac && f.src != s.mac then
    let prio := match f.vlan with | some v => v / 8192 | none => 0
    s.transmit [1 - p] (if prio ≥ 4 then 2 else 3) none (.frame f)
  else s

/-- Committed keys of this chapter (R422): `changed` names the registers whose value changed. -/
def State.netCommitted (s : State) (changed : Nat → Bool) : State :=
  let restart := s.isOn 7 && (changed R.NET_CONFIG || changed R.NET_MAC_LO || changed (R.NET_MAC_LO + 4))
  let s := if restart then [0, 1].foldl (fun s p =>
      if s.is (F.NET_Pp_STATUS_LINK p) then
        ((s.put (F.NET_Pp_STATUS_LINK p) 0).put (F.NET_Pp_STATUS_ANEG_DONE p) 0).bump (F.NET_Pp_STATUS_CHANGES p) |>.raiseInt (128 + p)
      else s) s else s
  let s := if restart then (s.netStart 0).netStart 1 else s
  if s.isOn 8 then
    let inside := fun (lo size : Nat) => (List.range (size / 4)).any (fun i => changed (lo + 4 * i))
    let s := (List.range 16).foldl (fun s i =>
      if inside (R.SV_SUBs_CFG i) 0x44 then
        let s := s.svValid i false
        s.setSvSub i {}
      else s) s
    let s := (List.range 64).foldl (fun s i =>
      if inside (R.GSE_SUBs_CFG i) 0xC0 then
        let s := s.setGseSub i { s.gseSub i with last := none }
        let s := s.gseValid i false
        s.setGseSub i {}
      else s) s
    let s := (List.range 16).foldl (fun s g =>
      if inside (R.GSE_PUBg_CFG g) 0x200 then
        let s := if s.cfIs (F.GSE_PUBg_CFG_EN g) then s else s.setGsePub g {}
        s.gseNew g
      else s) s
    s.tripsFollow
  else s

/-! ## The host's transmit slots (R399) -/

/-- The frame in transmit slot `j`. -/
def State.slotFrame (s : State) (j len : Nat) : EthFrame :=
  let x := s.net.tx.getD j {}
  let bytes := ((List.range ((len + 3) / 4)).flatMap
    (fun i => leBytes 4 ((SMap.find x.mem (0x14 + 4 * i)).getD 0).toNat)).take len
  let t := beAt bytes 12 2
  if t = 0x8100 then ⟨bytes.take 6, bytesAt bytes 6 6, some (beAt bytes 14 2), none, beAt bytes 16 2, .raw (bytes.drop 18)⟩
  else ⟨bytes.take 6, bytesAt bytes 6 6, none, none, t, .raw (bytes.drop 14)⟩

/-- R399: the control word of transmit slot `j` is written. -/
def State.txControl (s : State) (j : Nat) (w : Word) : State :=
  let x := s.net.tx.getD j {}
  if x.ctrl.getLsbD 31 then s
  else
    let port := (w.extractLsb' 12 2).toNat
    let go := w.getLsbD 31 && port != 3
    let f := s.slotFrame j (w.extractLsb' 0 11).toNat
    let ptp := f.etype == 0x88F7
    let ports := if port = 2 then s.redundantPorts else [port]
    let ctrl := w &&& (fieldMask 0 11 ||| fieldMask 12 3 ||| (if go then fieldMask 31 1 else 0))
    let s := s.withNet { s.net with tx := s.net.tx.set j { x with ctrl := ctrl, left := if go then ports.foldl (fun a p => a + 2 ^ p) 0 else 0 } }
    if go then
      let launch := if w.getLsbD 14 then some ((SMap.find x.mem 4).getD 0).toNat else none
      let cls := if w.getLsbD 14 then 2 else 3
      if port = 2 && !ptp then
        let r := s.takeSeq
        r.2.transmit ports cls launch (.slot j { f with seq := r.1 })
      else s.transmit ports cls launch (.slot j f)
    else s

/-- R399, R417: a frame has left port `p`, its delimiter at `stamp` and `frac`. -/
def State.txDone (s : State) (p stamp frac : Nat) (w : TxWhat) : State :=
  match w with
  | .slot j _ =>
    let x := s.net.tx.getD j {}
    let left := if natBit x.left p then x.left - 2 ^ p else x.left
    let ctrl := if left = 0 then (x.ctrl &&& ~~~(fieldMask 31 1)) ||| fieldMask 30 1 else x.ctrl
    let x := { x with stamps := x.stamps.set p stamp, fracs := x.fracs.set p frac, left := left, ctrl := ctrl }
    let s := s.withNet { s.net with tx := s.net.tx.set j x }
    if left = 0 then s.raiseInt 132 else s
  | .goose g f =>
    match f.body with
    | .goose _ _ c => (s.put (F.GSE_PUBg_STNUM_VALUE g) c.stNum).put (F.GSE_PUBg_SQNUM_VALUE g) c.sqNum
    | _ => s
  | _ => s

/-- R393 to R396: a frame is received on port `p`. -/
def State.ethReceive (s : State) (p : Nat) (f : EthFrame) (stamp frac : Nat) : State :=
  let s := (s.reach stamp).bump (F.NET_Pp_RXCOUNT_VALUE p)
  match f.seq with
  | some q =>
    if s.redundant && f.etype != 0x88F7 then
      let r := s.dupCheck p f.src q
      if r.2 then r.1 else (r.1.hsrForward p f).consume p stamp frac f
    else s.consume p stamp frac f
  | none => (s.hsrForward p f).consume p stamp frac f

/-- R398: 1 is written to NET_RX_POP. -/
def State.rxPop (s : State) : State :=
  if s.isOn 7 && s.net.count != 0 then
    s.withNet { s.net with head := (s.net.head + 1) % 8, count := s.net.count - 1 }
  else s

/-- The earliest launch time that waits on port `p`. -/
def State.firstLaunch (s : State) (p : Nat) : Option Nat :=
  (s.net.waiting.getD p []).foldl (fun a t => match t.launch, a with
    | some x, some y => if laterThan y x then some x else some y
    | some x, none => some x
    | none, a => a) none

/-- R417: a write to GSE_PUB_FORCE. -/
def State.gseForce (s : State) (mask : Nat) : State :=
  ((List.range 16).filter (natBit mask)).foldl (fun s g => s.gseNew g) s

end Sys2Proof.Machine
end

