-- ==== Sys2Proof/Machine/VaultOps.lean ====
section
/-! DEFINITION. The on-die reading, the Vault, its write gate and its journal (13_thermal_vault.md R374, R375, R380 to R390;
04_host_reeve.md R123, R137 to R139). -/
namespace Sys2Proof.Machine

/-- R380: the thermal shutdown temperature, 160 °C. -/
def thermalShutdown : Int := 2560

/-- Table 13-4: the write window, -40 to 125 °C. -/
def inWindow (r : Int) : Bool := decide (-640 ≤ r) && decide (r ≤ 2000)

/-! ## CFG registers of a role -/

/-- The registers an array row names. -/
def RegRow.count (r : RegRow) : Nat := r.dims.foldl (fun n d => n * d.1) 1

/-- The role has the configuration key `f` of a register it has. -/
def FieldRow.keyOf (f : FieldRow) (role : Role) : Bool := f.acc == .cfg && (f.roles == 0 || inRole f.roles role)

/-- A row holds CFG registers of the role: registers it has, with some key it has (R251, R281, R468). -/
def RegRow.cfgOf (r : RegRow) (role : Role) : Bool := inRole r.roles role && r.fields.any (·.keyOf role)

/-- The number of CFG registers of a role (R382). -/
def cfgCount (role : Role) : Nat :=
  (List.range 17).foldl (fun n b => ((blockRegs b).filter (fun r => r.cfgOf role)).foldl (fun n r => n + r.count) n) 0

/-- The register at `a` is a CFG register of the role. -/
def isCfgReg (role : Role) (a : Nat) : Bool :=
  match findReg a with | some r => a % 4 == 0 && r.cfgOf role | none => false

/-- The CFG registers of a role, ascending (R382). -/
def cfgRegs (role : Role) : List Nat := ((List.range 0x44000).map (4 * ·)).filter (isCfgReg role)

/-- A register in a generation's list. -/
def genWord (cfg : List (Nat × Word)) (a : Nat) : Word := (SMap.find cfg a).getD (resetWord a)

/-! ## Flash (R381 to R387) -/

/-- The slot a commit writes: the one after that in force (R383); the first one from generation 0 on. -/
def VltSt.target (v : VltSt) : Nat := if v.gen = 0 then 0 else (v.slot + 1) % 4

/-- The journal sector of sequence number `q` (Table 13-3). -/
def journalSector (q : Nat) : Nat := 4 + (q - 1) / 2048 % 56

/-- R382: the header word and the entry words of a generation of `role`: 64 data bits each, the generation number, or the value, in
bits 31 to 0 (DESIGN CHOICE, assumption 103). -/
def SlotSt.words (x : SlotSt) : List (BitVec 64) :=
  BitVec.ofNat 64 (x.gen + x.count * 2 ^ 32)
    :: (cfgRegs x.role).map (fun a => BitVec.ofNat 64 (a * 2 ^ 32 + (genWord x.cfg a).toNat))

/-- R382: the CRC-32 of R143 over the header and the entries, each word low byte first (DESIGN CHOICE, assumption 103). -/
def SlotSt.crc (x : SlotSt) : Word := crc32 (x.words.flatMap (fun w => leBytes 8 w.toNat))

/-- R382: a generation is valid when its commit record is intact under ECC and its CRC matches. -/
def SlotSt.valid (x : SlotSt) : Bool :=
  match x.record with
  | some r => !x.spoilt && r.crc == x.crc
  | none => false

/-- The words of generation `gen` of `role` before its commit record. -/
def SlotSt.header (role : Role) (gen : Nat) (cfg : List (Nat × Word)) : SlotSt :=
  { gen := gen, count := cfgCount role, role := role, cfg := cfg }

/-- The same with its commit record programmed. -/
def SlotSt.written (role : Role) (gen : Nat) (cfg : List (Nat × Word)) : SlotSt :=
  let x := SlotSt.header role gen cfg
  { x with record := some ⟨gen, x.count, x.crc⟩ }

/-- A generation as programmed is valid. -/
theorem SlotSt.written_valid (role : Role) (gen : Nat) (cfg : List (Nat × Word)) : (SlotSt.written role gen cfg).valid = true := by
  simp [SlotSt.written, SlotSt.valid, SlotSt.header, SlotSt.crc, SlotSt.words]

/-- The valid generation with the highest number among those that satisfy `p` (R386). -/
def VltSt.best (v : VltSt) (p : SlotSt → Bool) : Option (Nat × SlotSt) :=
  [0, 1, 2, 3].foldl (fun b i =>
    match v.slots.getD i none with
    | some x =>
      if x.valid && p x then
        match b with
        | some y => if x.gen > y.2.gen then some (i, x) else b
        | none => some (i, x)
      else b
    | none => b) none

/-- The registers of the previous generation (R470). -/
def VltSt.previous (v : VltSt) : List (Nat × Word) :=
  match v.best (fun x => decide (x.gen < v.gen)) with | some x => x.2.cfg | none => []

/-- Free records with `first` as the lowest kept: space is held by whole sectors (R388, DEDUCED, assumption 61). -/
def VltSt.freeFrom (v : VltSt) (first : Nat) : Nat := 114688 - (v.next - (first - (first - 1) % 2048))

/-- VLT_JNL_FREE. -/
def VltSt.free (v : VltSt) : Nat := v.freeFrom v.first

/-- The lowest kept number after erasing, for `need` free records, sectors whose records all lie below `keep` (R388). -/
def VltSt.reclaim (v : VltSt) (keep need : Nat) : Nat → Nat → Nat
  | 0, first => first
  | k + 1, first =>
    let stop := first + 2048 - (first - 1) % 2048
    if v.freeFrom first ≥ need || stop > keep || stop > v.next then first else v.reclaim keep need k stop

/-- One more erase of a logical sector. -/
def VltSt.eraseSector (v : VltSt) (sector : Nat) : VltSt :=
  let p := v.map.getD sector 0
  { v with erases := v.erases.set p (satInc 17 (v.erases.getD p 0)) }

/-- VLT_JOURNAL_KEEP in force. -/
def State.journalKeep (s : State) : Nat := s.cfgOf F.VLT_KEEP_VLT_JOURNAL_KEEP

/-- Sectors are erased until `need` records are free, as far as may be (R388). -/
def State.makeRoom (s : State) (need : Nat) : State :=
  let v := s.vlt
  let first := v.reclaim s.journalKeep need 56 v.first
  let n := (first - 1) / 2048 - (v.first - 1) / 2048
  let v := (List.range n).foldl (fun (v' : VltSt) i => v'.eraseSector (journalSector (v.first + 2048 * i))) v
  s.withVlt { v with first := first, journal := v.journal.filter (fun r => decide (r.seq ≥ first)) }

/-- Records are added, of generation `gen`, numbered in order (R385, R388); source 202 when the free records outside the reserve first fall to 4,096 or
fewer. -/
def State.addRecords (s : State) (gen : Nat) (rs : List JRecord) : State :=
  let v := s.vlt
  let n := rs.length
  let v := { v with journal := v.journal ++ (List.range n).map (fun i =>
                      { (rs.getD i ⟨0, 0, 0, 0, false, 0, 0, 0, 0, 0, 0⟩) with seq := v.next + i, gen := gen }),
                    next := v.next + n }
  let low := decide (v.free ≤ 4096 + 256)
  let s := s.withVlt { v with lowArm := !low }
  if low && v.lowArm then s.raiseInt 202 else s

/-- The Vault's own records that wait: abort records, then the shutdown record (R385), then remap records (R387). -/
def State.ownRecords (s : State) : List (Nat × Word × Word) :=
  s.vlt.aborts.map (fun a =>
    (1, BitVec.ofNat 32 a.1, if a.2 then 1#32 else if s.pwr.pendingShutdown.isSome then 2#32 else 3#32))
  ++ (match s.pwr.pendingShutdown with | some r => [(2, r.signExtend 32, 0#32)] | none => [])
  ++ s.vlt.remaps.map (fun m => (3, BitVec.ofNat 32 m.1, BitVec.ofNat 32 m.2))

/-- A record of the Vault itself (R389), written at `now`. -/
def ownRecord (now id : Nat) (seconds : Word) (r : Nat × Word × Word) : JRecord :=
  ⟨0, now, seconds, r.1, false, 0, id, 0, r.2.1, r.2.2, 0⟩

/-- R139, R389: the times at which `n` records are written one after the other, the first from `now` on: each takes at most 4
words of 24 µs (Table 13-4), how long in fact is a free value (assumption 1). -/
def State.recordTimes : Nat → Nat → State → List Nat × State
  | 0, _, s => ([], s)
  | n + 1, now, s =>
    let d := s.fresh 96001
    let r := State.recordTimes n ((now + d.1) % 2 ^ 32) d.2
    (now :: r.1, r.2)

/-- The waiting records are written: none waits any more (R385). -/
def State.ownWritten (s : State) : State :=
  (s.withVlt { s.vlt with aborts := [], remaps := [] }).withPwr { s.pwr with pendingShutdown := none }

/-- R387: the logical sector `l` is marked bad, with no spare left. -/
def VltSt.isBad (v : VltSt) (l : Nat) : Bool := v.bad.contains (v.map.getD l 0)

/-- R387: a journal sector that `n` further records need is marked bad. -/
def VltSt.journalBad (v : VltSt) (n : Nat) : Bool := v.isBad (journalSector v.next) || v.isBad (journalSector (v.next + n - 1))

/-- A demand for an on-die reading (R374): one runs, or joins the one running. -/
def State.demandReading (s : State) : State := if s.pwr.vcrest then s.put F.THM_DIE_BUSY 1 else s

/-- R385: start-up with a reading within the window is a write opportunity. Its records belong to no commit: they name generation 0,
which is always valid (DEDUCED, assumption 103). A conversion runs with the erase and the journal
write that follow the reading (Table 13-1). -/
def State.writeOpportunity (s : State) : State :=
  let rs := s.ownRecords
  let n := rs.length
  if s.isOn 3 && inWindow s.dieTemp && !rs.isEmpty && decide (s.vlt.next + n ≤ 2 ^ 32) && !s.vlt.journalBad n then
    let s' := s.makeRoom n
    if n ≤ s'.vlt.free then
      let cfg := match s.vlt.best (fun _ => true) with | some x => x.2.cfg | none => []
      let id := bitsOf (genWord cfg R.HST_DEVICE_ID) 0 18
      let t := s'.recordTimes n s'.nowNs
      let s' := t.2
      let sec := s.word R.RVE_HOST_SECONDS
      let s' := (s'.addRecords 0 ((rs.zip t.1).map (fun x => ownRecord x.2 id sec x.1))).ownWritten
      (s'.withVlt { s'.vlt with startWrite := some (journalSector (s'.vlt.next - 1)) }).demandReading
    else s
  else s

/-- R385: record `r` is void: its generation lies above that in force, or its commit record is no longer intact. A generation whose
slot was written again keeps its records (DEDUCED, assumption 103). -/
def VltSt.void (v : VltSt) (r : JRecord) : Bool :=
  let named := v.slots.filterMap (fun x => match x with | some y => if y.gen = r.gen then some y else none | none => none)
  decide (r.gen > v.gen) || (named.any (·.record.isNone) && !named.any (·.valid))

/-- R385: void records are gone; their sequence numbers are given to later records. -/
def VltSt.dropVoid (v : VltSt) : VltSt :=
  if v.journal.any v.void then
    let j := v.journal.filter (fun r => !v.void r)
    { v with journal := j, next := j.foldl (fun n r => max n (r.seq + 1)) v.first }
  else v

/-- R386: the generation in force after start-up: the valid one with the highest number. In the slots `bad` names a header or entry
word has wrong bits beyond the ECC, in those `lost` names the commit record has (R381). -/
def State.loadGeneration (s : State) (bad lost : BitVec 4) : State :=
  let slots := [0, 1, 2, 3].map (fun i => (s.vlt.slots.getD i none).map (fun (x : SlotSt) =>
    { x with spoilt := x.spoilt || bad.getLsbD i, record := if lost.getLsbD i then none else x.record }))
  let v := { s.vlt with slots := slots }
  let b := v.best (fun _ => true)
  let gen := match b with | some x => x.2.gen | none => 0
  let v := { v with gen := gen, slot := match b with | some x => x.1 | none => 0 }
  let s := (s.withVlt v.dropVoid).withCfg (match b with | some x => x.2.cfg | none => [])
  if slots.any (fun x => match x with | some y => y.record.isSome && !y.valid && decide (y.gen > gen) | none => false) then
    (s.put F.VLT_STATUS_FALLBACK 1).raiseInt 201
  else s

/-! ## Commits (R123, R137, R138, R383) -/

/-- The value of a key in a configuration. -/
def keyIn_ (cfg : List (Nat × Word)) (k : StagedKey) : Nat := bitsOf (genWord cfg k.addr) k.lo k.w

/-- A configuration with a key set. -/
def putKey (cfg : List (Nat × Word)) (k : StagedKey) : List (Nat × Word) :=
  SMap.set cfg k.addr (setBits (genWord cfg k.addr) k.lo k.w k.value)

/-- Staged keys in the order of their records: ascending register address, then lowest bit (R137). -/
def insertKey (k : StagedKey) : List StagedKey → List StagedKey
  | [] => [k]
  | x :: xs => if k.addr < x.addr || (k.addr = x.addr && k.lo ≤ x.lo) then k :: x :: xs else x :: insertKey k xs

def orderKeys (l : List StagedKey) : List StagedKey := l.foldr insertKey []

/-- R28: a commit that changes the pool's BASE without setting NEXT sets NEXT to BASE. -/
def poolKeys (cfg : List (Nat × Word)) (l : List StagedKey) : List StagedKey :=
  match l.find? (fun k => k.addr == R.HST_ID_POOL_BASE && keyIn_ cfg k != k.value) with
  | some k => if l.any (fun x => x.addr == R.HST_ID_POOL_NEXT) then l else { k with addr := R.HST_ID_POOL_NEXT } :: l
  | none => l

/-- The keys of a commit that change, in order. -/
def State.changes (s : State) (keys : List StagedKey) : List StagedKey :=
  orderKeys ((poolKeys s.cfg keys).filter (fun k => keyIn_ s.cfg k != k.value))

/-- The key records of a commit, written at `times`: each register's value before and after its own key's change (R137), the
mailbox and origin of the key's last staging, the seconds extension of the commit (R139, R389). -/
def keyRecords (seconds : Word) (internal : Bool) : List Nat → List (Nat × Word) → List StagedKey → List JRecord
  | _, _, [] => []
  | times, cfg, k :: ks =>
    let cfg' := putKey cfg k
    ⟨0, times.headD 0, seconds, 0, internal, k.mailbox, k.origin, k.addr, genWord cfg k.addr, genWord cfg' k.addr, 0⟩
      :: keyRecords seconds internal times.tail cfg' ks

/-- A commit for which `for_` waits ends with a status. -/
def State.commitEnded (s : State) (f : CommitFor) (st : Status) (data : List Byte) : State :=
  match f with
  | .host n => s.respond n st data
  | .command n code d =>
    if st = .ok then
      s.respond n (if code = 8 then .idExhausted else if code = 3 then .refusedState else .ok) d
    else s.respond n st []
  | .own w => (s.withVlt { s.vlt with results := SMap.set s.vlt.results w st.code }).withRve { s.rve with autoHeld := s.rve.autoHeld &&& ~~~resVault }

/-- A commit of `keys` begins: without a change it ends at once (R123); refusals of R387 and R388 come before any word is
written. -/
def State.commitStart (s : State) (f : CommitFor) (internal : Bool) (keys : List StagedKey) (seconds : Word) : State :=
  let ks := s.changes keys
  if ks.isEmpty then s.commitEnded f .ok (leBytes 8 0)
  else
    let own := s.ownRecords
    let need := own.length + ks.length
    let reserve := if ks.all (fun k => k.addr == R.VLT_KEEP) then 0 else 256
    let room := (s.makeRoom (need + reserve)).vlt.free
    if s.vlt.isBad s.vlt.target || s.vlt.journalBad need || s.vlt.next + need > 2 ^ 32 || room < need + reserve then
      s.commitEnded f .vaultFull []
    else
      let s := match f with
        | .host n => s.setMb n { s.mb n with running := true, held := (s.mb n).held ||| resVault }
        | .command n _ _ => s.setMb n { s.mb n with running := true, held := (s.mb n).held ||| resVault }
        | .own _ => s.withRve { s.rve with autoHeld := s.rve.autoHeld ||| resVault }
      let o : VaultOp := { for_ := f, keys := ks, internal := internal, own := own, seconds := seconds }
      (s.withVlt { s.vlt with op := some o, startWrite := none }).demandReading

/-- The keys of an internal commit, with the origin of its command's mailbox (R138, R139). -/
def State.ownKeys (s : State) (n : Nat) (keys : List (Fld × Nat)) : List StagedKey :=
  let o := s.originOf n
  keys.map (fun k => ⟨k.1.addr, k.1.lo, k.1.w, k.2, o.1, o.2.1, o.2.2⟩)

/-- R138: the internal commit of the command of mailbox `n`, which answers `st` with `data` once it is done. R138 gives no status
for one that meets a held Vault: the command, whose own effect stands, answers BUSY (DESIGN CHOICE, assumption 49). -/
def State.internalCommit (s : State) (n : Nat) (keys : List (Fld × Nat)) (st : Status) (data : List Byte) : State :=
  if s.held &&& resVault != 0 then s.respond n .busy []
  else s.commitStart (.command n st.code data) true (s.ownKeys n keys) (s.originOf n).2.2

/-- An internal commit that a running operation makes, with the origin of mailbox `n`; it waits (false) while the Vault is held. -/
def State.deviceCommit (s : State) (n who : Nat) (keys : List (Fld × Nat)) : State × Bool :=
  if s.held &&& resVault != 0 || !s.isOn 3 || !s.isOn 2 then (s, false)
  else ((s.withVlt { s.vlt with results := SMap.erase s.vlt.results who }).commitStart (.own who) true (s.ownKeys n keys) (s.originOf n).2.2, true)

/-- R384: the commit in progress is aborted. -/
def State.commitAbort (s : State) (o : VaultOp) : State :=
  let s := s.withVlt { s.vlt with op := none, aborts := s.vlt.aborts ++ [(s.vlt.gen + 1, true)] }
  let s := s.bump F.VLT_COUNTS_ABORTS
  let s := (s.fault 105).raiseInt 199
  s.commitEnded o.for_ .tempWindow []

/-- R383, R384: a completed reading at the gate of a commit: the next operation starts, or the commit ends. A commit record is
one word: once started it completes. -/
def State.gateReading (s : State) (r : Int) : State :=
  match s.vlt.op with
  | none => s
  | some o =>
    if inWindow r then
      let s := s.demandReading
      if o.busy then s
      else
        let t := if o.stage = .journal then s.recordTimes (o.own.length + o.keys.length + 8) s.nowNs else (o.times, s)
        let s := t.2
        let v := { s.vlt with op := some { o with busy := true, begun := true, times := t.1 } }
        s.withVlt (if o.stage = .erase then { v with slots := v.slots.set v.target none } else v)
    else if !o.begun then (s.withVlt { s.vlt with op := none }).commitEnded o.for_ .tempWindow []
    else if o.stage = .record && o.busy then s.demandReading
    else s.commitAbort o

/-- R375: a reading completes: it is clamped, retained and offered to its consumers. -/
def State.takeReading (s : State) (reading : BitVec 16) : State :=
  let r := clampInt (-960) 2800 (toSigned 16 reading.toNat)
  let s := s.put F.THM_DIE_BUSY 0
  let s := (s.put F.THM_DIE_VALID 1).putS F.THM_DIE_TEMP r
  let s := s.raiseInt 196
  let s := s.driftCheck
  let s := if s.isStation && s.isOn 1 && !s.twn.operating then s.sensorTake 4 s.dieTele else s
  let s := [0, 1, 2, 3].foldl (fun s n => if s.runs n 0x21 then s.respond n .ok (leBytes 4 (ofSigned 16 r)) else s) s
  s.gateReading r

/-- The generation is complete (R123, R383): its records are valid, its configuration is in force. The response gives the
first record and the count. -/
def State.commitDone (s : State) (o : VaultOp) : State :=
  let id := s.cf F.HST_DEVICE_ID_DEVICE_ID
  let own := o.own.zipIdx.map (fun x => ownRecord (o.times.getD x.2 0) id o.seconds x.1)
  let rs := own ++ keyRecords o.seconds o.internal (o.times.drop o.own.length) s.cfg o.keys
  let s := s.makeRoom (rs.length + (if o.keys.all (fun k => k.addr == R.VLT_KEEP) then 0 else 256))
  let q := s.vlt.next
  let s := s.addRecords (s.vlt.gen + 1) rs
  let s := s.withVlt { s.vlt with aborts := [], remaps := [] }
  let s := if o.own.any (fun r => r.1 == 2) then s.withPwr { s.pwr with pendingShutdown := none } else s
  let cfg := o.keys.foldl putKey s.cfg
  let t := s.vlt.target
  let s := (s.withCfg cfg).withVlt { s.vlt with slots := s.vlt.slots.set t (some (SlotSt.written s.role (s.vlt.gen + 1) cfg)),
                                                gen := s.vlt.gen + 1, slot := t, op := none }
  let s := match o.for_ with | .host _ => (s.withRve { s.rve with staged := [] }) | _ => s
  s.commitEnded o.for_ .ok (leBytes 4 q ++ leBytes 4 rs.length)

/-- The pages of a generation of the role: header and entries in pages of 64 words (R382, R383). -/
def State.pages (s : State) : Nat := ceilDiv (cfgCount s.role + 1) 64

/-- R387: logical sector `l` fails verification: the lowest-numbered unused spare replaces it, with whatever valid it holds; both
copies of the remap table are written, and a remap record waits for a write. None without a spare: the sector is marked bad. -/
def State.remapSector (s : State) (l : Nat) : Option State :=
  if s.vlt.spares < 8 then
    let p := 64 + s.vlt.spares
    let v := { s.vlt with map := s.vlt.map.set l p, spares := s.vlt.spares + 1, remaps := s.vlt.remaps ++ [(l, p)] }
    some (((s.withVlt ((v.eraseSector 60).eraseSector 61)).fault 106).raiseInt 200)
  else none

/-- R387: sector `l` is marked bad. -/
def State.markBad (s : State) (l : Nat) : State := s.withVlt { s.vlt with bad := s.vlt.map.getD l 0 :: s.vlt.bad }

/-- R387: the sector that the operation in progress writes fails (`last`: of two journal sectors, the one of the last records): the
write resumes on the spare, and its records take in the remap record; without a spare the commit ends with VAULT_FULL. -/
def State.sectorFails (s : State) (o : VaultOp) (last : Bool) : State :=
  let need := o.own.length + o.keys.length
  let l := match o.stage with
    | .journal => journalSector (if last then s.vlt.next + need - 1 else s.vlt.next)
    | _ => s.vlt.target
  match s.remapSector l with
  | some u => u.withVlt { u.vlt with
      op := some { o with own := o.own ++ [(3, BitVec.ofNat 32 l, BitVec.ofNat 32 (64 + s.vlt.spares))] } }
  | none => ((s.markBad l).withVlt { (s.markBad l).vlt with op := none }).commitEnded o.for_ .vaultFull []

/-! ## Readout -/

/-- A record's 28 bytes (Table 13-5). -/
def JRecord.bytes (r : JRecord) : List Byte :=
  leBytes 4 r.seq ++ leBytes 4 r.time ++ leBytes 4 r.seconds.toNat
  ++ [BitVec.ofNat 8 (r.kind * 16 + b2n r.internal * 8 + r.mailbox % 4)] ++ leBytes 3 (r.origin % 2 ^ 18)
  ++ leBytes 4 (r.key % 2 ^ 24) ++ leBytes 4 r.old.toNat ++ leBytes 4 r.new.toNat

/-- HST_ROLE (R11 to R13): role and straps as latched, and whether the present ones (`now`) differ. -/
def State.roleWord (s : State) (now : Straps) : Word :=
  match s.pwr.latch with
  | some t =>
    BitVec.ofNat 32 (b2n (now != t) * 256 + b2n t.testmode * 32 + b2n s.isTwinB * 16 + b2n t.role1 * 2 + b2n t.role0)
  | none => 0

/-- R390: the Uhlop image of the generation in force. -/
def State.uhlop (s : State) (now : Straps) : List Byte :=
  let es := cfgRegs s.role
  let body := leBytes 4 0x554C4801 ++ leBytes 4 0x4B549648 ++ leBytes 4 (Config.revision &&& 0xFFFF00FF#32).toNat
    ++ leBytes 4 (s.cf F.HST_DEVICE_ID_DEVICE_ID) ++ leBytes 4 (s.roleWord now).toNat ++ leBytes 4 s.vlt.gen
    ++ leBytes 4 es.length ++ leBytes 4 0 ++ es.flatMap (fun a => leBytes 4 a ++ leBytes 4 (s.cfgWord a).toNat)
  body ++ leBytes 4 (crc32 body).toNat

/-- The registers of the Vault that show its contents. -/
def State.vaultWord (s : State) (a : Nat) : Option Word :=
  let v := s.vlt
  let n := fun (x : Nat) => some (BitVec.ofNat 32 x)
  if a = R.VLT_STATUS then
    some ((s.word a &&& fieldMask 6 1) ||| BitVec.ofNat 32 ((8 - v.spares) * 256 + b2n v.image.isSome * 32 + b2n v.op.isSome * 16
      + b2n (!v.aborts.isEmpty || s.pwr.pendingShutdown.isSome) * 8 + v.slot))
  else if a = R.VLT_GEN then n v.gen
  else if a = R.VLT_JNL_FIRST then n v.first
  else if a = R.VLT_JNL_NEXT then n v.next
  else if a = R.VLT_JNL_FREE then n v.free
  else if R.VLT_WEARs 0 ≤ a && a < R.VLT_WEARs 64 then
    let p := v.map.getD ((a - R.VLT_WEARs 0) / 4) 0
    n (p * 2 ^ 24 + v.erases.getD p 0)
  else none

end Sys2Proof.Machine
end

