-- ==== Sys2Proof/Machine/SpareOps.lean ====
section
/-! DEFINITION. Wear of a cell, and the spares of a station: bringing a cell in, retiring one, automatic replacement
(16_spares_twins.md R456 to R464). Waits of Table 16-7 are counted in tides. -/
namespace Sys2Proof.Machine

/-! ## Wear (R456, R457) -/

/-- A 48-bit count in two registers. -/
def State.count48 (s : State) (lo : Nat) : Nat := (s.word lo).toNat + (s.word (lo + 4)).toNat % 65536 * 2 ^ 32

/-- R456: the AFE and DAB switching counts: in polder 10's registers, or kept while it is off. -/
def State.swCounts (s : State) : Nat × Nat := s.wear.switching.getD (s.count48 R.MOD_SW_AFE_LO, s.count48 R.MOD_SW_DAB_LO)

/-- R457: the wear score. -/
def State.wearScore (s : State) : Nat :=
  let b := fun k => s.get (F.SPR_BINk_VALUE k)
  let t := b 0 * s.cf F.SPR_WEAR_CFG_WB0 + b 1 * s.cf F.SPR_WEAR_CFG_WB1 + b 2 * s.cf F.SPR_WEAR_CFG_WB2
    + b 3 * s.cf F.SPR_WEAR_CFG_WB3 + s.get F.SPR_HOT_VALUE * s.cf F.SPR_WEAR_CFG2_W_HOT
    + s.get F.SPR_RIPPLE_VALUE * s.cf F.SPR_WEAR_CFG2_W_RIP
  let sw := (s.swCounts.1 + s.swCounts.2) / 2 ^ s.cf F.SPR_WEAR_CFG2_SW_SHIFT
  min ((t % 2 ^ 64 / 16 + sw) % 2 ^ 64) 0xFFFFFFFF

/-- WEAR of the record (R457). -/
def State.worn (s : State) : Bool := s.isCell && decide (s.wearScore ≥ s.cf F.SPR_WEAR_WARN_VALUE)

/-- The highest valid NTC value. -/
def State.hottestNtc (s : State) : Option Int :=
  ([0, 1, 2, 3].filter (fun m => s.ntcTele m != noTemp)).foldl (fun a m =>
    let t := s.getS (F.ADC_NTCm_VALUE_TEMP m)
    some (match a with | some x => max x t | none => t)) none

/-- A half-cycle of swing `d` (0.0625 °C) ends (R456). -/
def State.halfCycle (s : State) (d : Nat) : State :=
  s.bump (F.SPR_BINk_VALUE (if d ≤ 320 then 0 else if d ≤ 640 then 1 else if d ≤ 960 then 2 else 3))

/-- R456: a sample of t_m, every 10 ms. -/
def State.wearSample (s : State) : State :=
  match s.hottestNtc with
  | none => s
  | some t =>
    let x := s.wear
    let s := if t ≥ 1600 then
        if x.hot + 1 ≥ 100 then (s.bump F.SPR_HOT_VALUE).withWear { x with hot := 0 }
        else s.withWear { x with hot := x.hot + 1 }
      else s
    let x := s.wear
    match x.turn with
    | none => s.withWear { x with turn := some t, peak := t }
    | some r =>
      let further := if x.rising then decide (t ≥ x.peak) else decide (t ≤ x.peak)
      if further then s.withWear { x with peak := t }
      else
        let d := (x.peak - r).natAbs
        if d ≥ 160 then (s.halfCycle d).withWear { x with turn := some x.peak, peak := t, rising := !x.rising }
        else if (if x.rising then decide (t < r) else decide (t > r)) then
          s.withWear { x with peak := t, rising := !x.rising }
        else s

/-- R456: ripple time of one tide: 1 while the AFE applied a state change within the preceding 1 ms; 225 s are 1/16 h. -/
def State.rippleTide (s : State) (changed : Bool) : State :=
  let q := if changed then 0 else min 1000 (s.wear.quiet + 1)
  let n := if q < 1000 then s.wear.ripple + 1 else s.wear.ripple
  if n ≥ 225000000 then (s.bump F.SPR_RIPPLE_VALUE).withWear { s.wear with ripple := 0, quiet := q }
  else s.withWear { s.wear with ripple := n, quiet := q }

/-- The live values of the keys SPR_WEAR_SAVE0 to 8 (Table 16-10). -/
def State.wearLive (s : State) : List Nat :=
  let a := s.swCounts.1
  let d := s.swCounts.2
  [0, 1, 2, 3].map (fun k => s.get (F.SPR_BINk_VALUE k))
    ++ [a % 2 ^ 32, d % 2 ^ 32, a / 2 ^ 32 * 65536 + d / 2 ^ 32, s.get F.SPR_HOT_VALUE, s.get F.SPR_RIPPLE_VALUE]

/-- A key joins a staged set where it replaces one or there is room (R122). -/
def stageRoom (l : List StagedKey) (k : StagedKey) : List StagedKey :=
  if l.any (fun x => x.addr == k.addr && x.lo == k.lo) then l.map (fun x => if x.addr = k.addr ∧ x.lo = k.lo then k else x)
  else if l.length < 128 then l ++ [k] else l

/-- R456: the live wear counters join the staged set, from mailbox `n`, in the order of their keys, as far as its 128 keys allow
(R122; DESIGN CHOICE, assumption 39). -/
def State.stageWear (s : State) (n : Nat) : State :=
  let o := s.originOf n
  let l := s.wearLive
  let keys := (List.range 9).map (fun i =>
    (⟨(F.SPR_WEAR_SAVEi_VALUE i).addr, 0, 32, l.getD i 0, o.1, o.2.1, o.2.2⟩ : StagedKey))
  s.withRve { s.rve with staged := keys.foldl stageRoom s.rve.staged }

/-- R456: the wear counters are loaded from their keys; the switching counts wait for polder 10. -/
def State.loadWear (s : State) : State :=
  if s.isCell then
    let v := fun i => s.cf (F.SPR_WEAR_SAVEi_VALUE i)
    let s := [0, 1, 2, 3].foldl (fun s k => s.put (F.SPR_BINk_VALUE k) (v k)) s
    let s := (s.put F.SPR_HOT_VALUE (v 7)).put F.SPR_RIPPLE_VALUE (v 8)
    s.withWear { switching := some (v 4 + v 6 / 65536 * 2 ^ 32, v 5 + v 6 % 65536 * 2 ^ 32) }
  else s

/-- Polder 10 starts: its registers show the switching counts of the cell, as loaded at the start of polder 1 or as kept since
polder 10 went off (R456; DEDUCED, assumption 105). -/
def State.loadSwitching (s : State) : State :=
  match s.wear.switching with
  | some c =>
    let put := fun (s : State) (lo v : Nat) => (s.setWord lo (BitVec.ofNat 32 v)).setWord (lo + 4) (BitVec.ofNat 32 (v / 2 ^ 32))
    (put (put s R.MOD_SW_AFE_LO c.1) R.MOD_SW_DAB_LO c.2).withWear { s.wear with switching := none }
  | none => s

/-! ## Spares (R458) -/

/-- SPR_FAILED marks position `q` of stack `x`. -/
def State.failedKey (s : State) (x q : Nat) : Bool :=
  if q ≤ 32 then natBit (s.cf (F.SPR_FAILEDx_LO_VALUE x)) (q - 1) else natBit (s.cf (F.SPR_FAILEDx_HI_FAILED x)) (q - 33)

/-- Position `q` of stack `x` lies in the sleeping block. -/
def State.sleepsAt (s : State) (x q : Nat) : Bool := s.is (F.CUL_POS_r_s_ASLEEP x q)

/-- R458: position `q` of stack `x` is a spare. -/
def State.isSpare (s : State) (x q : Nat) : Bool :=
  (s.is (F.CUL_POS_r_s_PRESENT x q) || s.sleepsAt x q) && !s.admitted x q && (s.cul.ids.getD x []).getD (q - 1) 0 != 0
    && !s.failedKey x q && decide ((s.pos x q).fault < 3)

/-- A spare that a bring-in can take: awake, or the first of the sleeping block. -/
def State.takable (s : State) (x q : Nat) : Bool :=
  s.isSpare x q && (!s.sleepsAt x q || s.cf (F.CUL_RINGr_SLEEP_FIRST_ASLEEP x) == q)

/-- R458: the spare of lowest wear, ties to the lower slot. -/
def State.bestSpare (s : State) (x : Nat) : Option Nat :=
  (leastBy (fun q => s.get (F.SEL_WEAR_r_s_VALUE x q)) (stackPositions.filter (s.takable x))).head?

/-- R445: position `q` of ring `x` awake as well, the awake positions of the chains with a sleeping block exceed 74. -/
def State.relayFull (s : State) (x q : Nat) : Bool :=
  let awake := fun r i => (s.is (F.CUL_POS_r_s_PRESENT r i) && !s.sleepsAt r i) || (r == x && i == q)
  let sleeps := fun r => if r = x then decide (q < s.positions r) else s.cf (F.CUL_RINGr_SLEEP_FIRST_ASLEEP r) != 0
  s.twn.operating && decide (([0, 1, 2, 3].map (fun r =>
    if sleeps r then ((List.range 96).filter (fun i => awake r (i + 1))).length else 0)).foldl (· + ·) 0 > 74)

/-- The highest awake position of a ring. -/
def State.highestAwake (s : State) (r : Nat) : Nat :=
  let f := s.cf (F.CUL_RINGr_SLEEP_FIRST_ASLEEP r)
  if f = 0 then s.get (F.CUL_RINGr_STATE_FOUND r) else f - 1

/-- ASLEEP of the positions of a ring follows FIRST_ASLEEP (R167). -/
def State.showAsleep (s : State) (r : Nat) : State :=
  let f := s.cf (F.CUL_RINGr_SLEEP_FIRST_ASLEEP r)
  (List.range 96).foldl (fun s i =>
    let q := i + 1
    let a := f != 0 && decide (f ≤ q ∧ q ≤ s.get (F.CUL_RINGr_STATE_FOUND r))
    if s.sleepsAt r q == a then s else s.flag (F.CUL_POS_r_s_ASLEEP r q) a) s

/-! ## Operations (Table 16-7, R462) -/

/-- The operation of ring `r`. -/
def State.spareOp (s : State) (r : Nat) : Option SpareOp := s.spr.ops.find? (fun o => o.ring == r)

/-- `s` with the operation of its ring replaced. -/
def State.setSpare (s : State) (o : SpareOp) : State :=
  s.withSpr { s.spr with ops := s.spr.ops.map (fun x => if x.ring = o.ring then o else x) }

/-- SPR_STATUS shows the oldest operation; STEP counts the rows of Table 16-7 from 1. -/
def State.showSpare (s : State) : State :=
  match s.spr.ops with
  | o :: _ => s.setWord R.SPR_STATUS (BitVec.ofNat 32 (2 ^ 31 + (if o.mailbox.isNone then 3 else o.kind) * 2 ^ 28
      + o.ring * 2 ^ 24 + o.slot * 2 ^ 16 + (if o.kind = 1 then o.step + 1 else o.step)))
  | [] => s.setWord R.SPR_STATUS 0

/-- An operation begins; the device's own holds the ring resource itself (R464). -/
def State.spareBegin (s : State) (o : SpareOp) : State :=
  let s := match o.mailbox with
    | some n => s.runOn n (resRing o.ring)
    | none => s.withRve { s.rve with autoHeld := s.rve.autoHeld ||| resRing o.ring }
  (s.withSpr { s.spr with ops := s.spr.ops ++ [o] }).showSpare

/-- An operation ends with a status and data; what follows an automatic one waits its turn first (R464). -/
def State.spareEnd (s : State) (o : SpareOp) (st : Status) (data : List Byte) : State :=
  let s := match o.mailbox with
    | some n => s.respond n st data
    | none => s.withRve { s.rve with autoHeld := s.rve.autoHeld &&& ~~~(resRing o.ring) }
  (s.withSpr { s.spr with ops := s.spr.ops.filter (fun x => x.ring != o.ring) }).showSpare

/-- The next step of an operation; only the commit of FIRST_ASLEEP runs on beside the steps (Table 16-7). -/
def SpareOp.to (o : SpareOp) (k : Nat) : SpareOp := { o with step := k, inStep := 0, commit := o.commit && o.sleepKey }

/-- The status of a failed internal commit (R138). -/
def commitStatus (c : Nat) : Status := if c = 5 then .vaultFull else .tempWindow

/-- The admission bit of position `q` of stack `x`, and its failed bit. -/
def admitFld (x q : Nat) : Fld := if q ≤ 32 then ⟨R.SEL_ADMITx_LO x, q - 1, 1⟩ else ⟨R.SEL_ADMITx_HI x, q - 33, 1⟩
def failedFld (x q : Nat) : Fld := if q ≤ 32 then ⟨R.SPR_FAILEDx_LO x, q - 1, 1⟩ else ⟨R.SPR_FAILEDx_HI x, q - 33, 1⟩

/-- A request of the device's own over the message channel of a ring, for position `o.slot` (R459, R462). -/
def State.ownRemote (s : State) (o : SpareOp) (code : Nat) (args : List Byte) : State :=
  let m := 5 + o.ring
  let req := s.ownRequest code 0 args
  (s.setMb m { st := mbExecuting, running := true, req := padTo 64 req }).queueOwn o.ring o.slot m req

/-- Table 16-7: IDENTIFY answered OK with the place and the ID of position `q` of stack `x`. -/
def State.identified (s : State) (x q : Nat) : Bool :=
  let m := s.mb (5 + x)
  let place := s.cf F.HST_PLACE_CONVERTER * 2 ^ F.HST_PLACE_CONVERTER.lo + x * 2 ^ F.HST_PLACE_RING.lo + q
  leAt m.rsp 2 1 == 0 && leAt m.rsp 16 4 == place && leAt m.rsp 20 4 == (s.cul.ids.getD x []).getD (q - 1) 0

/-- Table 16-7: position `q` of stack `x` reports ALIGNED (selector 24). -/
def State.targetAligned (s : State) (x q : Nat) : Bool :=
  match s.reported x q 24 with
  | some v => bitsOf (BitVec.ofNat 32 v) F.CUL_ALIGN_STATE.lo F.CUL_ALIGN_STATE.w == 1
  | none => false

/-- Table 16-7: position `q` of stack `x` reports both Wardens RELEASED (selector 31). -/
def State.targetReleased (s : State) (x q : Nat) : Bool :=
  match s.reported x q 31 with
  | some v => v % 64 == 27
  | none => false

/-- Table 16-7: the target of a bring-in is verified: IDENTIFY (its place and ID), then CONFIG_READ; which VLT_GEN is expected the
spec does not say: that it is found is `verified` (DESIGN CHOICE, assumption 1); then ALIGNED and its Wardens RELEASED by telemetry. A
target that is not as expected lets the 15 ms pass (R459). -/
def State.verifyTarget (s : State) (o : SpareOp) : State :=
  let m := 5 + o.ring
  if o.asked = 0 then (s.setSpare { o with asked := 1 }).ownRemote o 0x01 []
  else if o.asked ≤ 2 && (s.mb m).ready then
    if o.asked = 1 then
      if s.identified o.ring o.slot then (s.setSpare { o with asked := 2 }).ownRemote o 0x11 (leBytes 4 R.VLT_GEN)
      else (s.setMb m {}).setSpare { o with asked := 3 }
    else (s.setMb m {}).setSpare { o with asked := if o.verified && leAt (s.mb m).rsp 2 1 == 0 then 4 else 3 }
  else if o.asked = 4 && s.targetAligned o.ring o.slot && s.targetReleased o.ring o.slot then s.setSpare (o.to 6)
  else s

/-- The operation of ring `r` gives up: a request of its own in flight is dropped. -/
def State.dropOwn (s : State) (r : Nat) : State :=
  let s := s.withCul { s.cul with sentMsgs := s.cul.sentMsgs.filter (fun m => m.mailbox != 5 + r) }
  match s.remoteOn r with
  | some x => if x.mailbox = 5 + r then (s.setRemote r none).setMb (5 + r) {} else s
  | none => s

/-- SPR_CHARGE_MAX in tides. -/
def State.chargeMax (s : State) : Nat := s.cf F.SPR_CHARGE_SPR_CHARGE_MAX * 1000

/-- R459: the VDC at which a charging cell is complete. -/
def State.chargeTarget (s : State) (x : Nat) : Int :=
  let l := (stackPositions.filter (s.admitted x)).map (fun q => (s.pos x q).vdc)
  ((l.foldl (· + ·) 0 / max 1 l.length : Nat) : Int) - s.cf F.SPR_CHARGE_CHARGE_BAND

/-- R461: the output state of a charging cell at the decision of tide `t`. -/
def State.chargeState (s : State) (o : SpareOp) (t : Nat) : State :=
  let i := s.dpc.i.getD o.ring 0
  let db : Int := s.cf F.SEL_CONFIG_SEL_I_DEADBAND * 2 ^ 8
  let want := if i > db then 1 else if i < -db then 2 else 0
  let want := if o.code != 0 && want != 0 && want != o.code then 0 else want
  let v := s.pos o.ring o.slot
  if want = o.code || v.dwell != 0 then s
  else
    let a := 1 + s.cf F.CUL_CONFIG_CUL_APPLY_DELAY
    let s := s.setPos o.ring o.slot { v with coming := v.coming ++ [((t + a) % 2 ^ 32, want)],
                                             dwell := a + s.cf F.SEL_CONFIG_SEL_MIN_DWELL }
    (s.setSpare { o with code := want }).withSpr { (s.setSpare { o with code := want }).spr with
        still := s.spr.still ||| (1#3 <<< o.ring) }

/-- An internal commit of the operation: it begins as soon as the Vault is free; the second part gives its result. -/
def State.spareCommit (s : State) (o : SpareOp) (keys : List (Fld × Nat)) : State × Option Nat :=
  if o.commit then
    match SMap.find s.vlt.results o.ring with
    | some c => ((s.withVlt { s.vlt with results := SMap.erase s.vlt.results o.ring }), some c)
    | none => (s, none)
  else
    let r := s.deviceCommit (o.mailbox.getD 0) o.ring keys
    (if r.2 then r.1.setSpare { o with commit := true } else s, none)

/-- The cell's state goes back to 0b00 with the entry of tide `t`; in a tide in which it changes its stack makes no step (R461). -/
def State.chargeOff (s : State) (o : SpareOp) (t : Nat) : State :=
  if o.code = 0 then s
  else
    let v := s.pos o.ring o.slot
    let s := s.setPos o.ring o.slot { v with coming := v.coming ++ [((t + 1 + s.cf F.CUL_CONFIG_CUL_APPLY_DELAY) % 2 ^ 32, 0)] }
    s.withSpr { s.spr with still := s.spr.still ||| (1#3 <<< o.ring) }

/-- The record of position `q` of ring `x` that the decision of tide `t` takes carries a record of the device. -/
def State.appears (s : State) (x q t : Nat) : Bool :=
  match s.usedRecord x q ((t + 2 ^ 32 - s.cf F.CUL_CONFIG_CUL_INPUT_DELAY) % 2 ^ 32) with
  | some b => freshRecord b
  | none => false

/-- One tide of the steps of a bring-in (R459, Table 16-7). The 15 ms to Sluice opening do not run while it waits for freeboard, which
has a limit of its own (DEDUCED, assumption 105); the change to 0b00 at its end keeps the dwell (R461). The station does not see whether the ports at the block are READY: it
sends UNWRAP after each 1,040 tides until the target's records appear (DESIGN CHOICE, assumption 78). -/
def State.bringStep (s : State) (o : SpareOp) (t : Nat) : State :=
  let x := o.ring
  let q := o.slot
  if o.step < 6 && o.since ≥ 15000 then (s.dropOwn x).spareEnd o .timeout []
  else match o.step with
  | 1 => s.setSpare (o.to 2)
  | 2 =>
    if o.inStep ≥ 1040 then
      (s.setSpare (o.to 3)).withCul { s.cul with unwrap := s.cul.unwrap.set x true }
    else s
  | 3 =>
    if s.sleepsAt x q then
      if s.appears x q t then
        let s := s.withCul { s.cul with quant := SMap.erase (SMap.erase s.cul.quant (32 * (128 * x + q) + 24)) (32 * (128 * x + q) + 31) }
        (s.setSpare { o with inStep := 0, sleepKey := true }).put (F.CUL_POS_r_s_ASLEEP x q) 0
      else if o.inStep % 1040 = 0 then s.withCul { s.cul with unwrap := s.cul.unwrap.set x true }
      else s
    else if o.inStep ≥ 2048 then s.setSpare (o.to 4) else s
  | 4 => if o.inStep ≥ 1024 && s.targetAligned x q then s.setSpare (o.to 5) else s
  | 5 => s.verifyTarget o
  | 6 =>
    if s.getS F.DPC_FREEBOARD_VALUE ≥ s.cfS F.SPR_FB_MIN_VALUE then s.setSpare (o.to 7)
    else if o.inStep ≥ s.chargeMax then s.spareEnd o .timeout []
    else s.setSpare { o with since := o.since - 1 }
  | 7 =>
    if (s.pos x q).sluice && o.since ≥ 15000 then s.spareEnd o .timeout []
    else if decide (((s.pos x q).vdc : Int) ≥ s.chargeTarget x) && !(s.pos x q).sluice then
      if o.code != 0 && (s.pos x q).dwell != 0 then s else (s.chargeOff o t).setSpare { o.to 8 with code := 0 }
    else if o.inStep ≥ s.chargeMax then (s.chargeOff o t).spareEnd o .timeout []
    else if (s.pos x q).sluice then s
    else s.chargeState o t
  | _ =>
    if o.sleepKey then s
    else
      let r := s.spareCommit o [(admitFld x q, 1)]
      match r.2 with
      | none => r.1
      | some 0 =>
        let s := (r.1.spareEnd o .ok [BitVec.ofNat 8 q]).raiseInt 239
        match o.worn with
        | some w => s.withSpr { s.spr with auto := (x, w, false) :: s.spr.auto }
        | none => s
      | some c => r.1.spareEnd o (commitStatus c) []

/-- One tide of a bring-in: the commit of FIRST_ASLEEP after a wake, which no step waits for but the last (Table 16-7), and the
steps. -/
def State.bringIn (s : State) (o : SpareOp) (t : Nat) : State :=
  if o.sleepKey then
    let q := o.slot
    let r := s.spareCommit o [(F.CUL_RINGr_SLEEP_FIRST_ASLEEP o.ring, if q + 1 > s.positions o.ring then 0 else q + 1)]
    match r.2 with
    | some 0 =>
      let o := { o with commit := false, sleepKey := false }
      (r.1.setSpare o).bringStep o t
    | some c => ((if o.step ≥ 7 then r.1.chargeOff o t else r.1).dropOwn o.ring).spareEnd o (commitStatus c) []
    | none => r.1.bringStep ((r.1.spareOp o.ring).getD o) t
  else s.bringStep o t

/-- R462: the state of a retiring cell moves to an available cell in one decision; the second part says that it is done. -/
def State.moveState (s : State) (x q t : Nat) : State × Bool :=
  let c := s.commanded x q
  if c = 0 then (s, true)
  else if stateLevel c = 0 then (s.commandPos x q 0 t, true)
  else
    match s.chooseCell x (c, true) (s.dpc.i.getD x 0) with
    | some p => ((s.commandPos x p c t).commandPos x q 0 t, true)
    | none => (s, false)

/-- The keys of a retirement's commit. -/
def SpareOp.retireKeys (o : SpareOp) : List (Fld × Nat) :=
  (admitFld o.ring o.slot, 0) :: (if o.failed then [(failedFld o.ring o.slot, 1)] else [])

/-- A retirement ends once the position is not admitted; a failed one is replaced (R464). -/
def State.retireEnd (s : State) (o : SpareOp) (st : Status) : State :=
  let s := s.spareEnd o st []
  if o.replace then s.withSpr { s.spr with auto := s.spr.auto ++ [(o.ring, 0, false)] } else s

/-- One tide of a retirement (R462). Steps 1 to 3 of R462 end with step 4's wait for SLUICE = 1. -/
def State.retire (s : State) (o : SpareOp) (t : Nat) : State :=
  let x := o.ring
  let q := o.slot
  match o.step with
  | 1 => s.setSpare (o.to 2)
  | 2 =>
    let r := s.moveState x q t
    if r.2 then r.1.setSpare (o.to 3) else if o.since ≥ 100000 then s.setSpare { o.to 4 with verified := false } else s
  | 3 =>
    if (s.pos x q).sluice then s.setSpare (o.to 4)
    else if o.since ≥ 100000 then s.setSpare { o.to 4 with verified := false }
    else s
  | 4 =>
    let r := s.spareCommit o o.retireKeys
    match r.2 with
    | none => r.1
    | some 0 =>
      if o.verified then
        let s := r.1.setSpare (o.to 5)
        s.ownRemote o 0x12 []
      else
        r.1.retireEnd o .timeout
    | some c => r.1.spareEnd o (commitStatus c) []
  | 5 =>
    if (s.mb (5 + x)).ready then
      let s := s.setMb (5 + x) {}
      if s.highestAwake x = q then (s.setSpare (o.to 6)).ownRemote o 0x08 [] else s.setSpare (o.to 7)
    else s
  | 6 =>
    if !o.commit && (s.mb (5 + x)).ready && leAt (s.mb (5 + x)).rsp 2 1 != 0 then (s.setMb (5 + x) {}).setSpare (o.to 7)
    else if o.commit || (s.mb (5 + x)).ready then
      let s := if o.commit then s else s.setMb (5 + x) {}
      let r := s.spareCommit o [(F.CUL_RINGr_SLEEP_FIRST_ASLEEP x, q)]
      match r.2 with
      | some 0 => r.1.setSpare (o.to 7)
      | some c => r.1.retireEnd o (commitStatus c)
      | none => if o.commit || (r.1.spareOp x).any (·.commit) then r.1 else s.setMb (5 + x) { ready := true }
    else s
  | _ => (s.retireEnd o .ok).raiseInt 240

/-! ## Automatic replacement (R464) -/

/-- R464: the triggers of position `q` of stack `x`; `record` is WEAR of the record held, if one is. FAULT counts in tides with a
record of their own: a stale tide ends the run (DEDUCED, assumption 105). -/
def State.autoTrigger (s : State) (x q : Nat) (record : Option Bool) : State :=
  let i := 128 * x + q
  let worn := record.getD (s.spr.worn.contains i)
  let f := if record.isSome && s.get (F.CUL_POS_r_s_STALE_RUN x q) = 0 then (s.pos x q).fault else 0
  let n := if f ≥ 3 then (SMap.find s.spr.faults i).getD 0 + 1 else 0
  let s := s.withSpr { s.spr with faults := if n = 0 then SMap.erase s.spr.faults i else SMap.set s.spr.faults i (min n 255) }
  let fresh := worn && !s.spr.worn.contains i
  let s := if worn == s.spr.worn.contains i then s
    else s.withSpr { s.spr with worn := if worn then i :: s.spr.worn else s.spr.worn.filter (· != i) }
  let s := if fresh then s.raiseInt 243 else s
  let known := s.spr.auto.any (fun a => a.1 == x && (a.2.1 == q || a.2.1 == 200 + q))
    || s.spr.ops.any (fun o => o.ring == x && (o.slot == q || o.worn == some q))
  if !s.admitted x q || known then s
  else if s.cfIs F.SPR_CFG_AUTO_REPLACE && (s.is (F.CUL_POS_r_s_LIMIT x q) || n ≥ s.cf F.SPR_CFG_SPR_FAULT_TIDES || f ≥ 4) then
    s.withSpr { s.spr with auto := s.spr.auto ++ [(x, q, true)] }
  else if s.cfIs F.SPR_CFG_AUTO_WEAR && worn && (s.bestSpare x).isSome then
    s.withSpr { s.spr with auto := s.spr.auto ++ [(x, 200 + q, false)] }
  else s

/-- R168: the transmit direction before sleeping position `q` of ring `x` is asked for: the station's own port before slot 1, else
LANE_WAKE for P1 of the position before it, which takes no mailbox of the station's. -/
def State.wakeNext (s : State) (x q : Nat) : State :=
  if q = 1 then s.askTx (if s.twn.operating then x else 2 * x) else s.sendOwn x (q - 1) 0x33 0 [1, 1]

/-- An automatic bring-in of stack `x`'s spare of lowest wear, the start of a replacement where it is for a worn cell; whether
it is found as expected stays open (assumption 1). -/
def State.autoBring (s : State) (x : Nat) (worn : Option Nat) : State :=
  match s.bestSpare x with
  | none => s
  | some q =>
    if s.relayFull x q && s.sleepsAt x q then s
    else
      let r := s.fresh 2
      let a := s.sleepsAt x q
      let s := if a then r.2.wakeNext x q else r.2
      let s := s.spareBegin { kind := 1, mailbox := none, ring := x, slot := q, step := if a then 1 else 5, since := 0, inStep := 0,
                              asleep := a, verified := r.1 = 1, failed := false, commit := false, worn := worn,
                              replace := false, code := 0 }
      if worn.isSome then s.raiseInt 241 else s

/-- An automatic retirement (R464): failed ones are marked, reported and replaced. -/
def State.autoRetire (s : State) (x q : Nat) (failed : Bool) : State :=
  let s := s.spareBegin { kind := 2, mailbox := none, ring := x, slot := q, step := 1, since := 0, inStep := 0, asleep := false,
                          verified := true, failed := failed, commit := false, worn := none, replace := failed, code := 0 }
  if failed then (s.raiseInt 241).fault 123 else s

/-- The first waiting automatic action of each ring whose resource is free starts. Slot 0 stands for a bring-in, 200 + q for
the replacement of the worn cell q. -/
def State.autoStart (s : State) : State :=
  [0, 1, 2].foldl (fun s x =>
    match s.spr.auto.find? (fun a => a.1 == x) with
    | some a =>
      if s.held &&& resRing x != 0 then s
      else
        let s := s.withSpr { s.spr with auto := s.spr.auto.erase a }
        if a.2.1 = 0 then s.autoBring x none
        else if a.2.1 > 200 then s.autoBring x (some (a.2.1 - 200))
        else s.autoRetire x a.2.1 a.2.2
    | none => s) s

/-- SPR_STACKx, and source 242 as the spares fall below SPR_SPARE_MIN. -/
def State.showStackSpares (s : State) (x : Nat) : State :=
  let n := (stackPositions.filter (s.isSpare x)).length
  let z := (stackPositions.filter (s.sleepsAt x)).length
  let f := (stackPositions.filter (s.failedKey x)).length
  let s := s.setWord (R.SPR_STACKx x) (BitVec.ofNat 32 (f * 65536 + z * 256 + n))
  let low := decide (n < s.cf F.SPR_CFG_SPR_SPARE_MIN)
  if low == s.spr.low.getLsbD x then s
  else
    let s := s.withSpr { s.spr with low := s.spr.low ^^^ (1#3 <<< x) }
    if low then s.raiseInt 242 else s

/-- The spares at tide `t`: triggers, operations, their status. An operation goes on by a decision (`ok`); its time runs in any
tide. -/
def State.spareTide (s : State) (t : Nat) (ok : Bool) : State :=
  let s := s.withSpr { s.spr with still := 0 }
  let s := [0, 1, 2].foldl (fun s x => stackPositions.foldl (fun s q =>
    if s.is (F.CUL_POS_r_s_PRESENT x q) && !s.sleepsAt x q then
      s.autoTrigger x q ((SMap.find s.cul.held (x * 128 + q)).map (fun b => natBit (leAt b 2 1) 6))
    else s) s) s
  let s := s.autoStart
  let s := s.spr.ops.foldl (fun s o =>
    match s.spareOp o.ring with
    | some o =>
      let o := { o with since := o.since + 1, inStep := o.inStep + 1 }
      let s := s.setSpare o
      if !ok then s else if o.kind = 1 then s.bringIn o t else s.retire o t
    | none => s) s
  let s := s.showSpare
  [0, 1, 2].foldl State.showStackSpares s

/-- The entries that operations give their cells (R459, R461, R462). A retiring cell is set to 0b00 by one decision, the next ones
give its Sluice entry. -/
def State.spareEntries (s : State) : List (Nat × Nat × Nat) :=
  s.spr.ops.filterMap (fun o =>
    let e := if o.kind = 1 then
        (match o.step with | 7 => some (o.code + 8) | 8 => some 0x18 | 9 => some 0x18 | _ => none)
      else if (o.step = 3 && o.inStep ≥ 1) || o.step = 4 then some 4 else none
    e.map (fun v => (o.ring, o.slot, v)))

end Sys2Proof.Machine
end

