-- ==== Sys2Proof/Machine/TwinOps.lean ====
section
/-! DEFINITION. Twin operation: states, twin link, identical inputs, Echo, takeover, resync, swap
(16_spares_twins.md R439 to R455). -/
namespace Sys2Proof.Machine

/-! ## States (R440, R441) -/

/-- TWN_STATUS STATE: 0 SINGLE, 1 PAIRING, 2 ACTIVE, 3 STANDBY, 4 DIVERGED. -/
def State.twin (s : State) : Nat := s.get F.TWN_STATUS_STATE

/-- ECHO_STATE of own frames (R441). -/
def State.echoState (s : State) : Nat :=
  match s.twin with
  | 0 => 0
  | 2 => if s.twn.swapIn.isSome then 4 else 1
  | 3 => 2
  | _ => 3

/-- A block whose CFG registers CFG_CRC covers: CUL_, ADC_, OBS_ DPC_ SEL_, LPE_, THM_, SPR_ TWN_ (R440). -/
def twinKey (a : Nat) : Bool :=
  ([4, 5, 6, 8].contains (a / 65536) || a / 65536 == 16 || (decide (R.THM_CONFIG ≤ a) && decide (a < R.VLT_KEEP)))
    && a != R.TWN_LINK

/-- R440: CFG_CRC; a copied commit that waits for the partner does not count yet, one that failed there does (R447). -/
def State.cfgCrc (s : State) : Word :=
  let cfg := if s.twn.alone then s.cfg else s.twn.commitHeld.getD s.cfg
  crc32 (((cfgRegs .station).filter twinKey).flatMap (fun a => leBytes 4 (genWord cfg a).toNat))

/-- The twin state changes (source 232; entries into DIVERGED are counted). -/
def State.twinSet (s : State) (v : Nat) : State :=
  if s.twin = v then s
  else
    let s := s.put F.TWN_STATUS_STATE v
    let s := if v = 4 then s.bump F.TWN_COUNTS_DIVERGENCES else s
    let s := if v = 1 then s.withTwn { s.twn with partnerSeen := false, silentBoth := 0 } else s
    s.raiseInt 232

/-- A message waits for the twin link (R447). -/
def State.twinSay (s : State) (type : Nat) (bytes : List Byte) (mailbox : Nat) : State :=
  s.withTwn { s.twn with msgOut := s.twn.msgOut ++ [⟨type, padTo 64 bytes, 0, mailbox⟩] }

/-- R454: what refuses a resync. -/
def State.resyncRefused (s : State) : Bool :=
  s.twin == 0 || !s.is F.TWN_STATUS_LINK_ECHO || !s.is F.TWN_STATUS_MATCHED || s.is F.TWN_STATUS_RESYNC

/-- R454: a resync begins here, for mailbox `n` or by the device itself; the active is asked for its snapshot. -/
def State.resyncStart (s : State) (n : Option Nat) : State :=
  let s := (s.put F.TWN_STATUS_RESYNC 1).withTwn { s.twn with resyncBy := n }
  let s : State := match n with
    | some k => s.runOn k resTwin
    | none => s.withRve { s.rve with autoHeld := s.rve.autoHeld ||| resTwin }
  if s.twin = 2 then s.withTwn { s.twn with snapWait := true } else s.twinSay 1 [0x43] 9

/-- A resync ends with a status. -/
def State.resyncEnd (s : State) (st : Status) : State :=
  let s : State := match s.twn.resyncBy with
    | some k => s.respond k st []
    | none => s.withRve { s.rve with autoHeld := s.rve.autoHeld &&& ~~~resTwin }
  (s.put F.TWN_STATUS_RESYNC 0).withTwn { s.twn with resyncBy := none, snapWait := false }

/-- R454: the active's snapshot at the end of the decision of a tide goes out in MESSAGE; how it is coded is open. -/
def State.snapshotTide (s : State) : State :=
  if s.twn.snapWait && s.twin = 2 then
    let s' := { s with free := s.free + 1 }
    (Config.snapshotMessages s.free).foldl (fun s b => s.twinSay 1 (0x43 :: b.take 63) 9) (s'.withTwn { s'.twn with snapWait := false })
  else s

/-- The device's own resync on a divergence (Table 16-1). -/
def State.autoResync (s : State) : State :=
  if s.cfIs F.TWN_CFG_AUTO_RESYNC && !s.resyncRefused then s.resyncStart none else s

/-- R453: a standby diverges (source 234); one that is not matched goes to PAIRING, the row of Table 16-1 listed first (R441). -/
def State.diverge (s : State) : State :=
  if s.twin != 3 then s
  else if !s.is F.TWN_STATUS_MATCHED then s.twinSet 1
  else ((s.twinSet 4).raiseInt 234).autoResync

/-- R441: EN in force. -/
def State.twinEnable (s : State) : State :=
  let en := s.isStation && s.isOn 1 && s.cfIs F.TWN_CFG_EN
  if en == s.twn.operating then s
  else if en then (s.withTwn { s.twn with operating := true }).twinSet 1
  else (s.twinSet 0).withTwn {}

/-! ## Echo (R450) -/

/-- A path shows an advancing frame. -/
def State.echoSeen (s : State) (f : Fld) : State :=
  let s := s.withTwn { s.twn with partnerSeen := true, silentBoth := 0 }
  if s.is f then s else (s.put f 1).raiseInt 233

/-- A path is silent. -/
def State.echoLost (s : State) (f : Fld) : State := if s.is f then (s.put f 0).raiseInt 233 else s

/-- R450: fault source 120. -/
def State.echoFault (s : State) : Bool :=
  s.twin != 0 && (s.twn.partnerSeen || decide (s.twn.silentBoth ≥ 1000))
    && !(s.is F.TWN_STATUS_LINK_ECHO && s.is F.TWN_STATUS_RING_ECHO)

/-- R440: fault source 121; whether the twins are matched is known once a CFG_CRC of the partner came (DESIGN CHOICE,
assumption 79). -/
def State.twinUnmatched (s : State) : Bool :=
  s.twin != 0 && (s.twn.linkHere || s.is F.TWN_STATUS_LINK_ECHO || s.is F.TWN_STATUS_RING_ECHO) && s.twn.crcKnown
    && !s.is F.TWN_STATUS_MATCHED

/-- R450: an ECHO_COUNT advanced; the first one received shows no advance. -/
def advanced (last : Option Nat) (n : Nat) : Bool :=
  match last with
  | some c => c != n
  | none => false

/-- R443, R450, R452, R453: a ring frame of the partner that ends here. -/
def State.twinRingFrame (s : State) (r : Nat) (f : TideFrame) : State :=
  if s.twn.operating && f.origin == b2n (!s.isTwinB) then
    let moved := advanced (s.twn.ringCount.getD r none) f.echoCount
    let s := s.withTwn { s.twn with ringCount := s.twn.ringCount.set r (some f.echoCount),
                                    ringMoved := s.twn.ringMoved || moved }
    let s := if moved then s.echoSeen F.TWN_STATUS_RING_ECHO else s
    let s := if moved && s.twin = 2 && f.echoState = 1 then s.withTwn { s.twn with rival := true } else s
    if s.twin = 3 && !s.is F.TWN_STATUS_LINK_ECHO && (f.echoState = 1 || f.echoState = 4) then
      match s.twn.areas.find? (fun a => a.1 == f.tide) with
      | some a => if bytesAt f.body 0 (s.cmdBytes r) == a.2.getD r [] then s else s.diverge
      | none => s
    else s
  else s

/-! ## Identical inputs (R444 to R446) -/

/-- Core clocks since the boundary, up to 199. -/
def State.inTide (s : State) : Nat := min 199 (((s.nowNs + 2 ^ 32 - s.get F.TIM_TIDE_NS_VALUE) % 2 ^ 32) / 5)

/-- R444: a converter result joins the shared stream, the first 20 of a tide. -/
def State.shareResult (s : State) (conv entry : Nat) : State :=
  if s.isShared conv then
    if s.twn.shareNow.length < 20 then
      s.withTwn { s.twn with shareNow := s.twn.shareNow ++ [⟨conv, entry, s.adcCode conv entry, s.inTide⟩] }
    else s.bump F.TWN_SHARE_DROP_VALUE
  else s

/-- R444: a host write to a run-time register of the decision logic: queued by the active, ignored by another twin; elsewhere
`effect` happens at once. -/
def State.twinWrite (s : State) (a : Nat) (v : Word) (effect : State → State) : State :=
  if s.twn.operating then
    if s.twin = 2 then s.withTwn { s.twn with queueOut := s.twn.queueOut ++ [⟨1, a, v⟩] } else s
  else effect s

/-- Shared results whose time of presentation has come by `c` core clocks after the boundary of tide `t` (R444). -/
def State.present (s : State) (t c : Nat) : State :=
  let due := s.twn.shared.flatMap (fun x =>
    if laterThan x.1 t then [] else if x.1 = t then x.2.filter (fun y => decide (y.at_ ≤ c)) else x.2)
  let left := (s.twn.shared.map (fun x =>
    if laterThan x.1 t then x else (x.1, if x.1 = t then x.2.filter (fun y => decide (c < y.at_)) else []))).filter (fun x =>
      !x.2.isEmpty)
  let add := fun (l : List SharedRes) (x : SharedRes) => x :: l.filter (fun y => !(y.conv == x.conv && y.entry == x.entry))
  let s := s.withAdc { s.adc with conv := (List.range 4).map (fun n =>
    let c : AdcConv := s.adc.conv.getD n {}
    { c with unseen := due.foldl (fun b x => if x.conv = n then b ||| (1#16 <<< x.entry) else b) c.unseen }) }
  s.withTwn { s.twn with shared := left, presented := due.foldl add s.twn.presented }

/-- A phase of an SV sample takes effect; with phase C the sample is complete and the tracker takes it (R240, R415). -/
def State.svPart (s : State) (x : TwinInput) : State :=
  let i := s.cf F.OBS_TRK_SRC_SV_SLOT
  let v := if natBit x.arg 16 then some (satSigned 32 (x.value.toInt * s.cfS (F.SV_SUBs_VSCALE_VALUE i) / 2 ^ 24)) else none
  let n := x.arg % 65536
  let s := s.withTwn { s.twn with svParts := (if x.kind = 2 then [] else s.twn.svParts) ++ [(n, v)] }
  if x.kind != 4 then s
  else
    let rate := svRate (s.cfIs (F.SV_SUBs_CFG_RATE i))
    let gap := match s.twn.svLast with | some l => (n + rate - l % rate) % rate | none => 1
    let p := s.twn.svParts
    let s := s.withTwn { s.twn with svLast := some n, svParts := [] }
    match p with
    | [(a, some x), (b, some y), (c, some z)] =>
      if s.gridRuns && s.cfIs F.OBS_TRK_SRC_EN && s.cfIs F.OBS_TRK_SRC_SOURCE && a = n && b = n && c = n then s.trackSv x y z (s.svInstant rate n) ((gap : Rat) / rate) else s
    | _ => s

/-- An input of Table 16-4 takes effect; `write` is a host write. -/
def State.twinInput (s : State) (write : State → Nat → Word → State) (x : TwinInput) : State :=
  match x.kind with
  | 1 => write s x.arg x.value
  | 2 | 3 | 4 => s.svPart x
  | 5 => s.withTwn { s.twn with goose := if natBit x.arg 8 then some x.value.toInt else none }
  | 6 => s.sensorTake (x.arg % 256) (if natBit x.arg 8 then x.value.toNat else noTemp)
  | _ => s

/-- The inputs whose boundary has come. -/
def State.twinInputs (s : State) (write : State → Nat → Word → State) (t : Nat) : State :=
  let due := s.twn.queued.filter (fun x => !laterThan x.1 t)
  due.foldl (fun s x => s.twinInput write x.2)
    (s.withTwn { s.twn with queued := s.twn.queued.filter (fun x => laterThan x.1 t) })

/-- R444: the active sends own sensors and the GOOSE analogue at each change. -/
def State.twinSample (s : State) : State :=
  if s.twin != 2 then s
  else
    let now := [0, 1, 2, 3].map s.ntcTele ++ [s.dieTele]
    let s := (List.range 5).foldl (fun s m =>
      let v := now.getD m noTemp
      if (SMap.find s.twn.sentSensors m).getD noTemp = v then s
      else (s.withTwn { s.twn with
        sentSensors := SMap.set s.twn.sentSensors m v,
        queueOut := s.twn.queueOut ++ [⟨6, m + b2n (v != noTemp) * 256, BitVec.ofNat 32 v⟩] })) s
    let i := s.cf F.DPC_CONFIG_Q_GOOSE
    let g := s.gooseAnalogue i
    if s.twn.sentGoose == some g then s
    else s.withTwn { s.twn with
      sentGoose := some g,
      queueOut := s.twn.queueOut ++ [⟨5, i % 256 + b2n g.isSome * 256, BitVec.ofInt 32 (g.getD 0)⟩] }

/-- R445: a source of records of ring `r` for tide `t` is held; of a chain cut off from it, twin B takes A's relay. -/
def State.hasRecords (s : State) (r t : Nat) : Bool :=
  s.cul.recs.any (fun x => x.ring == r && x.tide == t)
    || (s.isTwinB && s.cf (F.CUL_RINGr_SLEEP_FIRST_ASLEEP r) != 0)

/-- R445: a ring whose RING_OK is 0 at either twin for the records of tide `t` counts as stale at decision tide `d`. -/
def State.ringStale (s : State) (r t d : Nat) : Bool :=
  s.twn.operating && (!s.hasRecords r t ||
    match s.twn.partnerRings with
    | some x => decide ((x.1 + 1) % 2 ^ 32 = d) && !natBit x.2 r
    | none => false)

/-! ## The frame of a tide (R442) -/

/-- The command areas of this tide's ring frames: of 0 in PAIRING (R441). -/
def State.areasNow (s : State) : List (List Byte) :=
  [0, 1, 2, 3].map (fun r => s.cmdArea r (if s.twin = 1 then [] else s.cul.cmds.getD r []))

/-- AUX (Table 16-2). -/
def State.twinAux (s : State) (t : Nat) : Nat :=
  match t % 8 with
  | 4 => s.cfgCrc.toNat
  | 5 => s.vlt.gen
  | 6 => ofSigned 32 (s.twn.xOwn.getD 0)
  | 7 => 0
  | r => s.get (F.CUL_RINGr_LOOP_L r)

/-- RELAY: VDC and STATUS of the awake positions of chains with a sleeping block, for record tide `d` (R445). -/
def State.relayBytes (s : State) (d : Nat) : List Byte :=
  ([0, 1, 2, 3].filter (fun r => s.cf (F.CUL_RINGr_SLEEP_FIRST_ASLEEP r) != 0)).flatMap (fun r =>
    ((List.range (s.highestAwake r)).map (· + 1)).flatMap (fun q => bytesAt ((s.usedRecord r q d).getD (emptyRecord 4)) 0 3))

/-- A shared result as an entry of SHARED (Table 16-3). -/
def SharedRes.bytes (x : SharedRes) : List Byte :=
  [BitVec.ofNat 8 (x.conv * 64 + 16 + x.entry), BitVec.ofNat 8 x.at_] ++ leBytes 2 (ofSigned 16 x.code)

/-- An input entry (Table 16-4). -/
def TwinInput.bytes (x : TwinInput) : List Byte := [BitVec.ofNat 8 x.kind] ++ leBytes 3 x.arg ++ leBytes 4 x.value.toNat

/-- The twin-link frame of tide `t`. -/
def State.twinFrame (s : State) (t : Nat) : TideFrame :=
  let d := (t + 1 + 2 ^ 32 - s.cf F.CUL_CONFIG_CUL_INPUT_DELAY) % 2 ^ 32
  let x := s.twn
  let rings := [0, 1, 2, 3].foldl (fun m r => if s.hasRecords r d then m + 2 ^ r else m) 0
  let header := leBytes 4 t ++ [BitVec.ofNat 8 (s.echoState * 32 + s.cul.echo % 32),
      BitVec.ofNat 8 (b2n s.isTwinB + b2n s.ownBlocked * 2 + b2n s.ov2 * 4 + b2n x.swapIn.isSome * 8
        + s.get F.TWN_STATUS_RESYNC * 16 + b2n x.commitHeld.isSome * 32),
      BitVec.ofNat 8 rings, BitVec.ofNat 8 (x.swapIn.getD 0)]
    ++ leBytes 4 (crc32 s.areasNow.flatten).toNat ++ leBytes 4 (s.twinAux t)
  let msg := match x.msgOut with
    | m :: _ => (chunkFrom m.bytes 0 0 m.type m.chunk).bytes
    | [] => emptyChunk.bytes
  let tele := (x.teleOut.take 16).flatMap (fun e =>
    [BitVec.ofNat 8 e.1, BitVec.ofNat 8 (e.2.1 * 64 + e.2.2.1), BitVec.ofNat 8 e.2.2.2.1] ++ leBytes 4 e.2.2.2.2)
  let body := padTo 80 ((if s.twin = 2 then x.shareLast else []).flatMap SharedRes.bytes)
    ++ padTo 24 ((x.queueOut.take 3).flatMap TwinInput.bytes) ++ msg ++ padTo 112 tele ++ padTo 222 (s.relayBytes d) ++ [0, 0]
  ⟨header, body, crc32 (header ++ body)⟩

/-- What was sent leaves its queue; the active's inputs take effect 3 tides later here too, and a copied command starts 3 tides
after its last chunk (R444, R447). -/
def State.twinSent (s : State) (t : Nat) : State :=
  let x := s.twn
  let later := x.queueOut.take 3
  let m := match x.msgOut with
    | m :: ms => if m.chunk ≥ 2 then (ms, if m.type = 1 && decide (m.mailbox < 4) then [((t + 3) % 2 ^ 32, m.mailbox)] else [])
                 else ({ m with chunk := m.chunk + 1 } :: ms, [])
    | [] => ([], [])
  s.withTwn { x with
      queueOut := x.queueOut.drop 3,
      queued := if s.twin = 2 then x.queued ++ later.map (fun e => ((t + 3) % 2 ^ 32, e)) else x.queued,
      shared := if s.twin = 2 then x.shared ++ [((t + 2) % 2 ^ 32, x.shareLast)] else x.shared,
      msgOut := m.1, starts := x.starts ++ m.2,
      teleOut := x.teleOut.drop 16,
      areas := ((t, s.areasNow) :: x.areas).take 40,
      committedSent := x.commitHeld.isSome }

/-! ## A received frame (R442 to R447, R452, R453) -/

/-- The bytes of an entry, and whether it is empty. -/
def sharedAt (body : List Byte) (i : Nat) : Option SharedRes :=
  let b := leAt body (4 * i) 1
  if natBit b 4 then some ⟨b / 64, b % 16, toSigned 16 (leAt body (4 * i + 2) 2), leAt body (4 * i + 1) 1⟩ else none

def inputAt (body : List Byte) (i : Nat) : Option TwinInput :=
  let o := 80 + 8 * i
  if leAt body o 1 = 0 then none else some ⟨leAt body o 1, leAt body (o + 1) 3, BitVec.ofNat 32 (leAt body (o + 4) 4)⟩

/-- R447: a copied command comes into a free internal mailbox, held until its boundary. Without a free one it answers BUSY. -/
def State.takeCopy (s : State) (b : List Byte) (t : Nat) : State :=
  match copyMailboxes.find? (fun n => (s.mb n).st == mbIdle) with
  | some n =>
    (s.setMb n { req := b, st := mbExecuting, copied := true, hold := true }).withTwn { s.twn with starts := s.twn.starts ++ [((t + 3) % 2 ^ 32, n)] }
  | none => s.twinSay 2 [BitVec.ofNat 8 (leAt b 0 1), BitVec.ofNat 8 (leAt b 1 1), BitVec.ofNat 8 Status.busy.code, 0] 9

/-- R447: a whole message from the partner: a copied command, a request of the partner's host for a swap or resync, or the partner's
response. A commit that failed there leaves the keys of this twin alone in force. -/
def State.twinMessage (s : State) (type : Nat) (b : List Byte) (t : Nat) (swap : State → State) : State :=
  let code := leAt b 0 1
  if type = 2 then
    if code = 0x42 then
      match s.runner 0x42 with
      | some n =>
        if s.twin = 3 || s.twin = 4 then
          (s.respond n (if leAt b 2 1 = Status.diverged.code then .diverged else if leAt b 2 1 = Status.busy.code then .busy else .refusedState) []).withTwn
            { s.twn with swapBy := none }
        else s
      | none => s
    else
      match [0, 1, 2].find? (fun n => (s.mb n).copied && (s.mb n).partner.isNone && (s.mb n).tag == leAt b 1 1 && (s.mb n).code == code) with
      | some n =>
        let s := s.setMb n { s.mb n with partner := some (leAt b 2 1) }
        if commits code && leAt b 2 1 != 0 && s.twn.commitHeld.isSome then s.withTwn { s.twn with alone := true } else s
      | none => s
  else if code = 0x42 then (if s.twin = 2 then swap s else s)
  else if code = 0x43 then (if s.twin = 2 && !s.resyncRefused then s.resyncStart none else s)
  else if s.twin = 2 then s
  else s.takeCopy b t

/-- RELAY as a record area of ring `r` (R445): byte 3 is marked as no quantity. -/
def State.relayArea (s : State) (r : Nat) (bytes : List Byte) : List Byte :=
  (List.range (s.positions r)).flatMap (fun i =>
    if i < s.highestAwake r then padTo (s.recSize r) (bytesAt bytes (3 * i) 3 ++ [0xFF]) else emptyRecord (s.recSize r))

/-- R445: twin B takes the relayed records of tide `d`. -/
def State.takeRelay (s : State) (d : Nat) (bytes : List Byte) : State :=
  (([0, 1, 2, 3].filter (fun r => s.cf (F.CUL_RINGr_SLEEP_FIRST_ASLEEP r) != 0)).foldl (fun (a : State × List Byte) r =>
    ((a.1.withCul { a.1.cul with recs := ⟨r, 0, d, s.tide, false, a.1.relayArea r a.2⟩ :: a.1.cul.recs }),
      a.2.drop (3 * s.highestAwake r))) (s, bytes)).1

/-- R446: TELEMETRY entries of a frame of tide `t`. -/
def State.takeRelayTele (s : State) (t : Nat) (body : List Byte) : State :=
  (List.range 16).foldl (fun s i =>
    let o := 136 + 7 * i
    let q := leAt body o 1
    if q = 0 then s
    else
      let b := leAt body (o + 1) 1
      let d := (t + 2 ^ 32 - (t + 256 - leAt body (o + 2) 1) % 256) % 2 ^ 32
      s.takeQuantity (b / 64) q d (b % 32) (leAt body (o + 3) 4)) s

/-- R443: an ACTIVE twin keeps its own boundary while its partner is silent. -/
def State.keepsBoundary (s : State) : Bool :=
  s.twin == 2 && !s.is F.TWN_STATUS_LINK_ECHO && !s.is F.TWN_STATUS_RING_ECHO

/-- R443: twin B finds where its boundary belongs, `e` later than now, under Table 5-11; the boundaries move it. -/
def State.twinAlign (s : State) : State :=
  match s.twn.xOwn, s.twn.xPartner with
  | some b, some a =>
    let s := s.putS F.TWN_LINK_DELAY_VALUE ((a + b) / 2)
    if s.isTwinB then
      let e := (a - b) / 2 - s.cfS F.TWN_LINK_ASYM
      let st := s.get F.CUL_ALIGN_STATE
      let x := 10 * s.cul.place + e
      let s := s.withTwn { s.twn with target := x }
      if st = 1 && decide (e.natAbs > 256) then (s.setAlign 2).fault 21
      else s
    else s
  | _, _ => s

/-- R443, Table 5-11: twin B's boundary is stepped to its place after 1,024 tides of measurement; it moves by one step per tide in
SLEWING, by one per 1,024 tides in ALIGNED. -/
def State.twinSlew (s : State) (t : Nat) : State :=
  if s.twn.operating && s.isTwinB && !s.keepsBoundary then
    let st := s.get F.CUL_ALIGN_STATE
    let n := if st = 0 && s.twn.xOwn.isSome && s.twn.xPartner.isSome then min 1024 (s.twn.measured + 1) else 0
    let s := s.withTwn { s.twn with measured := n }
    if n = 1024 then ((s.withTwn { s.twn with measured := 0 }).withCul { s.cul with place := unitsToSteps s.twn.target }).setAlign 1
    else
    let p := s.cul.place
    let x := unitsToSteps s.twn.target
    if st = 2 || (st = 1 && t % 1024 = 0) then
      let p := if p < x then p + 1 else if x < p then p - 1 else p
      let s := s.withCul { s.cul with place := p }
      if st = 2 && decide ((s.twn.target - 10 * p).natAbs ≤ 64) then s.setAlign 1 else s
    else s
  else s

/-- What the header says of an intact frame that arrives `x` (15.625 ps) after the own boundary (Table 16-2). -/
def State.twinHeader (s : State) (f : TideFrame) (x : Int) : State :=
  let b4 := leAt f.header 4 1
  let b5 := leAt f.header 5 1
  let st := b4 / 32
  let moved := advanced s.twn.linkCount (b4 % 32)
  let swap := if s.twin = 3 && (st = 1 || st = 4) then (if natBit b5 3 then some (leAt f.header 7 1) else none) else s.twn.swapIn
  let w : TwinSt := { s.twn with linkGot := true, linkMoved := s.twn.linkMoved || moved, linkCount := some (b4 % 32) }
  let w : TwinSt := { w with partner := st, partnerCommitted := natBit b5 5, partnerResync := natBit b5 4 }
  let w : TwinSt := { w with partnerRings := some (f.tide, leAt f.header 6 1 % 16), xOwn := some x }
  let w : TwinSt := { w with rival := w.rival || (moved && s.twin == 2 && st == 1), swapIn := swap }
  let asks := natBit b5 4 && !s.twn.partnerResync && s.twin == 4
  let s := s.withTwn w
  let s := s.flag F.TWN_STATUS_SWAP_PENDING swap.isSome
  let s := if asks then s.put F.TWN_STATUS_RESYNC 1 else s
  if moved then s.echoSeen F.TWN_STATUS_LINK_ECHO else s

/-- AUX of a received frame (Table 16-2): L of an unbroken chain comes from twin B, of one that ends at a sleeping block from
twin A (05_culvert.md, Alignment; R460). -/
def State.twinTakeAux (s : State) (t aux : Nat) : State :=
  match t % 8 with
  | 4 => (s.withTwn { s.twn with crcKnown := true }).flag F.TWN_STATUS_MATCHED (aux == s.cfgCrc.toNat)
  | 6 => (s.withTwn { s.twn with xPartner := some (toSigned 32 aux) }).twinAlign
  | 5 => s
  | 7 => s
  | r => if aux != 0 && s.isTwinB == (s.cf (F.CUL_RINGr_SLEEP_FIRST_ASLEEP r) != 0) then s.put (F.CUL_RINGr_LOOP_L r) aux
         else s

/-- The active's inputs in a frame of tide `t` (R444). -/
def State.twinTakeInputs (s : State) (t flags : Nat) (body : List Byte) : State :=
  let inputs := (List.range 3).filterMap (inputAt body)
  let w : TwinSt := { s.twn with blockedNext := natBit flags 1, ov2Next := natBit flags 2 }
  let w : TwinSt := { w with shared := w.shared ++ [((t + 2) % 2 ^ 32, (List.range 20).filterMap (sharedAt body))] }
  s.withTwn { w with queued := w.queued ++ inputs.map (fun e => ((t + 3) % 2 ^ 32, e)) }

/-- The MESSAGE of a frame of tide `t` (R447). -/
def State.twinTakeChunk (s : State) (t : Nat) (c : Chunk) (swap : State → State) : State :=
  if c.type = 1 || c.type = 2 then
    let l := s.twn.msgIn.set c.idx (some c.payload)
    let s := s.withTwn { s.twn with msgIn := if c.last then [none, none, none] else l }
    if c.last && l.all Option.isSome then s.twinMessage c.type (l.flatMap (fun p => p.getD [])) t swap else s
  else s

/-- R453: a standby compares its CMD_CRC of tide `t` with the active's. -/
def State.compareCrc (s : State) (t crc : Nat) : State :=
  match s.twn.areas.find? (fun a => a.1 == t) with
  | some a => if (crc32 a.2.flatten).toNat = crc then s else s.diverge
  | none => s

/-- An intact twin-link frame. -/
def State.twinTake (s : State) (f : TideFrame) (x : Int) (swap : State → State) : State :=
  let t := f.tide
  let st := leAt f.header 4 1 / 32
  let active := st == 1 || st == 4
  let s := (s.twinHeader f x).twinTakeAux t (leAt f.header 12 4)
  let s := if active && s.twin != 2 then s.twinTakeInputs t (leAt f.header 5 1) f.body else s
  let d := (t + 1 + 2 ^ 32 - s.cf F.CUL_CONFIG_CUL_INPUT_DELAY) % 2 ^ 32
  let s := if s.isTwinB then (s.takeRelay d (bytesAt f.body 248 222)).takeRelayTele t f.body else s
  let s := s.twinTakeChunk t (chunkOf (bytesAt f.body 104 32)) swap
  let s := if active then s.withTwn { s.twn with crcSeen := some (t, leAt f.header 8 4) } else s
  if s.twin = 3 && active then s.compareCrc t (leAt f.header 8 4) else s

/-! ## Swap and takeover (R451, R455) -/

/-- R455: what answers a swap asked of the active; none when it may go on. -/
def State.swapRefusal (s : State) : Option Status :=
  if s.twin != 2 then some .refusedState
  else if s.twn.partner = 3 then some .diverged
  else if !s.is F.TWN_STATUS_LINK_ECHO || !s.is F.TWN_STATUS_RING_ECHO || s.is F.TWN_STATUS_RESYNC
      || s.held &&& resRings 15 != 0 then some .refusedState
  else none

/-- The active announces a swap, for mailbox `n`, or for the partner or itself. -/
def State.swapStart (s : State) (n : Option Nat) : State :=
  let s : State := match n with
    | some k => s.runOn k resTwin
    | none => s.withRve { s.rve with autoHeld := s.rve.autoHeld ||| resTwin }
  (s.put F.TWN_STATUS_SWAP_PENDING 1).withTwn { s.twn with swapIn := some 65, swapBy := n }

/-- A swap that the partner's host asked for. -/
def State.swapAsked (s : State) : State :=
  match s.swapRefusal with
  | some st => s.twinSay 2 [0x42, 0, BitVec.ofNat 8 st.code, 0] 9
  | none =>
    if s.held &&& resTwin != 0 then s.twinSay 2 [0x42, 0, BitVec.ofNat 8 Status.busy.code, 0] 9
    else s.swapStart none

/-- The swap is over here: the waiting mailbox answers. -/
def State.swapEnd (s : State) (st : Status) : State :=
  let s : State := match s.twn.swapBy with
    | some k => s.respond k st []
    | none => s.withRve { s.rve with autoHeld := s.rve.autoHeld &&& ~~~resTwin }
  s.withTwn { s.twn with swapBy := none, swapCommit := false, swapBegan := false }

/-- An hour in tides. -/
def hourTides : Nat := 3600000000

/-- R455: the pairing or a swap: the hours to the next automatic swap run anew. -/
def State.restartHours (s : State) : State :=
  (s.put F.TWN_STATUS_HOURS_TO_SWAP (s.cf F.TWN_CFG_TWIN_SWAP_PERIOD)).withTwn { s.twn with hourTides := 0, retryAt := none }

/-- Tides from the last swap or pairing to the next automatic swap: TWIN_SWAP_PERIOD hours, or the next hour after a refusal. -/
def State.swapDue (s : State) : Nat := s.twn.retryAt.getD (s.cf F.TWN_CFG_TWIN_SWAP_PERIOD * hourTides)

/-- One tide of these hours; a begun hour counts in HOURS_TO_SWAP (DESIGN CHOICE, assumption 79). -/
def State.hoursTide (s : State) : State :=
  if s.twin = 2 || s.twin = 3 || s.twin = 4 then
    let n := s.twn.hourTides + 1
    (s.put F.TWN_STATUS_HOURS_TO_SWAP ((s.swapDue - n + hourTides - 1) / hourTides)).withTwn { s.twn with hourTides := n }
  else s

/-- One tide of the countdown; at 0 the roles exchange (R455). -/
def State.swapTide (s : State) (t : Nat) : State :=
  match s.twn.swapIn with
  | none => s
  | some k =>
    if k > 1 then s.withTwn { s.twn with swapIn := some (k - 1) }
    else
      let s := (s.put F.TWN_STATUS_SWAP_PENDING 0).withTwn { s.twn with swapIn := none }
      if s.twin = 2 && s.twn.partner != 2 then s.swapEnd .diverged
      else if s.twin = 2 || s.twin = 3 then
        let s := (s.twinSet (if s.twin = 2 then 3 else 2)).raiseInt 236
        let s := (s.bump F.TWN_COUNTS_SWAPS).put F.TWN_SWAP_TIDE_VALUE t
        s.restartHours.withTwn { s.restartHours.twn with swapCommit := true, swapBegan := false }
      else if s.twn.swapBy.isSome then s.swapEnd .diverged
      else s

/-- The internal commit of PREF after a swap: begun when the Vault is free, its result the response (R455). -/
def State.swapCommitTide (s : State) : State :=
  if s.twn.swapBegan then
    match SMap.find s.vlt.results 4 with
    | some c => (s.withVlt { s.vlt with results := SMap.erase s.vlt.results 4 }).swapEnd (if c = 0 then .ok else commitStatus c)
    | none => s
  else if s.twn.swapCommit then
    let b := s.twin = 2 && s.isTwinB || s.twin = 3 && !s.isTwinB
    let r := s.deviceCommit (s.twn.swapBy.getD 0) 4 [(F.TWN_CFG_PREF, b2n b)]
    r.1.withTwn { r.1.twn with swapBegan := r.2 }
  else s

/-- R451: a takeover. -/
def State.takeover (s : State) : State :=
  let diverged := s.twin == 4
  let s := (((s.twinSet 2).fault 122).raiseInt 238).bump F.TWN_COUNTS_TAKEOVERS
  let s := s.withTwn { s.twn with tookOver := true }
  if diverged && (s.ctl = 1 || s.ctl = 2) && s.gridRuns then
    if s.trkValid then ((s.toFallback).bump F.DPC_COUNTS_LOSSES).fault 72
    else (s.setCtl 3).fault 73
  else s

/-! ## A boundary (Table 16-1) -/

/-- R26, R30: the twins may pair: both have a device ID, and a discovery found neither's to be another device's. -/
def State.partnerAccepted (s : State) : Bool :=
  let own := s.cf F.HST_DEVICE_ID_DEVICE_ID
  own != 0 && s.twn.partnerId != 0 && own != s.twn.partnerId
    && !s.cul.excluded.contains (0, 0) && !s.cul.excluded.contains (0, 128)

/-- The transitions of Table 16-1 that a boundary makes; the first that applies. The partner is there while its frames come,
advancing or not (R441); ECHO_STATE 3, PAIRING or DIVERGED, is taken for PAIRING (DESIGN CHOICE, assumption 79). -/
def State.twinStep (s : State) : State :=
  let m := s.is F.TWN_STATUS_MATCHED
  let ok := s.partnerAccepted
  let p := s.twn.partner
  let present := s.twn.linkHere
  let st := s.twin
  let rival := s.twn.rival
  let s := s.withTwn { s.twn with rival := false }
  if st = 2 && rival && s.isTwinB then s.twinSet 4
  else if (st = 3 || st = 4) && !m then s.twinSet 1
  else if st = 1 && ok && m && present && p = 3 && (s.cfIs F.TWN_CFG_PREF == s.isTwinB) then
    (s.twinSet 2).restartHours
  else if st = 1 && ok && m && present && (p = 1 || p = 4) then (s.twinSet 4).restartHours.autoResync
  else s

/-- The counts of the tide that ends (R450): a standby that missed its frame diverges and is fed by its own converters. -/
def State.twinCount (s : State) (t : Nat) : State :=
  let x := s.twn
  let both := !x.linkMoved && !x.ringMoved
  let s' := s.withTwn { x with
    linkSilent := if x.linkMoved then 0 else min 255 (x.linkSilent + 1),
    ringSilent := if x.ringMoved then 0 else min 255 (x.ringSilent + 1),
    silentBoth := if both && s.pwr.phase == .ready then min 1000 (x.silentBoth + 1) else x.silentBoth,
    linkHere := x.linkGot, linkGot := false, linkMoved := false, ringMoved := false, tookOver := false }
  if !x.linkGot && (s.twin != 2 || x.tookOver) then
    let s' := s'.withTwn { s'.twn with shared := s'.twn.shared ++ [((t + 1) % 2 ^ 32, x.shareLast)] }
    s'.diverge
  else s'

/-- R447: held commands whose boundary has come start; they wait while a resync runs (R454). -/
def State.twinStarts (s : State) (t : Nat) : State :=
  if s.is F.TWN_STATUS_RESYNC || s.twn.partnerResync then s
  else
    let due := s.twn.starts.filter (fun x => !laterThan x.1 t)
    due.foldl (fun s x => s.setMb x.2 { s.mb x.2 with hold := false })
      (s.withTwn { s.twn with starts := s.twn.starts.filter (fun x => laterThan x.1 t) })

/-- R447: a copied commit that waits takes effect once both twins have it. -/
def State.twinCommitted (s : State) (commit : State → List (Nat × Word) → State) : State :=
  match s.twn.commitHeld with
  | some old =>
    if (s.twn.committedSent && s.twn.partnerCommitted) || s.twn.alone || !s.is F.TWN_STATUS_LINK_ECHO || !s.is F.TWN_STATUS_MATCHED then
      let w : TwinSt := { s.twn with commitHeld := none, alone := false, committedSent := false, partnerCommitted := false }
      commit (s.withTwn w) old
    else s
  | none => s

/-- BLOCKED and OV2 of the active, as received or as its own, come into effect (R444). -/
def State.twinFlags (s : State) : State :=
  let w : TwinSt := { s.twn with blocked := s.twn.blockedNext, ov2 := s.twn.ov2Next }
  s.withTwn w

/-- The results of the tide that ends go out in the next frame; the active's flags take effect with it. -/
def State.twinShift (s : State) : State :=
  let w : TwinSt := { s.twn with shareLast := s.twn.shareNow, shareNow := [] }
  let w : TwinSt := if s.twin = 2 then { w with blockedNext := s.ownBlocked, ov2Next := s.ov2 } else w
  s.withTwn w

/-- The twin's state at the boundary of tide `t`: what its frames of the tide carry (R441). -/
def State.twinStates (s : State) (t : Nat) : State :=
  if s.twn.operating then ((s.twinCount t).twinStep.swapTide t).swapCommitTide.hoursTide else s

/-- What twin operation does at the boundary of tide `t`, once the ring frames are out and before the decision; `write` is a host
write, `commit` applies the keys of a commit. -/
def State.twinBoundary (s : State) (t : Nat) (write : State → Nat → Word → State)
    (commit : State → List (Nat × Word) → State) : State :=
  if !s.twn.operating then s
  else
    let s := ((s.twinCommitted commit).twinStarts t).twinFlags
    let s := (((s.present t 0).twinInputs write t).twinSample).twinShift
    let s := (s.twinSlew t)
    let s := if s.txAwake 8 then s.send 8 (.frame (s.twinFrame t)) else s
    s.twinSent t

end Sys2Proof.Machine
end

