-- ==== Sys2Proof/Machine/WardenOps.lean ====
section
/-! DEFINITION. The two Warden channels: inputs, states, exchange, release, lockout (12_wardens.md R354 to R373). A channel is
named by a Bool: false is Warden A (polder 14), true Warden B (polder 15). -/
namespace Sys2Proof.Machine

/-- Polder of a channel, and its field of a status register given for Warden A. -/
def wrdPolder (b : Bool) : Nat := if b then 15 else 14
def wrdFld (b : Bool) (f : Fld) : Fld := if b then { f with addr := f.addr + 0x100 } else f

def State.wget (s : State) (b : Bool) (f : Fld) : Nat := s.get (wrdFld b f)
def State.wis (s : State) (b : Bool) (f : Fld) : Bool := s.is (wrdFld b f)
def State.wput (s : State) (b : Bool) (f : Fld) (v : Nat) : State := s.put (wrdFld b f) v
def State.wflag (s : State) (b : Bool) (f : Fld) (v : Bool) : State := s.flag (wrdFld b f) v

/-- Channel state beside the registers. -/
def State.wch (s : State) (b : Bool) : WrdChan := if b then s.wrd.b else s.wrd.a
def State.setWch (s : State) (b : Bool) (c : WrdChan) : State :=
  s.withWrd (if b then { s.wrd with b := c } else { s.wrd with a := c })

/-- The channel's own copy of WRD_CFG. -/
def State.wcfg (s : State) (b : Bool) : Word := if b then s.word R.WRD_CFG_B else s.effWord R.WRD_CFG
def State.wkey (s : State) (b : Bool) (f : Fld) : Bool := bitsOf (s.wcfg b) f.lo f.w != 0

/-- States of Table 12-1. -/
def wStart : Nat := 0
def wDemand : Nat := 1
def wArmed : Nat := 2
def wReleased : Nat := 3
def wLockout : Nat := 4

def State.wstate (s : State) (b : Bool) : Nat := s.wget b F.WRD_A_STATUS_STATE

/-- R357: the guard is closed, by filtered levels; none while an input has no filtered level. -/
def State.guardClosed (s : State) (b : Bool) : Option Bool :=
  match (s.wch b).guard1, (s.wch b).guard2 with
  | some x, some y => some (if s.wkey b F.WRD_CFG_ANTIVALENT then x && !y else x && y)
  | _, _ => none

/-- R359: the two guard inputs disagree. -/
def State.contactDiff (s : State) (b : Bool) : Bool :=
  s.wkey b F.WRD_CFG_GUARD_EN &&
  match (s.wch b).guard1, (s.wch b).guard2 with
  | some x, some y => if s.wkey b F.WRD_CFG_ANTIVALENT then x == y else x != y
  | _, _ => false

/-- R357, R358: the channel has a demand; an input without a filtered level is one. -/
def State.demands (s : State) (b : Bool) : Bool :=
  (s.wkey b F.WRD_CFG_GUARD_EN && s.guardClosed b != some true)
    || (s.wkey b F.WRD_CFG_ESTOP_EN && (s.wch b).estop != some true)

/-- SAFE_OUT and pulse enable follow from the state, and from a test pulse (R360, R367). -/
def State.wardOutputs (s : State) (b : Bool) : State :=
  let st := s.wstate b
  let s := s.wflag b F.WRD_A_STATUS_ENABLE (st == wReleased)
  (s.wflag b F.WRD_A_STATUS_SAFE_OUT ((st == wArmed || st == wReleased) && !(s.wch b).pulse)).drive

/-- The channel enters state `v`: sources 224, 225 and 228, demand counts, a new stay in ARMED (R361, R363, R372). -/
def State.wardGo (s : State) (b : Bool) (v : Nat) (auto : Bool) : State :=
  if s.wstate b = v then s
  else
    let s := s.wput b F.WRD_A_STATUS_STATE v
    let s := s.raiseInt (if b then 225 else 224)
    let s := if v = wLockout then s.raiseInt 228 else s
    let s := if v = wDemand then (s.bump F.WRD_COUNTS_DEMANDS).put F.WRD_EVENTS_DEMAND_SEEN 1 else s
    let s := s.setWch b { s.wch b with autoReq := v == wArmed && auto }
    s.wardOutputs b

/-- R363: a release request: accepted only with both channels ARMED. -/
def State.wardRelease (s : State) : State :=
  if s.isOn 14 && s.isOn 15 && s.wstate false == wArmed && s.wstate true == wArmed then
    (s.wardGo false wReleased false).wardGo true wReleased false
  else (s.put F.WRD_EVENTS_REFUSED 1).raiseInt 226

/-- R363: a block request. -/
def State.wardBlock (s : State) : State :=
  let s := if s.wstate false = wReleased then s.wardGo false wArmed false else s
  if s.wstate true = wReleased then s.wardGo true wArmed false else s

/-- WRD_CTRL is written. -/
def State.wardCtrl (s : State) (release block : Bool) : State :=
  if s.isOn 14 then (if block then s.wardBlock else if release then s.wardRelease else s) else s

/-- R363: the automatic release request of a channel, once its partner's last exchange reports ARMED or RELEASED. -/
def State.wardAuto (s : State) (b : Bool) : State :=
  let c := s.wch b
  let reports := match c.got with
    | some x => x.state == wArmed || x.state == wReleased
    | none => false
  if s.wkey b F.WRD_CFG_AUTO_RELEASE && s.wstate b == wArmed && c.autoReq && reports then
    (s.setWch b { c with autoReq := false }).wardRelease
  else s

/-- Table 12-2 on the channel's inputs and its partner's report. -/
def State.wardEval (s : State) (b : Bool) : State :=
  if s.isOn (wrdPolder b) then
    let d := s.demands b
    let tested := s.wis b F.WRD_A_STATUS_TESTED
    let partner := match (s.wch b).got with
      | some x => x.tested
      | none => false
    let st := s.wstate b
    let s :=
      if st = wStart && tested && partner && !d && s.pwr.phase != .stopping then s.wardGo b wArmed true
      else if (st = wArmed || st = wReleased) && d then s.wardGo b wDemand true
      else if st = wDemand && !d then s.wardGo b (if tested then wArmed else wStart) true
      else s
    s.wardAuto b
  else s

/-- Source 227: the start-up test is complete in both channels (R372). -/
def State.testedBoth (s : State) (b : Bool) : State :=
  if s.wis b F.WRD_A_STATUS_TESTED && s.isOn (wrdPolder (!b)) && s.wis (!b) F.WRD_A_STATUS_TESTED then s.raiseInt 227 else s

/-- R362: the guard as filtered: seen open, and the start-up test complete once it closes after that. -/
def State.wardGuard (s : State) (b : Bool) : State :=
  if s.wkey b F.WRD_CFG_GUARD_EN then
    match s.guardClosed b with
    | some false => (s.wput b F.WRD_A_STATUS_GUARD_CLOSED 0).wput b F.WRD_A_STATUS_SEEN_OPEN 1
    | some true =>
      let closes := !s.wis b F.WRD_A_STATUS_GUARD_CLOSED
      let s := s.wput b F.WRD_A_STATUS_GUARD_CLOSED 1
      if closes && s.wis b F.WRD_A_STATUS_SEEN_OPEN && !s.wis b F.WRD_A_STATUS_TESTED then
        (s.wput b F.WRD_A_STATUS_TESTED 1).testedBoth b
      else s
    | none => s
  else s.wflag b F.WRD_A_STATUS_GUARD_CLOSED (s.guardClosed b == some true)

/-- R362: a channel's start-up test begins anew on the levels it has: not complete while the guard is used, and an open guard
counts as seen open. -/
def State.wardRetest (s : State) (b : Bool) : State :=
  let use := s.wkey b F.WRD_CFG_GUARD_EN
  let s := s.wflag b F.WRD_A_STATUS_TESTED (!use)
  let s := s.wflag b F.WRD_A_STATUS_GUARD_CLOSED (s.guardClosed b == some true)
  let s := if use && s.guardClosed b == some false then s.wput b F.WRD_A_STATUS_SEEN_OPEN 1 else s
  s.testedBoth b

/-- The channel goes to LOCKOUT with a cause (R359, R364, R367). -/
def State.wardLock (s : State) (b : Bool) (cause : Fld) : State :=
  let s := s.wput b cause 1
  s.wardGo b wLockout false

/-- Cross-comparison runs: both channels on, and not stopping (R364). -/
def State.comparing (s : State) : Bool := s.isOn 14 && s.isOn 15 && s.pwr.phase != .stopping

/-- What a channel sends (R364). An input that is disabled is ignored (R357, R359): it is sent as one without a demand. -/
def State.wardExchange (s : State) (b : Bool) : WrdExchange where
  guard := !s.wkey b F.WRD_CFG_GUARD_EN || s.guardClosed b == some true
  discrepancy := s.contactDiff b
  estop := !s.wkey b F.WRD_CFG_ESTOP_EN || (s.wch b).estop == some true
  state := s.wstate b
  tested := s.wis b F.WRD_A_STATUS_TESTED
  enable := s.wis b F.WRD_A_STATUS_ENABLE
  safeOut := s.wis b F.WRD_A_STATUS_SAFE_OUT
  readback := s.wis b F.WRD_A_STATUS_READBACK
  pulseAge := (s.wch b).pulseAge
  checksum := s.wcfg b

/-- Two exchanges differ in guard state, emergency-stop state, channel state or pulse enable (CROSS). -/
def WrdExchange.differs (x y : WrdExchange) : Bool :=
  x.guard != y.guard || x.estop != y.estop || x.state != y.state || x.enable != y.enable

/-- R364: a discrepancy exists: CROSS, CONFIG or SILENT. -/
def WrdChan.discrepant (c : WrdChan) : Bool := c.cross || c.config || c.silent

/-- R364: the channel sends its exchange, every 1 ms on its own clock. WRD_DISC MS counts by Warden A's (assumption 51). -/
def State.wardSend (s : State) (b : Bool) : State :=
  let c := s.wch b
  let count := !b && c.disc && c.discrepant
  let s := s.setWch b { c with sent := some (s.wardExchange b), disc := c.discrepant, pulseAge := c.pulseAge.map (· + 10) }
  if count then s.put F.WRD_DISC_MS (satInc 8 (s.get F.WRD_DISC_MS)) else s

/-- R364: the partner's last exchange is received and compared with the channel's own last one. -/
def State.wardReceive (s : State) (b : Bool) (x : WrdExchange) : State :=
  let c := s.wch b
  let s := s.wput b F.WRD_A_STATUS_PARTNER_OK 1
  let cross := match c.sent with
    | some y => x.differs y
    | none => false
  let config := x.checksum != s.wcfg b
  let now := cross || config
  let s := s.setWch b { c with got := some x, cross := cross, config := config, silent := false, disc := c.disc && now }
  let s := if now && !c.cross && !c.config then s.raiseInt 229 else s
  let s := if b || now then s else s.put F.WRD_DISC_MS 0
  if x.state = wLockout && s.wstate b != wLockout then s.wardLock b F.WRD_A_STATUS_LOCK_CROSS
  else s.wardEval b

/-- Every cause of a lockout that either channel holds is absent in both (R366). -/
def State.causesAbsent (s : State) : Bool :=
  let held := fun (f : Fld) => s.wis false f || s.wis true f
  let both := fun (p : Bool → Bool) => p false && p true
  (!held F.WRD_A_STATUS_LOCK_CROSS || both (fun b => !(s.wch b).cross))
    && (!held F.WRD_A_STATUS_LOCK_CONTACT || both (fun b => !s.contactDiff b))
    && (!held F.WRD_A_STATUS_LOCK_CONFIG || s.wcfg false == s.wcfg true)
    && (!held F.WRD_A_STATUS_LOCK_SILENT || both (fun b => s.wis b F.WRD_A_STATUS_PARTNER_OK))
    && (!held F.WRD_A_STATUS_LOCK_READBACK || both (fun b => !s.wis b F.WRD_A_STATUS_READBACK))

/-- A channel leaves LOCKOUT (Table 12-2). One whose start-up test is not valid goes to START (DEDUCED, assumption 51). -/
def State.wardUnlock (s : State) (b : Bool) : State :=
  if s.wstate b = wLockout then
    let contact := s.wis b F.WRD_A_STATUS_LOCK_CONTACT
    let s := [F.WRD_A_STATUS_LOCK_CROSS, F.WRD_A_STATUS_LOCK_CONTACT, F.WRD_A_STATUS_LOCK_CONFIG,
      F.WRD_A_STATUS_LOCK_SILENT, F.WRD_A_STATUS_LOCK_READBACK].foldl (fun s f => s.wput b f 0) s
    let s := if contact then s.wput b F.WRD_A_STATUS_TESTED 0 else s
    s.wardGo b (if !s.wis b F.WRD_A_STATUS_TESTED then wStart else if s.demands b then wDemand else wArmed) true
  else s

/-- R366: the acknowledgement of sources 96 to 98. The exchanges on their way are those of the new states. A channel whose partner's
last exchange reports ARMED or RELEASED makes its release request at once (R363). -/
def State.wardAck (s : State) : State :=
  if s.causesAbsent && (s.wstate false == wLockout || s.wstate true == wLockout) then
    let left := [false, true].filter (fun b => s.wstate b == wLockout)
    let s := (s.wardUnlock false).wardUnlock true
    let fresh := fun (s : State) (b : Bool) =>
      s.setWch b { s.wch b with sent := (s.wch b).sent.map (fun _ => s.wardExchange b) }
    left.foldl State.wardAuto (fresh (fresh s false) true)
  else s

/-- The device enters STOPPING: both channels go to START (Table 12-2). -/
def State.wardenStop (s : State) : State :=
  [false, true].foldl (fun s b =>
    if s.isOn (wrdPolder b) && s.wstate b != wLockout then s.wardGo b wStart false else s) s

/-- Warden B takes its own copy of WRD_CFG (R373). -/
def State.copyWardB (s : State) : State := s.setWord R.WRD_CFG_B (s.cfgWord R.WRD_CFG)

/-- A Warden's polder starts: START, no filtered level; TESTED at once with GUARD_EN = 0 (R358, R362). -/
def State.wardInit (s : State) (b : Bool) : State :=
  let s := s.setWch b {}
  (if b then s.copyWardB else s).wardRetest b

/-- Warden B, on since before the configuration was loaded, takes its copy of WRD_CFG and is released for use (R80, Table 3-8). -/
def State.wardLoad (s : State) : State := if s.isOn 15 then s.copyWardB.wardRetest true else s

/-- R362, R373: a committed WRD_CFG is loaded into both copies at once; GUARD_EN from 0 to 1 clears TESTED and returns both
channels to START. -/
def State.wardCommitted (s : State) : State :=
  let new := s.cfgWord R.WRD_CFG
  let differs := fun (b : Bool) => s.isOn (wrdPolder b) && s.wcfg b != new
  let guardOn := bitsOf new F.WRD_CFG_GUARD_EN.lo 1 == 1 &&
    [false, true].any (fun b => s.isOn (wrdPolder b) && !s.wkey b F.WRD_CFG_GUARD_EN)
  if !differs false && !differs true then s
  else
    let s := s.applyKeys (· == R.WRD_CFG)
    let s := if s.isOn 15 then s.copyWardB else s
    [false, true].foldl (fun s b =>
      if s.isOn (wrdPolder b) then
        let s := if guardOn then
            let s := s.wardRetest b
            if s.wstate b = wLockout then s else s.wardGo b wStart false
          else s.wardGuard b
        s.wardEval b
      else s) s

end Sys2Proof.Machine
end

