-- ==== Sys2Proof/Machine/FaultOps.lean ====
section
/-! DEFINITION. The fault collector: error signals, events, classes, acknowledgement (11_faults_interrupts.md R327 to R339). -/
namespace Sys2Proof.Machine

/-! ## Classes and signals (Table 11-1) -/

/-- The class a field of Table 11-1 sets: 1 Seep, 2 Spill, 3 Overtop; otherwise no event. -/
def classField (v : Nat) : Option Nat := if 1 ≤ v ∧ v ≤ 3 then some (v - 1) else none

/-- Sources of blocks that only the station role uses (R17, R327). -/
def stationSource (n : Nat) : Bool := (decide (72 ≤ n) && decide (n ≤ 75)) || (decide (108 ≤ n) && decide (n ≤ 123))

/-- Reserved sources. -/
def reservedSource (n : Nat) : Bool :=
  (decide (7 ≤ n) && decide (n ≤ 15)) || (decide (24 ≤ n) && decide (n ≤ 31)) || (decide (67 ≤ n) && decide (n ≤ 71))
    || (decide (91 ≤ n) && decide (n ≤ 95)) || (decide (99 ≤ n) && decide (n ≤ 103)) || n == 107 || n == 111
    || decide (124 ≤ n)

/-- Sources of fixed class Seep, and of fixed class Overtop; the other fixed ones are Spill. -/
def seepSources : List Nat := [3, 16, 17, 66, 74, 75, 80, 105, 106, 108, 109, 110, 123]
def overtopSources : List Nat := [0, 6, 73, 89, 96, 97, 98]

/-- The base class of source `n` (0 Seep to 2 Overtop); none when it raises no event. -/
def State.baseClass (s : State) (n : Nat) : Option Nat :=
  if reservedSource n || (stationSource n && !s.isStation) then none
  else if 32 ≤ n ∧ n ≤ 63 then classField (s.cf (F.ADC_WINw_CONFIG_FCLASS (n - 32)))
  else if 76 ≤ n ∧ n ≤ 79 then classField (s.cf (F.MOD_TRIPt_CFG_FCLASS (n - 76)))
  else if 112 ≤ n ∧ n ≤ 119 then classField (s.cf (F.GSE_TRIPk_FCLASS (n - 112)))
  else if n = 82 then (if s.isCell then some 1 else if s.isPort then some 0 else none)
  else if seepSources.contains n then some 0
  else if overtopSources.contains n then some 2
  else some 1

/-- Either Warden channel, or one of them, holds a lockout of one of the causes. -/
def State.lockedBy (s : State) (b : Bool) (causes : List Fld) : Bool :=
  s.isOn (wrdPolder b) && s.wstate b == wLockout && causes.any (s.wis b)

/-- The named conditions of Table 11-1 but source 6: the error signals that are levels. -/
def State.conditions (s : State) : List (Nat × Bool) :=
  let disc := [F.WRD_A_STATUS_LOCK_CROSS, F.WRD_A_STATUS_LOCK_CONTACT, F.WRD_A_STATUS_LOCK_CONFIG, F.WRD_A_STATUS_LOCK_SILENT]
  let rings := [0, 1, 2, 3]
  [(1, s.dripLost), (2, s.clk.noLock), (3, s.is F.CLK_STATUS_HOLDOVER), (5, s.clk.holdLong),
   (19, rings.any (fun r => s.is (F.CUL_RINGr_STATE_UNPLANNED_WRAP r))),
   (22, rings.any (fun r => s.is (F.CUL_RINGr_STATE_DELAY_SHORT r))),
   (64, (List.range 32).any (fun w => s.is (F.ADC_WINw_STATUS_INVALID w))),
   (66, s.is F.ADC_CAL_STATUS_DRIFT), (75, s.is F.DPC_STATE_Q_SRC_LOST),
   (82, s.is F.MOD_STATUS_CMD_LOST), (83, s.lpe.loops.any (·.latched)),
   (88, s.is F.GDR_STATUS_CHOP_FAULT), (89, s.is F.GDR_STATUS_OV3_BLOCK),
   (96, s.lockedBy false disc || s.lockedBy true disc),
   (97, s.lockedBy false [F.WRD_A_STATUS_LOCK_READBACK]), (98, s.lockedBy true [F.WRD_A_STATUS_LOCK_READBACK]),
   (104, s.substituting), (109, s.svLost), (110, s.gooseLost), (120, s.echoFault), (121, s.twinUnmatched)]
  ++ [0, 1, 2, 3].map (fun t => (76 + t, natBit (s.get F.MOD_TRIP_STATUS_LATCHED) t))
  ++ [0, 1, 2, 3].map (fun n => (84 + n, s.hbHeld n))
  ++ (List.range 8).map (fun k => (112 + k, s.stm.trips.getLsbD k))

/-- The bits of a list of sources that are asserted. -/
def bitsOfSources (l : List (Nat × Bool)) : BitVec 128 := l.foldl (fun b p => if p.2 then b ||| (1#128 <<< p.1) else b) 0

/-- The error signals that are levels, a broken wire counting as asserted (R329). -/
def State.levelSignals (s : State) : BitVec 128 :=
  bitsOfSources ((6, s.flt.wire != 0) :: s.conditions) ||| s.flt.wire

/-! ## Events (R330 to R334) -/

/-- `s` with effective class `c` of source `n`. -/
def State.setClass (s : State) (n c : Nat) : State :=
  let l := s.flt.level &&& ~~~(3#256 <<< (2 * n)) ||| (BitVec.ofNat 256 c <<< (2 * n))
  s.withFlt { s.flt with level := l }

/-- R331: some sticky source has effective class `b`. -/
def State.stickyAt (s : State) (b : Nat) : Bool := (List.range 128).any (fun n => s.flt.sticky.getLsbD n && s.effClass n == b)

/-- R330, R331: an event of source `n`. -/
def State.faultEvent (s : State) (n : Nat) : State :=
  match s.baseClass n with
  | none => s
  | some b =>
    let up := s.stickyAt b
    let c := if up then min 3 (b + 1) else b
    let e := if s.flt.sticky.getLsbD n then max c (s.effClass n) else c
    let inj := s.flt.injected.getLsbD n
    let s := s.setClass n e
    let f : FaultSt := { s.flt with sticky := s.flt.sticky ||| (1#128 <<< n) }
    let f : FaultSt := { f with events := f.events.set c (satInc 16 (f.events.getD c 0)) }
    let f : FaultSt := if up then { f with escalated := f.escalated.set c (satInc 16 (f.escalated.getD c 0)) } else f
    let s := (s.withFlt f).raiseInt (160 + c)
    let s := if up then s.raiseInt 165 else s
    let s := s.offer 0 ⟨0, c, up, inj, n⟩
    let s : State := if c = 3 then s.withPwr { s.pwr with breach := true } else s
    let s : State := if c = 3 && s.isOn 10 then s.modDisable else s
    s.galFault c

/-- R328, R332: the collector samples every error signal; transitions are events, in ascending order. -/
def State.collect (s : State) : State :=
  if s.isOn 1 then
    let live := s.levelSignals
    let now := live ||| s.flt.pulses
    let f := s.flt
    let shown := if f.wiring then f.latched ||| now else live
    let new := now &&& ~~~(if f.wiring then f.latched else f.prev)
    let w : FaultSt := { f with prev := live, pulses := 0, latched := if f.wiring then shown else 0 }
    let s := (List.range 128).foldl (fun s n => if new.getLsbD n then s.faultEvent n else s) (s.withFlt w)
    (s.withFlt { s.flt with injected := 0 }).galDone
  else s

/-- FLT_ACTIVE: the error signals as the blocks present them between steps. -/
def State.activeSignals (s : State) : BitVec 128 := if s.flt.wiring then s.flt.latched else s.flt.prev

/-- The class FLT_LEVEL shows for source `n`. -/
def State.shownClass (s : State) (n : Nat) : Nat :=
  if s.flt.sticky.getLsbD n then s.effClass n else (s.baseClass n).getD 0

/-! ## Acknowledgement (R335) -/

/-- The action of source `n` (R335 step 2). -/
def State.ackAction (s : State) (n : Nat) : State :=
  if 76 ≤ n ∧ n ≤ 79 then (s.tripRelease (n - 76)).1
  else match n with
  | 83 => (List.range 32).foldl State.feRelease s
  | 88 => s.chopClear
  | 89 => s.ov3Release.1
  | 81 => if !s.isStation && s.cfIs F.MOD_CONFIG_MOD_EN_AT_START then s.writeEn true else s
  | 96 => s.wardAck
  | 97 => s.wardAck
  | 98 => s.wardAck
  | _ => s

/-- R335: source `n` is acknowledged. -/
def State.ackSource (s : State) (n : Nat) : State :=
  if s.flt.sticky.getLsbD n && s.effClass n == 3 then s
  else
    let s := s.ackAction n
    if s.levelSignals.getLsbD n || !s.flt.sticky.getLsbD n then s
    else
      let c := s.effClass n
      let bit := ~~~(1#128 <<< n)
      let w : FaultSt := { s.flt with sticky := s.flt.sticky &&& bit, latched := s.flt.latched &&& bit }
      ((s.withFlt w).setClass n 0).offer 1 ⟨1, c, false, false, n⟩

/-- The 16 bytes of a set of sources. -/
def sourceBytes (b : BitVec 128) : List Byte := leBytes 16 b.toNat

/-! ## After each step -/

/-- R447: the copied commands of the internal mailboxes are answered over the twin link. -/
def State.answerPartner (s : State) : State :=
  copyMailboxes.foldl (fun s n => if (s.mb n).ready then (s.twinSay 2 (s.mb n).rsp n).setMb n {} else s) s

/-- The core clock is over: later raises are ordered among themselves (R349). -/
def State.endClock (s : State) : State := s.withStr { s.str with now := 0 }

/-- What follows a command at once: fault events, the lines, answers to the partner. -/
def State.settle (s : State) : State := s.collect.answerPartner.aliveFollow.endClock

end Sys2Proof.Machine
end

