-- ==== Sys2Proof/Machine/HostPort.lean ====
section
/-! DEFINITION. Host access to the registers: what a read returns, its side effects, what a committed write does, snapshots and
staged writes (04_host_reeve.md R110 to R119). -/
namespace Sys2Proof.Machine

/-! ## What a register reads as -/

/-- The register is there for a host: its role, its polder, and polder 1 (R17, R110). -/
def State.hostHas (s : State) (r : RegRow) : Bool := inRole r.roles s.role && s.isOn r.polder && s.isOn 1

/-- `a` as the `i`-th of `n` words from `base` on. -/
def wordIn (a base n : Nat) : Option Nat := if base ≤ a ∧ a < base + 4 * n then some ((a - base) / 4) else none

/-- Word `k` of a long bit vector. -/
def wordOf {n : Nat} (b : BitVec n) (k : Nat) : Word := b.extractLsb' (32 * k) 32

/-- PWR_STATE STATE (Table 3-11). -/
def Phase.code : Phase → Nat
  | .crest => 0
  | .starting => 1
  | .service => 2
  | .ready => 3
  | .stopping => 4

/-- Registers of blocks 1 and 2, and of the network, that show what is held elsewhere. -/
def State.liveWord (s : State) (now : Straps) (a : Nat) : Option Word :=
  let n := fun (v : Nat) => some (BitVec.ofNat 32 v)
  if a = R.HST_ROLE then some (s.roleWord now)
  else if a = R.HST_REVISION then some (Config.revision &&& 0xFFFF00FF#32)
  else if a = R.PWR_POLDER_STATE then n s.pwr.on.toNat
  else if a = R.PWR_STATE then some (setBits (s.word a) F.PWR_STATE_STATE.lo F.PWR_STATE_STATE.w s.pwr.phase.code)
  else if a = R.RVE_STAGED then n s.rve.staged.length
  else if a = R.RVE_RESOURCE then n s.held.toNat
  else if a / 65536 = 12 then s.vaultWord a
  else if a = R.TIM_NOW then n s.nowNs
  else if a = R.SPR_WEAR then n s.wearScore
  else if a = R.GSE_TRIP_STATUS then n s.stm.trips.toNat
  else if a = R.NET_RX_STATUS then
    some ((s.word a &&& fieldMask F.NET_RX_STATUS_OVERRUN.lo F.NET_RX_STATUS_OVERRUN.w)
      ||| BitVec.ofNat 32 (s.net.head * 2 ^ F.NET_RX_STATUS_HEAD.lo + s.net.count * 2 ^ F.NET_RX_STATUS_COUNT.lo))
  else if a = R.NET_Pp_CORR 0 then n (if s.cfIs F.NET_CONFIG_P0_IF then 204 * 65536 + 284 else 232 * 65536 + 308)
  else if a = R.NET_Pp_CORR 1 then n (if s.cfIs F.NET_CONFIG_P1_IF then 204 * 65536 + 284 else 232 * 65536 + 308)
  else none

/-- Registers of the FLT_, INT_ and STR_ blocks that show what is held elsewhere. -/
def State.liveFault (s : State) (a : Nat) : Option Word :=
  let n := fun (v : Nat) => some (BitVec.ofNat 32 v)
  if a = R.FLT_SUMMARY then some s.fltSummary
  else if a = R.INT_STATUS then
    n (s.int.sleep.toNat * 16 + [0, 1, 2, 3].foldl (fun m t => if s.int.irq t then m + 2 ^ t else m) 0)
  else if a = R.STR_COUNT then n (s.str.overrun * 65536 + s.str.log.length)
  else if a = R.STR_DROP then n s.str.drop
  else if a = R.STR_DATA_LO then some ((s.str.log.headD 0).extractLsb' 0 32)
  else if a = R.STR_DATA_HI then some ((s.str.log.headD 0).extractLsb' 32 32)
  else match wordIn a (R.FLT_STICKYk 0) 4, wordIn a (R.FLT_ACTIVEk 0) 4, wordIn a (R.FLT_WIREk 0) 4, wordIn a (R.FLT_LEVELj 0) 8 with
  | some k, _, _, _ => some (wordOf s.flt.sticky k)
  | _, some k, _, _ => some (wordOf s.activeSignals k)
  | _, _, some k, _ => some (wordOf s.flt.wire k)
  | _, _, _, some j => n ((List.range 16).foldl (fun m i => m + s.shownClass (16 * j + i) * 4 ^ i) 0)
  | _, _, _, _ =>
    match wordIn a (R.FLT_COUNTc 0) 4, wordIn a (R.INT_PENDk 0) 8, wordIn a (R.INT_ENk 0) 8, wordIn a (R.INT_TGTj 0) 16,
        wordIn a (R.INT_FBt 0) 4 with
    | some c, _, _, _, _ => n (s.flt.escalated.getD c 0 * 65536 + s.flt.events.getD c 0)
    | _, some k, _, _, _ => some (wordOf s.int.pend k)
    | _, _, some k, _, _ => some (wordOf s.int.en k)
    | _, _, _, some j, _ => some (wordOf s.int.tgt j)
    | _, _, _, _, some t => n (b2n (s.int.fallback t).1 * 16 + (s.int.fallback t).2)
    | _, _, _, _, _ => none

/-- A word of transmit slot `j` (Table 14-2). -/
def State.txWord (s : State) (j o : Nat) : Word :=
  let x := s.net.tx.getD j {}
  if o = 0 then x.ctrl
  else if o = 8 then BitVec.ofNat 32 (x.stamps.getD 0 0)
  else if o = 12 then BitVec.ofNat 32 (x.stamps.getD 1 0)
  else if o = 16 then BitVec.ofNat 32 (x.fracs.getD 1 0 % 256 * 256 + x.fracs.getD 0 0 % 256)
  else (SMap.find x.mem o).getD 0

/-- A word of receive slot `i` (Table 14-2); FULL while it is one of the filled slots. -/
def State.rxWord (s : State) (i o : Nat) : Word :=
  match s.net.rx.getD i none with
  | none => 0
  | some x =>
    let full := decide ((i + 8 - s.net.head) % 8 < s.net.count)
    BitVec.ofNat 32 (
      if o = 0 then b2n full * 2 ^ 31 + x.port * 2 ^ 12 + x.bytes.length % 2 ^ 11
      else if o = 4 then x.stamp
      else if o = 8 then x.frac % 256
      else if o = 12 then 0
      else leAt x.bytes (o - 16) 4)

/-- A register's word: keys as committed, those the role does not have at reset (R251), the rest as held. -/
def State.plainWord (s : State) (r : RegRow) (a : Nat) : Word :=
  (s.cfgWord a &&& r.maskOf (·.keyOf s.role)) ||| (r.reset &&& r.maskOf (fun f => f.acc == .cfg && !f.keyOf s.role))
    ||| (s.word a &&& ~~~r.cfgMask &&& r.maskOf (fun f => f.acc != .wo))

/-- The device with its MOD_ registers as at the stop of their clocks (R278). -/
def State.asStopped (s : State) (a : Nat) : State :=
  if s.mod.frozen && a / 65536 == 7 then { s with regs := s.mod.stopRegs, cfg := s.mod.stopCfg } else s

/-- What a host reads at byte address `a` (a multiple of 4); a free value settles an open race (R345, R346, R348). -/
def State.hostWord (s : State) (now : Straps) (a : Nat) : Word × State :=
  if a ≥ 0x800000 then
    (if s.isOn 1 && s.isOn 9 then
      BitVec.ofNat 32 (leNat (Memory.getAll s.gal.mem (s.get F.GAL_PAGE_PAGE * 0x800000 + a - 0x800000) 4)) else 0, s)
  else if 0xD1000 ≤ a ∧ a < 0xD7000 then
    (if s.isOn 1 && s.isOn 7 && s.isStation then
      (if a < 0xD3000 then s.txWord ((a - 0xD1000) / 0x800) (a % 0x800) else s.rxWord ((a - 0xD3000) / 0x800) (a % 0x800))
     else 0, s)
  else match findReg a with
  | none => (0, s)
  | some r =>
    if !s.hostHas r then (0, s)
    else match wordIn a (R.INT_WINNERt 0) 4 with
    | some t => let w := s.readWinner t; (BitVec.ofNat 32 w.1, w.2)
    | none =>
      match s.liveWord now a, (if a / 65536 = 3 then s.liveFault a else none) with
      | some w, _ => (w, s)
      | _, some w => (w, s)
      | _, _ => ((s.asStopped a).plainWord r a, s)

/-! ## Side effects of a read (R8, R114, R115) -/

/-- An RC field of a register after a read that returned `ret`. -/
def State.rcField (s : State) (a : Nat) (ret : Word) (f : FieldRow) : State :=
  let now := bitsOf (s.word a) f.lo f.w
  let got := bitsOf ret f.lo f.w
  s.put ⟨a, f.lo, f.w⟩ (now - got)

/-- R114, R115, R352, R471: the side effects of a read that returned the word `ret`. A result register whose result is newer than the
one read never gets here: `State.newResult` has taken the side effects from its capture. -/
def State.readWordEffect (s : State) (a : Nat) (ret : Word) : State :=
  match findReg a with
  | none => s
  | some r =>
    if !s.hostHas r || (s.mod.frozen && a / 65536 == 7) then s
    else
      let lo := ret.toNat % 65536
      let hi := ret.toNat / 65536
      match wordIn a (R.FLT_COUNTc 0) 4, wordIn a (R.ADC_RESn_k 0 0) 64, wordIn a (R.GAL_PROFp_COUNTS 0) 64 with
      | some c, _, _ =>
        let w : FaultSt := { s.flt with events := s.flt.events.set c (s.flt.events.getD c 0 - lo) }
        s.withFlt { w with escalated := w.escalated.set c (w.escalated.getD c 0 - hi) }
      | _, some _, _ =>
        if ret.getLsbD 31 then s.put ⟨a, 31, 1⟩ 0 else s
      | _, _, arm =>
        if a = R.STR_COUNT then
          let s := if hi = 0 then s.armInt 166 else s
          s.withStr { s.str with overrun := s.str.overrun - hi }
        else if a = R.STR_DROP then
          let s := if lo = 0 then s.armInt 167 else s
          s.withStr { s.str with drop := s.str.drop - lo }
        else
          let s := if a = R.MOD_DROP && lo = 0 then s.armInt 69 else s
          let s := if a = R.MOD_CELL_COUNTS && bitsOf ret F.MOD_CELL_COUNTS_DEFERRED.lo 16 = 0 then s.armInt 70 else s
          let s := if a = R.NET_RED_COUNTS && ret = 0 then s.armInt 130 else s
          let s := if arm.isSome && (a - R.GAL_PROFp_COUNTS 0) % 64 = 0 && lo = 0 then s.armInt 180 else s
          (r.fields.filter (fun f => f.acc == .rc)).foldl (fun s f => s.rcField a ret f) s

/-- The side effects of a read of the item at `b` that returned the words `ws`. -/
def State.readEffects (s : State) (b : Nat) (ws : List Word) : State :=
  if b = R.STR_DATA_LO then
    match s.str.log, ws with
    | e :: l, [x, y] =>
      if s.isOn 1 && e.extractLsb' 0 32 == x && e.extractLsb' 32 32 == y then s.withStr { s.str with log := l } else s
    | _, _ => s
  else (List.range ws.length).foldl (fun s i => s.readWordEffect (b + 4 * i) (ws.getD i 0)) s

/-! ## What a committed write does -/

/-- R344: a host commit to INT_PENDk. -/
def State.writePend (s : State) (k : Nat) (v : Word) : State :=
  let m := 0xFFFFFFFF#256 <<< (32 * k)
  s.withInt { s.int with pend := s.int.pend &&& ~~~m ||| (v.setWidth 256 <<< (32 * k)) }

/-- R345: a host commit to INT_ENk. -/
def State.writeEnables (s : State) (k : Nat) (v : Word) : State :=
  let m := 0xFFFFFFFF#256 <<< (32 * k)
  let new : IntSt := { s.int with en := s.int.en &&& ~~~m ||| (v.setWidth 256 <<< (32 * k)) }
  s.withInt (s.int.raceFrom new false)

/-- R346: a host commit to INT_TGTj. -/
def State.writeTargets (s : State) (j : Nat) (v : Word) : State :=
  let m := 0xFFFFFFFF#512 <<< (32 * j)
  let new : IntSt := { s.int with tgt := s.int.tgt &&& ~~~m ||| (v.setWidth 512 <<< (32 * j)) }
  s.withInt (s.int.raceFrom new false)

/-- R348: a host commit to INT_FBt. -/
def State.writeFallback (s : State) (t : Nat) (v : Word) : State :=
  s.withInt { s.int with fb := s.int.fb.set t (v.getLsbD 4, (v.extractLsb' 0 2).toNat) }

/-- R349: STR_MARK is written. -/
def State.hostMark (s : State) (v : Nat) : State := s.offer 3 ⟨3, 0, false, false, v % 65536⟩

/-- R8: RW fields take the value, W1C bits written as 1 are cleared. -/
def State.plainWrite (s : State) (r : RegRow) (a : Nat) (v : Word) : State :=
  let rw := r.accMask .rw
  let w := ((s.word a &&& ~~~rw) ||| (v &&& rw)) &&& ~~~(v &&& r.accMask .w1c)
  s.setWord a w

/-- R192: converters of a mask start. -/
def State.hostStart (s : State) (mask : Nat) : State :=
  if s.isOn 12 then ([0, 1, 2, 3].filter (natBit mask)).foldl (fun s n => s.adcStart n 0 false) s else s

/-- R417: the host's values of the publisher's members that `a` holds have been written: a member that changed makes a new state. -/
def State.hostMembers (s : State) (a : Nat) : State :=
  match (List.range 16).find? (fun g => decide (R.GSE_PUBg_HVm g 0 ≤ a) && decide (a < R.GSE_PUBg_HVm g 16)) with
  | some g => if s.gseChanged g then s.gseNew g else s
  | none => s

/-- What a committed word `v` does at the register `a`, whoever wrote it. -/
def State.hostEffect (s : State) (a : Nat) (v : Word) : State :=
  match findReg a with
  | none => s
  | some r =>
    if a = R.ADC_START then s.hostStart v.toNat
    else if a = R.DPC_CTRL then s.writeRun (v.getLsbD 0)
    else if a = R.MOD_CTRL then s.writeEn (v.getLsbD 0)
    else if a = R.MOD_TRIP_CLEAR then s.tripClears v.toNat
    else if a = R.LPE_FE_CLEAR then s.feClear v.toNat
    else if a = R.STR_MARK then s.hostMark v.toNat
    else if a = R.WRD_CTRL then s.wardCtrl (v.getLsbD F.WRD_CTRL_RELEASE.lo) (v.getLsbD F.WRD_CTRL_BLOCK.lo)
    else if a = R.NET_RX_POP then (if v.getLsbD 0 then s.rxPop else s)
    else if a = R.TIM_CTRL then
      let s := s.plainWrite r a v
      let s := s.flag F.TIM_STATUS_SERVO_ACTIVE (s.isStation && s.is F.TIM_CTRL_SERVO_EN)
      if v.getLsbD F.TIM_CTRL_SERVO_RESET.lo then s.servoReset else s
    else if a = R.TIM_SECOND then s.writeSecond v.toNat
    else if a = R.TIM_STEP then s.timeStep v.toInt
    else if a = R.TIM_OFFSET then s.servo v.toInt
    else if a = R.GSE_PUB_FORCE then s.gseForce v.toNat
    else if a = R.GAL_TRIG then s.galHost v.toNat
    else if a = R.GAL_FREE then s.galFree (v.toNat % 65536)
    else if a = R.CLK_STATUS then
      let s := s.plainWrite r a v
      if s.is F.CLK_STATUS_ON_SAFE then s.put F.CLK_STATUS_TIMEBASE_DEGRADED 1 else s
    else
      match wordIn a (R.INT_PENDk 0) 8, wordIn a (R.INT_ENk 0) 8, wordIn a (R.INT_TGTj 0) 16, wordIn a (R.INT_FBt 0) 4 with
      | some k, _, _, _ => s.writePend k v
      | _, some k, _, _ => s.writeEnables k v
      | _, _, some j, _ => s.writeTargets j v
      | _, _, _, some t => s.writeFallback t v
      | _, _, _, _ => s.plainWrite r a v |>.hostMembers a

/-- A word of transmit slot `j` is written; stamps are the device's. -/
def State.writeTx (s : State) (j o : Nat) (v : Word) : State :=
  if o = 0 then s.txControl j v
  else if o = 8 || o = 12 || o = 16 then s
  else
    let x := s.net.tx.getD j {}
    s.withNet { s.net with tx := s.net.tx.set j { x with mem := SMap.set x.mem o v } }

/-- The mailbox a port may fill and ring (R124). -/
def Port.mailbox : Port → Nat
  | .bus => 0
  | .spi => 1

/-- R125: the doorbell of mailbox `n` is written from port `p`. -/
def State.doorbell (s : State) (p : Port) (n : Nat) (v : Word) : State :=
  if v.getLsbD 0 && n == p.mailbox then s.ring n id else s

/-- A host commits the word `v` to the address `a` from port `p`: what a host may not write is ignored (R8, R9, R124, R278,
R444). -/
def State.hostCommit (s : State) (p : Port) (a : Nat) (v : Word) : State :=
  if 0xD1000 ≤ a ∧ a < 0xD3000 then
    (if s.isOn 1 && s.isOn 7 && s.isStation then s.writeTx ((a - 0xD1000) / 0x800) (a % 0x800) v else s)
  else match findReg a with
  | none => s
  | some r =>
    if !s.hostHas r then s
    else if a / 65536 = 2 && a < R.RVE_HOST_SECONDS then
      let n := (a - R.RVE_Mn_REQk 0 0) / 256
      let o := a % 256
      if o = 0x80 then s.doorbell p n v
      else if o < 0x40 then (if n = p.mailbox then s.plainWrite r a v else s)
      else s.plainWrite r a v
    else if a / 65536 = 7 && s.mod.frozen then s
    else if a / 65536 = 6 || a / 65536 = 8 then s.twinWrite a v (fun s => s.hostEffect a v)
    else s.hostEffect a v

/-! ## Items, snapshots, staged writes (R111 to R113) -/

/-- The item that holds the word at `a`: its address and its number of words. -/
def itemAt (a : Nat) : Nat × Nat :=
  match findReg a with
  | some r => if r.words = 0 then (a - 4, 2) else (a, r.words)
  | none => (a, 1)

/-- The kind of event an access of the port is. -/
def Port.kind : Port → Spaced
  | .bus => .bus
  | .spi => .spi

/-- Bits of an access unit, and units per word. -/
def Port.unit : Port → Nat
  | .bus => 16
  | .spi => 32
def Port.per : Port → Nat
  | .bus => 2
  | .spi => 1

def State.portSt (s : State) (p : Port) : PortSt := match p with | .bus => s.bus | .spi => s.spiPort
def State.setPort (s : State) (p : Port) (x : PortSt) : State :=
  match p with
  | .bus => s.withBus x
  | .spi => s.withSpiPort x

/-- Unit `u` of an item's words. -/
def unitOf (p : Port) (ws : List Word) (u : Nat) : Nat :=
  (ws.getD (u / p.per) 0).toNat / 2 ^ (p.unit * (u % p.per)) % 2 ^ p.unit

/-- The words of an item. -/
def State.itemWords (s : State) (now : Straps) (b : Nat) : Nat → List Word × State
  | 0 => ([], s)
  | n + 1 =>
    let x := s.hostWord now b
    let r := x.2.itemWords now (b + 4) n
    (x.1 :: r.1, r.2)

/-- What a read of a unit captures: item, words, the value returned, whether side effects apply. -/
structure Captured where
  base : Nat
  words : List Word
  value : Nat
  effect : Bool
  deriving DecidableEq, Repr

/-- R112: a read at byte address `a`; its side effects follow apart. Staged units of the port are discarded (R113). -/
def State.capture (s : State) (p : Port) (now : Straps) (a : Nat) : Captured × State :=
  let i := itemAt (a - a % 4)
  let u := (a - i.1) / (p.unit / 8)
  let fresh : Unit → Captured × State := fun _ =>
    let r := s.itemWords now i.1 i.2
    (⟨i.1, r.1, unitOf p r.1 u, true⟩, r.2.setPort p { snap := some (i.1, r.1, u + 1) })
  match (s.portSt p).snap with
  | some (b, ws, next) =>
    if b = i.1 && u ≠ 0 && decide (next ≤ u) then
      (⟨b, ws, unitOf p ws u, false⟩, s.setPort p { snap := some (b, ws, u + 1) })
    else fresh ()
  | none => fresh ()

/-- The side effects of a captured read. -/
def State.finish (s : State) (c : Captured) : State := if c.effect then s.readEffects c.base c.words else s

/-- A read with its side effects. -/
def State.portRead (s : State) (p : Port) (now : Straps) (a : Nat) : Nat × State :=
  let r := s.capture p now a
  (r.1.value, r.2.finish r.1)

/-- R113: units not staged of a word that is committed: RW fields keep their value, others take 0. -/
def State.fillWord (s : State) (a : Nat) : Word :=
  if 0xD1000 ≤ a ∧ a < 0xD3000 then (s.hostWord s.pwr.straps a).1
  else match findReg a with
  | some r => (s.hostWord s.pwr.straps a).1 &&& r.accMask .rw
  | none => 0

/-- Word `j` of the item at `b` put together from staged units. -/
def State.stagedWord (s : State) (p : Port) (b j : Nat) (us : List (Nat × Nat)) : Word :=
  let f := (s.fillWord (b + 4 * j)).toNat
  BitVec.ofNat 32 ((List.range p.per).foldl (fun v k =>
    let u := p.per * j + k
    let d := match us.find? (fun x => x.1 == u) with
      | some x => x.2 % 2 ^ p.unit
      | none => f / 2 ^ (p.unit * k) % 2 ^ p.unit
    v + d * 2 ^ (p.unit * k)) 0)

/-- An item is committed as a whole. -/
def State.commitItem (s : State) (p : Port) (b : Nat) (ws : List Word) : State :=
  let s := s.setPort p {}
  (List.range ws.length).foldl (fun s j => s.hostCommit p (b + 4 * j) (ws.getD j 0)) s

/-- R113: a write of a unit at byte address `a`. -/
def State.portWrite (s : State) (p : Port) (a v : Nat) : State :=
  let i := itemAt (a - a % 4)
  let u := (a - i.1) / (p.unit / 8)
  let old := match (s.portSt p).wbuf with
    | some (b, us) => if b = i.1 then us.filter (fun x => x.1 != u) else []
    | none => []
  let us := (u, v) :: old
  if u + 1 < p.per * i.2 then s.setPort p { wbuf := some (i.1, us) }
  else s.commitItem p i.1 ((List.range i.2).map (fun j => s.stagedWord p i.1 j us))

end Sys2Proof.Machine
end

