-- ==== Sys2Proof/Machine/KeyOps.lean ====
section
/-! DEFINITION. Configuration keys: the entries of CONFIG_WRITE, the range, cross-key and state rules, the staged set
(04_host_reeve.md R120 to R122, R470; R24, R25, R28, R154, R178, R185, R187, R194, R201, R250, R281, R302, R326, R373, R392,
R422, R438, R439, R468). -/
namespace Sys2Proof.Machine

/-- An entry of CONFIG_WRITE. -/
structure KeyEntry where
  addr : Nat
  mask : Word
  value : Word
  deriving DecidableEq, Repr

/-- Entry `i` of a request. -/
def MbSt.entry (m : MbSt) (i : Nat) : KeyEntry :=
  ⟨m.arg (12 * i) 4, BitVec.ofNat 32 (m.arg (12 * i + 4) 4), BitVec.ofNat 32 (m.arg (12 * i + 8) 4)⟩

/-- The address lies in a block whose polder the role does not use (R17, Table 4-1): the network and streams in cell and port
roles. -/
def State.foreignBlock (s : State) (a : Nat) : Bool :=
  !s.isStation && ((decide (0xD0000 ≤ a) && decide (a < 0xD8000)) || a / 65536 == 14)

/-- ADC_NTCm_T8 holds the last, even breakpoint alone (R203). -/
def noOdd (a : Nat) : Bool := decide (0x53424 ≤ a) && decide (a ≤ 0x534E4) && (a - 0x53424) % 64 == 0

/-- The CFG fields of register `r` at `a` that the role has. -/
def RegRow.keysOf (r : RegRow) (role : Role) (a : Nat) : List FieldRow :=
  r.fields.filter (fun f => f.keyOf role && !(noOdd a && f.lo == 16))

/-- A value of a key lies in its range. -/
def FieldRow.inRange (f : FieldRow) (v : Nat) : Bool := decide (f.min ≤ v ∧ v ≤ f.max) || (f.zeroOk && v == 0)

/-- R121: the keys of an entry with their values; the status when it is refused. A register without a key of the role is no CFG
register of it, a mask over a key the role lacks is not made of whole keys (R251, R281, R468). -/
def State.entryKeys (s : State) (e : KeyEntry) : Except Status (List (Fld × Nat)) :=
  if s.foreignBlock e.addr then .error .notInRole
  else if e.addr % 4 != 0 || !isCfgReg s.role e.addr then .error .badArg
  else match findReg e.addr with
  | none => .error .badArg
  | some r =>
    let ks := (r.keysOf s.role e.addr).filter (fun f => fieldMask f.lo f.w &&& e.mask != 0)
    let whole := ks.foldl (fun m f => m ||| fieldMask f.lo f.w) (0#32)
    if e.mask = 0 || whole != e.mask || e.value &&& ~~~e.mask != 0 then .error .badArg
    else if ks.all (fun f => f.inRange (bitsOf e.value f.lo f.w)) then
      .ok (ks.map (fun f => (⟨e.addr, f.lo, f.w⟩, bitsOf e.value f.lo f.w)))
    else .error .badArg

/-- The keys of a whole request, in order; the first refused entry decides (DEDUCED, assumption 70). -/
def State.requestKeys (s : State) : List KeyEntry → Except Status (List (Fld × Nat))
  | [] => .ok []
  | e :: es =>
    match s.entryKeys e with
    | .error x => .error x
    | .ok ks =>
      match s.requestKeys es with
      | .error x => .error x
      | .ok l => .ok (ks ++ l)

/-! ## The rules (R121) -/

/-- What the rules look at: the configuration with the staged set and the request in it, and the keys the request writes. -/
structure KeyView where
  cfg : List (Nat × Word)
  keys : List (Fld × Nat)

/-- Value of a key under the view, unsigned and signed; whether the request writes one of some keys. -/
def KeyView.get (v : KeyView) (f : Fld) : Nat := bitsOf (genWord v.cfg f.addr) f.lo f.w
def KeyView.sgn (v : KeyView) (f : Fld) : Int := toSigned f.w (v.get f)
def KeyView.on (v : KeyView) (f : Fld) : Bool := v.get f != 0
def KeyView.has (v : KeyView) (f : Fld) : Bool := v.keys.any (fun k => k.1 == f)
def KeyView.touches (v : KeyView) (fs : List Fld) : Bool := fs.any v.has
/-- The request writes a key of the register at `a`. -/
def KeyView.reg (v : KeyView) (a : Nat) : Bool := v.keys.any (fun k => k.1.addr == a)

/-- A rule: the request concerns it, the view breaks it. -/
abbrev KeyRule := Bool × Bool

/-- Place, device ID and pool (R24, R25, R28). -/
def State.placeRules (s : State) (v : KeyView) (staged : List StagedKey) : List KeyRule :=
  let ring := v.get F.HST_PLACE_RING
  let slot := v.get F.HST_PLACE_SLOT
  let id := v.get F.HST_DEVICE_ID_DEVICE_ID
  let b := v.get F.HST_ID_POOL_BASE_BASE
  let l := v.get F.HST_ID_POOL_LIMIT_LIMIT
  let n := v.get F.HST_ID_POOL_NEXT_NEXT
  let pool := [F.HST_ID_POOL_BASE_BASE, F.HST_ID_POOL_LIMIT_LIMIT]
  let next := v.has F.HST_ID_POOL_NEXT_NEXT || staged.any (fun k => k.addr == R.HST_ID_POOL_NEXT)
  [(v.has F.HST_PLACE_RING && (s.isCell || s.isPort), if s.isCell then decide (ring > 2) else ring != 3),
   (v.has F.HST_PLACE_SLOT && (s.isCell || s.isPort), slot == 0 || decide (slot > if s.isCell then 48 else 96)),
   (v.has F.HST_DEVICE_ID_DEVICE_ID, id == 0 || id == 0x3FFFF),
   (v.touches pool, !((b == 0 && l == 0) || decide (1 ≤ b ∧ b ≤ l ∧ l ≤ 0x3FFFE))),
   (v.touches (F.HST_ID_POOL_NEXT_NEXT :: pool) && next, !decide (b ≤ n ∧ n ≤ l + 1))]

/-- C + P × S + 32 of ring `r` (R154). -/
def KeyView.ringBytes (v : KeyView) (r : Nat) : Nat :=
  let p := v.get (F.CUL_RINGr_FORMAT_POSITIONS r)
  (if v.on (F.CUL_RINGr_FORMAT_CMD_WIDTH r) then p else (p + 1) / 2) + p * (if v.on (F.CUL_RINGr_FORMAT_REC_SIZE r) then 8 else 4) + 32

/-- Frame formats (R154). -/
def ringRules (v : KeyView) : List KeyRule :=
  [0, 1, 2, 3].map (fun r =>
    (v.touches [F.CUL_RINGr_FORMAT_POSITIONS r, F.CUL_RINGr_FORMAT_REC_SIZE r, F.CUL_RINGr_FORMAT_CMD_WIDTH r],
     decide (v.ringBytes r > 472) || (decide (r < 3) && decide (v.get (F.CUL_RINGr_FORMAT_POSITIONS r) > 48))))

/-- Shortest sampling time of a gain code (Table 6-2). -/
def minTs (gain : Nat) : Nat := [3, 3, 4, 6, 10].getD gain 0

/-- Converters and comparators (R187, R194, R201). -/
def State.adcRules (s : State) (v : KeyView) : List KeyRule :=
  ([0, 1, 2, 3].flatMap (fun n => (List.range 16).map (fun k =>
    (v.touches [F.ADC_SEQn_ENTRYk_TS n k, F.ADC_SEQn_ENTRYk_GAIN n k],
     decide (v.get (F.ADC_SEQn_ENTRYk_TS n k) < minTs (v.get (F.ADC_SEQn_ENTRYk_GAIN n k)))))))
  ++ [0, 1, 2, 3].map (fun n => (v.has (F.ADC_SEQn_CTRL_SOURCE n), v.get (F.ADC_SEQn_CTRL_SOURCE n) == 2 && !s.isStation))
  ++ (List.range 32).flatMap (fun w =>
    let lo := v.sgn (F.ADC_WINw_LIMITS_LOW w)
    let hi := v.sgn (F.ADC_WINw_LIMITS_HIGH w)
    let limits := v.reg (R.ADC_WINw_LIMITS w)
    [(limits, !decide (lo < hi)),
     (limits || v.has (F.ADC_WINw_CONFIG_HYST w), decide (2 * (v.get (F.ADC_WINw_CONFIG_HYST w) : Int) > hi - lo)),
     (limits || v.reg (R.ADC_WINw_VALID w) || v.has (F.ADC_WINw_CONFIG_SENSOR w),
      v.on (F.ADC_WINw_CONFIG_SENSOR w)
        && !(decide (v.sgn (F.ADC_WINw_VALID_VLOW w) < lo) && decide (v.sgn (F.ADC_WINw_VALID_VHIGH w) > hi)))])

/-- 2 per unit in Q8.24. -/
def twoPu : Int := 2 * 2 ^ 24

/-- Admit bits above POSITIONS; -2 ≤ P_MIN ≤ 0 ≤ P_MAX ≤ 2 pu (R250, Table 7-6). -/
def gridRules (v : KeyView) : List KeyRule :=
  [(v.reg R.DPC_PMAX, !decide (0 ≤ v.sgn F.DPC_PMAX_VALUE ∧ v.sgn F.DPC_PMAX_VALUE ≤ twoPu)),
   (v.reg R.DPC_PMIN, !decide (-twoPu ≤ v.sgn F.DPC_PMIN_VALUE ∧ v.sgn F.DPC_PMIN_VALUE ≤ 0))]
  ++ [0, 1, 2].map (fun x =>
    let m := v.get (F.SEL_ADMITx_LO_ADMIT x) + v.get (F.SEL_ADMITx_HI_ADMIT x) * 2 ^ 32
    (v.touches [F.SEL_ADMITx_LO_ADMIT x, F.SEL_ADMITx_HI_ADMIT x, F.CUL_RINGr_FORMAT_POSITIONS x],
     decide (m ≥ 2 ^ v.get (F.CUL_RINGr_FORMAT_POSITIONS x))))

/-- Half-bridges a DAB bridge uses (R312). -/
def State.dabHbs (s : State) (v : KeyView) : List Nat :=
  if s.isCell then [2, 3] else if s.isPort && !v.on F.MOD_CONFIG_MOD_PORT_MODE then [0, 1, 2, 3] else []

/-- Modulation (R263, R281, R312). -/
def State.modRules (s : State) (v : KeyView) : List KeyRule :=
  let hb := [0, 1, 2, 3]
  let dead := fun n => v.get (F.MOD_HBn_TIMING_DEAD n)
  let minp := fun n => v.get (F.MOD_HBn_TIMING_MINP n)
  let bs := v.get F.GDR_CHAN_CFG_BS_EN
  [(v.touches [F.MOD_AFE_CFG_MOD_AFE_DWELL, F.MOD_HBn_TIMING_DEAD 0, F.MOD_HBn_TIMING_MINP 0, F.MOD_HBn_TIMING_DEAD 1,
      F.MOD_HBn_TIMING_MINP 1] && s.isCell,
    [0, 1].any (fun n => decide ((dead n + minp n) * 5 > v.get F.MOD_AFE_CFG_MOD_AFE_DWELL * 32000))),
   (v.touches [F.GDR_BS_GDR_BSMAX, F.GDR_CHAN_CFG_BS_EN, F.MOD_CARRIER_MOD_CARRIER_FREQ, F.MOD_DAB_CFG_MOD_DAB_STEP,
      F.MOD_CONFIG_MOD_PORT_MODE],
    (s.dabHbs v).any (natBit bs) && decide (8 * v.get F.GDR_BS_GDR_BSMAX * v.get F.MOD_CARRIER_MOD_CARRIER_FREQ * 65536
      < 10000000 * (32768 + v.get F.MOD_DAB_CFG_MOD_DAB_STEP)))]
  ++ hb.map (fun t => (v.has (F.MOD_TRIPt_CFG_SAFE_GD8 t), v.get (F.MOD_TRIPt_CFG_SAFE_GD8 t) == 2))

/-- Gate drive and bus (R316, R326). -/
def State.gdrRules (s : State) (v : KeyView) : List KeyRule :=
  let hb := [0, 1, 2, 3]
  let ks := [1, 2, 3]
  let en := fun k => v.on (F.GDR_OVk_CFG_EN k)
  let th := fun k => v.get (F.GDR_OVk_CFG_THRESH k)
  let chop := v.get F.GDR_CHOP_CFG_CHOP_HB
  let ref := v.get F.GDR_CHAN_CFG_REFRESH_EN
  let dead := fun n => v.get (F.MOD_HBn_TIMING_DEAD n)
  let minp := fun n => v.get (F.MOD_HBn_TIMING_MINP n)
  let r := v.get F.GDR_BS_GDR_BSREFRESH
  [(v.reg (R.GDR_OVk_CFG 1) || v.reg (R.GDR_OVk_CFG 2) || v.reg (R.GDR_OVk_CFG 3),
    ks.any (fun j => ks.any (fun k => decide (j < k) && en j && en k && decide (th j ≥ th k)))
      || ks.any (fun k => en k && decide (v.get (F.GDR_OVk_CFG_HYST k) ≥ th k))),
   (v.has F.GDR_CHOP_CFG_CHOP_HB, chop != 0 && !s.isStation),
   (v.touches [F.GDR_CHOP_CFG_CHOP_HB, F.GDR_CHAN_CFG_BS_EN, F.GDR_CHAN_CFG_REFRESH_EN],
    hb.any (fun n => natBit chop n && (natBit (v.get F.GDR_CHAN_CFG_BS_EN) n || natBit ref n))),
   (v.touches ([F.GDR_BS_GDR_BSREFRESH, F.GDR_BS_GDR_BSMAX, F.GDR_CHAN_CFG_REFRESH_EN]
      ++ hb.flatMap (fun n => [F.MOD_HBn_TIMING_DEAD n, F.MOD_HBn_TIMING_MINP n])),
    hb.any (fun n => natBit ref n && (decide (r * 32 < minp n * 5)
      || decide ((2 * dead n + minp n) * 5 + r * 32 > 3200 * v.get F.GDR_BS_GDR_BSMAX)))),
   (v.touches [F.GDR_CHOP_CFG_MIN_ON, F.MOD_GD8_TIMING_MINP],
    decide (v.get F.GDR_CHOP_CFG_MIN_ON * 32000 < v.get F.MOD_GD8_TIMING_MINP * 5))]

/-- R283: a source code is defined and there in the role. -/
def State.sourceOk (s : State) (c : Nat) : Bool :=
  let x := c % 64
  match c / 64 with
  | 0 => x == 0
  | 1 => true
  | 2 => decide (x < 32)
  | 3 => decide (x < 8)
  | 4 => decide (x < 16)
  | 5 => if s.isStation then decide (x ≤ 3) else if s.isCell then x == 4 || x == 5 else decide (6 ≤ x ∧ x ≤ 8)
  | _ => false

/-- The loop engine (R283, R293, R302). -/
def State.lpeRules (s : State) (v : KeyView) : List KeyRule :=
  let loops := List.range 32
  let div := fun n => v.get (F.LPE_LOOPn_CFG_DIV n)
  let ph := fun n => v.get (F.LPE_LOOPn_CFG_PHASE n)
  let inG := fun n g => v.on (F.LPE_LOOPn_CFG_GROUP_EN n) && v.get (F.LPE_LOOPn_CFG_GROUP n) == g
  let src := fun f => (v.has f, !s.sourceOk (v.get f))
  loops.flatMap (fun n =>
    [(v.has (F.LPE_LOOPn_CFG_OV2_CLAMP n), v.get (F.LPE_LOOPn_CFG_OV2_CLAMP n) == 3),
     (v.touches [F.LPE_LOOPn_CFG_DIV n, F.LPE_LOOPn_CFG_PHASE n], decide (ph n ≥ div n)),
     (v.reg (R.LPE_LOOPn_IMIN n) || v.reg (R.LPE_LOOPn_IMAX n),
      decide (v.sgn (F.LPE_LOOPn_IMIN_VALUE n) > v.sgn (F.LPE_LOOPn_IMAX_VALUE n))),
     (v.reg (R.LPE_LOOPn_OMIN n) || v.reg (R.LPE_LOOPn_OMAX n),
      decide (v.sgn (F.LPE_LOOPn_OMIN_VALUE n) > v.sgn (F.LPE_LOOPn_OMAX_VALUE n))),
     src (F.LPE_LOOPn_SRC_REF n), src (F.LPE_LOOPn_SRC_FB n), src (F.LPE_LOOPn_SRC_FF n)])
  ++ (List.range 8).flatMap (fun g =>
    let ms := loops.filter (fun n => inG n g)
    [(loops.any (fun n => v.touches [F.LPE_LOOPn_CFG_GROUP_EN n, F.LPE_LOOPn_CFG_GROUP n, F.LPE_LOOPn_CFG_DIV n, F.LPE_LOOPn_CFG_PHASE n]),
      ms.any (fun n => ms.any (fun k => div n != div k || ph n != ph k))),
     (v.reg (R.LPE_GENg_GMIN g) || v.reg (R.LPE_GENg_GMAX g),
      decide (v.sgn (F.LPE_GENg_GMIN_VALUE g) > v.sgn (F.LPE_GENg_GMAX_VALUE g))),
     src (F.LPE_GENg_CFG_SRC g)])

/-- Temperature and Vault (R378, R392). -/
def State.thmRules (s : State) (v : KeyView) : List KeyRule :=
  let ks := [1, 2, 3, 4]
  let en := fun k => v.on (F.THM_STEPk_EN k)
  [(ks.any (fun k => v.reg (R.THM_STEPk k)),
    ks.any (fun j => ks.any (fun k => decide (j < k) && en j && en k &&
      (decide (v.sgn (F.THM_STEPk_TEMP j) ≥ v.sgn (F.THM_STEPk_TEMP k))
        || decide (v.get (F.THM_STEPk_LIMIT j) < v.get (F.THM_STEPk_LIMIT k)))))),
   (v.reg R.VLT_KEEP, decide (v.get F.VLT_KEEP_VLT_JOURNAL_KEEP > s.vlt.next))]

/-- R411: an enabled publisher takes its channels from converters on its own grid. -/
def pubRule (v : KeyView) (p : Nat) : KeyRule :=
  let chans := List.range (v.get (F.SV_PUBp_CFG_NCH p))
  let conv := fun c => v.get (F.SV_PUBp_CHc_CONV p c)
  let rate := svRate (v.on (F.SV_PUBp_CFG_RATE p))
  (v.touches ([F.SV_PUBp_CFG_EN p, F.SV_PUBp_CFG_RATE p, F.SV_PUBp_CFG_NCH p]
      ++ (List.range 16).map (F.SV_PUBp_CHc_CONV p)
      ++ [0, 1, 2, 3].flatMap (fun n => [F.ADC_SEQn_CTRL_SOURCE n, F.ADC_SEQn_GRID_RATE n])),
   v.on (F.SV_PUBp_CFG_EN p) && chans.any (fun c => v.get (F.ADC_SEQn_CTRL_SOURCE (conv c)) != 2
     || v.get (F.ADC_SEQn_GRID_RATE (conv c)) != rate))

/-- A member of a GOOSE publisher names no reserved type, source or code (R416, R422). -/
def State.memberRule (s : State) (v : KeyView) (g m : Nat) : KeyRule :=
  let t := v.get (F.GSE_PUBg_MEMm_TYPE g m)
  let c := v.get (F.GSE_PUBg_MEMm_CODE g m)
  (v.reg (R.GSE_PUBg_MEMm g m),
   match v.get (F.GSE_PUBg_MEMm_SRC g m) with
   | 0 => false
   | 1 => t != 0 || decide (c > 18)
   | 2 => t != 2 || !s.sourceOk c
   | _ => true)

/-- Type of member `m` of GOOSE subscription `i`. -/
def KeyView.subType (v : KeyView) (i m : Nat) : Nat := v.get (F.GSE_SUBs_TYPES_VALUE i) / 4 ^ m % 4

/-- A text in the `n` registers from `a` on holds at least one byte, is ended by 0 within them, and is ASCII if `ascii` (Table 14-7:
the range of svID, gocbRef, datSet and goID). -/
def textRule (v : KeyView) (ascii : Bool) (a n : Nat) : KeyRule :=
  let t := (List.range n).flatMap (fun i => leBytes 4 (v.get ⟨a + 4 * i, 0, 32⟩))
  ((List.range n).any (fun i => v.reg (a + 4 * i)),
   t.headD 0 == 0 || !t.contains 0 || (ascii && (t.takeWhile (· != 0)).any (fun b => b.getLsbD 7)))

/-- The station network (R422). -/
def State.netRules (s : State) (v : KeyView) : List KeyRule :=
  (List.range 8).flatMap (fun p =>
    [pubRule v p, textRule v true (R.SV_PUBp_IDi p 0) 9,
     (v.touches [F.SV_PUBp_CFG_RATE p, F.SV_PUBp_CFG_NOASDU p],
      svRate (v.on (F.SV_PUBp_CFG_RATE p)) % v.get (F.SV_PUBp_CFG_NOASDU p) != 0)])
  ++ (List.range 16).flatMap (fun i =>
    let n := v.get (F.SV_SUBs_CFG_NCH i)
    [textRule v true (R.SV_SUBs_IDi i 0) 9,
     (v.touches [F.SV_SUBs_CFG_EN i, F.SV_SUBs_CFG_NCH i], v.on (F.SV_SUBs_CFG_EN i) && n == 0),
     (v.reg (R.SV_SUBs_MAP i) || (v.has (F.SV_SUBs_CFG_NCH i) && n != 0),
      [F.SV_SUBs_MAP_VA i, F.SV_SUBs_MAP_VB i, F.SV_SUBs_MAP_VC i].any (fun f => decide (v.get f ≥ n)))])
  ++ (List.range 16).flatMap (fun g =>
    (v.touches [F.GSE_PUBg_CFG_EN g, F.GSE_PUBg_CFG_NMEM g], v.on (F.GSE_PUBg_CFG_EN g) && v.get (F.GSE_PUBg_CFG_NMEM g) == 0)
      :: textRule v false (R.GSE_PUBg_REFi g 0) 16 :: textRule v false (R.GSE_PUBg_DSETi g 0) 16
      :: textRule v false (R.GSE_PUBg_GOIDi g 0) 16 :: (List.range 16).map (s.memberRule v g))
  ++ (List.range 64).map (fun i => (v.touches [F.GSE_SUBs_CFG_NMEM i, F.GSE_SUBs_CFG_AMEM i],
      decide (v.get (F.GSE_SUBs_CFG_AMEM i) ≥ v.get (F.GSE_SUBs_CFG_NMEM i))))
  ++ (List.range 8).map (fun k =>
    let i := v.get (F.GSE_TRIPk_SUB k)
    (v.reg (R.GSE_TRIPk k) || (v.has (F.GSE_SUBs_TYPES_VALUE i) && v.on (F.GSE_TRIPk_EN k)),
     v.subType i (v.get (F.GSE_TRIPk_MEM k)) != 0))

/-- A profile's region: first and last block (R425). -/
def KeyView.region (v : KeyView) (p : Nat) : Nat × Nat :=
  let b := v.get (F.GAL_PROFp_REGION_BASE p)
  (b, b + v.get (F.GAL_PROFp_REGION_SIZE p))

/-- The keys of profile `p` (R438). -/
def KeyView.profile (v : KeyView) (p : Nat) : Bool :=
  v.keys.any (fun k => decide (0xF0100 + 0x40 * p ≤ k.1.addr) && decide (k.1.addr < 0xF0140 + 0x40 * p))

/-- The Gallery (R425, R428, R438). -/
def State.galRules (s : State) (v : KeyView) : List KeyRule :=
  let ps := [0, 1, 2, 3]
  let en := fun p => v.on (F.GAL_PROFp_CFG_EN p)
  let mask := fun p => v.get (F.GAL_PROFp_CHMASK_VALUE p)
  let type := fun c => v.get (F.GAL_CHc_TYPE c)
  ps.flatMap (fun p =>
    let b := 4 * ((List.range 32).filter (natBit (mask p))).length
    let n := (v.get (F.GAL_PROFp_PRE_PRE p) + v.get (F.GAL_PROFp_POST_POST p)) * b
    let r := v.region p
    [(v.profile p, decide (r.2 > 256) || decide ((r.2 - r.1) * 65536 < n) || (en p && mask p == 0)
        || v.get (F.GAL_PROFp_CFG_HOLD_MODE p) == 3),
     (ps.any v.profile, ps.any (fun q => q != p && en p && en q && decide (r.1 < (v.region q).2) && decide ((v.region q).1 < r.2)))]
    ++ [0, 1].map (fun i =>
      let ch := v.get (F.GAL_PROFp_CONDi_CH p i)
      (v.profile p || v.has (F.GAL_CHc_TYPE ch),
       v.on (F.GAL_PROFp_CONDi_EN p i) && (!natBit (mask p) ch || (!v.on (F.GAL_PROFp_CONDi_KIND p i) && type ch == 4)
         || v.get (F.GAL_PROFp_CONDi_DIR p i) == 0)))
    ++ [0, 1].map (fun i => (v.has (F.GAL_PROFp_CONDi_DIR p i), v.get (F.GAL_PROFp_CONDi_DIR p i) == 0)))
  ++ (List.range 32).map (fun c =>
    let x := v.get (F.GAL_CHc_CODE c)
    (v.reg (R.GAL_CHc c), match type c with
      | 0 => false
      | 1 => decide (x ≥ 64)
      | 2 => !s.sourceOk x
      | 3 => s.isStation && (v.get (F.GAL_CHc_SLOT c) == 0 || decide (v.get (F.GAL_CHc_SLOT c) > 96))
      | 4 => decide (x > 7)
      | _ => true))

/-- Spares and twins (R439, R468). -/
def State.spareRules (s : State) (v : KeyView) : List KeyRule :=
  [(v.touches [F.TWN_CFG_EN, F.CUL_CONFIG_CUL_INPUT_DELAY],
    s.isStation && v.on F.TWN_CFG_EN && decide (v.get F.CUL_CONFIG_CUL_INPUT_DELAY > 32))]

/-- The rules whose breach is BAD_ARG. -/
def State.argRules (s : State) (v : KeyView) (staged : List StagedKey) : List KeyRule :=
  s.placeRules v staged ++ ringRules v ++ s.adcRules v ++ gridRules v ++ s.modRules v ++ s.gdrRules v ++ s.lpeRules v
    ++ s.thmRules v ++ s.netRules v ++ s.galRules v ++ s.spareRules v

/-- The newest frame of each direction received on a ring in the last tide: since the boundary before the present tide's. -/
def State.lastRecs (s : State) (r : Nat) : List RecFrame :=
  let near := fun (x : RecFrame) => decide ((s.get F.CUL_TIDE_TIDE + 2 ^ 32 - x.at_) % 2 ^ 32 ≤ 1)
  ((s.cul.recs.find? (fun x => x.ring == r && x.dir == 0)).toList
    ++ (s.cul.recs.find? (fun x => x.ring == r && x.dir == 1)).toList).filter near

/-- A record received on ring `r` in the last tide carries OUT_OFF = 0 (R172, R185). -/
def State.ringDriving (s : State) (r : Nat) : Bool :=
  (s.lastRecs r).any (fun x => (List.range (s.positions r)).any (fun i =>
    let b := bytesAt x.records (i * s.recSize r) (s.recSize r)
    b != emptyRecord (s.recSize r) && !natBit (leAt b 2 1) 7))

/-- R185: a frame format may not change while what it serves drives. -/
def State.formatBusy (s : State) (r : Nat) : Bool := if s.isStation then s.ringDriving r else !s.bridgesOff

/-- The rules on the state of the device, whose breach is REFUSED_STATE (R178, R185, R250, R373, R438, R439). -/
def State.stateRules (s : State) (v : KeyView) : List KeyRule :=
  let differs := fun a => v.reg a && genWord v.cfg a != s.cfgWord a
  let runs := s.isStation && s.isOn 10
  [0, 1, 2, 3].map (fun r => (differs (R.CUL_RINGr_FORMAT r), s.formatBusy r))
  ++ [(v.touches [F.CUL_CONFIG_CUL_APPLY_DELAY, F.CUL_CONFIG_CUL_INPUT_DELAY], runs && (s.ctl == 1 || s.ctl == 2)),
      ([R.OBS_BASE, R.OBS_ISRC, R.OBS_TRK_SRC, R.DPC_CONFIG].any v.reg
        || [0, 1, 2].any (fun x => v.reg (R.SEL_ADMITx_LO x) || v.reg (R.SEL_ADMITx_HI x)), runs && s.ctl != 0),
      (v.reg R.WRD_CFG, (s.isOn 14 && s.wstate false == wReleased) || (s.isOn 15 && s.wstate true == wReleased)),
      (v.has F.TWN_CFG_EN, runs && s.ctl != 0)]
  ++ [0, 1, 2, 3].map (fun p => (v.profile p, (s.gp p).state != 0))
  ++ (List.range 32).map (fun c => (v.reg (R.GAL_CHc c),
      [0, 1, 2, 3].any (fun p => natBit (s.cfgOf (F.GAL_PROFp_CHMASK_VALUE p)) c && (s.gp p).state != 0)))

/-- Some rule that the request concerns is broken. -/
def broken (l : List KeyRule) : Bool := l.any (fun r => r.1 && r.2)

/-! ## The staged set (R122) -/

/-- A key joins the staged set; one staged already is replaced. -/
def stageKey (l : List StagedKey) (k : StagedKey) : List StagedKey :=
  if l.any (fun x => x.addr == k.addr && x.lo == k.lo) then l.map (fun x => if x.addr = k.addr ∧ x.lo = k.lo then k else x)
  else l ++ [k]

/-- R121, R122: the keys of a request from mailbox `n`, over the staged set or with DISCARD over none: the new staged set, or
the status. -/
def State.stageRequest (s : State) (n : Nat) (discard : Bool) (keys : List (Fld × Nat)) : Except Status (List StagedKey) :=
  let o := s.originOf n
  let old := if discard then [] else s.rve.staged
  let new := (keys.map (fun k => (⟨k.1.addr, k.1.lo, k.1.w, k.2, o.1, o.2.1, o.2.2⟩ : StagedKey))).foldl stageKey old
  let v : KeyView := ⟨new.foldl putKey s.cfg, keys⟩
  if broken (s.argRules v new) then .error .badArg
  else if broken (s.stateRules v) then .error .refusedState
  else if new.length > 128 then .error .refusedState
  else .ok new

/-- R470: what CONFIG_READ returns for the register at `a`. -/
def State.configRead (s : State) (a flags : Nat) : Except Status (List Byte) :=
  if s.foreignBlock a then .error .notInRole
  else if a % 4 != 0 || !isCfgReg s.role a || flags = 3 then .error .badArg
  else
    let mine := s.rve.staged.filter (fun k => k.addr == a)
    let w := if flags = 1 then genWord (mine.foldl putKey s.cfg) a
      else if flags = 2 then genWord s.vlt.previous a
      else s.cfgWord a
    .ok (leBytes 4 w.toNat ++ leBytes 4 (b2n (!mine.isEmpty)))

end Sys2Proof.Machine
end

