-- ==== Sys2Proof/Machine/Blocks.lean ====
section
/-! DEFINITION. What blocks do when their polder starts, when the configuration is loaded and when a commit is complete
(03_polders_clocks.md R78 to R80, R102; 04_host_reeve.md R123 and the chapters' rules on their keys). -/
namespace Sys2Proof.Machine

/-- R102, R205: once the polders of start-up are on and the measure resource is free, all four converters calibrate. Outside the
temperature window nothing starts (R207), and start-up goes on without it (DESIGN CHOICE, assumption 17). -/
def State.startCalibration (s : State) : State :=
  let up := (rolePolders s.role).all (fun p => p == 5 || p == 6 || s.isOn p)
  if s.pwr.calStarted && !s.pwr.calDone && up && s.isOn 12 && s.get F.ADC_CAL_STATUS_RUNNING == 0 && s.held &&& resMeasure == 0 then
    if s.calWindow then
      (((s.withRve { s.rve with autoHeld := s.rve.autoHeld ||| resMeasure }).withPwr { s.pwr with calRun := true })).calStart 15
    else s.withPwr { s.pwr with calDone := true }
  else s

/-- Directions of polder `p` that were asked for earlier wake now, a transmit direction only once the device transmits (R81,
R104). A lane request latch wakes its receive direction once, as it is set or as start-up begins with it: one still set from an
earlier event wakes nothing at a later start of the polder (R473 is silent; DESIGN CHOICE, assumption 18). -/
def State.portsInit (s : State) (p : Nat) : State :=
  ((List.range 10).filter (fun n => portPolder n == p)).foldl (fun s n =>
    let s := if s.pwr.laneTx.getLsbD n then s.askTx n else s
    if s.pwr.laneRx.getLsbD n then s.askRx n else s) s

/-- What the blocks of polder `p` do as it starts, its CFG registers loaded. -/
def State.polderInit (s : State) (p : Nat) : State :=
  let s := match p with
    | 1 =>
      let s := s.withFlt { s.flt with wiring := s.cfIs F.FLT_CONFIG_WIRING }
      let s := s.put F.CLK_STATUS_TIMEBASE_DEGRADED 1
      s.twinEnable.loadWear
    | 5 => s.portsInit 5
    | 6 => s.portsInit 6
    | 7 => s.armInt 130
    | 8 => (List.range 16).foldl State.gseNew s
    | 9 => s.armInt 180
    | 10 => ((((s.armInt 69).armInt 70).showFunction).tripKeys).loadSwitching
    | 11 => (List.range 16).foldl (fun s k => s.setWord (R.LPE_SETk k) (s.effWord (R.LPE_SETk_INIT k))) s
    | 12 => [0, 1, 2, 3].foldl (fun s n => s.setTrims n (s.storedTrims n)) s
    | 13 => s.drive
    | 14 => s.wardInit false
    | 15 => s.wardInit true
    | _ => s
  s.startCalibration

/-- R328: the error wiring as selected counts from the start of polder 1: a signal that was asserted since, and whose source is
not acknowledged, is latched already and is no second event. -/
def State.takeWiring (s : State) : State :=
  let f := s.flt
  let on := s.cfIs F.FLT_CONFIG_WIRING
  s.withFlt { f with wiring := on, latched := if on && !f.wiring then f.prev ||| f.sticky else f.latched }

/-- What the polders that are on already do as the configuration is loaded (Table 3-8). -/
def State.loadInit (s : State) : State :=
  let s := s.takeWiring
  s.wardLoad.loadWear.twinEnable

/-! ## A commit is complete (R123) -/

/-- Registers whose keys wait for a time of their own: Crest (R109), sequences (R193), stored trims (R212), grid control (R250),
modulation and gate drive (R255, R326), loops (R291), the Wardens' own copy (R373), SV publishers (R422). -/
def keyWaits (a : Nat) : Bool :=
  polderOf a == 0 || [0, 1, 2, 3].any (fun n => adcSeq n a) || (decide (0x53020 ≤ a) && decide (a < 0x53120) && a % 64 ≥ 32)
    || gridKey a || a / 65536 == 7 || a / 65536 == 9 || (a / 65536 == 8 && !(decide (0x80080 ≤ a) && decide (a < 0x800C0)))
    || a == R.WRD_CFG || svPubKey a

/-- The keys of a complete commit take effect, each at its time; `old` is the configuration before it. TWIN_SWAP_PERIOD counts from
the commit (R468). -/
def State.applyCommit (s : State) (old : List (Nat × Word)) : State :=
  let changed := fun (a : Nat) => genWord s.cfg a != genWord old a
  let s := s.applyKeys (fun a => !keyWaits a && s.isOn (polderOf a))
  let s := s.modCommitted.wardCommitted
  let s := s.lpeCommitted (genWord old)
  let s := s.netCommitted changed
  let s := if s.isOn 12 && (List.range 32).any (fun w => changed (R.ADC_WINw_CONFIG w)) then s.winKeys else s
  let s := if s.isOn 12 then [0, 1, 2, 3].foldl State.ntcRefresh s else s
  let s := if changed R.HST_PLACE then (if s.isOn 10 then s.unalign.drive else s.unalign) else s
  let s := if s.isStation && s.isOn 5 then
      [0, 1, 2, 3].foldl (fun s r => if changed (R.CUL_RINGr_SLEEP r) then s.showAsleep r else s) s
    else s
  let hours := fun (c : List (Nat × Word)) => bitsOf (genWord c F.TWN_CFG_TWIN_SWAP_PERIOD.addr) F.TWN_CFG_TWIN_SWAP_PERIOD.lo F.TWN_CFG_TWIN_SWAP_PERIOD.w
  let s := if s.twn.operating && hours s.cfg != hours old then s.restartHours else s
  s.twinEnable

/-- A commit is complete; in twin operation its keys wait for the partner's while the partner is there and matched. Where the
partner's commit has failed already, they do not (R447). -/
def State.committed (s : State) (old : List (Nat × Word)) : State :=
  if s.twn.operating && s.is F.TWN_STATUS_LINK_ECHO && s.is F.TWN_STATUS_MATCHED then
    let failed := [0, 1, 2].any (fun n => (s.mb n).copied && commits (s.mb n).code && (s.mb n).partner.any (· != 0))
    s.withTwn { s.twn with commitHeld := some (s.twn.commitHeld.getD old), alone := s.twn.alone || failed }
  else s.applyCommit old

end Sys2Proof.Machine
end

