-- ==== Sys2Proof/Machine/Power.lean ====
section
/-! DEFINITION. Power, wake, start-up and clock (03_polders_clocks.md R77 to R109, R472 to R474, R476; R54, R55). -/
namespace Sys2Proof.Machine

/-! ## Power and wake -/

/-- R54, R11: VCREST rises: the straps are latched, Crest takes its reset values, POWER_ON is recorded (the reset value of
PWR_WAKE_CAUSE) and start-up is requested. The Vault's flash and the lands outside keep what they hold; no gate is on (R55, R304). -/
def execVcrestRise (straps : Straps) (suppliesGood vio3 : Bool) (s : State) (vio : BitVec 2 := 0) : Ans :=
  if s.pwr.vcrest then .next s
  else .next { State.reset with
    vlt := s.vlt.nonVolatile,
    pwr := { State.reset.pwr with
      straps := straps, latch := some straps, suppliesGood := suppliesGood, vio3 := vio3, vio := vio,
      wakenLow := s.pwr.wakenLow, guardPin := s.pwr.guardPin, guardAccepted := s.pwr.guardPin },
    pins := { s.pins with gates := 0 },
    free := s.free,
    pending := s.pending }

/-- R54: VCREST falls: the role latch, the Breach flag and all Crest state are gone; a commit in progress is cut (R384). With the
polders off no gate is on (R55, R304). -/
def execVcrestFall (s : State) : Ans :=
  if s.pwr.vcrest then
    let s := s.cutCommit
    .next { State.reset with
      vlt := s.vlt.nonVolatile,
      pwr := { State.reset.pwr with
        vcrest := false, latch := none, straps := s.pwr.straps, suppliesGood := s.pwr.suppliesGood, vio3 := s.pwr.vio3, vio := s.pwr.vio,
        startCause := false, on := 0, wakenLow := s.pwr.wakenLow, guardPin := s.pwr.guardPin },
      pins := { s.pins with gates := 0 },
      free := s.free,
      pending := s.pending }
  else .next s

/-- R53, R472: the VIO banks that have their supply from now on. When VIO3 becomes present, each guard land's present level
(`guards`) is its accepted level. -/
def State.setBanks (s : State) (vio3 : Bool) (vio : BitVec 2) (guards : BitVec 4) : State :=
  let s := s.withPwr { s.pwr with guardPin := if vio3 && !s.pwr.vio3 then guards else s.pwr.guardPin,
                                  guardAccepted := if vio3 && !s.pwr.vio3 then guards else s.pwr.guardAccepted }
  s.withPwr { s.pwr with vio3 := vio3, vio := vio }

/-- R55: the channel dies turn all nine gates off, whether polder 13 runs or not; all polders except Crest go off and the device
returns to standby with SUPPLY_LOST recorded (if it was not there already). `vio3` and `vio` say which VIO banks have their supply
then (R53). Where `monitored` is false, no monitored supply has fallen, and only the banks change (R52). -/
def execSupplyLost (s : State) (vio3 : Bool := false) (vio : BitVec 2 := 0) (monitored : Bool := true) (guards : BitVec 4 := 0) : Ans :=
  let s := s.setBanks vio3 vio guards
  if !monitored then .next s else
  let s := s.withPwr { s.pwr with suppliesGood := false }
  let s := s.withPins { s.pins with gates := 0 }
  if s.pwr.vcrest && s.pwr.phase != .crest then .next ((s.cutCommit.put F.PWR_WAKE_CAUSE_SUPPLY_LOST 1).toCrest) else .next s

/-- R85: the last monitored supply becomes good; in Crest standby this is a start cause. `vio3` and `vio` say which VIO banks have
their supply then (R53). While the monitored supplies are good, or where none of them returns (`monitored` false), only the banks
change (R52). -/
def execSupplyReturn (s : State) (vio3 : Bool := false) (vio : BitVec 2 := 0) (monitored : Bool := true) (guards : BitVec 4 := 0) : Ans :=
  let good := s.pwr.suppliesGood
  let s := s.setBanks vio3 vio guards
  if good || !monitored then .next s
  else
    let s := s.withPwr { s.pwr with suppliesGood := true }
    if s.pwr.vcrest && s.pwr.phase == .crest then
      let s := s.put F.PWR_WAKE_CAUSE_SUPPLY_RETURN 1
      .next (s.withPwr { s.pwr with startCause := true })
    else .next s

/-- A wake source is armed (Table 3-2). -/
def State.armed (s : State) : WakeSource → Bool
  | .waken => true
  | .drip => s.cfIs F.PWR_WAKE_EN_ALARM_EN && s.is F.PWR_STATE_DRIP_OK
  | .guard => s.cfIs F.PWR_WAKE_EN_GUARD_EN && s.pwr.vio3
  | .lane n => natBit (s.cf F.PWR_WAKE_EN_LANE_EN) n && decide (n < 10)

/-- The request latch of a source is set and its event recorded in PWR_WAKE_CAUSE (R84, R86). A lane latch of an awake
device starts its Culvert polder (R81, R473). -/
def State.wake (s : State) (w : WakeSource) : State :=
  match w with
  | .waken => (s.withPwr { s.pwr with reqWaken := true }).put F.PWR_WAKE_CAUSE_WAKEN 1
  | .drip => (s.withPwr { s.pwr with reqDrip := true }).put F.PWR_WAKE_CAUSE_DRIP_ALARM 1
  | .guard => (s.withPwr { s.pwr with reqGuard := true }).put F.PWR_WAKE_CAUSE_GUARD 1
  | .lane n =>
    let s := s.withPwr { s.pwr with reqLane := s.pwr.reqLane ||| (1#10 <<< n) }
    let s := s.put F.PWR_WAKE_CAUSE_LANE (s.get F.PWR_WAKE_CAUSE_LANE ||| 2 ^ n)
    if s.awake then ((s.laneHeard n).askRx n).demand [portPolder n] else s

/-- A wake event of a source, acted on while the source is armed. -/
def State.wakeEvent (s : State) (w : WakeSource) : State :=
  if s.pwr.vcrest && s.armed w then s.wake w else s

/-- R84: WAKEn goes low; `held` says that it stays low. -/
def execWakenLow (held : Bool) (s : State) : Ans :=
  .next ((s.withPwr { s.pwr with wakenLow := held }).wakeEvent .waken).settle

/-- R84: activity on an armed receive lane after silence. -/
def execLaneWakeLatch (port : Nat) (s : State) : Ans := .next (s.wakeEvent (.lane port)).settle

/-- R84: the drip counter reaches the alarm value, which sets the latch of an armed alarm. How many drip cycles have passed since
the command before is the event's (assumption 80). -/
def execDripAlarm (s : State) : Ans :=
  if s.pwr.vcrest && s.armed .drip then
    .next ((s.setWord R.PWR_DRIP_COUNT (s.word R.PWR_DRIP_ALARM)).wakeEvent .drip).settle
  else .next s

/-- R472: a guard land (0 to 3: A1, A2, B1, B2) reads a new level on two successive drip edges. -/
def execGuardChangeAccepted (land : Nat) (level : Bool) (s : State) : Ans :=
  if s.pwr.vcrest && s.pwr.vio3 && decide (land < 4) && s.pwr.guardAccepted.getLsbD land != level then
    let put := fun (v : BitVec 4) => if level then v ||| (1#4 <<< land) else v &&& ~~~(1#4 <<< land)
    let s := s.withPwr { s.pwr with guardPin := put s.pwr.guardPin, guardAccepted := put s.pwr.guardAccepted }
    .next (s.wakeEvent .guard).settle
  else .next s

/-- R472: VIO3 becomes present: each guard land's present level is its accepted level. -/
def execVio3BecomesPresent (guards : BitVec 4) (s : State) : Ans :=
  .next (s.withPwr { s.pwr with vio3 := true, guardPin := guards, guardAccepted := guards })

/-- R473: an armed wake event while the device is STARTING, SERVICE or READY. -/
def execWakeDuringAwake (source : WakeSource) (s : State) : Ans :=
  if s.awake then .next (s.wakeEvent source).settle else .next s

/-- R83, R472: 64 consecutive drip cycles have been seen. Where the drip clock has started with them (it did not run before), each
guard land's present level (`guards`) is its accepted level, with VIO3 present. -/
def execDripOkSet (s : State) (guards : BitVec 4 := 0) : Ans :=
  if s.pwr.vcrest then
    let s := if s.pwr.vio3 && !s.pwr.dripRuns then
        s.withPwr { s.pwr with guardPin := guards, guardAccepted := guards } else s
    let s := s.withPwr { s.pwr with dripRuns := true }
    .next (((s.put F.PWR_STATE_DRIP_OK 1).withDripLost false).settle)
  else .next s

/-- R83: no drip edge for 100 µs after DRIP_OK was set while polder 1 is on, or DRIP_OK unset 2 s after VCREST rose: DRIP_OK
clears and source 1 stays asserted until DRIP_OK is next set. -/
def execDripClockLost (s : State) : Ans :=
  if s.pwr.vcrest && (s.isOn 1 || !s.is F.PWR_STATE_DRIP_OK) then
    .next ((((s.withPwr { s.pwr with dripRuns := false }).put F.PWR_STATE_DRIP_OK 0).withDripLost true).settle)
  else .next s

/-- R337: an edge of the drip divider toggles ALIVE, or resumes it. -/
def execAliveDividerEdge (s : State) : Ans :=
  let s := s.spaced .alive
  if s.aliveMayRun then
    if s.flt.aliveRun then .next (s.withFlt { s.flt with alive := !s.flt.alive })
    else .next (s.withFlt { s.flt with aliveRun := true, alive := true })
  else .next (s.withFlt { s.flt with aliveRun := false, alive := false })

/-! ## Start-up -/

/-- A start cause or a wake request is latched. -/
def State.requested (s : State) : Bool :=
  s.pwr.startCause || s.pwr.reqWaken || s.pwr.reqDrip || s.pwr.reqGuard || s.pwr.reqLane != 0

/-- R102: start-up begins; with the reserved strap code nothing starts (R12). -/
def execStartUp (s : State) : Ans :=
  if s.pwr.vcrest && s.pwr.suppliesGood && s.requested && s.pwr.phase == .crest && s.role != .none then
    .next (s.withPwr { s.pwr with
      phase := .starting, startCause := false, blocked := false, queue := [[4], [1, 3], [2, 15]], starting := [],
      laneRx := s.pwr.laneRx ||| s.pwr.reqLane,
      thermalDone := false, configDone := false, calStarted := false, calRun := false, calDone := false }).startNext
  else .next s

/-- The stored bands may be tried (R92). -/
def State.bandEligible (s : State) : Bool :=
  s.is F.CLK_BAND_VALID &&
  decide ((s.dieTemp - s.getS F.CLK_BAND_BAND_TEMP).natAbs ≤ 16 * s.cf F.CLK_CONFIG_CLK_BAND_WINDOW)
  && s.cf F.CLK_CONFIG_CLK_BAND_WINDOW != 0

/-- A lock attempt begins, with the stored bands when they may be tried (R92). -/
def State.beginLock (s : State) (full : Bool) : State :=
  let s := s.withClk { s.clk with attempt := if !full && s.bandEligible then .stored else .full,
                                  retry := false, waitP0 := false, full := false, stay := false, holdLong := false }
  let s := s.put F.CLK_STATUS_BUSY 1
  let s := s.put F.CLK_STATUS_HOLDOVER 0
  let s := s.put F.CLK_STATUS_LOCKED 0
  s.put F.CLK_STATUS_SOURCE s.referenceSource

/-- Start-up that can go on only after the lock is in SERVICE (R104). R104 does not say when PWR_STATE changes there: here once the
thermal reading and the configuration load, which need no PLL clock, are done (DESIGN CHOICE, assumption 18). -/
def State.waitInService (s : State) : State :=
  if s.pwr.phase == .starting && s.clk.waitP0 && s.pwr.thermalDone && s.pwr.configDone then
    s.withPwr { s.pwr with phase := .service }
  else s

/-- R104: the P0 receive clock is absent; the lock sequence, a full search or not, waits for it. -/
def State.awaitP0 (s : State) (full : Bool) : State :=
  ((s.put F.CLK_STATUS_SOURCE 3).put F.CLK_STATUS_REF_LOST 1).withClk { s.clk with retry := false, waitP0 := true, full := full }

/-- R79, R80: a started polder reaches power-good: its registers hold their reset values, its CFG registers are loaded
from the configuration in force, its block starts; then the next polders start. With polder 2 the lock begins (Table 3-8),
in cell and port roles once the P0 receive clock is present (`p0Clock`). -/
def execPolderPowerGood (polder : Nat) (p0Clock : Bool) (s : State) : Ans :=
  if s.pwr.starting.contains polder then
    let s := s.withPwr { s.pwr with on := s.pwr.on ||| (1#16 <<< polder),
                                    starting := s.pwr.starting.filter (· != polder) }
    let s := s.applyKeys (fun a => polderOf a == polder)
    let s := s.polderInit polder
    let s := if polder = 2 && s.pwr.phase == .starting then s.demandReading else s
    let s := if polder = 2 && s.pwr.phase == .starting then
        if s.isStation || p0Clock then s.beginLock false
        else (s.awaitP0 false).waitInService
      else s
    .next s.startNext.settle
  else .next s

/-- R79: no power-good within 50 µs: the polder goes off, source 0, no further polder starts. -/
def execPolderStartFailure (polder : Nat) (s : State) : Ans :=
  if s.pwr.starting.contains polder then
    let s := s.withPwr { s.pwr with starting := s.pwr.starting.filter (· != polder), queue := [], blocked := true }
    .next ((s.fault 0).settle)
  else .next s

/-- R81: a Culvert polder whose ports have all been asleep for 100 µs stops. -/
def execCulvertPolderIdleStop (polder : Nat) (s : State) : Ans :=
  if (polder = 5 || polder = 6) && s.isOn polder && s.awake && s.portsAsleep polder then
    .next (s.polderOff polder).settle
  else .next s

/-- R103: the thermal reading of start-up; at or above the shutdown temperature the device returns to standby with THERMAL
recorded and the reading held as a pending shutdown. -/
def execStartUpThermalReading (reading : BitVec 16) (s : State) : Ans :=
  if s.isOn 2 && !s.pwr.thermalDone && (s.pwr.phase == .starting || s.pwr.phase == .service) then
    let s := s.takeReading reading
    if toSigned 16 reading.toNat ≥ thermalShutdown then
      let s := s.cutCommit
      let s := s.put F.PWR_WAKE_CAUSE_THERMAL 1
      let s := s.withPwr { s.pwr with pendingShutdown := some (BitVec.ofInt 16 s.dieTemp) }
      .next s.dropWake.toCrest
    else
      let s := s.withPwr { s.pwr with thermalDone := true }
      .next (s.writeOpportunity.waitInService.settle)
  else .next s

/-- R102: the thermal reading, the configuration load and the lock are done: the role's remaining polders start in order;
the internal calibration follows (CALIBRATION_COMPLETE ends it). -/
def execStartUpPoldersAndCalibration (s : State) : Ans :=
  if s.pwr.phase == .starting && s.pwr.thermalDone && s.pwr.configDone && s.is F.CLK_STATUS_LOCKED
      && !s.pwr.calStarted then
    let s := s.withPwr { s.pwr with calStarted := true }
    .next (s.demand [14, 15, 9, 10, 11, 12, 13, 7, 8, 5, 6])
  else .next s

/-- R476: PWR_STATE enters READY: source 203; at the end of start-up the transmit directions send idles (Table 3-8), for which a
Culvert polder stopped meanwhile (R81) starts again (after a return from the service plan polders 5 and 6 start on demand, Table 3-7); MOD_EN_AT_START sets EN (R254). -/
def execReadyEntered (s : State) : Ans :=
  let up := (rolePolders s.role).all (fun p => p == 5 || p == 6 || s.isOn p)
  if up && s.pwr.starting.isEmpty && s.pwr.queue.isEmpty && s.is F.CLK_STATUS_LOCKED && s.pwr.calDone &&
      (s.pwr.phase == .starting || ((s.pwr.phase == .service || s.pwr.phase == .ready) && s.clk.restart)) then
    let enters := s.pwr.phase != .ready
    let starts := s.pwr.phase == .starting
    let s := (s.withPwr { s.pwr with phase := .ready }).withFlt { s.flt with readyOnce := true }
    let s := match s.clk.relock with
      | some r => (s.respond r.1 .ok []).withClk { s.clk with relock := none }
      | none => s
    let s := (s.withClk { s.clk with restart := false }).withVlt { s.vlt with startWrite := none }
    let s := if starts then s.txIdle.demand [5, 6] else s
    let s := s.enAtReady
    .next ((if enters then s.raiseInt 203 else s).settle)
  else .next s

/-! ## Clock -/

/-- R104: the P0 receive clock has been present for 100 µs: the lock sequence starts. -/
def execP0ClockPresent (s : State) : Ans :=
  if s.clk.waitP0 && s.isOn 2 then .next ((s.put F.CLK_STATUS_REF_LOST 0).beginLock s.clk.full) else .next s

/-- Polders that a relock to the service plan switched off are off still, though start-up had ended: a relock to the run plan
starts them (R88), also after one to the service plan that found no lock (assumption 14). -/
def State.polderMissing (s : State) : Bool :=
  s.isStation && s.pwr.calDone && [7, 8, 10, 12, 13].any (fun p => !s.isOn p)

/-- R91, R92: lock is declared: outputs ungated, domains on the PLL, the bands and their temperature stored, the count of
its kind advanced. A relock goes on under Table 3-7, a waiting start-up under R474, a re-engagement ends holdover (R94). PLAN shows
the requested plan from the lock on, with the domains' switch to its clocks, not from the setting of the dividers (DESIGN CHOICE,
assumption 18). -/
def execPllLockDeclared (bandEdge bandLane : BitVec 6) (s : State) : Ans :=
  let done := fun (s : State) =>
    let s := s.put F.CLK_STATUS_BUSY 0
    let s := s.put F.CLK_STATUS_LOCKED 1
    let s := s.put F.CLK_STATUS_HOLDOVER 0
    let s := s.put F.CLK_STATUS_REF_LOST 0
    let s := s.put F.CLK_STATUS_GATED 0
    let s := s.put F.CLK_STATUS_ON_SAFE 0
    let s := s.put F.CLK_BAND_BAND_EDGE bandEdge.toNat
    let s := s.put F.CLK_BAND_BAND_LANE bandLane.toNat
    let s := s.put F.CLK_BAND_VALID 1
    let s := s.putS F.CLK_BAND_BAND_TEMP s.dieTemp
    s.withClk { s.clk with attempt := .none, noLock := false, holdLong := false, everLocked := true, startWait := false }
  match s.clk.attempt with
  | .none => .next s
  | .reengage => .next (done s).settle
  | a =>
    let s := done s
    let s := if a = .stored then s.bump F.CLK_LOCK_COUNT_FAST else s.bump F.CLK_LOCK_COUNT_FULL
    let s := match s.clk.relock with
      | none => s
      | some (n, plan) =>
        if plan = 1 then
          let s := s.put F.CLK_STATUS_PLAN 1
          let s := (s.withPwr { s.pwr with phase := if s.pwr.phase = Phase.stopping then Phase.stopping else Phase.service }).withClk
            { s.clk with relock := none }
          s.respond n .ok []
        else if s.pwr.calStarted && (s.servicePlan || s.polderMissing) then
          let s := s.put F.CLK_STATUS_PLAN 0
          let s := (s.withClk { s.clk with restart := true }).withPwr { s.pwr with calDone := false }
          s.demand [14, 15, 9, 10, 11, 12, 13, 7, 8]
        else ((s.put F.CLK_STATUS_PLAN 0).respond n .ok []).withClk { s.clk with relock := none }
    let s := if s.pwr.phase == .service && !s.servicePlan && !s.clk.restart then
        s.withPwr { s.pwr with phase := .starting } else s
    .next ((s.portsInit 5).portsInit 6).settle

/-- Table 3-4: the stored-band attempt is abandoned and the full search begins. -/
def execStoredBandAbandoned (s : State) : Ans :=
  if s.clk.attempt = .stored then .next (s.withClk { s.clk with attempt := .full }) else .next s

/-- R92, R474: a full search ends without lock: domains stay on the safe clock, source 2 is asserted until the next lock; a
CLOCK_RELOCK returns TIMEOUT, a start-up waits in SERVICE. A CLOCK_RELOCK that fails while PWR_STATE is STARTING counts as a failed
attempt of start-up, after the first lock too (DESIGN CHOICE, assumption 18). -/
def execPllNoLock (s : State) : Ans :=
  if s.clk.attempt = .full then
    let s := s.put F.CLK_STATUS_BUSY 0
    let s := s.put F.CLK_STATUS_LOCKED 0
    let s := s.withClk { s.clk with attempt := .none, noLock := true }
    let waits := s.pwr.phase == .starting || (s.pwr.phase == .service && (s.clk.startWait || (s.get F.CLK_STATUS_PLAN == 0 && !s.pwr.calStarted)))
    let s := match s.clk.relock with
      | some r => (s.respond r.1 .timeout []).withClk { s.clk with relock := none }
      | none => s
    let s := if waits then
        (s.withPwr { s.pwr with phase := .service }).withClk { s.clk with retry := true, startWait := true } else s
    .next s.settle
  else .next s

/-- R474: 100 ms after a failed attempt of start-up a new full search starts; in cell and port roles a P0 clock lost
meanwhile (`p0Clock` false) is waited for under R104. -/
def execLockRetry (p0Clock : Bool) (s : State) : Ans :=
  if s.clk.retry && s.clk.attempt = .none then
    if s.isStation || p0Clock then .next (s.beginLock true)
    else .next (s.awaitP0 true)
  else .next s

/-- R93: loss of reference (`refLost`) or of lock: a locked PLL coasts. -/
def State.holdover (s : State) (refLost : Bool) : State :=
  if s.isOn 4 && s.is F.CLK_STATUS_LOCKED && s.clk.attempt = .none then
    let s := s.put F.CLK_STATUS_HOLDOVER 1
    let s := s.put F.CLK_STATUS_LOCKED 0
    let s := s.flag F.CLK_STATUS_REF_LOST refLost
    let s := s.bump F.CLK_HOLD_COUNT_COUNT
    s.alignHoldover
  else s

/-- R93: the PLL detects the loss of its reference (`refLost`) or of its lock. -/
def execPllHoldoverEntry (refLost : Bool) (s : State) : Ans :=
  if s.isOn 4 && s.is F.CLK_STATUS_LOCKED && s.clk.attempt = .none then .next (s.holdover refLost).settle else .next s

/-- R94: a reference has been present for 100 µs during holdover: the loop closes on it. -/
def execPllReengage (s : State) : Ans :=
  if s.is F.CLK_STATUS_HOLDOVER && !s.clk.stay && s.clk.attempt = .none then
    let s := s.put F.CLK_STATUS_BUSY 1
    let s := s.put F.CLK_STATUS_REF_LOST 0
    let s := s.put F.CLK_STATUS_SOURCE s.referenceSource
    .next (s.alignReengaged.withClk { s.clk with attempt := .reengage }).settle
  else .next s

/-- R94: no lock within 500 µs of the loop closing: holdover stays until CLOCK_RELOCK. -/
def execReengagementFailed (s : State) : Ans :=
  if s.clk.attempt = .reengage then
    let s := s.put F.CLK_STATUS_BUSY 0
    .next (((s.withClk { s.clk with attempt := .none, stay := true }).alignHoldover.fault 4).settle)
  else .next s

/-- R95: holdover has lasted longer than CLK_HOLD_MAX. -/
def execHoldoverTooLong (s : State) : Ans :=
  if s.is F.CLK_STATUS_HOLDOVER then
    let s := s.put F.CLK_STATUS_HOLD_LONG 1
    .next ((s.withClk { s.clk with holdLong := true }).settle)
  else .next s

/-- R101: a sampled SYNC_IN edge of the selected polarity; `phase` is its offset from the divider grid. -/
def execSyncInEdge (falling : Bool) (phase : BitVec 7) (s : State) : Ans :=
  if s.isStation && s.isOn 4 && s.cfIs F.CLK_CONFIG_CLK_SYNC_EN && s.cfIs F.CLK_CONFIG_CLK_SYNC_EDGE == falling then
    if s.is F.CLK_STATUS_GATED || !s.clk.everLocked then .next (s.withClk { s.clk with anchored := true })
    else
      let s := s.put F.CLK_SYNC_PHASE_PHASE phase.toNat
      .next (s.put F.CLK_STATUS_SYNC_SEEN 1)
  else .next s

/-! ## Commands of this chapter -/

/-- R106, R107: SLEEP from mailbox `n`: BUSY while another mailbox holds a command in execution or a resource
that R106 does not name is held (R127), REFUSED_STATE in the states
of R106; accepted, the device is STOPPING, the wake latches are cleared and re-armed, LEAVING goes out (R167), and the response is
formed. -/
def execSleep (n : Nat) (s : State) : Ans :=
  if s.takes n 0x08 then
    if [0, 1, 2, 3].any (fun m => m != n && s.mbState m == mbExecuting) || s.held &&& ~~~(resVault ||| resClock) != 0 then
      .next (s.respond n .busy [])
    else if (s.isStation && !s.pulseBlocked) || (!s.isStation && !s.bridgesOff) || s.held &&& resVault != 0
        || s.held &&& resClock != 0 || s.twin = 2 then
      .next (s.respond n .refusedState [])
    else
      let s := s.withPwr { s.pwr with phase := .stopping }
      let s := s.clearWake.wardenStop
      let s := s.respond n .ok []
      let s := s.withCul { s.cul with leaving := if s.isOn 5 then some 16 else none }
      .next ((s.setMb n { s.mb n with held := resSleep }).settle)
  else .next s

/-- R107, R108: the stop sequence reaches Crest standby: every polder but Crest is off; start-up begins at once if any
request latch is set. -/
def execCrestStandbyReached (s : State) : Ans :=
  if s.pwr.phase = .stopping then
    let s := s.toCrest
    if s.requested then execStartUp s else .next s
  else .next s

/-- R88: the polders that the service plan keeps off go off in their order, and none of them starts any more. A calibration that
runs on polder 12 is over: its command answers REFUSED_STATE (DESIGN CHOICE, assumption 19). -/
def State.toService (s : State) : State :=
  let s := match s.runner 0x20 with
    | some n => s.respond n .refusedState []
    | none => s
  let s := s.poldersOff [13, 10, 12, 8, 7, 6, 5]
  s.withPwr { s.pwr with queue := s.pwr.queue.map (fun g => g.filter (fun p => !serviceOff.contains p)) }

/-- R96, R97: CLOCK_RELOCK from mailbox `n`: the statuses of Table 3-6 or the relock sequence of Table 3-7 up to the lock
attempt (PLL_LOCK_DECLARED and PLL_NO_LOCK go on). In a device that waits for the P0 clock the attempt waits for it too (R104). -/
def execClockRelock (n : Nat) (s : State) : Ans :=
  if s.takes n 0x28 then
    let m := s.mb n
    let a := m.arg 0 1
    let plan := a % 4
    let full := natBit a 2
    if plan ≥ 2 || a / 8 != 0 || m.arg 1 3 != 0 then .next (s.respond n .badArg [])
    else if plan = 1 && !s.isStation then .next (s.respond n .notInRole [])
    else if s.clk.attempt != .none || s.held &&& resClock != 0 then .next (s.respond n .busy [])
    else if s.anyTxAwake || !s.pulseBlocked then .next (s.respond n .refusedState [])
    else
      let s := s.runOn n resClock
      let s := if plan = 1 && !s.servicePlan then s.toService else s
      let s := s.put F.CLK_STATUS_GATED 1
      let s := s.put F.CLK_STATUS_ON_SAFE 1
      let s := s.put F.CLK_STATUS_TIMEBASE_DEGRADED 1
      let s := (s.put F.CLK_STATUS_BUSY 1).withClk { s.clk with relock := some (n, plan), anchored := false }
      .next (if s.clk.waitP0 then s.awaitP0 full else s.beginLock full).settle
  else .next s

end Sys2Proof.Machine
end

