-- ==== Sys2Proof/Machine/RingOps.lean ====
section
/-! DEFINITION. The long ring commands RING_DISCOVER, RING_ALIGN and WAKE_REMOTE as they run on (05_culvert.md R168, R172, R176;
01_system.md R29, R30; 04_host_reeve.md R127). -/
namespace Sys2Proof.Machine

/-! ## Stages -/

/-- The command of mailbox `n` enters stage `k`. -/
def State.ringStage (s : State) (n k : Nat) : State := s.setMb n { s.mb n with stage := k, inStage := 0 }

/-- One more tide of a long command: since its acceptance, and in its stage. -/
def MbSt.tide (m : MbSt) : MbSt := if m.running then { m with tides := m.tides + 1, inStage := m.inStage + 1 } else m

/-- The rings of the command of mailbox `n`. -/
def State.ringMask (s : State) (n : Nat) : List Nat := [0, 1, 2, 3].filter (natBit ((s.mb n).arg 0 1))

/-- No message of the station's own waits or flies on ring `r`. -/
def State.ringQuiet (s : State) (r : Nat) : Bool := (s.remoteOn r).isNone && !s.cul.sentMsgs.any (fun m => m.ring == r)

/-- R172: discovery frames go out on ring `r` in this tide. -/
def State.discovering (s : State) (r : Nat) : Bool :=
  mailboxes.any (fun n => s.runs n 0x30 && (s.mb n).stage == 1 && decide ((s.mb n).inStage ≤ 256) && (s.ringMask n).contains r)

/-! ## Discovery -/

/-- Bits of a ring mask. -/
def ringsIn (mask : Nat) : List Nat := [0, 1, 2, 3].filter (natBit mask)

/-- The lowest ID from `a` to `limit` that is not held; at most `k` tries (R29). -/
def lowestFree (held : List Nat) (limit : Nat) : Nat → Nat → Option Nat
  | 0, _ => none
  | k + 1, a => if a > limit then none else if held.contains a then lowestFree held limit k (a + 1) else some a

/-- R29: IDs for the devices of one ring that have none; `next` is the pool's NEXT. Answers the IDs, NEXT and whether one was
missing. -/
def assignIds (base limit : Nat) : List Nat → List Nat → Nat → List Nat × Nat × List Nat × Bool
  | [], held, next => ([], next, held, false)
  | d :: ds, held, next =>
    if d = 0 then
      match if base = 0 then none else lowestFree held limit 300 (max next base) with
      | some i =>
        let r := assignIds base limit ds (i :: held) (i + 1)
        (i :: r.1, r.2.1, r.2.2.1, r.2.2.2)
      | none =>
        let r := assignIds base limit ds held next
        (0 :: r.1, r.2.1, r.2.2.1, true)
    else
      let r := assignIds base limit ds held next
      (d :: r.1, r.2.1, r.2.2.1, r.2.2.2)

/-- The registers of one discovered ring (R172): FOUND, STATE, PRESENT, stale counts cleared. -/
def State.discovered (s : State) (r : Nat) (ids : List Nat) : State :=
  let k := ids.length
  let s := s.put (F.CUL_RINGr_STATE_FOUND r) k
  let s := s.put (F.CUL_RINGr_STATE_STATE r) (if k = 0 then 0 else 1)
  let s := s.put (F.CUL_RINGr_STATE_DELAY_SHORT r) 0
  let asleep := s.cf (F.CUL_RINGr_SLEEP_FIRST_ASLEEP r)
  (List.range 96).foldl (fun s i =>
    let q := i + 1
    s.setWord (R.CUL_POS_r_s r q) (BitVec.ofNat 32
      (b2n (decide (q ≤ k)) * 2 ^ 31 + b2n (asleep != 0 && decide (asleep ≤ q ∧ q ≤ k)) * 2 ^ 30))) s

/-- An entry of CONFIG_WRITE as argument bytes. -/
def entryBytes (addr mask value : Nat) : List Byte := leBytes 4 addr ++ leBytes 4 mask ++ leBytes 4 value

/-- R172: what the station sends to the device found at position `q` of ring `r`: its place, the ring's format and an ID assigned now
(`id`), by CONFIG_WRITE and VAULT_COMMIT (R21, R29). -/
def State.placeDevice (s : State) (r q : Nat) (id : Option Nat) : State :=
  let fmt := R.CUL_RINGr_FORMAT r
  let place := s.cf F.HST_PLACE_CONVERTER * 2 ^ F.HST_PLACE_CONVERTER.lo + r * 2 ^ F.HST_PLACE_RING.lo + q
  let args := entryBytes R.HST_PLACE 0x000FF07F place
    ++ entryBytes fmt 0x8000037F ((s.effWord fmt).toNat)
    ++ (match id with | some i => entryBytes R.HST_DEVICE_ID 0x3FFFF i | none => [])
  (s.sendOwn r q 0x10 0 args).sendOwn r q 0x12 0 []

/-- R172: the origin's discovery frame on ring `r`: APPLY 0, HOPS 0, a body of the message channel only. -/
def State.discoveryFrame (s : State) (r d : Nat) : TideFrame :=
  let h := leBytes 4 (s.get F.CUL_TIDE_TIDE) ++ [BitVec.ofNat 8 (s.ringId r), BitVec.ofNat 8 (d + b2n s.isTwinB * 2)]
  (⟨padTo 16 h, emptyChunk.bytes, 0⟩ : TideFrame)

/-- The discovery frames of ring `r` leave on the station's ports. -/
def State.sendDiscovery (s : State) (r : Nat) : State :=
  ((List.range 10).filter (fun p => s.portRing p == some r && s.txAwake p)).foldl (fun s p =>
    s.send p (.frame ((s.reflag p false (s.discoveryFrame r (if s.twn.operating then b2n s.isTwinB else p % 2))).seal false))) s

/-- R29: NEXT after each ID assigned, in order. -/
def nextAfter (old new : List (List Nat)) : List Nat :=
  (List.zipWith (fun (a b : List Nat) => (List.zipWith (fun x y => if x = 0 && y != 0 then [y + 1] else []) a b).flatten) old new).flatten

/-- R172: IDENTIFY goes to every temporary slot of the rings. -/
def State.identifyAll (s : State) (rs : List Nat) (found : List (List Nat)) : State :=
  rs.foldl (fun s r => (List.range ((found.getD r []).take 96).length).foldl (fun s i => s.sendOwn r (i + 1) 0x01 0 []) s) s

/-- R29, R30, R172: the IDs found on the rings of mailbox `n` are completed from the pool, duplicates in the converter (its
stations' own IDs among them) excluded, and each device is sent its place. -/
def State.placeAll (s : State) (n : Nat) (found : List (List Nat)) : State :=
  let rs := s.ringMask n
  let own := s.cf F.HST_DEVICE_ID_DEVICE_ID
  let idsOf := fun r => if rs.contains r then (found.getD r []).take 96 else s.cul.ids.getD r []
  let all := (own :: s.twn.partnerId :: [0, 1, 2, 3].flatMap idsOf).filter (· != 0)
  let dup := all.filter (fun i => decide (all.count i > 1))
  let step := fun (acc : List (List Nat) × Nat × List Nat) (r : Nat) =>
    if rs.contains r then
      let a := assignIds (s.cf F.HST_ID_POOL_BASE_BASE) (s.cf F.HST_ID_POOL_LIMIT_LIMIT) (idsOf r) acc.2.2 acc.2.1
      (acc.1 ++ [a.1], a.2.1, a.2.2.1)
    else (acc.1 ++ [idsOf r], acc.2)
  let ids := ([0, 1, 2, 3].foldl step ([], s.cf F.HST_ID_POOL_NEXT_NEXT, all)).1
  let old := [0, 1, 2, 3].map idsOf
  let s := rs.foldl (fun (s : State) r => (List.range (ids.getD r []).length).foldl (fun (s : State) i =>
    let new := (ids.getD r []).getD i 0
    s.placeDevice r (i + 1) (if (old.getD r []).getD i 0 = 0 && new != 0 then some new else none)) s) s
  let s := s.setMb n { s.mb n with nexts := nextAfter old ids }
  s.withCul { s.cul with
    ids := ids,
    excluded := (if dup.contains own then [(0, 0)] else []) ++ (if dup.contains s.twn.partnerId then [(0, 128)] else [])
      ++ [0, 1, 2, 3].flatMap (fun r => ((List.range (ids.getD r []).length).filter (fun i =>
          dup.contains ((ids.getD r []).getD i 0))).map (fun i => (r, i + 1))) }

/-- R30, R29: the status of a discovery of the rings `rs`. -/
def State.discoverStatus (s : State) (rs : List Nat) : Status :=
  if !s.cul.excluded.isEmpty then .refusedState
  else if rs.any (fun r => (s.cul.ids.getD r []).contains 0) then .idExhausted
  else .ok

/-- R29, R172: the end of the discovery of mailbox `n`: once every device has its messages the positions are shown, and NEXT is
committed, by one internal commit for each ID assigned, each as soon as the Vault is free (R138; the wait is a DESIGN CHOICE,
assumption 49); then the response. -/
def State.discoverTide (s : State) (n : Nat) : State :=
  let rs := s.ringMask n
  let m := s.mb n
  let who := 10 + n
  if !s.runs n 0x30 then s
  else if m.stage = 3 then
    if rs.all s.ringQuiet then (rs.foldl (fun s r => s.discovered r (s.cul.ids.getD r [])) s).ringStage n 4 else s
  else if m.stage != 4 then s
  else
    let begin := fun (s : State) => match (s.mb n).nexts with
      | v :: vs =>
        let r := s.deviceCommit n who [(F.HST_ID_POOL_NEXT_NEXT, v)]
        if r.2 then r.1.setMb n { r.1.mb n with nexts := vs, inStage := 0, waits := true } else s
      | [] => s.respond n (s.discoverStatus rs) ([0, 1, 2, 3].map (fun r => BitVec.ofNat 8 (s.get (F.CUL_RINGr_STATE_FOUND r))))
    if m.waits then
      match SMap.find s.vlt.results who with
      | some c =>
        let s := (s.withVlt { s.vlt with results := SMap.erase s.vlt.results who }).setMb n { m with waits := false }
        if c = 0 then begin s else s.respond n (commitStatus c) []
      | none => s
    else begin s

/-- One tide of the long ring commands. -/
def State.ringTide (s : State) : State :=
  let s := s.withRve { s.rve with mb := s.rve.mb.map MbSt.tide }
  mailboxes.foldl State.discoverTide s

/-- R171: the next message of the station's own on ring `r` begins when none is under way there. -/
def State.nextMessage (s : State) (r : Nat) : State :=
  if (s.remoteOn r).isSome then s
  else match s.cul.sentMsgs.find? (fun m => m.ring == r) with
  | none => s
  | some m =>
    let x : RemoteSt := { mailbox := m.mailbox, dest := m.slot, phase := .sending 0, tries := 0, rsp := [none, none, none],
                          bytes := m.bytes, timeout := s.cf F.RVE_CONFIG_RVE_REMOTE_TIMEOUT }
    (s.withCul { s.cul with sentMsgs := s.cul.sentMsgs.erase m }).setRemote r (some x)

end Sys2Proof.Machine
end

