-- ==== Sys2Proof/Machine/Culvert.lean ====
section
/-! DEFINITION. Port bring-up, lane sleep, alignment, tokens, the message channel's timers and the ring commands
(05_culvert.md R141 to R185; 01_system.md R21, R29, R30; 04_host_reeve.md R133 to R135). -/
namespace Sys2Proof.Machine

/-- Port `p` exists and its polder is on. -/
def State.portOn (s : State) (p : Nat) : Bool := decide (p < 10) && s.isOn (portPolder p)

/-- R148: the clock-lane detector asserts: DOWN to CLOCK. -/
def execRxClockDetect (port : Nat) (s : State) : Ans :=
  if s.portOn port && s.get (F.CUL_Pn_STATUS_RX_STATE port) == 1 then
    .next ((s.put (F.CUL_Pn_STATUS_DETECT port) 1).rxState port 2).settle
  else .next s

/-- R148: three K28.5 at one boundary: CLOCK to WORD. -/
def execRxWordLock (port : Nat) (s : State) : Ans :=
  if s.portOn port && s.get (F.CUL_Pn_STATUS_RX_STATE port) == 2 then .next (s.rxState port 3).settle else .next s

/-- R148: the sweep completes with sampling phase `tap`: WORD to DESKEW. -/
def execRxDeskewSet (port : Nat) (tap : BitVec 6) (s : State) : Ans :=
  if s.portOn port && s.get (F.CUL_Pn_STATUS_RX_STATE port) == 3 then
    .next ((s.put (F.CUL_Pn_DESKEW_TAP port) tap.toNat).rxState port 4).settle
  else .next s

/-- R148: 1,024 characters without a code error: DESKEW to UP, and the port's interrupt. `codeErrors` were counted during the
bring-up (R142). -/
def execRxUp (port : Nat) (s : State) (codeErrors : Nat := 0) : Ans :=
  if s.portOn port && s.get (F.CUL_Pn_STATUS_RX_STATE port) == 4 then .next ((s.codeErrors port codeErrors).rxState port 5).settle
  else .next s

/-- R150: port `p` loses its receive to RX_STATE `v`. A port that was LEAVING puts its transmit direction to sleep and counts no
fault; any other loss of UP of a used port is a "port down" fault. -/
def State.rxLost (s : State) (p v : Nat) : State :=
  let up := s.get (F.CUL_Pn_STATUS_RX_STATE p) == 5
  let leaving := s.is (F.CUL_Pn_STATUS_LEAVING_SEEN p)
  let s := s.rxState p v
  let s := if up then s.leftUp p leaving else s
  if leaving then (s.sleepTx p).put (F.CUL_Pn_STATUS_LEAVING_SEEN p) 0 else s

/-- R148, R150: the clock-lane detector deasserts: any state to DOWN. The reference port of a cell or port device
takes the PLL's reference with it: a locked PLL coasts (R93). `codeErrors` were seen since the last count (R142). -/
def execRxDown (port : Nat) (s : State) (codeErrors : Nat := 0) : Ans :=
  if s.portOn port && decide (s.get (F.CUL_Pn_STATUS_RX_STATE port) ≥ 2) then
    let s := ((s.codeErrors port codeErrors).put (F.CUL_Pn_STATUS_DETECT port) 0).rxLost port 1
    let s := if !s.isStation && port == s.cul.refPort then s.holdover true else s
    .next s.settle
  else .next s

/-- R148: off-boundary commas, or 8 code errors within a tide (`codeErrors` are counted, R142): back to CLOCK. -/
def execRxRealign (port codeErrors : Nat) (s : State) : Ans :=
  if s.portOn port && decide (s.get (F.CUL_Pn_STATUS_RX_STATE port) ≥ 3) then
    .next ((s.codeErrors port codeErrors).rxLost port 2).settle
  else .next s

/-- A port's receive has been usable for 1,024 tides: READY. -/
def execPortReady (port : Nat) (s : State) : Ans :=
  if s.portOn port && s.usable port then .next (s.put (F.CUL_Pn_STATUS_READY port) 1) else .next s

/-- R142, R165: a port status character (Table 5-2) is received on an UP port. WRAPPING right after this device left its wrap
there makes it wrap again at the next boundary. `codeErrors` were seen on the port in its tide. -/
def execPortStatusReceived (port : Nat) (status : BitVec 8) (s : State) (codeErrors : Nat := 0) : Ans :=
  if s.portOn port && s.get (F.CUL_Pn_STATUS_RX_STATE port) == 5 then
    let s := (s.codeErrors port codeErrors).flag (F.CUL_Pn_STATUS_PEER_RX_UP port) (status.getLsbD 0)
    let s := s.peerRooted port (status.getLsbD 1)
    let s := s.flag (F.CUL_Pn_STATUS_LEAVING_SEEN port) (status.getLsbD 2)
    let c := s.cport port
    let s := s.setCport port { c with
      peerReady := status.getLsbD 3, peerWrapping := status.getLsbD 4,
      wrapAgain := c.wrapAgain || (c.wrapLeft && status.getLsbD 4) }
    .next (s.updateUsable port).settle
  else .next s

/-- R146: the reference port has announced not rooted for 8 tides while the other used port is rooted and UP: the reference
changes by holdover and re-engagement on the new one (R90). The boundary stays where it is: its placement counts from the other
direction's arrival from now on (R173, R174). -/
def execReferencePortChange (s : State) : Ans :=
  let o := 1 - s.cul.refPort
  if !s.isStation && s.role != .none && s.isOn 5 && decide ((s.cport s.cul.refPort).notRooted ≥ 8)
      && s.is (F.CUL_Pn_STATUS_PEER_ROOTED o) && s.get (F.CUL_Pn_STATUS_RX_STATE o) == 5 then
    let t : State := s.withCul { s.cul with refPort := o }
    let d := unitsToSteps t.compInUse - unitsToSteps s.compInUse
    execPllHoldoverEntry true (t.withCul { t.cul with place := t.cul.place + d, placeNow := t.cul.placeNow + d })
  else .next s

/-- R182: traffic resumes on a sleeping receive direction of an awake device, its Culvert polder on or not (R81): source 19; with
its lane enabled the direction wakes, and the polder with it. -/
def execLaneActivity (port : Nat) (s : State) : Ans :=
  if s.awake && decide (port < 10) && (rolePolders s.role).contains (portPolder port) && !s.is (F.CUL_Pn_STATUS_RX_AWAKE port) then
    let s := s.laneHeard port
    .next (if natBit (s.cf F.PWR_WAKE_EN_LANE_EN) port then (s.askRx port).demand [portPolder port] else s).settle
  else .next s

/-- R460: the device wraps. -/
def State.wraps (s : State) : Bool := s.usedPorts.any (fun p => s.is (F.CUL_Pn_STATUS_WRAPPED p))

/-- R173, R174: a 1,024-tide average of delta, 0 in a device that wraps (R460): with a valid L the compensations are computed anew (not in HOLD), the first
average aligns the device, a value more than 4 ns off starts slewing, a smaller difference is tracked by one step. -/
def execAlignAverageComplete (delta : Int) (s : State) : Ans :=
  if s.isOn 5 && !s.isStation && s.role != .none then
    let delta := if s.wraps then 0 else delta
    let s := s.putS F.CUL_DELTA_DELTA delta
    if s.is F.CUL_ALIGN_LOOP_VALID && s.get F.CUL_ALIGN_STATE != 3 then
      let l : Int := s.get (F.CUL_RINGr_LOOP_L s.ownRing)
      let c0 := halfRound (l - 2048 - delta - 2 * s.cfS F.CUL_ASYM_CUL_ASYM_COMP)
      let s := s.putS F.CUL_COMP0_COMP0 c0
      let s := s.putS F.CUL_COMP1_COMP1 (l - 2048 - c0)
      let c := s.compInUse
      let st := s.get F.CUL_ALIGN_STATE
      if st = 0 then
        let t := (s.get F.CUL_TIDE_TIDE + 1 + s.delayTides s.cul.refPort) % 2 ^ 32
        .next ((s.withCul { s.cul with place := unitsToSteps c, takeover := some t }).setAlign 1).settle
      else if st = 1 then
        if decide ((c - 10 * s.cul.place).natAbs > 256) then .next (((s.setAlign 2).fault 21).settle)
        else .next s.stepAlign
      else .next s
    else .next s
  else .next s

/-- R181: a trigger of line `line` at `offset` steps into the present tide is raised; an origin's token goes out on every
ring. -/
def execTriggerTokenRaise (line offset : Nat) (s : State) : Ans :=
  if s.isOn 5 then .next (s.raiseToken line (s.get F.CUL_TIDE_TIDE) offset false) else .next s

/-- R166: every 1,024 tides while WRAP_SEEN is set and CUL_AUTO_UNWRAP is 1 the origin sets UNWRAP in one tide's frames. -/
def execPeriodicUnwrap (ring : Nat) (s : State) : Ans :=
  if s.isStation && s.is (F.CUL_RINGr_STATE_WRAP_SEEN ring) && s.cfIs F.CUL_CONFIG_CUL_AUTO_UNWRAP && decide (ring < 4) then
    .next (s.withCul { s.cul with unwrap := s.cul.unwrap.set ring true })
  else .next s

/-! ## The message channel's timers (R171) -/

/-- No acknowledge within 100 tides: the whole message is sent again, up to three times. -/
def execMessageAckTimeout (ring : Nat) (s : State) : Ans :=
  if s.isStation then
    match s.remoteOn ring with
    | some x =>
      if x.phase = .waitAck && x.tries < 3 then
        .next (s.setRemote ring (some { x with phase := .sending 0, tries := x.tries + 1 }))
      else .next s
    | none => .next s
  else if s.cul.msg.phase = .waitAck then
    let m := s.cul.msg
    .next (s.withCul { s.cul with msg :=
      if m.tries < 3 then { m with phase := .sending 0, outAt := [], tries := m.tries + 1 } else { m with phase := .given, outAt := [] } })
  else .next s

/-- After an acknowledge of 1 the station sends the request again, every 1 ms. -/
def execMessageBusyRetry (ring : Nat) (s : State) : Ans :=
  match s.remoteOn ring with
  | some x => if x.phase = .busyWait then .next (s.setRemote ring (some { x with phase := .sending 0, tries := 0 })) else .next s
  | none => .next s

/-- R135: no response within RVE_REMOTE_TIMEOUT: REMOTE returns TIMEOUT, a later answer is discarded. -/
def execRemoteTimeout (ring : Nat) (s : State) : Ans :=
  match s.remoteOn ring with
  | some x => .next ((s.setRemote ring none).respond x.mailbox .timeout [])
  | none => .next s

/-- R133, R134: REMOTE from mailbox `n`: the enclosed request goes to a slot's M3 over the message channel. -/
def execRemote (n : Nat) (s : State) : Ans :=
  if s.takes n 0x70 then
    let m := s.mb n
    let r := m.arg 0 1
    let q := m.arg 1 1
    let enc := bytesAt m.req 12 52
    let encLen := leAt enc 2 1
    if r > 3 || q = 0 || q > 96 || m.arg 2 2 != 0 || encLen > 48 || m.len < 12 + encLen || leAt enc 0 1 == 0x70
        || malformed enc then .next (s.respond n .badArg [])
    else if s.held &&& resRing r != 0 then .next (s.respond n .busy [])
    else match s.needPolders n (s.ringPolders r) with
    | some t => .next t
    | none =>
      if !s.is (F.CUL_POS_r_s_PRESENT r q) then .next (s.respond n .refusedState []) else
      let x : RemoteSt := { mailbox := n, dest := q, phase := .sending 0, tries := 0, rsp := [none, none, none],
                            bytes := s.message enc (m.arg 4 4),
                            timeout := s.cf F.RVE_CONFIG_RVE_REMOTE_TIMEOUT }
      .next ((s.runOn n (resRing r)).setRemote r (some x))
  else .next s

/-! ## Lane sleep (R182, R183) -/

/-- The refusals LANE_SLEEP and LANE_WAKE share: BAD_ARG for a port above 9 or a reserved bit, NOT_IN_ROLE for P5 to P9 in
cell and port roles. -/
def State.laneArgs (s : State) (n : Nat) : Option Status :=
  let m := s.mb n
  if m.arg 0 1 > 9 || m.arg 1 1 > 3 then some .badArg
  else if !s.isStation && m.arg 0 1 > 4 then some .notInRole
  else none

/-- R182, R183: LANE_SLEEP; directions that were to wake with their polder stay asleep. -/
def execLaneSleep (n : Nat) (s : State) : Ans :=
  if s.takes n 0x32 then
    let p := (s.mb n).arg 0 1
    let d := (s.mb n).arg 1 1
    match s.laneArgs n with
    | some st => .next (s.respond n st [])
    | none =>
      if d != 0 && (s.portRing p).isSome && s.usable p && !s.is (F.CUL_Pn_STATUS_WRAPPED p) then
        .next (s.respond n .refusedState [])
      else
      let s := s.withPwr { s.pwr with
        laneTx := if natBit d 0 then s.pwr.laneTx &&& ~~~(1#10 <<< p) else s.pwr.laneTx,
        laneRx := if natBit d 1 then s.pwr.laneRx &&& ~~~(1#10 <<< p) else s.pwr.laneRx }
      if s.portOn p then
        let s := if natBit d 0 then s.sleepTx p else s
        let up := s.get (F.CUL_Pn_STATUS_RX_STATE p) == 5
        let s := if natBit d 1 then (let r := s.sleepRx p; if up then r.leftUp p false else r) else s
        .next ((s.respond n .ok []).settle)
      else .next (s.respond n .ok [])
  else .next s

/-- R182, R183: LANE_WAKE; a Culvert polder that is off starts, and the directions wake when it is on, a transmit direction once
the device may transmit (R104). -/
def execLaneWake (n : Nat) (s : State) : Ans :=
  if s.takes n 0x33 then
    let p := (s.mb n).arg 0 1
    let d := (s.mb n).arg 1 1
    match s.laneArgs n with
    | some st => .next (s.respond n st [])
    | none =>
      if s.servicePlan || (!s.isStation && p ≥ 2) then .next (s.respond n .refusedState [])
      else if s.portOn p then
        let s := if natBit d 0 then s.askTx p else s
        let s := if natBit d 1 then s.askRx p else s
        .next (s.respond n .ok []).settle
      else
        let s := s.withPwr { s.pwr with
          laneTx := if natBit d 0 then s.pwr.laneTx ||| (1#10 <<< p) else s.pwr.laneTx,
          laneRx := if natBit d 1 then s.pwr.laneRx ||| (1#10 <<< p) else s.pwr.laneRx }
        .next ((s.demand [portPolder p]).respond n .ok [])
  else .next s

/-! ## Ring commands -/

/-- R172, R29, R30: RING_DISCOVER from mailbox `n`. As it is taken the rings are held and discovery frames go out for 256 tides
(R127); the next event finds the positions from their HOPS and sends IDENTIFY to each; the one after that has all answers: IDs are
assigned, and CONFIG_WRITE and VAULT_COMMIT go to the devices. The boundaries end it (`State.discoverTide`). `found` gives, per ring
index, the device IDs found in hop order (none for a ring on other ports than R19 names). -/
def execRingDiscover (n : Nat) (found : List (List Nat)) (s : State) : Ans :=
  if s.takes n 0x30 then
    let mask := (s.mb n).arg 0 1
    let rs := ringsIn mask
    if mask > 15 then .next (s.respond n .badArg [])
    else if s.held &&& resRings mask != 0 then .next (s.respond n .busy [])
    else match s.needPolders n (rs.flatMap s.ringPolders) with
    | some t => .next t
    | none =>
      if rs.any s.ringDriving then .next (s.respond n .refusedState [])
      else .next ((s.runOn n (resRings mask)).ringStage n 1)
  else if s.runs n 0x30 then
    match (s.mb n).stage with
    | 1 => .next (if (s.mb n).inStage ≥ 256 then (s.identifyAll (s.ringMask n) found).ringStage n 2 else s)
    | 2 => .next (if (s.ringMask n).all s.ringQuiet then (s.placeAll n found).ringStage n 3 else s)
    | _ => .next s
  else .next s

/-- R176: a wrap of ring `r` lies at a port that is not READY from both ends: at one of this station's own, or as `wraps` says of a
device's. A port that faces the sleeping block is left out: the ring runs wrapped there (R167). -/
def State.wrapBad (s : State) (wraps : BitVec 4) (r : Nat) : Bool :=
  let block := s.cf (F.CUL_RINGr_SLEEP_FIRST_ASLEEP r) != 0
  let own := if s.twn.operating then (if block && s.isTwinB then [] else [r]) else if block then [2 * r] else [2 * r, 2 * r + 1]
  wraps.getLsbD r || own.any (fun p => !(s.is (F.CUL_Pn_STATUS_READY p) && (s.cport p).peerReady))

/-- R176: every awake position found on ring `r` has reported ALIGNED in selector 24. -/
def State.ringAligned (s : State) (r : Nat) : Bool :=
  ((List.range (s.get (F.CUL_RINGr_STATE_FOUND r))).map (· + 1)).all (fun q =>
    s.is (F.CUL_POS_r_s_ASLEEP r q)
      || (match s.reported r q 24 with | some v => bitsOf v F.CUL_ALIGN_STATE.lo F.CUL_ALIGN_STATE.w == 1 | none => false))

/-- R35, R176: the delays do not allow a single break of a ring with loop delay `l`. -/
def State.delayShort (s : State) (l : Nat) : Bool :=
  let need := ceilDiv (2 * l) 64000 + 1
  decide (s.cf F.CUL_CONFIG_CUL_INPUT_DELAY < need) || decide (s.cf F.CUL_CONFIG_CUL_APPLY_DELAY < need)

/-- R176: RING_ALIGN from mailbox `n`: `wraps` names the rings whose wrap lies at a port of a device that is not READY from both ends.
As it is taken UNWRAP goes out and the rings are held (R127); after 1,024 tides the next event gives the loop delays measured
(`loops`), sent from then on with LOOP_VALID; a later one ends the command: with `aligned`, every awake position found has
reported ALIGNED; else the 20 ms are over. -/
def execRingAlign (n : Nat) (loops : List Nat) (aligned : Bool) (s : State) (wraps : BitVec 4 := 0) : Ans :=
  if s.takes n 0x31 then
    let mask := (s.mb n).arg 0 1
    let rs := ringsIn mask
    if mask > 15 then .next (s.respond n .badArg [])
    else if s.held &&& resRings mask != 0 then .next (s.respond n .busy [])
    else match s.needPolders n (rs.flatMap s.ringPolders) with
    | some t => .next t
    | none =>
      if rs.any (fun r => s.get (F.CUL_RINGr_STATE_FOUND r) == 0 || s.wrapBad wraps r) then .next (s.respond n .refusedState [])
      else
        let s := rs.foldl (fun s r => s.withCul { s.cul with unwrap := s.cul.unwrap.set r true }) s
        .next ((s.runOn n (resRings mask)).ringStage n 1)
  else if s.runs n 0x31 then
    let rs := s.ringMask n
    match (s.mb n).stage with
    | 1 =>
      if (s.mb n).inStage ≥ 1024 then
        let s := rs.foldl (fun s r =>
          (s.put (F.CUL_RINGr_LOOP_L r) (loops.getD r 0)).put (F.CUL_RINGr_STATE_LOOP_VALID r) 1) s
        .next (s.ringStage n 2)
      else .next s
    | _ =>
      if aligned && rs.all s.ringAligned then
        let s := rs.foldl (fun s r =>
          (s.put (F.CUL_RINGr_STATE_STATE r) 2).flag (F.CUL_RINGr_STATE_DELAY_SHORT r) (s.delayShort (s.get (F.CUL_RINGr_LOOP_L r)))) s
        .next ((s.respond n .ok []).settle)
      else if !aligned && (s.mb n).inStage ≥ 20000 then .next (s.respond n .timeout [])
      else .next s
  else .next s

/-- R168: WAKE_REMOTE from mailbox `n`: refused unless the slot is the first of the sleeping block. As it is taken LANE_WAKE for the
transmit direction of P1 goes to the position before it, or the station's own port wakes, and the ring is held (R127). The next
event says that the port between has been READY from both ends for 1,024 tides (`ready`): UNWRAP goes out. A later one says that
the target's records appear intact and without STALE (`woke`): FIRST_ASLEEP advances by an internal commit. Either without its word
is the end of the 50 ms. -/
def execWakeRemote (n : Nat) (woke : Bool) (s : State) (ready : Bool := true) : Ans :=
  if s.takes n 0x09 then
    let r := (s.mb n).arg 0 1
    let q := (s.mb n).arg 1 1
    if r > 3 || q = 0 || q > 96 then .next (s.respond n .badArg [])
    else if s.held &&& resRing r != 0 then .next (s.respond n .busy [])
    else match s.needPolders n (s.ringPolders r) with
    | some t => .next t
    | none =>
      if s.cf (F.CUL_RINGr_SLEEP_FIRST_ASLEEP r) != q || s.relayFull r q then .next (s.respond n .refusedState [])
      else .next (((s.wakeNext r q).runOn n (resRing r)).ringStage n 1).settle
  else if s.runs n 0x09 then
    let r := (s.mb n).arg 0 1
    let q := (s.mb n).arg 1 1
    let over_ := decide ((s.mb n).tides ≥ 50000)
    match (s.mb n).stage with
    | 1 =>
      if ready && decide ((s.mb n).inStage ≥ 1024) then
        .next ((s.withCul { s.cul with unwrap := s.cul.unwrap.set r true }).ringStage n 2)
      else if !ready && over_ then .next (s.respond n .timeout [])
      else .next s
    | 2 =>
      if woke && s.appears r q s.tide then
        let next := if q + 1 > s.positions r then 0 else q + 1
        .next (((s.ringStage n 3).internalCommit n [(F.CUL_RINGr_SLEEP_FIRST_ASLEEP r, next)] .ok []).settle)
      else if !woke && over_ then .next (s.respond n .timeout [])
      else .next s
    | _ => .next s
  else .next s

end Sys2Proof.Machine
end

