-- ==== Sys2Proof/Machine/Drive.lean ====
section
/-! DEFINITION. Gate drive, DC bus and chopper as commands (10_gate_drive.md R303 to R324). -/
namespace Sys2Proof.Machine

/-! ## Channels and half-bridges -/

/-- Gate `k` is on. -/
def State.gateOn (s : State) (k : Nat) : Bool := s.pins.gates.getLsbD k

/-- R305: a channel desaturates: its half-bridge faults (R308), or the chopper fails (R320). -/
def execDesaturation (channel : Nat) (s : State) : Ans :=
  .next (if s.isOn 13 && decide (channel < 9) && natBit (s.cf F.GDR_CHAN_CFG_DESAT_EN) channel && s.gateOn channel then
      if s.chopChannel channel then s.chopFault else (s.hbFault (channel / 2) (1 + channel % 2)).drive
    else s).settle

/-- R306: a channel enters or leaves undervoltage. -/
def execChannelUndervoltage (channel : Nat) (under : Bool) (s : State) : Ans :=
  .next (if s.isOn 13 && decide (channel < 9) then
      let u := s.get F.GDR_CH_STATUS_UVLO
      let u' := if natBit u channel == under then u else if under then u + 2 ^ channel else u - 2 ^ channel
      (s.put F.GDR_CH_STATUS_UVLO u').drive
    else s).settle

/-- R307: both inputs of a half-bridge are on. -/
def execBothOnRefused (hb : Nat) (s : State) : Ans :=
  .next (if s.isOn 13 && decide (hb < 4) && !s.chopHb hb then (s.hbFault hb 5).drive else s).settle

/-- Table 10-1: a channel named by a set cause of HBn has had, since its newest cause, an input edge at which the conditions of
every set cause were absent. -/
def State.namedEdge (s : State) (n : Nat) : Bool :=
  let c := s.gdr.cause.getD n 0
  let e := fun (k : Nat) => s.gdr.edges.getLsbD k
  ((natBit c 1 || natBit c 3 || natBit c 5 || natBit c 6) && e (2 * n))
    || ((natBit c 2 || natBit c 4 || natBit c 5) && e (2 * n + 1))

/-- R309: an input edge at which the conditions of every set cause are absent ends the hold of HBn. -/
def execHalfBridgeHoldEnd (hb : Nat) (s : State) : Ans :=
  .next (if s.isOn 13 && decide (hb < 4) && s.hbHeld hb && s.namedEdge hb then
      let s := s.put F.GDR_STATUS_HB_HOLD (s.get F.GDR_STATUS_HB_HOLD - 2 ^ hb)
      let s := s.withGdr { s.gdr with cause := s.gdr.cause.set hb 0 }
      (s.raiseInt (80 + hb)).drive
    else s).settle

/-- R304: a channel die sees no refresh for 1 µs and turns its output off. -/
def execDieRefreshLoss (channel : Nat) (s : State) : Ans :=
  if channel < 9 then
    let g := s.pins.gates &&& ~~~(1#9 <<< channel)
    let s := s.withPins { s.pins with gates := g }
    .next (if s.isOn 13 then (s.put F.GDR_CH_STATUS_ON g.toNat).flag F.GDR_STATUS_CHOP_ON (natBit g.toNat 8) else s)
  else .next s

/-! ## Bootstrap supply (R310 to R313) -/

/-- HBn has a bootstrap-supplied high side, and its high switch is on. -/
def State.bootstrapped (s : State) (n : Nat) : Bool :=
  s.isOn 13 && decide (n < 4) && natBit (s.cf F.GDR_CHAN_CFG_BS_EN) n && s.gateOn (2 * n)

/-- R310: the on-time count reaches 0.8 of GDR_BSMAX. -/
def execBootstrapWarn (hb : Nat) (s : State) : Ans :=
  .next (if s.bootstrapped hb then
      let w := s.get F.GDR_STATUS_BS_WARN
      if natBit w hb then s else s.put F.GDR_STATUS_BS_WARN (w + 2 ^ hb)
    else s)

/-- R311: a turn-off of the function in `off` steps leaves no room for a notch. -/
def State.noNotch (s : State) (n : Nat) (off : Option Nat) : Bool :=
  match off with
  | some k => decide (10 * k ≤ 10 * (2 * s.cf (F.MOD_HBn_TIMING_DEAD n) + s.cf (F.MOD_HBn_TIMING_MINP n))
      + 64 * s.cf F.GDR_BS_GDR_BSREFRESH)
  | none => false

/-- R311, R313: the on-time count reaches GDR_BSMAX; `offIn` is the time to the function's next turn-off of the high switch, in
steps. The notch begins: the high switch turns off; its further edges follow as time passes (State.notchTo). -/
def execBootstrapMaxReached (hb : Nat) (offIn : Option Nat) (s : State) : Ans :=
  .next (if s.bootstrapped hb && s.unheld hb then
      if !natBit (s.cf F.GDR_CHAN_CFG_REFRESH_EN) hb then (s.hbFault hb 6).drive
      else if s.noNotch hb offIn then s
      else
        let s := s.bump F.GDR_BS_NOTCH_COUNT
        (s.withGdr { s.gdr with notch := s.gdr.notch.set hb (some { start := s.tim.now }) }).drive
    else s).settle

/-- R313: the die limits the on-time of a bootstrap-supplied high switch. -/
def execDieBootstrapLimit (hb : Nat) (s : State) : Ans :=
  .next (if s.bootstrapped hb then (s.hbFault hb 6).drive else s).settle

/-! ## Bus and chopper (R314 to R320) -/

/-- R314: comparator `k` (1 to 3) becomes above or below. -/
def execOvComparatorChange (k : Nat) (above : Bool) (s : State) : Ans :=
  .next (if s.isOn 13 && decide (1 ≤ k ∧ k ≤ 3) && s.cfIs (F.GDR_OVk_CFG_EN k) && s.gdr.above.getLsbD (k - 1) != above then
      (s.ovSet (k - 1) above).drive
    else s).settle

/-- R319: the chopper turns on. -/
def execChopperTurnOn (s : State) : Ans :=
  .next (if s.isOn 13 && s.cfIs F.GDR_CHOP_CFG_EN && !s.is F.GDR_STATUS_CHOP_FAULT && s.gdr.above.getLsbD 0 && !s.gdr.chop then
      let s := s.withGdr { s.gdr with chop := true, check := true }
      let s := s.put F.GDR_BUS_V_ON (s.get F.GDR_BUS_VALUE)
      (s.bump F.GDR_CHOP_COUNT_COUNT).drive
    else s).settle

/-- R319: the chopper turns off by hysteresis; its check has passed. -/
def execChopperTurnOff (s : State) : Ans :=
  .next (if s.isOn 13 && s.gdr.chop && !s.gdr.above.getLsbD 0 then
      (s.withGdr { s.gdr with chop := false, check := false }).drive
    else s).settle

/-- R320: no bus drop within GDR_CHOP_CHECK. -/
def execChopperCheckFailed (s : State) : Ans :=
  .next (if s.isOn 13 && s.gdr.check then s.chopFault else s).settle

/-- R315, R319: a sample of the monitor converter. -/
def execBusMonitorSample (value : BitVec 12) (s : State) : Ans :=
  .next (if s.isOn 13 then
      let s := s.put F.GDR_BUS_VALUE value.toNat
      let v := s.get F.GDR_BUS_V_ON
      if s.gdr.check && decide (value.toNat ≤ v - v / 50) then s.withGdr { s.gdr with check := false } else s
    else s)

/-- R324: the Sluice lands, at the levels `a` and `b`, have differed from the command for 10 µs. -/
def execSluiceMismatch (a b : Bool) (s : State) : Ans :=
  .next (if s.isOn 13 && (a != s.is F.GDR_SLUICE_CMD || b != s.is F.GDR_SLUICE_CMD) then
      let s := (s.flag F.GDR_SLUICE_A_LAND a).flag F.GDR_SLUICE_B_LAND b
      ((s.put F.GDR_SLUICE_MISMATCH 1).raiseInt 87).fault 90
    else s).settle

end Sys2Proof.Machine
end

