-- ==== Sys2Proof/Machine/Faults.lean ====
section
/-! DEFINITION. Fault events, acknowledgement, the interrupt registers and Strata as commands (11_faults_interrupts.md R327 to
R352). -/
namespace Sys2Proof.Machine

/-- R335, R336: FAULT_ACK from mailbox `n`. The response gives the sources that are sticky after the command and its own events. -/
def execFaultAck (n : Nat) (s : State) : Ans :=
  if s.takes n 0x60 then
    if s.pwr.phase = .starting then .next (s.respond n .refusedState [])
    else if s.pwr.phase = .stopping then .next (s.respond n .busy [])
    else
      let mask := (s.mb n).arg 0 16
      let s := (((List.range 128).filter (fun k => natBit mask k && !reservedSource k)).foldl State.ackSource s).settle
      .next (s.respond n .ok (sourceBytes s.flt.sticky)).settle
  else .next s

/-- R339: FAULT_INJECT from mailbox `n`; `factory` says that the factory JTAG sequence has entered factory test. -/
def execFaultInject (n : Nat) (factory : Bool) (s : State) : Ans :=
  if s.takes n 0x61 then
    let k := (s.mb n).arg 0 1
    let test := match s.pwr.latch with | some t => t.testmode | none => false
    if !(test && factory) then .next (s.respond n .factoryOnly [])
    else if reservedSource k then .next (s.respond n .badArg [])
    else
      let s := s.fault k
      let s := s.withFlt { s.flt with injected := s.flt.injected ||| (1#128 <<< k) }
      .next (s.respond n .ok []).settle
  else .next s

/-- R330: an error signal of source `source` is asserted for a moment; the collector makes it an event. -/
def execFaultEvent (source : Nat) (s : State) : Ans :=
  if source < 128 then .next (s.fault source).settle else .next s

/-- R329: the rails of a source have agreed for two core clocks. -/
def execBrokenErrorWire (source : Nat) (s : State) : Ans :=
  if s.isOn 1 && !s.flt.wiring && decide (source < 128) && !s.flt.wire.getLsbD source then
    let s := s.withFlt { s.flt with wire := s.flt.wire ||| (1#128 <<< source) }
    .next (s.raiseInt 164).settle
  else .next s

/-- R329: the rails of a source have been valid for two core clocks. -/
def execErrorWireRestored (source : Nat) (s : State) : Ans :=
  if s.isOn 1 && !s.flt.wiring then
    .next (s.withFlt { s.flt with wire := s.flt.wire &&& ~~~(1#128 <<< source) }).settle
  else .next s

/-! ## Interrupt registers (R344 to R348) -/

/-- R344: a commit to INT_PENDk. -/
def execIntPendWrite (k : Nat) (value : Word) (s : State) : Ans :=
  if s.isOn 1 && decide (k < 8) then .next (s.writePend k value) else .next s

/-- R345: a commit to INT_ENk. -/
def execIntEnWrite (k : Nat) (value : Word) (s : State) : Ans :=
  if s.isOn 1 && decide (k < 8) then .next (s.writeEnables k value) else .next s

/-- R346: a commit to INT_TGTj. -/
def execIntTgtWrite (j : Nat) (value : Word) (s : State) : Ans :=
  if s.isOn 1 && decide (j < 16) then .next (s.writeTargets j value) else .next s

/-- R347, R348: the filtered level of HSLEEPn of a target changes. -/
def execHsleepChange (target : Nat) (low : Bool) (s : State) : Ans :=
  if s.isOn 1 && decide (target < 4) then
    let b := if low then s.int.sleep ||| (1#4 <<< target) else s.int.sleep &&& ~~~(1#4 <<< target)
    let new : IntSt := { s.int with sleep := b }
    .next (s.withInt (if low then new else s.int.raceFrom new true))
  else .next s

/-! ## Strata (R349 to R352) -/

/-- R349, R350: the arbiter accepts the first waiting entry, in the order of the ports. -/
def execStrataEntryAccepted (s : State) : Ans :=
  match takeOffer s.str.queues with
  | some r => if s.isOn 1 then .next ((s.withStr { s.str with queues := r.2 }).acceptEntry r.1).settle else .next s
  | none => .next s

/-- R349: STR_MARK is written. -/
def execStrataMark (value : BitVec 16) (s : State) : Ans :=
  if s.isOn 1 then .next (s.hostMark value.toNat).settle else .next s

/-- R352: a capturing read of STR_DATA_LO at a host port. -/
def execStrataDataRead (port : Port) (s : State) : Ans :=
  if s.isOn 1 then .next ((s.spaced port.kind).portRead port s.pwr.straps R.STR_DATA_LO).2.settle else .next s

end Sys2Proof.Machine
end

