-- ==== Sys2Proof/Machine/Frames.lean ====
section
/-! DEFINITION. Tide frames on reception, in a device that forwards them and in an origin that ends them (05_culvert.md
R152 to R181; 01_system.md R22, R31 to R34). -/
namespace Sys2Proof.Machine

/-! ## A cell or port device -/

/-- R33, R449: the rank of a copy: the direction in single-station operation; in twin operation the active twin's copy first,
twin A's before twin B's. -/
def copyRank (f : TideFrame) : Nat :=
  if f.echoState = 0 then f.dir else if f.echoState = 1 || f.echoState = 4 then f.origin else 2 + f.origin

/-- R449: in twin operation a frame's entries count as intact only if its ECHO_COUNT differs from that of the last intact frame
of the same ORIGIN on the port. -/
def State.echoFresh (s : State) (p : Nat) (f : TideFrame) : Bool :=
  f.echoState == 0 || (s.cport p).echo.getD f.origin none != some f.echoCount

/-- The ECHO_COUNT of an intact frame is kept for the next one (R449). -/
def State.keepEcho (s : State) (p : Nat) (f : TideFrame) : State :=
  s.setCport p { s.cport p with echo := (s.cport p).echo.set f.origin (some f.echoCount) }

/-- R34, R161: an intact command entry is taken for its apply tide; one whose boundary has passed, and of which no copy came in
time, is counted late, once for both copies (DEDUCED, assumption 100). Whether it is executed is decided at its boundary
(`State.mayExecute`). -/
def State.takeEntry (s : State) (f : TideFrame) : State :=
  let r := s.ownRing
  let t := (f.tide + f.apply) % 2 ^ 32
  let v := s.entryIn r s.ownSlot f.body
  let s' := s.withCul { s.cul with taken := keepTide t s.cul.taken }
  if laterThan t (s.get F.CUL_TIDE_TIDE) then s'.withCul { s'.cul with entries := s.cul.entries ++ [⟨t, v, copyRank f⟩] }
  else if s.cul.taken.contains t then s
  else ((s'.bump F.CUL_COUNTS_LATE).raiseInt 14).fault 17

/-- R152: the loop delay is put together from intact frames of two consecutive tides, of either direction, that carry
LOOP_VALID. -/
def State.takeLoop (s : State) (f : TideFrame) : State :=
  let keep := fun (x : Option (Nat × Nat × Nat)) => s.withCul { s.cul with loopHalf := s.cul.loopHalf.set f.dir x }
  if f.flagBit 6 then
    let h := b2n f.loopHigh
    let s' := keep (some (f.tide, h, f.loopWord))
    match s.cul.loopHalf.getD f.dir none with
    | some (t, h0, v0) =>
      if t = f.tide then s
      else if (t + 1) % 2 ^ 32 = f.tide && h0 != h then
        let l := if h = 1 then f.loopWord * 65536 + v0 else v0 * 65536 + f.loopWord
        (s'.put (F.CUL_RINGr_LOOP_L s.ownRing) l).put F.CUL_ALIGN_LOOP_VALID 1
      else s'
    | none => s'
  else (keep none).put F.CUL_ALIGN_LOOP_VALID 0

/-- R177: the header's numbering against the device's own (each frame is its delay later than its boundary). An unaligned
device takes the numbering as it comes (Table 5-11). A frame on its way back from a wrap is not compared: by how much it is late the
device does not know (DESIGN CHOICE, assumption 100). -/
def State.numberTide (s : State) (f : TideFrame) : State :=
  if f.isWrapped then s
  else if s.get F.CUL_ALIGN_STATE = 0 then
    if f.dir = s.cul.refPort || !(s.cport s.cul.refPort).seen then
      let s := s.put F.CUL_TIDE_TIDE f.tide
      s.withCul { s.cul with running := true, matched := true }
    else s
  else
    let here := (f.tide + s.delayTides f.dir) % 2 ^ 32
    if here = s.get F.CUL_TIDE_TIDE then s.withCul { s.cul with matched := true }
    else if s.cul.takeover.isSome then s
    else
      let s := s.withCul { s.cul with takeover := some ((here + 1) % 2 ^ 32), tideMatch := 0, matched := false }
      (s.raiseInt 18).fault 23

/-- The slot a device answers to on the message channel: its own, or the temporary one of discovery (R172); none without both. -/
def State.msgSlot (s : State) : Option Nat :=
  if s.placed then some s.ownSlot else if s.cul.tempSlot = 0 then none else some s.cul.tempSlot

/-- R171: a chunk of a request for the device; the last one rings M3, and an acknowledge follows. A message to slot 127 is not
answered (R170). -/
def State.takeRequestChunk (s : State) (c : Chunk) : State :=
  let m := s.cul.msg
  let all := c.dest == 127
  let chunks := m.chunks.set c.idx (some c.payload)
  if c.last && chunks.all Option.isSome then
    let bytes := chunks.flatMap (fun x => x.getD [])
    let tag := (bytes.getD 1 0)
    let ack := fun (m : MsgDev) (v : Byte) => if all then m else { m with ack := some v, ackAt := none }
    let m := { m with chunks := [none, none, none] }
    if m.lastTag == some tag then s.withCul { s.cul with msg := ack m 0 }
    else if s.ringable 3 then
      let s := s.withCul { s.cul with msg := { ack m 0 with lastTag := some tag, silent := all } }
      let s := s.fillWords (R.RVE_Mn_REQk 3 0) bytes
      s.ring 3 (fun x => { x with seconds := BitVec.ofNat 32 (leAt bytes 52 4), origin := leAt bytes 56 4 })
    else
      let s := s.withCul { s.cul with msg := ack m 1 }
      s.ring 3 id
  else s.withCul { s.cul with msg := { m with chunks := chunks } }

/-- The response chunk that goes into a channel of tide `t`, if any. -/
def State.responseOut (s : State) (q t : Nat) : Chunk × State :=
  let m := s.cul.msg
  match m.outAt.idxOf? t, m.phase with
  | some k, _ => (chunkFrom m.out 0 q 2 k, s)
  | none, .sending k =>
    if m.outAt.all (fun u => laterThan t u) then
      (chunkFrom m.out 0 q 2 k,
        s.withCul { s.cul with msg := { m with outAt := m.outAt ++ [t], phase := if k ≥ 2 then .waitAck else .sending (k + 1) } })
    else (emptyChunk, s)
  | none, _ => (emptyChunk, s)

/-- What the device of slot `q` writes into a channel of tide `t` that is empty or that it has just emptied: an acknowledge or a
response chunk, one per tide and the same in both directions, or nothing (R170, R171). -/
def State.channelOut (s : State) (q t : Nat) : Chunk × State :=
  let m := s.cul.msg
  let put := fun (m : MsgDev) => s.withCul { s.cul with msg := m }
  let here := fun (b : Byte) => (⟨0, q, 3, 0, true, [b]⟩ : Chunk)
  match m.ack, m.outAt.idxOf? t, m.phase with
  | some b, none, _ =>
    if m.ackAt = none then (here b, put { m with ackAt := some t })
    else if m.ackAt = some t then (here b, s)
    else s.responseOut q t
  | _, _, _ => s.responseOut q t

/-- A chunk for the device in a frame of tide `t`: the first copy is taken, the other one ignored (R170). -/
def State.takeChunk (s : State) (t : Nat) (c : Chunk) : State :=
  if s.cul.msg.taken.contains t then s
  else
    let s := s.withCul { s.cul with msg := { s.cul.msg with taken := keepTide t s.cul.msg.taken } }
    if c.type = 1 then s.takeRequestChunk c
    else if c.type = 3 then s.withCul { s.cul with msg := { s.cul.msg with phase := .given, outAt := [] } }
    else s

/-- R170: the message channel of a passing frame. -/
def State.passChannel (s : State) (f : TideFrame) : TideFrame × State :=
  let c := chunkOf f.body
  let s' := if c.dest = 127 && c.type = 1 then s.takeChunk f.tide c else s
  match s.msgSlot with
  | some q =>
    if c.type = 0 || c.dest = q then
      let r := (if c.type = 0 then s else s.takeChunk f.tide c).channelOut q f.tide
      ({ f with body := putChunk f.body r.1 }, r.2)
    else (f, s')
  | none => (f, s')

/-- Token word `k` of a frame comes before `l`: by event time, older first, then by line (R429). -/
def tokenBefore (k l : Nat) : Bool :=
  let age := fun (k : Nat) => k / 2 ^ 13 % 16
  if age k != age l then decide (age k > age l)
  else if k % 8192 != l % 8192 then decide (k % 8192 < l % 8192) else decide (k / 2 ^ 17 % 32 ≤ l / 2 ^ 17 % 32)

/-- The tokens of an intact frame reach the recorder (R181, R432), in the order in which their causes rank (R429). -/
def State.takeTokens (s : State) (f : TideFrame) : State :=
  (if tokenBefore (f.token 0) (f.token 1) then [f.token 0, f.token 1] else [f.token 1, f.token 0]).foldl (fun s k =>
    if k / 2 ^ 23 % 2 = 1 then
      s.tokenTrigger (k / 2 ^ 17 % 32) ((f.tide + 2 ^ 32 - k / 2 ^ 13 % 16) % 2 ^ 32) (k % 8192)
    else s) s

/-- What an intact frame does to a cell or port device, besides being forwarded. -/
def State.deviceTakes (s : State) (p : Nat) (f : TideFrame) : State :=
  let match_ := f.ringId == s.ringId s.ownRing
  let s := if s.placed && !match_ then (s.raiseInt 17).fault 18 else s
  if f.apply = 0 then
    if f.dir = 0 && !f.isWrapped then s.withCul { s.cul with tempSlot := (leAt f.header 8 1 + 1) % 256 } else s
  else
    let s := s.numberTide f
    let s := s.takeLoop f
    let s := s.takeTokens f
    let s := if f.flagBit 5 then s.withCul { s.cul with unwrapAt := some ((f.tide + f.apply) % 2 ^ 32) } else s
    if s.placed && match_ && !f.isWrapped && s.echoFresh p f then (s.takeEntry f).keepEcho p f
    else s.keepEcho p f

/-- The record for frames of tide `t`: that taken at the boundary of the tide (R158). For a tide that is not among the boundaries
kept it is the newest slot record (DESIGN CHOICE, assumption 100). -/
def State.recordFor (s : State) (t : Nat) : List Byte :=
  ((s.cul.slots.find? (fun x => x.1 == t)).map (·.2)).getD s.cul.slot

/-- R158, R163: the record of the frame's tide is written into a frame that arrives with WRAPPED clear, with STALE set when the
RING_ID differs. -/
def State.writeRecord (s : State) (f : TideFrame) : TideFrame × State :=
  let r := s.ownRing
  if s.placed && !f.isWrapped && f.apply != 0 && decide (s.recAt r s.ownSlot + s.recSize r + 32 ≤ f.body.length) then
    let wrong := f.ringId != s.ringId r
    let b := (s.recordFor f.tide).take (s.recSize r)
    let b := if wrong then patch b 2 [(b.getD 2 0) ||| 1] else b
    ({ f with body := patch f.body (s.recAt r s.ownSlot) b },
      if natBit (leAt b 2 1) 0 then s.bump F.CUL_STALE_SENT_COUNT else s)
  else (f, s)

/-- A frame in a cell or port device: taken, written into, forwarded out of the other used port, or back out of the same one
while the device wraps at the other (R162); discarded at a port where it wraps (R163). A frame of another ring ID passes a placed
device unchanged but for the record (R22); discovery frames, which find devices of any place, are no such frames (DEDUCED,
assumption 96). -/
def State.deviceFrame (s : State) (p : Nat) (f : TideFrame) (bad : Bool) : State :=
  if s.is (F.CUL_Pn_STATUS_WRAPPED p) then s.bump F.CUL_COUNTS_DROP
  else
    let s := if bad then s else s.deviceTakes p f
    let disc := f.apply == 0
    let foreign := s.placed && f.ringId != s.ringId s.ownRing && !disc
    let f := if disc && f.dir == 0 && !f.isWrapped then
        { f with header := patch f.header 8 [BitVec.ofNat 8 (leAt f.header 8 1 + 1)] } else f
    let r := if bad || f.isWrapped || foreign then (f, s) else s.passChannel f
    let w := r.2.writeRecord r.1
    let f := w.1
    let s := w.2
    let o := 1 - p
    let wrap := s.is (F.CUL_Pn_STATUS_WRAPPED o) || !s.usable o
    let out := if wrap then p else o
    let t := if f.isWrapped || disc || foreign then (f, s.cul.tokens) else putTokens f.dir f s.cul.tokens
    let s := s.withCul { s.cul with tokens := t.2 }
    if s.txAwake out then s.send out (.frame ((s.reflag out wrap t.1).seal bad)) else s

/-! ## An origin -/

/-- The highest position whose slot somebody has written (0: none). -/
def State.lastWritten (s : State) (r : Nat) (recs : List Byte) : Nat :=
  (List.range (s.positions r)).foldl (fun k i =>
    if bytesAt recs (i * s.recSize r) (s.recSize r) != emptyRecord (s.recSize r) then i + 1 else k) 0

/-- R164: a frame came back wrapped: WRAP_SEEN, and UNPLANNED_WRAP unless the wrap lies at the sleeping block. Where it lies is taken
from the highest record slot that somebody has written; a wrap that a frame of direction 1 shows counts as unplanned (DESIGN CHOICE,
assumption 100). -/
def State.wrapSeen (s : State) (r : Nat) (dir : Nat) (recs : List Byte) : State :=
  let first := s.cf (F.CUL_RINGr_SLEEP_FIRST_ASLEEP r)
  let planned := dir == 0 && first != 0 && s.lastWritten r recs + 1 == first
  let s := if s.is (F.CUL_RINGr_STATE_WRAP_SEEN r) then s else (s.put (F.CUL_RINGr_STATE_WRAP_SEEN r) 1).raiseInt (10 + r)
  let s := s.withCul { s.cul with wrappedNow := s.cul.wrappedNow.set r true }
  let s := if dir == 0 then s.wrapPointAt r (s.lastWritten r recs + 1) else s
  if planned then s
  else (s.put (F.CUL_RINGr_STATE_UNPLANNED_WRAP r) 1).withCul { s.cul with unplanned := s.cul.unplanned.set r true }

/-- A response chunk's sender is acknowledged. -/
def State.ackChunk (s : State) (r : Nat) (c : Chunk) : State := s.withCul { s.cul with ackTo := s.cul.ackTo.set r (some c.src) }

/-- A chunk of a response to the station's request on ring `r` (R134, R135, R171): the first chunk begins it anew; a whole response is
acknowledged, and with the request's TAG it is the answer, else discarded. `x` is the request in flight. -/
def State.responseChunk (s : State) (r : Nat) (x : RemoteSt) (c : Chunk) : State :=
  let rsp := (if c.idx = 0 then [none, none, none] else x.rsp).set c.idx (some c.payload)
  let b := rsp.flatMap (fun p => p.getD [])
  if c.last && rsp.all Option.isSome then
    let s := s.ackChunk r c
    if b.getD 1 0 = x.bytes.getD 1 0 then
      (s.setRemote r none).respondWith x.mailbox .ok (bytesAt b 4 (leAt b 3 1)) (b.take 4)
    else s.setRemote r (some { x with rsp := [none, none, none] })
  else s.setRemote r (some { x with rsp := rsp })

/-- R134, R135, R171: a chunk for the station in a frame of tide `t`. Of a response chunk the first copy is taken; a response is
acknowledged once it is whole, one sent again or come too late with its last chunk. -/
def State.stationChunk (s : State) (r t : Nat) (c : Chunk) : State :=
  if c.type = 3 then
    match s.remoteOn r with
    | some x =>
      if c.src = x.dest && x.phase = .waitAck then
        s.setRemote r (some { x with phase := if c.payload.headD 0 = 0 then .waitRsp else .busyWait })
      else s
    | none => s
  else if c.type != 2 || (s.cul.rspAt.getD r []).contains t then s
  else
    let s := s.withCul { s.cul with rspAt := s.cul.rspAt.set r (keepTide t (s.cul.rspAt.getD r [])) }
    let late := if c.last then s.ackChunk r c else s
    match s.remoteOn r with
    | some x => if c.src = x.dest && (x.phase = .waitAck || x.phase = .waitRsp) then s.responseChunk r x c else late
    | none => late

/-- R181: an origin sends an unrepeated token again, once, with REPEATED set, on every ring. -/
def State.repeatTokens (s : State) (f : TideFrame) : State :=
  [f.token 0, f.token 1].foldl (fun s k =>
    let line := k / 2 ^ 17 % 32
    let tide := (f.tide + 2 ^ 32 - k / 2 ^ 13 % 16) % 2 ^ 32
    if k / 2 ^ 23 % 2 = 1 && k / 2 ^ 22 % 2 = 0
        && !s.cul.tokens.any (fun x => x.repeated && x.line == line && x.tide == tide && x.offset == k % 8192) then
      s.raiseToken line tide (k % 8192) true
    else s) s

/-- An intact frame in a station device. -/
def State.stationFrame (s : State) (p : Nat) (f : TideFrame) : State :=
  match s.portRing p with
  | none => s
  | some r =>
    if f.ringId != s.ringId r then (s.raiseInt 17).fault 18
    else if f.apply = 0 then s
    else
      let recs := bytesAt f.body (s.cmdBytes r) (s.positions r * s.recSize r)
      let s := s.withCul { s.cul with recs := ⟨r, f.dir, f.tide, s.get F.CUL_TIDE_TIDE, f.isWrapped, recs⟩ :: s.cul.recs }
      let s := if f.isWrapped then s.wrapSeen r f.dir recs else s
      let s := s.takeTokens f
      let s := s.repeatTokens f
      let c := chunkOf f.body
      let s := if c.type != 0 && c.dest = 0 then s.stationChunk r f.tide c else s
      s.twinRingFrame r f

/-- R161: a tide frame reaches a port. It is taken and forwarded only on an UP port while the PLL is locked or coasting
(R149). `codeErrors` were seen on the port in its tide (R142), whatever becomes of the frame. -/
def execTideFrameReceived (port : Nat) (frame : TideFrame) (s : State) (codeErrors : Nat := 0) : Ans :=
  let s := s.heardErrors port codeErrors
  if s.portOn port && s.get (F.CUL_Pn_STATUS_RX_STATE port) == 5 && s.pllRuns && frame.header.length == 16
      && decide (32 ≤ frame.body.length) && s.usedPorts.contains port then
    let bad := !frame.intact
    let s := if bad then s.bump (if frame.stomped then F.CUL_Pn_CRC_STOMPED port else F.CUL_Pn_CRC_BAD port) else s
    let s := if bad then s
      else
        let s := s.flag (F.CUL_Pn_STATUS_PEER_RX_UP port) (frame.flagBit 4)
        let s := s.peerRooted port (frame.flagBit 3)
        let s := s.flag (F.CUL_Pn_STATUS_LEAVING_SEEN port) (frame.flagBit 7)
        let s := s.setCport port { s.cport port with seen := true, wrapLeft := false }
        s.updateUsable port
    let s := if s.isStation then (if bad then s else s.stationFrame port frame) else s.deviceFrame port frame bad
    .next s.settle
  else .next s

end Sys2Proof.Machine
end

