-- ==== Sys2Proof/Machine/Gallery.lean ====
section
/-! DEFINITION. The Gallery's commands (15_gallery.md R424 to R435). -/
namespace Sys2Proof.Machine

/-- R424: sample instant `step` (0 to 4, each 200 ns) of the present tide: so much time has passed since its boundary. Without tide
boundaries there is none. -/
def execGallerySample (step : Nat) (s : State) : Ans :=
  if s.isOn 9 && s.boundaries && decide (step < 5) then
    .next ((s.reach (s.get F.TIM_TIDE_NS_VALUE + 200 * step)).galInstant step).settle
  else .next s

/-- R428: a host writes GAL_TRIG. -/
def execGalTrigWrite (mask : BitVec 16) (s : State) : Ans := .next (s.galHost mask.toNat).settle

/-- R430: HOLD µs have passed since the end of profile `profile`'s record, or its triggers are counted. -/
def execHoldoffEnd (profile : Nat) (s : State) : Ans :=
  let y := s.gp profile
  if s.isOn 9 && y.state == 4 && (s.cf (F.GAL_PROFp_CFG_HOLD_MODE profile) != 2
      || decide (y.counted ≥ s.cf (F.GAL_PROFp_HOLD_VALUE profile))) then .next (s.holdOver profile).settle else .next s

/-- R431: a host writes the index of a record to GAL_FREE. -/
def execGalFreeWrite (index : BitVec 16) (s : State) : Ans := .next (s.galFree index.toNat)

/-- R427: CAPTURE_ARM from mailbox `n`. -/
def execCaptureArm (n : Nat) (s : State) : Ans :=
  if s.takes n 0x50 then
    let p := (s.mb n).arg 0 1
    if p > 3 then .next (s.respond n .badArg [])
    else match s.needPolders n [9] with
    | some t => .next t
    | none =>
      if !s.cfIs (F.GAL_PROFp_CFG_EN p) || (s.gp p).state != 0 then .next (s.respond n .refusedState [])
      else match s.nextSlot p with
        | some i => .next ((s.fillSlot p i).respond n .ok [])
        | none => .next (s.respond n .refusedState [])
  else .next s

/-- R435: CAPTURE_READ from mailbox `n`. -/
def execCaptureRead (n : Nat) (s : State) : Ans :=
  if s.takes n 0x51 then
    match s.needPolders n [9] with
    | some t => .next t
    | none =>
      match s.gal.records.find? (fun r => r.index == (s.mb n).arg 0 2) with
      | some r => .next (s.respond n .ok r.bytes)
      | none => .next (s.respond n .refusedState [])
  else .next s

/-- R427: CAPTURE_DISARM from mailbox `n`; a record in progress ends as it is. -/
def execCaptureDisarm (n : Nat) (s : State) : Ans :=
  if s.takes n 0x52 then
    let p := (s.mb n).arg 0 1
    if p > 3 then .next (s.respond n .badArg [])
    else match s.needPolders n [9] with
    | some t => .next t
    | none => .next ((s.galState p 0).respond n .ok [])
  else .next s

end Sys2Proof.Machine
end

