-- ==== Sys2Proof/Machine/Grid.lean ====
section
/-! DEFINITION. Grid-side control and the loop engine as commands (07_grid_control.md R213 to R247, 09_loop_engine.md R282 to
R302). -/
namespace Sys2Proof.Machine

/-- R214, R217: a step of the observer, at 40 ns and every 200 ns after the boundary; shared results come at their write time
(R444). -/
def execObserverStep (s : State) : Ans :=
  if s.gridRuns then
    let n := min 4 s.dpc.steps
    let s := s.reach (s.get F.TIM_TIDE_NS_VALUE + 40 + 200 * n)
    let s := if s.twn.operating then s.present s.tide (8 + 40 * n) else s
    let s := s.observe
    .next (s.withDpc { s.dpc with steps := n + 1 })
  else .next s

/-- R241: samples arrive from the source; an SV subscription is valid as well. In twin operation the samples are the active's, which
sends none of an invalid subscription (R444, `State.svShare`). -/
def State.trkFed (s : State) : Bool :=
  s.cfIs F.OBS_TRK_SRC_EN && !s.is F.OBS_TRK_STATUS_SRC_LOST && s.dpc.trkAt.isSome
    && (!s.cfIs F.OBS_TRK_SRC_SOURCE || s.twn.operating || s.is (F.SV_SUBs_STATUS_VALID (s.cf F.OBS_TRK_SRC_SV_SLOT)))

/-- The tracker's live conditions hold (R241). -/
def State.trkConditions (s : State) : Bool :=
  s.trkFed && !s.dpc.magFails && !s.dpc.freqFails s.fNom && !s.dpc.lockFails

/-- R241: the conditions have held for 20 ms. -/
def execTrackerValid (s : State) : Ans :=
  .next (if s.gridRuns && s.trkConditions then s.setTrkValid true else s).settle

/-- R241: a condition has failed for 2 ms, or no sample has come for four intervals (`srcLost`). -/
def execTrackerInvalid (srcLost : Bool) (s : State) : Ans :=
  .next (if s.gridRuns && (srcLost || !s.trkConditions) then
      let s := if srcLost then s.put F.OBS_TRK_STATUS_SRC_LOST 1 else s
      s.setTrkValid false
    else s).settle

/-- R247, R444: DPC_CTRL RUN is written. -/
def execRunWrite (value : Bool) (s : State) : Ans :=
  .next (if s.isStation && s.isOn 10 && !s.mod.frozen then
      s.twinWrite R.DPC_CTRL (BitVec.ofNat 32 (b2n value)) (fun s => s.writeRun value)
    else s).settle

/-- R284: the outputs of the pass are published, 600 ns after the boundary. -/
def execLpePublish (s : State) : Ans := .next (if s.isOn 11 then s.lpePublish else s).settle

/-- R297, R444: LPE_FE_CLEAR is written. -/
def execFeClear (mask : Word) (s : State) : Ans :=
  .next (if s.isOn 11 then s.twinWrite R.LPE_FE_CLEAR mask (fun s => s.feClear mask.toNat) else s).settle

end Sys2Proof.Machine
end

