-- ==== Sys2Proof/Machine/Host.lean ====
section
/-! DEFINITION. Host accesses, the SPI target, mailboxes and the Reeve's commands of chapter 4 (04_host_reeve.md R110 to R140,
R470; 02_module.md R65 to R69). -/
namespace Sys2Proof.Machine

/-! ## The parallel bus -/

/-- R65, R66, R68, R114: a read cycle ends at the address `addr`; HD carried the captured unit. An address visited earlier in the
cycle (`visited`) has no side effects. While HCSn, HOEn and HWEn are all low (`allLow`), or VIO1 has no supply (R53), the cycle has no
effect. `straps` are the present levels of the strap lands (HST_ROLE). -/
def execParallelReadCycle (addr : BitVec 24) (_visited : List (BitVec 24)) (allLow : Bool) (straps : Straps) (s : State) : Ans :=
  if allLow || !s.isOn 1 || !s.bank 1 then .next (s.withHdRead none)
  else
    let r := (s.spaced .bus).portRead .bus straps (addr.toNat - addr.toNat % 2)
    .next (r.2.withHdRead (some (BitVec.ofNat 16 r.1))).settle

/-- R67, R68, R113: a write cycle takes effect, with VIO1 present (R53). -/
def execParallelWriteCycle (addr : BitVec 24) (data : BitVec 16) (allLow : Bool) (s : State) : Ans :=
  if allLow || !s.isOn 1 || !s.bank 1 then .next (s.withHdRead none)
  else .next ((((s.withHdRead none).spaced .bus).portWrite .bus (addr.toNat - addr.toNat % 2) data.toNat).marked .bus).settle

/-! ## The SPI target -/

/-- The current address moves on after a data frame (Table 4-2). -/
def State.spiAdvance (s : State) : State :=
  let a := if s.spi.inc then (s.spi.addr + 4) % 2 ^ 24 else s.spi.addr
  s.withSpi { s.spi with addr := a }

/-- R118: the word of the next read data frame is captured. -/
def State.spiCapture (s : State) (now : Straps) : State :=
  let r := s.capture .spi now s.spi.addr
  let c := (r.1.base, r.1.words, BitVec.ofNat 32 r.1.value, r.1.effect)
  (r.2.withSpi { r.2.spi with captured := r.2.spi.captured ++ [c] }).spiAdvance

/-- R62: where SPI_CSn rises after a frame (`ends`), the transaction is over and SPI_SDO high-impedance. -/
def State.spiEnd (s : State) (ends : Bool) : State :=
  if ends then s.withSpi { sdo := s.spi.sdo, finished := true } else s

/-- R117: the header frame of a transaction, with VIO2 present (R53); SPI_SDO returned HST_SPI_STATUS as it stood. `straps` are the present levels of the
strap lands (HST_ROLE). The word of the first data frame of a
read is captured as the turnaround frame begins (DEDUCED, assumption 72). `ends`: SPI_CSn rises after the frame. -/
def execSpiHeaderFrame (header : Word) (s : State) (straps : Straps := ⟨false, false, false, false⟩) (ends : Bool := false) : Ans :=
  if !s.isOn 1 || !s.bank 2 then .next s
  else
    let a := bitsOf header 0 24
    let old := s.word R.HST_SPI_STATUS
    let x : SpiSt := { header := header, addr := a, inc := natBit header.toNat 30, sdo := some old }
    if bitsOf header 24 6 != 0 || a % 4 != 0 then
      .next (((s.put F.HST_SPI_STATUS_BAD_HEADER 1).withSpi { x with phase := .ignored }).spiEnd ends)
    else if natBit header.toNat 31 then
      .next ((((s.withSpi { x with phase := .turnaround }).spaced .spi).spiCapture straps).spiEnd ends)
    else .next ((s.withSpi { x with phase := .writing }).spiEnd ends)

/-- R118: a frame after the header completes. What SPI_SDO returns in an ignored transaction is open (assumption 1). `ends`: SPI_CSn
rises after the frame. -/
def execSpiDataFrame (data : Word) (straps : Straps) (s : State) (ends : Bool := false) : Ans :=
  if !s.bank 2 then .next s else
  match s.spi.phase with
  | .idle => .next s
  | .ignored =>
    let r := s.fresh (2 ^ 32)
    .next ((r.2.withSpi { r.2.spi with sdo := some (BitVec.ofNat 32 r.1) }).spiEnd ends)
  | .writing =>
    let a := s.spi.addr
    let s := (s.withSpi { s.spi with sdo := some 0 }).spiAdvance
    .next ((((s.spaced .spi).portWrite .spi a data.toNat).marked .spi).spiEnd ends).settle
  | .turnaround =>
    .next ((((s.withSpi { s.spi with phase := .reading, sdo := some s.spi.header }).spaced .spi).spiCapture straps).spiEnd ends)
  | .reading =>
    match s.spi.captured with
    | c :: cs =>
      let s := s.withSpi { s.spi with sdo := some c.2.2.1, captured := cs }
      let s := if c.2.2.2 then s.readEffects c.1 c.2.1 else s
      .next (((s.spaced .spi).spiCapture straps).spiEnd ends).settle
    | [] => .next s

/-- R119: SPI_CSn rises within a frame: it is discarded, the transaction is over, and SPI_SDO is high-impedance (R62). -/
def execSpiShortFrame (s : State) : Ans :=
  if s.isOn 1 && s.bank 2 then .next ((s.put F.HST_SPI_STATUS_SHORT_FRAME 1).withSpi {}) else .next s

/-! ## Committed writes -/

/-- R113: a host commits an item. -/
def execRegisterWrite (port : Port) (addr : BitVec 24) (value : BitVec 64) (s : State) : Ans :=
  if s.isOn 1 then
    let i := itemAt (addr.toNat - addr.toNat % 4)
    let ws := (List.range i.2).map (fun k => (value.extractLsb' (32 * k) 32 : Word))
    .next (((s.spaced port.kind).commitItem port i.1 ws).marked port.kind).settle
  else .next s

/-- R125: a doorbell write. -/
def execDoorbell (port : Port) (n : Nat) (value : Word) (s : State) : Ans :=
  if s.isOn 1 && decide (n < 4) then .next ((((s.setPort port {}).spaced port.kind).doorbell port n value).marked port.kind) else .next s

/-! ## Taking commands (R126 to R130) -/

/-- The mailbox taken next: round-robin after the last one. -/
def State.nextMailbox (s : State) : Option Nat :=
  ([1, 2, 3, 4].map (fun k => (s.rve.last + k) % 4)).find? (fun n => s.mbState n == mbQueued)

/-- R447: commands that act on the accepting twin alone. -/
def ownCommand (code : Nat) : Bool :=
  [0x01, 0x02, 0x08, 0x11, 0x13, 0x14, 0x20, 0x21, 0x28, 0x42, 0x43, 0x50, 0x51, 0x52].contains code

/-- R26: without a device ID, M3 executes only the commands of RING_DISCOVER. -/
def State.unnamed (s : State) (n code : Nat) : Bool :=
  n == 3 && s.cf F.HST_DEVICE_ID_DEVICE_ID == 0 && !(([0x01, 0x02, 0x10, 0x12] : List Nat).contains code)

/-- The answer a taken command gets at once, whatever it is; none when its own row goes on (R26, R107, R128, R130, R447). A
malformed request in a role not listed for it answers BAD_ARG, not NOT_IN_ROLE (DESIGN CHOICE, assumption 49). -/
def State.earlyAnswer (s : State) (n : Nat) : Option Status :=
  let m := s.mb n
  if s.pwr.phase == .stopping then some .busy
  else if s.unnamed n m.code then some .refusedState
  else if malformed m.req then some .badArg
  else if stationOnly m.code && !s.isStation then some .notInRole
  else if s.twn.operating && decide (n < 3) && !ownCommand m.code && (s.twin = 3 || s.twin = 4) then some .refusedState
  else none

/-- R126: the Reeve takes the next queued mailbox. -/
def execReeveTakeCommand (s : State) : Ans :=
  if !s.isOn 2 then .next s
  else match s.nextMailbox with
  | none => .next s
  | some n =>
    let s := s.put (F.RVE_Mn_STATE_STATE n) mbExecuting
    let s := s.withRve { s.rve with last := n }
    match s.earlyAnswer n with
    | some st => .next (s.respond n st [])
    | none =>
      let m := s.mb n
      if s.twn.operating && decide (n < 3) && !ownCommand m.code && s.twin = 2 then
        .next ((s.setMb n { m with copied := true, hold := true }).twinSay 1 m.req n)
      else .next s

/-- The response of a copied command with the partner's status: a commit that failed there decides (R447). -/
def MbSt.answer (m : MbSt) : List Byte :=
  match m.partner with
  | some k => if m.copied && commits m.code && k != 0 && leAt m.rsp 2 1 = 0 then
      padTo 64 [BitVec.ofNat 8 m.code, BitVec.ofNat 8 m.tag, BitVec.ofNat 8 k, 0] else m.rsp
  | none => m.rsp

/-- A copied commit still waits for the partner. -/
def State.waitsPartner (s : State) (m : MbSt) : Bool :=
  m.copied && commits m.code && m.partner.isNone && s.twn.operating && s.is F.TWN_STATUS_LINK_ECHO

/-- R129: the response of mailbox `n` is complete. -/
def execResponseComplete (n : Nat) (s : State) : Ans :=
  let m := s.mb n
  if s.isOn 2 && decide (n < 4) && m.ready && s.mbState n == mbExecuting && !s.waitsPartner m then
    let b := m.answer
    let s := s.fillWords (R.RVE_Mn_RSPk n 0) b
    let s := s.put (F.RVE_Mn_STATE_STATE n) mbDone
    let s := s.setMb n { m with ready := false, rsp := [], copied := false, hold := false, partner := none }
    let s := s.raiseInt (192 + n)
    let s := if n = 2 then s.mgmtResponse b else s
    let s : State := if n = 3 && !s.cul.msg.silent then
        s.withCul { s.cul with msg := { s.cul.msg with out := b, outAt := [], phase := .sending 0, tries := 0 } } else s
    .next s.settle
  else .next s

/-! ## Immediate commands -/

/-- R130: IDENTIFY; `straps` are the present strap levels. -/
def execIdentify (n : Nat) (straps : Straps) (s : State) : Ans :=
  if s.takes n 0x01 then
    .next (s.respond n .ok ([s.word R.HST_PART, Config.revision &&& 0xFFFF00FF#32, s.roleWord straps, s.cfgWord R.HST_PLACE,
      s.cfgWord R.HST_DEVICE_ID].flatMap (fun w => leBytes 4 w.toNat)))
  else .next s

/-- PWR_STATE as read. -/
def State.pwrWord (s : State) : Word := setBits (s.word R.PWR_STATE) F.PWR_STATE_STATE.lo F.PWR_STATE_STATE.w s.pwr.phase.code

/-- R130: STATUS. -/
def execStatus (n : Nat) (s : State) : Ans :=
  if s.takes n 0x02 then
    .next (s.respond n .ok ([s.pwrWord, BitVec.ofNat 32 s.pwr.on.toNat, s.word R.CLK_STATUS, s.fltSummary, s.word R.CUL_TIDE,
      BitVec.ofNat 32 s.nowNs].flatMap (fun w => leBytes 4 w.toNat)))
  else .next s

/-- R121, R122: CONFIG_WRITE from mailbox `n`. -/
def execConfigWrite (n : Nat) (s : State) : Ans :=
  if s.takes n 0x10 then
    let m := s.mb n
    let discard := natBit m.flags 0
    if s.held &&& resVault != 0 then .next (s.respond n .busy [])
    else match s.requestKeys ((List.range (m.len / 12)).map m.entry) with
    | .error st => .next (s.respond n st [])
    | .ok keys =>
      match s.stageRequest n discard keys with
      | .error st => .next (s.respond n st [])
      | .ok l => .next ((s.withRve { s.rve with staged := l }).respond n .ok [])
  else .next s

/-- R470: CONFIG_READ from mailbox `n`. -/
def execConfigRead (n : Nat) (s : State) : Ans :=
  if s.takes n 0x11 then
    match s.configRead ((s.mb n).arg 0 4) (s.mb n).flags with
    | .error st => .next (s.respond n st [])
    | .ok d => .next (s.respond n .ok d)
  else .next s

end Sys2Proof.Machine
end

