-- ==== Sys2Proof/Machine/Measure.lean ====
section
/-! DEFINITION. Rounds, results and calibration as commands (06_measurement.md R189 to R209). -/
namespace Sys2Proof.Machine

/-- R192, R194: the start time of a tide start with OFFSET; starts of the other sources have commands of their own. -/
def execAdcRoundStart (conv : Nat) (s : State) : Ans := .next (s.adcDue conv).endClock

/-- R196: the hold of the round's last entry, in ns from the turn-on edge of a modulator start. -/
def State.lastHold (s : State) (n : Nat) : Nat :=
  let last := s.cf (F.ADC_SEQn_CTRL_LAST n)
  s.cf (F.ADC_SEQn_EVENT_DELAY n)
    + (List.range last).foldl (fun t k => t + 10 * (s.cf (F.ADC_SEQn_ENTRYk_TS n k) + 17)) 0
    + 10 * s.cf (F.ADC_SEQn_ENTRYk_TS n last)

/-- R194, R196: the start time of SOURCE 3, DELAY after a low-side turn-on of half-bridge `hb`: the start is taken if the switch stays
on (`onNs` ns from the edge to the turn-off scheduled at the start time) until after the hold of the last entry; otherwise it is
skipped. While a round runs a start counts as an overrun, whatever the check says (DESIGN CHOICE, assumption 76). -/
def execModulatorAdcStart (conv onNs : Nat) (s : State) (hb : Nat := 0) : Ans :=
  if s.isOn 12 && decide (conv < 4) && s.cfgOf (F.ADC_SEQn_CTRL_SOURCE conv) == 3
      && s.cfgOf (F.ADC_SEQn_EVENT_HB conv) == hb && s.cfgOf (F.ADC_SEQn_CTRL_EN conv) == 1 then
    let busy := s.is (F.ADC_SEQn_STATUS_BUSY conv) || s.is (F.ADC_SEQn_STATUS_CAL conv)
    let next := s.applyKeys (adcSeq conv)
    if busy || next.lastHold conv < onNs then .next (s.adcStart conv (s.cfgOf (F.ADC_SEQn_EVENT_DELAY conv)) true).endClock
    else .next (s.adcSkip conv).endClock
  else .next s

/-- R192: ADC_START is written: the named converters start. -/
def execAdcHostStart (mask : BitVec 4) (s : State) : Ans :=
  .next ((s.adcSpaced adcHost).hostStart mask.toNat).endClock

/-- R191: a conversion of the round in progress ends whose v_diff was `pv` picovolts. -/
def execAdcResult (conv : Nat) (pv : Int) (s : State) : Ans :=
  if s.isOn 12 && decide (conv < 4) && s.is (F.ADC_SEQn_STATUS_BUSY conv) then
    let k := (s.adc.conv.getD conv {}).next
    let s := (s.adcResult conv pv).svResult conv k
    .next (s.shareResult conv k).settle
  else .next s

/-- R205, R207: ADC_CALIBRATE from mailbox `n`. -/
def execAdcCalibrate (n : Nat) (s : State) : Ans :=
  if s.takes n 0x20 then
    let mask := (s.mb n).arg 0 1
    if mask = 0 || mask > 15 then .next (s.respond n .badArg [])
    else if s.held &&& resMeasure != 0 then .next (s.respond n .busy [])
    else match s.needPolders n [12] with
    | some t => .next t
    | none =>
      if !s.calWindow then .next (s.respond n .tempWindow []) else .next ((s.runOn n resMeasure).calStart mask)
  else .next s

/-- R205, R209: a calibration run ends with the trims measured (per converter: offset and gain word, four weight words). -/
def execCalibrationComplete (trims : List (List Word)) (s : State) : Ans :=
  let mask := s.get F.ADC_CAL_STATUS_RUNNING
  if s.isOn 12 && mask != 0 then
    let ns := [0, 1, 2, 3].filter (natBit mask)
    let s := ns.foldl (fun s n => s.calEnd n (trims.getD n [])) s
    let s := s.putS F.ADC_CAL_STATUS_CAL_TEMP s.dieTemp
    let s := s.put F.ADC_CAL_STATUS_RUNNING 0
    let s := s.withAdc { s.adc with calibrated := true }
    let s := if ns.all (fun n => trimsPass (trims.getD n [])) then s.put F.ADC_CAL_STATUS_DRIFT 0 else s
    let s := s.raiseInt 63
    let s := match s.runner 0x20 with
      | some n => s.respond n .ok []
      | none => s.withRve { s.rve with autoHeld := s.rve.autoHeld &&& ~~~resMeasure }
    let s := if s.pwr.calRun then s.withPwr { s.pwr with calRun := false, calDone := true } else s.startCalibration
    .next s.settle
  else .next s

/-- R208: DRIFT with ADC_AUTO_CAL: all converters calibrate once every half-bridge is pulse-blocked and the measure resource is
free. -/
def execAutoCalibrationStart (s : State) : Ans :=
  if s.isOn 12 && s.is F.ADC_CAL_STATUS_DRIFT && s.cfIs F.ADC_CONFIG_ADC_AUTO_CAL && s.pulseBlocked
      && s.held &&& resMeasure == 0 && s.get F.ADC_CAL_STATUS_RUNNING == 0 && s.calWindow then
    .next ((s.withRve { s.rve with autoHeld := s.rve.autoHeld ||| resMeasure }).calStart 15)
  else .next s

end Sys2Proof.Machine
end

