-- ==== Sys2Proof/Machine/Modulate.lean ====
section
/-! DEFINITION. Modulation as commands: EN, bridge edges, inverter carrier, trips, freeze, command loss (08_modulation.md R252 to
R279). -/
namespace Sys2Proof.Machine

/-- R253: MOD_CTRL EN is written. -/
def execModEnWrite (value : Bool) (s : State) : Ans := .next (s.writeEn value).settle

/-- The clocks of polder 10 run. -/
def State.modRuns (s : State) : Bool := s.isOn 10 && !s.mod.frozen

/-- R267, R268: a running DAB bridge has an edge. -/
def execDabHalfCycleEdge (bridge : Nat) (s : State) : Ans :=
  .next (if s.modRuns && s.dabBridges.contains bridge && (s.bridge bridge).run == .running then s.dabEdge bridge else s).settle

/-- R269: a quarter-point of a bridge's wave: at 90 degrees, or at 270 degrees (`second`). -/
def execDabQuarterPoint (bridge : Nat) (second : Bool) (s : State) : Ans :=
  .next (if s.modRuns && s.dabBridges.contains bridge then
      let x := s.bridge bridge
      let m := s.dabMode
      if x.run = .running then
        if (m = 0 || m = 3) && decide (x.edges ≥ 2) then s.dabHalt bridge (m == 3) else s
      else if m = 1 || m = 2 then s.dabStart bridge second
      else s
    else s).settle

/-! ## Inverter mode -/

/-- R272: at a carrier valley every leg latches its loop's output, clipped, unless HOLD is set; the legs
are HIGH around it. -/
def execInverterCarrierValley (s : State) : Ans :=
  .next (if s.modRuns && s.isInverter then
      let outs := [0, 1, 2, 3].map (fun l => s.getS (F.LPE_LOOPn_OUT_VALUE (s.invLoop l)))
      let clipped := outs.any (fun r => decide (r < -(2 ^ 24)) || decide (r > 2 ^ 24))
      let s := if natBit s.mod.entry 1 then s
        else
          let m : ModSt := { s.mod with invLatched := outs.map (clampInt (-(2 ^ 24)) (2 ^ 24)), invClip := clipped }
          let first := clipped && !s.mod.invClip
          let s := s.withMod m
          if first then s.raiseInt 75 else s
      if s.mod.invRun then (s.invEval 0 s.mod.invLatched).drive else s
    else s).settle

/-- R273: the legs start at a carrier peak, LOW around it. -/
def State.invStart (s : State) : State :=
  [0, 1, 2, 3].foldl (fun s n =>
    s.invInterval n .low (s.invSteps (2 ^ 31) 0 (2 ^ 31 - dutyAngle (s.mod.invRef.getD n 0))))
    (s.withMod { s.mod with invWave := [false, false, false, false] })

/-- R272, R273: at a carrier peak the reference latched at the valley before comes in force, and legs that an entry with RUN = 1
starts begin; the legs are LOW around it. -/
def execInverterCarrierPeak (s : State) : Ans :=
  .next (if s.modRuns && s.isInverter then
      let run := natBit s.mod.entry 0
      let was := s.mod.invRun
      let s := if was && run then s.invEval (2 ^ 31) s.mod.invLatched else s
      let m : ModSt := { s.mod with invRef := s.mod.invLatched, invRun := run }
      let s := s.withMod m
      let s := [0, 1, 2, 3].foldl (fun s n => s.putS (F.MOD_INV_REFl_REF n) (s.mod.invRef.getD n 0)) s
      if run then (if was then s else s.invStart).drive else s
    else s).settle

/-! ## Trips -/

/-- The input of trip `t` is seen: EN, and for a filtered one the clock of polder 10 (R274). -/
def State.tripSeen (s : State) (t : Nat) : Bool :=
  s.isOn 10 && decide (t < 4) && s.cfIs (F.MOD_TRIPt_CFG_EN t) && (s.cf (F.MOD_TRIPt_CFG_FILTER t) == 0 || !s.mod.frozen)

/-- The land of trip `t` is at the level that POL selects, or at the other one. -/
def State.moveTrip (s : State) (t : Nat) (active : Bool) : State :=
  let b := if active != s.cfIs (F.MOD_TRIPt_CFG_POL t) then s.pins.trips ||| (1#4 <<< t) else s.pins.trips &&& ~~~(1#4 <<< t)
  s.withPins { s.pins with trips := b }

/-- R274, R275: the land of trip `trip` is at its active level, through the filter where there is one: it becomes active and
latches. -/
def execTripActive (trip : Nat) (s : State) : Ans :=
  let s := s.moveTrip trip true
  .next (if s.tripSeen trip then
      let a := s.get F.MOD_TRIP_STATUS_ACTIVE
      let s := if natBit a trip then s else s.put F.MOD_TRIP_STATUS_ACTIVE (a + 2 ^ trip)
      s.tripLatch trip
    else s).settle

/-- R274, R276: the land of trip `trip` is at its other level: it becomes inactive; its latch stays. -/
def execTripInactive (trip : Nat) (s : State) : Ans :=
  let s := s.moveTrip trip false
  .next (if s.tripSeen trip && natBit (s.get F.MOD_TRIP_STATUS_ACTIVE) trip then
      s.put F.MOD_TRIP_STATUS_ACTIVE (s.get F.MOD_TRIP_STATUS_ACTIVE - 2 ^ trip)
    else s).settle

/-- R277: MOD_TRIP_CLEAR is written. -/
def execTripClear (mask : BitVec 4) (s : State) : Ans := .next (s.tripClears mask.toNat).settle

/-! ## Freeze (R278, R279) -/

/-- R278: the clocks of polder 10 stop; reads of MOD_ registers return what they hold now. -/
def execJtagFreeze (s : State) : Ans :=
  if s.isOn 10 && !s.mod.frozen then
    .next (s.withMod { s.mod with frozen := true, stopRegs := s.regs.filter (fun kv => kv.1 / 65536 == 7),
                                  stopCfg := s.cfg.filter (fun kv => kv.1 / 65536 == 7) })
  else .next s

/-- R279: the clocks of polder 10 run again. -/
def execModulatorClockResume (s : State) : Ans :=
  if s.isOn 10 && s.mod.frozen then
    let s := (s.withMod { s.mod with frozen := false, stopRegs := [], stopCfg := [] }).modDisable
    .next (((s.put F.MOD_STATUS_FROZEN 1).raiseInt 73).fault 81).settle
  else .next s

/-! ## Command loss (R265, R270) -/

/-- R265, R270: MOD_CMD_LOSS consecutive boundaries have been missing (the boundaries count them). -/
def execCommandLoss (s : State) : Ans :=
  if s.modRuns && (s.isCell || s.isPort) && !s.is F.MOD_STATUS_CMD_LOST
      && decide (s.mod.missing ≥ s.cf F.MOD_AFE_CFG_MOD_CMD_LOSS) then
    let s := (s.put F.MOD_STATUS_CMD_LOST 1).raiseInt 71
    let s := if s.isCell then s.afeOff.drive else s
    .next s.settle
  else .next s

end Sys2Proof.Machine
end

