-- ==== Sys2Proof/Machine/Net.lean ====
section
/-! DEFINITION. The station network and time as commands (14_network_time.md R393 to R421). Events that come with a time assert
that the time has passed. -/
namespace Sys2Proof.Machine

/-- R195, R407: TIM_NOW reaches grid instant `k` of RATE `rate` samples/s. -/
def execGridInstant (rate k : Nat) (s : State) : Ans :=
  if s.isStation && s.isOn 1 && rate != 0 && decide (k < rate) && !s.gridTaken rate k then .next (s.gridInstant rate k).settle else .next s

/-- R393: a frame is received; one with a bad FCS, a runt or one too long (`good` false) is counted and discarded. -/
def execEthFrameReceived (port : Nat) (frame : EthFrame) (good : Bool) (stamp frac : Nat) (s : State) : Ans :=
  if s.ethOn port then
    if good then .next ((s.ethReceive port frame stamp frac).settle)
    else .next ((s.reach stamp).bump (F.NET_Pp_ERR_ERROR port))
  else .next s

/-- R398: 1 is written to NET_RX_POP. -/
def execNetRxPop (s : State) : Ans := .next s.rxPop

/-- R399: the control word of transmit slot `slot` is written with GO = 1. -/
def execHostTxGo (slot : Nat) (ctrl : Word) (s : State) : Ans :=
  if s.isOn 7 && decide (slot < 4) then .next (s.txControl slot (ctrl ||| fieldMask 31 1)).settle else .next s

/-- R399, R401: the frame in transmission on a port is complete; the next one starts. -/
def execEthFrameSent (port stamp frac : Nat) (s : State) : Ans :=
  if s.ethOn port then
    match s.net.sending.getD port none with
    | some t =>
      let s := s.reach stamp
      let s := s.withNet { s.net with sending := s.net.sending.set port none }
      .next ((s.txDone port stamp frac t.what).netStart port).settle
    | none => .next s
  else .next s

/-- R409: TIM_NOW reaches the earliest launch time that waits on a free port. -/
def execTimedLaunch (port : Nat) (s : State) : Ans :=
  match s.firstLaunch port with
  | some t =>
    if s.ethOn port && (s.net.sending.getD port none).isNone then .next ((s.reach t).netStart port).settle else .next s
  | none => .next s

/-- R395: every 2 s a supervision frame goes out on each port. -/
def execSupervisionFrame (s : State) : Ans :=
  if s.isOn 7 && s.redundant then
    .next (s.sendRedundant 4 none (fun q => .frame ⟨[0x01, 0x15, 0x4E, 0x00, 0x01, 0x00], s.mac, none, q, 0x88FB, .supervision⟩)).settle
  else .next s

/-- R393, R421: a link goes up (`aneg`: auto-negotiation complete, where NET_CONFIG enables it) or down. -/
def execLinkChange (port : Nat) (up aneg : Bool) (s : State) : Ans :=
  if s.ethOn port && s.is (F.NET_Pp_STATUS_LINK port) != up then
    let s := (s.flag (F.NET_Pp_STATUS_LINK port) up).flag (F.NET_Pp_STATUS_ANEG_DONE port) (up && aneg && s.anegOn port)
    .next ((s.bump (F.NET_Pp_STATUS_CHANGES port)).raiseInt (128 + port)).settle
  else .next s

/-- R404: a host writes TIM_OFFSET. -/
def execTimOffsetWrite (value : Word) (s : State) : Ans := .next (s.servo value.toInt).settle

/-- R404: 1 is written to SERVO_RESET. -/
def execServoReset (s : State) : Ans := .next s.servoReset

/-- R405: a host writes TIM_STEP. -/
def execTimStepWrite (value : Word) (s : State) : Ans := .next ((s.timeStep value.toInt).settle)

/-- R406: a host writes TIM_SECOND. -/
def execTimSecondWrite (value : Word) (s : State) : Ans := .next (s.writeSecond value.toNat)

/-- R406: TIM_NOW reaches the second mark. -/
def execSecondMark (s : State) : Ans :=
  if s.isStation && s.isOn 1 then .next ((s.reach (s.get F.TIM_SECOND_VALUE)).passMark).settle else .next s

/-- R414: eight frame intervals without an accepted frame. -/
def execSvSubscriptionTimeout (sub : Nat) (s : State) : Ans :=
  if s.isOn 8 && (s.svSub sub).valid then
    .next (((s.put (F.SV_SUBs_STATUS_TIMEOUT sub) 1).svValid sub false).settle)
  else .next s

/-- R417: a member of publisher `pub` has changed. -/
def execGooseNewState (pub : Nat) (s : State) : Ans := if s.gseChanged pub then .next (s.gseNew pub).settle else .next s

/-- R417: GSE_PUB_FORCE is written. -/
def execGsePubForce (mask : BitVec 16) (s : State) : Ans := .next (s.gseForce mask.toNat).settle

/-- R417: the repeat interval of publisher `pub` expires. -/
def execGooseRepeat (pub : Nat) (s : State) : Ans := .next (s.gseRepeat pub).settle

/-- R419: the deadline of subscription `sub` passes. -/
def execGooseDeadlinePassed (sub : Nat) (s : State) : Ans :=
  if s.isOn 8 && (s.gseSub sub).valid then
    let s := s.reach (s.gseSub sub).deadline
    .next (((s.put (F.GSE_SUBs_STATUS_EXPIRED sub) 1).gseValid sub false).settle)
  else .next s

end Sys2Proof.Machine
end

