-- ==== Sys2Proof/Machine/TideOps.lean ====
section
/-! DEFINITION. What a tide boundary does in a device of a ring: numbering, wraps, the entry of the tide, the record
(05_culvert.md R152 to R179, 01_system.md R31 to R34, 08_modulation.md R253 to R273). -/
namespace Sys2Proof.Machine

/-- `s` with the Culvert state replaced. -/
def State.setCul (s : State) (c : CulvertSt) : State := s.withCul c

/-! ## Numbering and ports -/

/-- R165: own and peer READY have held for one more tide, or not. -/
def State.readyTide (s : State) (p : Nat) : State :=
  let c := s.cport p
  let both := s.is (F.CUL_Pn_STATUS_READY p) && c.peerReady
  s.setCport p { c with bothReady := if both then min 16 (c.bothReady + 1) else 0 }

/-- R167: a device about to enter standby sends LEAVING for 16 whole tides; then its transmit directions stop (Table 3-10). -/
def State.leavingTide (s : State) : State :=
  match s.cul.leaving with
  | some 0 =>
    let s := (List.range 10).foldl State.sleepTx s
    s.setCul { s.cul with leaving := none }
  | some (k + 1) => s.setCul { s.cul with leaving := some k }
  | none => s

/-- R146: a reference port that is not UP announces nothing, and so no root. -/
def State.rootTide (s : State) : State :=
  if s.isStation || s.get (F.CUL_Pn_STATUS_RX_STATE s.cul.refPort) = 5 then s
  else
    let c := s.cport s.cul.refPort
    s.setCport s.cul.refPort { c with notRooted := satInc 4 c.notRooted }

/-- What a transmit direction without a frame in the tide that ends sends: port status (R142). -/
def State.statusTide (s : State) (p : Nat) : State :=
  if s.txAwake p then
    match (s.cport p).tx with
    | .frame _ => s.send p .idle
    | _ => s.send p (.status (s.portStatus p))
  else s

/-- CUL_ALIGN SOURCE_DIR: the direction whose frames place the boundary (R173). -/
def State.showSource (s : State) : State :=
  let p := if (s.cport s.cul.refPort).seen then s.cul.refPort
    else if (s.cport (1 - s.cul.refPort)).seen then 1 - s.cul.refPort else s.get F.CUL_ALIGN_SOURCE_DIR
  s.put F.CUL_ALIGN_SOURCE_DIR p

/-- Steps by which the tide that ends was shorter than 6,400, and the number the next one has in its own count (R174, R177). -/
def State.nextTide (s : State) : Nat := s.cul.takeover.getD ((s.tide + 1) % 2 ^ 32)

/-- R174: in SLEWING the boundary of a device moves by one step per tide, until it is within 1 ns. -/
def State.slewTide (s : State) : State :=
  if !s.isStation && s.get F.CUL_ALIGN_STATE = 2 then
    let s := s.stepAlign
    if decide ((s.compInUse - 10 * s.cul.place).natAbs ≤ 64) then s.setAlign 1 else s
  else s

/-- R408: the ns time of the boundary that lies `offset` steps of 156.25 ps after the last core clock. -/
def State.boundaryNs (s : State) (offset : Nat) : Nat :=
  (s.tim.now + (s.tickStep * (offset : Int) / 32).toNat) % 2 ^ 64 / 2 ^ 32

/-- The boundary of a tide: its number (R177), its time (R408), the counts of the tide that ends. -/
def State.numberBoundary (s : State) (offset : Nat) : State :=
  let t := s.nextTide
  let s := s.put F.CUL_TIDE_TIDE t
  let s := (s.put F.TIM_TIDE_NS_VALUE (s.boundaryNs offset)).put F.TIM_TIDE_NUM_VALUE t
  let s := ((List.range 10).foldl State.readyTide s).rootTide.leavingTide
  let s := if s.isStation then s else s.showSource
  let c : CulvertSt := { s.cul with takeover := none, matched := false }
  let c : CulvertSt := { c with tideMatch := if s.cul.matched then min 16 (s.cul.tideMatch + 1) else s.cul.tideMatch }
  let s := (s.setCul c).slewTide
  s.dropTokens t

/-- R256, R268: what the boundary of tide `t` moves the carrier by, against the wave of the tide before (`old`), and how long
that tide was, in steps. -/
def State.carrierTide (s : State) (old t : Nat) : State :=
  let delta := s.cul.place - s.cul.placeNow
  let inc : Int := carrierInc (s.cf F.MOD_CARRIER_MOD_CARRIER_FREQ)
  let jump : Int := (t : Int) - (old + 1)
  let s := s.setCul { s.cul with placeNow := s.cul.place }
  s.carrierMoved ((jump * 6400 + delta) * inc) (6400 - delta)

/-! ## Wraps (R162 to R165) -/

/-- Port `p` at the boundary of tide `t`: a wrap is left, or taken up again. -/
def State.wrapTide (s : State) (t p : Nat) : State :=
  let c := s.cport p
  if c.wrapAgain then
    (s.put (F.CUL_Pn_STATUS_WRAPPED p) 1).setCport p { c with wrapAgain := false, wrapLeft := false }
  else if s.is (F.CUL_Pn_STATUS_WRAPPED p) && s.cul.unwrapAt == some t && s.is (F.CUL_Pn_STATUS_READY p)
      && decide (c.bothReady ≥ 16) then
    (s.put (F.CUL_Pn_STATUS_WRAPPED p) 0).setCport p { c with wrapLeft := true }
  else s.setCport p { c with wrapLeft := false }

/-- The wraps of a cell or port device at the boundary of tide `t`. -/
def State.wrapsTide (s : State) (t : Nat) : State :=
  let s := (s.wrapTide t 0).wrapTide t 1
  match s.cul.unwrapAt with
  | some u => if laterThan u t then s else s.setCul { s.cul with unwrapAt := none }
  | none => s

/-! ## Modulators (R253, R261 to R273, R277, R318) -/

/-- R253: the pulse that the function of HBn has in progress at a boundary at which the output returns, `w` steps before its
end, is tested under R258 as one that starts there. -/
def State.returnPulse (s : State) (n : Nat) (w : Int) : State :=
  let f := s.mod.func.getD n .off
  let on := s.pins.gates.toNat / 4 ^ n % 4
  let now := if on = 1 then HbLevel.high else if on = 2 then HbLevel.low else HbLevel.off
  if f = .off || now = f || s.inputLevel n != f || !s.passes n then s
  else if s.tooShort n f w then (s.withMod { s.mod with func := s.mod.func.set n now }).dropPulse
  else s

/-- The pulses in progress of every function whose edges are known at a boundary: running DAB bridges and inverter legs. -/
def State.returnPulses (s : State) : State :=
  let s := s.dabBridges.foldl (fun s b =>
    let x := s.bridge b
    if x.run = .running then (s.returnPulse (s.bridgeHb b) x.nextAt).returnPulse (s.bridgeHb b + 1) x.nextAt else s) s
  if s.isInverter && s.mod.invRun then
    [0, 1, 2, 3].foldl (fun s n =>
      let r := s.invReturn n
      r.1.returnPulse n r.2) s
  else s

/-- Outputs that return at an aligned boundary: after EN (R253), a cleared trip (R277), a released OV3 block (R318). -/
def State.returnTide (s : State) : State :=
  let returns := s.mod.en != s.is F.MOD_CTRL_EN || s.mod.releasing != 0 || s.gdr.ov3Wait
  let m : ModSt := { s.mod with en := s.is F.MOD_CTRL_EN, releasing := 0, boundaryAt := s.tim.now }
  let g : GdrSt := { s.gdr with ov3Wait := false }
  let s := (s.withMod m).withGdr g
  if returns then s.returnPulses else s.invFollow 0

/-- The entry for the boundary of tide `t`: the copy of best rank, the first of equal ones (R33). -/
def bestEntry (l : List WaitEntry) (t : Nat) : Option Nat :=
  let here := l.filter (fun (e : WaitEntry) => e.tide == t)
  let rank := here.foldl (fun (m : Nat) (e : WaitEntry) => min m e.rank) 4
  (here.find? (fun (e : WaitEntry) => e.rank == rank)).map (·.value)

/-- The first executed entry after a command loss (R265, R270). -/
def State.commandsBack (s : State) : State :=
  let s := s.withMod { s.mod with missing := 0 }
  if s.is F.MOD_STATUS_CMD_LOST then (s.put F.MOD_STATUS_CMD_LOST 0).raiseInt 71 else s

/-- R261: an executed entry of a cell; its Sluice request follows once the outputs stand (R322). -/
def State.cellEntry (s : State) (v : Nat) : State :=
  let s := s.commandsBack
  let s := s.withMod { s.mod with entry := v }
  let s := s.put F.MOD_AFE_STATE_PENDING_STATE (v % 4)
  (s.afeBoundary true).dabEntry

/-- R273: an entry with RUN = 0 sets the inverter's legs OFF at its boundary. -/
def State.invEntry (s : State) : State :=
  if s.cfIs F.MOD_CONFIG_MOD_PORT_MODE && s.dabMode = 0 then
    let s := [0, 1, 2, 3].foldl (fun (s : State) n => s.setFunc n .off) s
    s.withMod { s.mod with invRun := false }
  else s

/-- R270, R273: an executed entry of a port device. -/
def State.portEntry (s : State) (v : Nat) : State :=
  let s := s.commandsBack
  let s := s.withMod { s.mod with entry := v % 16 }
  s.dabEntry.invEntry

/-- R265: no entry came for this boundary. -/
def State.missingEntry (s : State) : State :=
  let s := s.bump F.MOD_CELL_COUNTS_MISSING
  s.withMod { s.mod with missing := min 65535 (s.mod.missing + 1) }

/-- R255: the entry in force holds every half-bridge OFF under R254. -/
def State.entryOff (s : State) : Bool :=
  if s.isCell then !natBit s.mod.entry 3 && s.dabMode == 0 else s.dabMode == 0

/-- R161, R177: the device executes entries: aligned, slewing or in hold, with its numbering matched for 16 tides. -/
def State.mayExecute (s : State) : Bool :=
  s.get F.CUL_ALIGN_STATE != 0 && decide (s.cul.tideMatch ≥ 16) && s.cul.takeover.isNone

/-- The modulators of a cell or port device at the boundary of tide `t`: the entry of the tide is executed, or its absence counted
(R265); an UNALIGNED device holds its outputs (R161). The Sluice command moves once the outputs of the boundary stand (R322). -/
def State.modTide (s : State) (t : Nat) : State :=
  let d := s.get F.MOD_AFE_STATE_DWELL_LEFT
  let s := s.put F.MOD_AFE_STATE_DWELL_LEFT (d - 1)
  let waits := fun (s : State) => if s.isCell && s.get F.CUL_ALIGN_STATE != 0 then s.afeBoundary false else s
  let entry := if s.mayExecute then bestEntry s.cul.entries t else none
  let s : State := match entry with
    | some v => if s.isCell then s.cellEntry v else s.portEntry v
    | none => waits (if (bestEntry s.cul.entries t).isSome then s.withMod { s.mod with missing := 0 } else s.missingEntry)
  let s := s.setCul { s.cul with entries := s.cul.entries.filter (fun (e : WaitEntry) => laterThan e.tide t) }
  let s := s.drive.sluiceBoundary (entry.map (fun v => natBit v 2))
  if s.entryOff && s.bridgesOff then s.applyHeld else s

/-- The modulators of a cell or port device whose polder 10 runs; R456 counts the changes of the AFE. -/
def State.outputsTide (s : State) (old t : Nat) : State :=
  if s.isOn 10 && !s.mod.frozen then
    let st := s.get F.MOD_AFE_STATE_STATE
    let on := s.mod.afeOn
    let s := ((s.carrierTide old t).returnTide).modTide t
    if s.isCell then s.rippleTide (s.mod.afeOn && (!on || s.get F.MOD_AFE_STATE_STATE != st)) else s
  else s.setCul { s.cul with placeNow := s.cul.place }

/-! ## The record (R156 to R159) -/

/-- R157: the leg current of half-bridge HBn: the last result of the entry that measures it. -/
def State.legCurrent (s : State) (n : Nat) : Int :=
  let e := (Config.legEntry n).toNat
  if s.isOn 12 then s.adcPu (e / 16) (e % 16) else 0

/-- R157: the DC-link set-point in force: the REF of the loop that drives the DAB bridge (Table 9-4; DEDUCED, assumption 100). -/
def State.linkSetPoint (s : State) (t : Nat) : Int := s.source t 0 (s.cf (F.LPE_LOOPn_SRC_REF (s.cf F.MOD_DAB_SRC_MOD_DAB_LOOP)))

/-- R376, R157: telemetry quantity `k` of a record completed in tide `t`. -/
def State.quantity (s : State) (k t : Nat) : Nat × State :=
  let cell := fun (v : Nat) => if s.isCell then v else 0
  match k with
  | 0 | 1 | 2 | 3 => (s.ntcTele k, s)
  | 4 => (s.dieTele, s)
  | 5 | 6 | 7 | 8 => (ofSigned 32 (s.legCurrent (k - 5)), s)
  | 9 => (cell (s.get F.MOD_DAB_PHASE_PHASE), s)
  | 10 => (cell (ofSigned 32 s.pEst), s)
  | 11 => (cell (ofSigned 32 (s.linkSetPoint t)), s)
  | 12 => (cell s.wearScore, s)
  | 13 | 14 | 15 | 16 => (cell (s.get (F.SPR_BINk_VALUE (k - 13))), s)
  | 17 => (s.count48 R.MOD_SW_AFE_LO % 2 ^ 32, s)
  | 18 => (s.count48 R.MOD_SW_DAB_LO % 2 ^ 32, s)
  | 19 => (s.count48 R.MOD_SW_AFE_LO / 2 ^ 32 * 65536 + s.count48 R.MOD_SW_DAB_LO / 2 ^ 32, s)
  | 20 => (cell (s.get F.SPR_HOT_VALUE), s)
  | 21 => (cell (s.get F.SPR_RIPPLE_VALUE), s)
  | 22 => (s.get F.CUL_COMP0_COMP0, s)
  | 23 => (s.get F.CUL_COMP1_COMP1, s)
  | 24 => ((s.word R.CUL_ALIGN).toNat, s)
  | 25 => (s.classes, s)
  | 26 => (s.get F.MOD_DROP_COUNT, s)
  | 27 => (s.get F.CUL_COUNTS_LATE, s)
  | 28 => (s.cf F.HST_DEVICE_ID_DEVICE_ID, s)
  | 29 => (s.get F.GDR_BS_NOTCH_COUNT, s)
  | 30 => (t, s)
  | _ => (s.get F.WRD_A_STATUS_STATE + s.get F.WRD_B_STATUS_STATE * 8 + b2n s.pulsesReleased * 256, s)

/-- The STATUS byte of a record (Table 5-8). -/
def State.recStatus (s : State) : Nat :=
  s.highest * 2 + b2n (s.get F.GDR_STATUS_BS_WARN != 0) * 16 + b2n (s.is F.GDR_SLUICE_CMD) * 32 + b2n s.worn * 64
    + b2n s.bridgesOff * 128

/-- R156: the record for the frames of tide `t`, completed in tide `old`. -/
def State.newRecord (s : State) (old t : Nat) : List Byte × State :=
  let head := leBytes 2 s.recVdc ++ [BitVec.ofNat 8 s.recStatus]
  if s.recSize s.ownRing = 8 then
    let q := s.quantity (t % 32) old
    (head ++ [BitVec.ofNat 8 (t % 32)] ++ leBytes 4 q.1, q.2)
  else
    let q := s.quantity (t / 4 % 32) old
    (head ++ [BitVec.ofNat 8 (q.1 / 256 ^ (t % 4))] ++ List.replicate 4 0, q.2)

/-- R158, R159: the slot buffer at the boundary of tide `t`; `done` says that the core completed a record since the last one. -/
def State.recordTide (s : State) (done : Bool) (old t : Nat) : State :=
  if done then
    let r := s.newRecord old t
    let s := r.2
    s.setCul { s.cul with record := r.1, slot := r.1, slots := ((t, r.1) :: s.cul.slots).take 128 }
  else
    let b := patch s.cul.record 2 [(s.cul.record.getD 2 0) ||| 1]
    s.setCul { s.cul with slot := b, slots := ((t, b) :: s.cul.slots).take 128 }

/-- A boundary in a cell or port device. -/
def State.deviceTide (s : State) (done : Bool) (offset : Nat) : State :=
  let old := s.tide
  let t := s.nextTide
  let s := s.recordTide done old t
  let s := s.numberBoundary offset
  let s := s.wrapsTide t
  let s := (List.range 10).foldl State.statusTide s
  let s := [0, 1].foldl (fun (s : State) p => s.setCport p { s.cport p with seen := false }) s
  let s := s.outputsTide old t
  s.lpePass t 0 (fun _ => none)

end Sys2Proof.Machine
end

