-- ==== Sys2Proof/Machine/Tide.lean ====
section
/-! DEFINITION. The tide boundary: what a station originates and decides (05_culvert.md R151 to R166, 07_grid_control.md R222,
16_spares_twins.md), and the boundary as a command. -/
namespace Sys2Proof.Machine

/-! ## What a station originates -/

/-- The port on which the station originates direction `d` of ring `r`, if it does (R151, R443). -/
def State.originPort (s : State) (r d : Nat) : Option Nat :=
  if s.twn.operating then
    if d = b2n s.isTwinB && (!s.isTwinB || s.twin == 2 || s.get F.CUL_ALIGN_STATE != 0) then some r else none
  else some (2 * r + d)

/-- Directions of ring `r` whose frames end here (R31, R445). -/
def State.endsHere (s : State) (r : Nat) : List Nat :=
  if s.twn.operating then
    if s.cf (F.CUL_RINGr_SLEEP_FIRST_ASLEEP r) != 0 then (if s.isTwinB then [] else [0])
    else if s.is F.TWN_STATUS_LINK_ECHO || s.is F.TWN_STATUS_RING_ECHO then [b2n (!s.isTwinB)] else []
  else [0, 1].filter (fun d => s.txAwake (2 * r + d))

/-- Frames of ring `r` carry LOOP_VALID (R176, R460). -/
def State.sendsLoop (s : State) (r : Nat) : Bool :=
  s.is (F.CUL_RINGr_STATE_LOOP_VALID r) && !s.is (F.CUL_RINGr_STATE_UNPLANNED_WRAP r) && s.cul.noLoop.getD r 0 == 0

/-- The header of the frames of tide `t`, ring `r`, direction `d` (Table 5-6). -/
def State.frameHeader (s : State) (r d t : Nat) : List Byte :=
  let l := s.get (F.CUL_RINGr_LOOP_L r)
  let half := t % 2
  leBytes 4 t ++
    [BitVec.ofNat 8 (s.ringId r),
     BitVec.ofNat 8 (d + b2n s.isTwinB * 2 + b2n (s.cul.unwrap.getD r false) * 32 + b2n (s.sendsLoop r) * 64),
     BitVec.ofNat 8 (s.cf F.CUL_CONFIG_CUL_APPLY_DELAY + half * 128),
     BitVec.ofNat 8 (s.echoState * 32 + s.cul.echo % 32)]
    ++ List.replicate 6 0 ++ leBytes 2 (if half = 0 then l % 65536 else l / 65536)

/-- The message chunk of ring `r` in this tide: an acknowledge, or the next chunk of a request (R170, R171). -/
def State.chunkNow (s : State) (r : Nat) : Chunk :=
  if s.twin = 0 || s.twin = 2 then
    match s.cul.ackTo.getD r none with
    | some q => ⟨q, 0, 3, 0, true, [0]⟩
    | none => match s.remoteOn r with
      | some x => match x.phase with
        | .sending k => chunkFrom x.bytes x.dest 0 1 k
        | _ => emptyChunk
      | none => emptyChunk
  else emptyChunk

/-- The chunk of ring `r` has gone out; a twin that is not active runs the same sequence silently (R447). -/
def State.chunkSent (s : State) (r : Nat) : State :=
  if s.twin != 1 then
    match s.cul.ackTo.getD r none with
    | some _ => s.setCul { s.cul with ackTo := s.cul.ackTo.set r none }
    | none => match s.remoteOn r with
      | some x => match x.phase with
        | .sending k => s.setRemote r (some { x with phase := if k ≥ 2 then .waitAck else .sending (k + 1) })
        | _ => s
      | none => s
  else s

/-- The body of ring `r`: the entries of the last decision (zeros in PAIRING, R441), empty records, the channel (R153). -/
def State.frameBody (s : State) (r : Nat) : List Byte :=
  s.cmdArea r (if s.twin = 1 then [] else s.cul.cmds.getD r [])
    ++ (List.replicate (s.positions r) (emptyRecord (s.recSize r))).flatten ++ (s.chunkNow r).bytes

/-- The frame of tide `t`, ring `r`, direction `d` leaves, with the tokens that wait (R151, R152, R181). -/
def State.originate (s : State) (t r d : Nat) : State :=
  match s.originPort r d with
  | some p =>
    if s.txAwake p then
      let k := putTokens (2 * r + d) ⟨s.frameHeader r d t, s.frameBody r, 0⟩ s.cul.tokens
      let s := s.setCul { s.cul with tokens := k.2 }
      s.send p (.frame ((s.reflag p false k.1).seal false))
    else s
  | none => s

/-- The frames of ring `r`, if it is enabled, those that are to come back are noted; discovery frames while one runs (R172). -/
def State.originRing (s : State) (t r : Nat) : State :=
  if s.discovering r then s.sendDiscovery r
  else if s.cfIs (F.CUL_RINGr_FORMAT_ENABLE r) then
    let s := s.nextMessage r
    let s := (s.originate t r 0).originate t r 1
    let s := s.chunkSent r
    s.setCul { s.cul with unwrap := s.cul.unwrap.set r false, due := s.cul.due ++ (s.endsHere r).map (fun d => (r, d, t)) }
  else s

/-- R179: ECHO_COUNT advances when the decision was completed; not in PAIRING (R441). -/
def State.echoTide (s : State) : State :=
  if s.cul.decided && s.twin != 1 then s.setCul { s.cul with echo := (s.cul.echo + 1) % 32 } else s

/-! ## What came back -/

/-- A frame of tide `t` that is to come back was not received intact. -/
def State.lostFrame (s : State) (x : Nat × Nat × Nat) : State :=
  if s.cul.recs.any (fun (f : RecFrame) => f.ring == x.1 && f.dir == x.2.1 && f.tide == x.2.2) then s
  else s.bump (if x.2.1 = 0 then F.CUL_RINGr_LOST_DIR0 x.1 else F.CUL_RINGr_LOST_DIR1 x.1)

/-- CUL_RINGr_LOST at the decision on the records of tide `d`. -/
def State.lostTide (s : State) (d : Nat) : State :=
  let now := s.cul.due.filter (fun (x : Nat × Nat × Nat) => x.2.2 == d)
  let s := now.foldl State.lostFrame s
  s.setCul { s.cul with due := s.cul.due.filter (fun (x : Nat × Nat × Nat) => laterThan x.2.2 d) }

/-- R164, R460: ring `r` at the end of a tide: WRAP_SEEN and UNPLANNED_WRAP, and the tides without LOOP_VALID; L is measured
anew when they are over (a free value, assumption 1). -/
def State.wrapSeenTide (s : State) (r : Nat) : State :=
  let s :=
    if s.is (F.CUL_RINGr_STATE_WRAP_SEEN r) && !s.cul.wrappedNow.getD r false then
      ((s.put (F.CUL_RINGr_STATE_WRAP_SEEN r) 0).raiseInt (10 + r)).wrapPointAt r 0
    else s
  let s := s.flag (F.CUL_RINGr_STATE_UNPLANNED_WRAP r) (s.cul.unplanned.getD r false)
  let n := s.cul.noLoop.getD r 0
  let s := s.setCul { s.cul with wrappedNow := s.cul.wrappedNow.set r false, unplanned := s.cul.unplanned.set r false,
                                 noLoop := s.cul.noLoop.set r (n - 1) }
  if n = 1 && s.is (F.CUL_RINGr_STATE_LOOP_VALID r) then
    let x := s.fresh (2 ^ 32)
    x.2.put (F.CUL_RINGr_LOOP_L r) x.1
  else s

/-- R160, R215: the records of tide `d` at the decision of tide `t`, on the rings that are enabled. -/
def State.recordsTide (s : State) (d t : Nat) : State :=
  let s := ([0, 1, 2, 3].filter (fun r => s.cfIs (F.CUL_RINGr_FORMAT_ENABLE r))).foldl (fun (s : State) r =>
    let cut := s.ringStale r d t
    ((List.range (s.positions r)).map (· + 1)).foldl (fun (s : State) q => s.posRecord r q d cut) s) s
  let s := s.lateQuantities t
  s.setCul { s.cul with recs := s.cul.recs.filter (fun (f : RecFrame) => decide ((t + 2 ^ 32 - f.tide) % 2 ^ 32 < 130)) }

/-! ## The decision -/

/-- R377: the sensors that take part: own ones, of admitted cells, of awake port devices. -/
def State.sensorLive (s : State) (k : Nat) : Bool :=
  if k < 1024 then true
  else
    let r := k / 1024 - 1
    let q := k % 1024 / 8
    if r < 3 then s.admitted r q else s.is (F.CUL_POS_r_s_PRESENT r q) && !s.is (F.CUL_POS_r_s_ASLEEP r q)

/-- The entries of ring `r` after a decision. The spec does not say what a station commands port devices: free values
(assumption 1). -/
def State.entriesOf (s : State) (r : Nat) : List Nat × State :=
  if r < 3 then ((List.range (s.positions r)).map (fun i => s.entryOf r (i + 1) s.spareEntries), s)
  else
    (List.range (s.positions r)).foldl (fun (a : List Nat × State) _ =>
      let x := a.2.fresh 4
      (a.1 ++ [x.1], x.2)) ([], s)

/-- R32, R236: the entries for the frames of the next tide. -/
def State.entriesTide (s : State) : State :=
  [0, 1, 2, 3].foldl (fun (s : State) r =>
    let e := s.entriesOf r
    e.2.setCul { e.2.cul with cmds := e.2.cul.cmds.set r e.1 }) s

/-- R215, R219, R222: the boundary of tide `t` in the grid control, its decision, and the loop engine's pass; `done` says that the core completed the decision. -/
def State.decisionTide (s : State) (done : Bool) (t : Nat) : State :=
  let ok := done && s.gridRuns && s.twin != 1
  let s := if ok then s.gridKeys else s
  let s := if s.gridRuns then s.gridBoundary t else s
  let s := s.thermalDecide s.sensorLive
  let s := s.spareTide t ok
  let g := if s.twn.operating then s.twn.goose else s.gooseAnalogue (s.cf F.DPC_CONFIG_Q_GOOSE)
  let s := if ok then ((s.gridDecide t s.derate g).entriesTide).snapshotTide else s
  let s := s.lpePass t s.vMean (s.bindings s.derate)
  s.setCul { s.cul with decided := ok }

/-- A boundary in a station device. -/
def State.stationTide (s : State) (done : Bool) (offset : Nat) : State :=
  let t := s.nextTide
  let s := s.numberBoundary offset
  let s := s.setCul { s.cul with placeNow := s.cul.place }
  let s := (List.range 10).foldl State.statusTide s
  let s := (s.twinStates t).echoTide.ringTide
  let s := [0, 1, 2, 3].foldl (fun (s : State) r => s.originRing t r) s
  let s := [0, 1, 2, 3].foldl State.wrapSeenTide s
  let s := s.twinBoundary t (fun s a v => s.hostEffect a v) State.applyCommit
  let s := if s.isOn 10 && !s.mod.frozen then s.returnTide.drive else s
  let d := (t + 2 ^ 32 - s.cf F.CUL_CONFIG_CUL_INPUT_DELAY) % 2 ^ 32
  let s := (s.lostTide d).recordsTide d t
  s.decisionTide done t

/-- The boundary of a tide in every block, in either kind of device. -/
def State.anyTide (s : State) (done : Bool) (offset : Nat) : State :=
  let s := if s.isStation then s.stationTide done offset else s.deviceTide done offset
  [0, 1, 2, 3].foldl (fun s n => s.adcTide s.tide n) s

/-- R151, R158, R222: the boundary of a tide. `coreDone` says that the device core has completed a record, and in a station the
decision of the tide, since the boundary before; `offset` places it after the last core clock, in steps (R408). -/
def execTideBoundary (coreDone : Bool) (s : State) (offset : Nat := 0) : Ans :=
  let s := s.spaced .tide
  .next (if s.boundaries then (s.anyTide coreDone (offset % 32)).settle else s)

end Sys2Proof.Machine
end

