-- ==== Sys2Proof/Machine/Twins.lean ====
section
/-! DEFINITION. Wear, spares and twins as commands (16_spares_twins.md R439 to R464). -/
namespace Sys2Proof.Machine

/-! ## Wear and spares -/

/-- R456: a sample of t_m, every 10 ms. -/
def execWearSample (s : State) : Ans := .next (if s.isCell && s.isOn 1 then s.wearSample else s)

/-- R16, R458, R459: CELL_BRING_IN from mailbox `n`. `verified` says that the woken target answers as expected and its Wardens are
released, `auto` that they can be released without a person. -/
def execCellBringIn (n : Nat) (verified auto : Bool) (s : State) : Ans :=
  if s.takes n 0x40 then
    let x := (s.mb n).arg 0 1
    let k := (s.mb n).arg 1 1
    if x > 2 || k > 48 then .next (s.respond n .badArg [])
    else if s.held &&& resRing x != 0 then .next (s.respond n .busy [])
    else match s.needPolders n (s.ringPolders x) with
    | some t => .next t
    | none =>
    match (if k = 0 then s.bestSpare x else some k) with
    | none => .next (s.respond n .refusedState [])
    | some q =>
      let asleep := s.sleepsAt x q
      if !s.takable x q || (asleep && s.relayFull x q) || !auto || s.loneB then .next (s.respond n .refusedState [])
      else
        let s := if asleep then s.wakeNext x q else s
        .next (s.spareBegin { kind := 1, mailbox := some n, ring := x, slot := q, step := if asleep then 1 else 5,
                              since := 0, inStep := 0, asleep := asleep, verified := verified, failed := false,
                              commit := false, worn := none, replace := false, code := 0 }).settle
  else .next s

/-- R463: the freeboard does not allow position `q` of stack `x` to be retired. -/
def State.retireShort (s : State) (x q : Nat) : Bool :=
  decide ((s.pos x q).fault < 2) && !s.is (F.CUL_POS_r_s_LIMIT x q)
    && decide (s.getS F.DPC_FREEBOARD_VALUE - s.vdcPu (s.pos x q).vdc < 0)

/-- R462, R463: CELL_RETIRE from mailbox `n`. -/
def execCellRetire (n : Nat) (s : State) : Ans :=
  if s.takes n 0x41 then
    let x := (s.mb n).arg 0 1
    let q := (s.mb n).arg 1 1
    if x > 2 || q = 0 || q > 48 then .next (s.respond n .badArg [])
    else if s.held &&& resRing x != 0 then .next (s.respond n .busy [])
    else match s.needPolders n (s.ringPolders x) with
    | some t => .next t
    | none =>
    if !s.is (F.CUL_POS_r_s_PRESENT x q) || s.sleepsAt x q || s.retireShort x q then .next (s.respond n .refusedState [])
    else
      .next (s.spareBegin { kind := 2, mailbox := some n, ring := x, slot := q, step := 1, since := 0, inStep := 0,
                            asleep := false, verified := true, failed := false, commit := false, worn := none,
                            replace := false, code := 0 }).settle
  else .next s

/-! ## Twins -/

/-- R455: TWIN_SWAP from mailbox `n`: the active answers for itself, a standby asks the active. What R455 refuses is refused before a
held resource (R127) answers BUSY. -/
def execTwinSwap (n : Nat) (s : State) : Ans :=
  if s.takes n 0x42 then
    let busy := s.held &&& resTwin != 0
    match s.twin with
    | 2 => match s.swapRefusal with
      | some st => .next (s.respond n st [])
      | none => if busy then .next (s.respond n .busy []) else .next (s.swapStart (some n))
    | 3 =>
      if !s.is F.TWN_STATUS_LINK_ECHO || !s.is F.TWN_STATUS_RING_ECHO || s.is F.TWN_STATUS_RESYNC then
        .next (s.respond n .refusedState [])
      else if busy then .next (s.respond n .busy [])
      else
        let s := (s.twinSay 1 [0x42] 9).runOn n resTwin
        .next (s.withTwn { s.twn with swapBy := some n })
    | 0 => .next (s.respond n .refusedState [])
    | _ => .next (s.respond n .diverged [])
  else .next s

/-- R454: TWIN_RESYNC from mailbox `n`. -/
def execTwinResync (n : Nat) (s : State) : Ans :=
  if s.takes n 0x43 then
    if s.resyncRefused then .next (s.respond n .refusedState [])
    else if s.held &&& resTwin != 0 then .next (s.respond n .busy [])
    else .next (s.resyncStart (some n))
  else .next s

/-- R442, R443: a frame of the twin link reaches P8, `arrival` (15.625 ps) after the own boundary; only an intact one of the own
tide from the partner counts. `id` is the sender's device ID, which R26 and R30 ask for and the frame carries nowhere (DESIGN
CHOICE, assumption 75). `codeErrors` were seen on P8 in its tide (R142). -/
def execTwinLinkFrameReceived (frame : TideFrame) (arrival : Int) (s : State) (id : Nat := 0) (codeErrors : Nat := 0) : Ans :=
  let s := s.heardErrors 8 codeErrors
  if s.twn.operating && s.isOn 6 && s.get (F.CUL_Pn_STATUS_RX_STATE 8) == 5 then
    if !frame.intact then
      .next (s.bump (if frame.stomped then F.CUL_Pn_CRC_STOMPED 8 else F.CUL_Pn_CRC_BAD 8))
    else if frame.body.length == 472 && frame.tide == s.tide && natBit (leAt frame.header 5 1) 0 == !s.isTwinB then
      .next ((s.withTwn { s.twn with partnerId := id }).twinTake frame arrival State.swapAsked).settle
    else .next s
  else .next s

/-- R450: a path has shown no advancing frame for ECHO_LOSS_TIDES tides. -/
def State.echoSilent (s : State) (ring : Bool) : Bool :=
  s.twin != 0 && decide ((if ring then s.twn.ringSilent else s.twn.linkSilent) ≥ s.cf F.TWN_CFG_ECHO_LOSS_TIDES)

/-- R450: the ring path (`ring`) or the twin link is silent. -/
def execEchoPathSilent (ring : Bool) (s : State) : Ans :=
  if s.echoSilent ring then
    .next (s.echoLost (if ring then F.TWN_STATUS_RING_ECHO else F.TWN_STATUS_LINK_ECHO)).settle
  else .next s

/-- R451: a path has been silent for ECHO_LOSS_TIDES tides, the one that ends at this boundary among them. -/
def State.echoGone (s : State) (ring : Bool) : Bool :=
  s.echoSilent ring || (s.twin != 0 && !(if ring then s.twn.ringMoved else s.twn.linkMoved)
    && decide ((if ring then s.twn.ringSilent else s.twn.linkSilent) + 1 ≥ s.cf F.TWN_CFG_ECHO_LOSS_TIDES))

/-- R451, Table 16-1: the last tide of silence on both paths is over: a STANDBY or DIVERGED twin takes over. The event comes just
before the boundary, whose frames carry ECHO_STATE 1 (Table 16-6). -/
def execTwinTakeover (s : State) : Ans :=
  if s.echoGone false && s.echoGone true && (s.twin = 3 || s.twin = 4) then
    let s := (s.echoLost F.TWN_STATUS_LINK_ECHO).echoLost F.TWN_STATUS_RING_ECHO
    .next (s.takeover).settle
  else .next s

/-- Table 16-1: in PAIRING the partner has been silent on both paths for 1,000 tides after READY. -/
def execPairingPartnerSilent (s : State) : Ans :=
  if s.twin = 1 && decide (s.twn.silentBoth ≥ 1000) then
    let s := (s.twinSet 2).restartHours
    .next (s.withTwn { s.twn with tookOver := true }).settle
  else .next s

/-- R455: the time of an automatic swap has come; a refused attempt is counted and repeated in an hour. -/
def execAutoSwapTimer (s : State) : Ans :=
  if s.twin = 2 && s.cfIs F.TWN_CFG_AUTO_SWAP && decide (s.swapDue ≤ s.twn.hourTides) then
    let s := s.withTwn { s.twn with retryAt := some (s.twn.hourTides + hourTides) }
    if s.swapRefusal.isSome || s.held &&& resTwin != 0 then .next ((s.bump F.TWN_COUNTS_SWAP_REFUSED).raiseInt 237).settle
    else .next (s.swapStart none)
  else .next s

/-- Registers that a snapshot may carry (R454): OBS_, DPC_, SEL_; LPE_; THM_; CUL_POS. -/
def snapReg (a : Nat) : Bool :=
  a / 65536 == 6 || a / 65536 == 8 || (a / 65536 == R.THM_CONFIG / 65536 && decide (R.THM_CONFIG ≤ a))
    || (decide (R.CUL_POS_r_s 0 1 ≤ a) && decide (a < R.CUL_POS_r_s 3 97))

/-- The decision state of a snapshot, the inputs after it replayed (R454). -/
def State.loadSnapshot (s : State) (x : Snapshot) : State :=
  let s := (x.regs.filter (fun kv => snapReg kv.1)).foldl (fun s kv => s.setWord kv.1 kv.2) s
  let s := ((s.withDpc { x.dpc with steps := s.dpc.steps }).withLpe x.lpe).withThm x.thm
  let s := s.withCul { s.cul with cmds := x.cmds }
  s.withTwn { s.twn with queued := x.queued, shared := x.shared, presented := x.presented, goose := x.goose,
                         svParts := x.svParts, svLast := x.svLast }

/-- R454: the command areas are those of the active: CMD_CRC of the present tide matches. -/
def State.crcMatches (s : State) : Bool := s.twn.crcSeen == some (s.tide, (crc32 s.areasNow.flatten).toNat)

/-- R454: the resync is complete: the DIVERGED twin, level with the active after the replay, its decision state now `snap`, becomes
STANDBY when its CMD_CRC matches; the active sees it there. -/
def execResyncComplete (snap : Snapshot) (s : State) : Ans :=
  if s.is F.TWN_STATUS_RESYNC && s.twin = 4 && (s.loadSnapshot snap).crcMatches then
    .next ((((s.loadSnapshot snap).twinSet 3).raiseInt 235).resyncEnd .ok).settle
  else if s.is F.TWN_STATUS_RESYNC && s.twin = 2 && s.twn.partner = 2 then .next (s.resyncEnd .ok).settle
  else .next s

/-- R454: the resync has not completed after 20 ms. -/
def execResyncTimeout (s : State) : Ans :=
  if s.is F.TWN_STATUS_RESYNC then .next (s.resyncEnd .timeout).settle else .next s

end Sys2Proof.Machine
end

