-- ==== Sys2Proof/Machine/Vault.lean ====
section
/-! DEFINITION. On-die readings and the Vault as commands (13_thermal_vault.md R374 to R390; 04_host_reeve.md R123, R130 to
R132, R470). -/
namespace Sys2Proof.Machine

/-- R386: the Reeve has loaded the highest valid generation; `bad` names slots of which a header or entry word reads wrong beyond the
ECC, `lost` slots whose commit record does. The registers of the polders that are on and of Crest take it (Table 3-8). The ECC corrected `corrected` single-bit errors (R381). -/
def execConfigLoadComplete (bad : BitVec 4) (s : State) (corrected : Nat := 0) (lost : BitVec 4 := 0) : Ans :=
  if s.isOn 2 && !s.pwr.configDone && (s.pwr.phase == .starting || s.pwr.phase == .service) then
    let s := (s.loadGeneration bad lost).put F.VLT_COUNTS_ECC_CORR (min (s.get F.VLT_COUNTS_ECC_CORR + corrected) 65535)
    let s := s.applyKeys (fun a => s.isOn (polderOf a))
    let s := s.loadInit
    let s := s.withPwr { s.pwr with configDone := true }
    .next (s.waitInService.settle)
  else .next s

/-- R123, R383: VAULT_COMMIT from mailbox `n`. A commit that writes nothing returns 0 as its first sequence number (DESIGN
CHOICE, assumption 49) and the count 0. The seconds of its records are those that stand when it starts (DESIGN CHOICE, assumption
103). -/
def execVaultCommit (n : Nat) (s : State) : Ans :=
  if s.takes n 0x12 then
    if s.held &&& resVault != 0 then .next (s.respond n .busy [])
    else
      let s := if s.isCell then s.stageWear n else s
      if (s.changes s.rve.staged).isEmpty then
        .next ((s.withRve { s.rve with staged := [] }).respond n .ok (leBytes 8 0))
      else .next ((s.commitStart (.host n) false s.rve.staged (s.originOf n).2.2).settle)
  else .next s

/-- R130, R470: JOURNAL_READ from mailbox `n`. The ECC corrected `corrected` single-bit errors (R381). -/
def execJournalRead (n : Nat) (s : State) (corrected : Nat := 0) : Ans :=
  if s.takes n 0x13 then
    let q := (s.mb n).arg 0 4
    if s.held &&& resVault != 0 then .next (s.respond n .busy [])
    else if q < s.vlt.first then .next (s.respond n .badArg [])
    else
      let rs := s.vlt.journal.filter (fun r => r.seq == q || r.seq == q + 1)
      let s := s.put F.VLT_COUNTS_ECC_CORR (min (s.get F.VLT_COUNTS_ECC_CORR + corrected) 65535)
      .next (s.respond n .ok (rs.flatMap JRecord.bytes))
  else .next s

/-- R132: VAULT_EXPORT from mailbox `n`; `straps` are the present strap levels (HST_ROLE in the image). Offset 0 while an export
is open starts it again with a new image (DESIGN CHOICE, assumption 49). -/
def execVaultExport (n : Nat) (straps : Straps) (s : State) : Ans :=
  if s.takes n 0x14 then
    let o := (s.mb n).arg 0 4
    if o % 52 != 0 then .next (s.respond n .badArg [])
    else if s.held &&& resVault != 0 && s.vlt.image.isNone then .next (s.respond n .busy [])
    else
      let image := if o = 0 then some (s.uhlop straps) else s.vlt.image
      match image with
      | none => .next (s.respond n .refusedState [])
      | some b =>
        if o ≥ b.length then .next (s.respond n .refusedState [])
        else
          let more := decide (o + 52 < b.length)
          let h := s.rve.autoHeld &&& ~~~resVault
          let s := (s.withVlt { s.vlt with image := if more then some b else none }).withRve { s.rve with autoHeld := if more then h ||| resVault else h }
          .next (s.respond n .ok (leBytes 4 b.length ++ padTo 52 (bytesAt b o 52)))
  else .next s

/-- R132: no chunk has been requested for 1 s: the export ends. -/
def execExportTimeout (s : State) : Ans :=
  if s.vlt.image.isSome then
    .next ((s.withVlt { s.vlt with image := none }).withRve { s.rve with autoHeld := s.rve.autoHeld &&& ~~~resVault })
  else .next s

/-- R131, R374: THERMAL_MEASURE from mailbox `n` demands a reading, or joins the conversion that runs. -/
def execThermalMeasure (n : Nat) (s : State) : Ans :=
  if s.takes n 0x21 then .next ((s.runOn n 0).demandReading) else .next s

/-- Table 13-2: a reading at or above the shutdown temperature in a running device: STOPPING without LEAVING, the Wardens to
START, the gates off, the reading kept as the pending shutdown. -/
def State.thermalStop (s : State) (reading : BitVec 16) : State :=
  let s := s.withPwr { s.pwr with phase := .stopping, pendingShutdown := some reading }
  let s := (s.withCul { s.cul with leaving := none }).clearWake.wardenStop.drive
  s.withPins { s.pins with gates := 0 }

/-- R375, R380: an on-die conversion completes. -/
def execOnDieReading (reading : BitVec 16) (s : State) : Ans :=
  if !s.pwr.vcrest || !s.is F.THM_DIE_BUSY then .next s
  else if !s.pwr.thermalDone && (s.pwr.phase == .starting || s.pwr.phase == .service) then execStartUpThermalReading reading s
  else
    let s := s.takeReading reading
    let hot := decide (s.dieTemp ≥ thermalShutdown)
    let kept := BitVec.ofInt 16 s.dieTemp
    if hot && s.pwr.phase == .starting then
      let s := s.put F.PWR_WAKE_CAUSE_THERMAL 1
      .next ((s.withPwr { s.pwr with pendingShutdown := some kept }).dropWake.toCrest)
    else if hot && s.pwr.phase != .crest then .next ((s.thermalStop kept).settle)
    else .next s.settle

/-- Table 13-1: the demand timer. -/
def execThermalDemandTimer (s : State) : Ans :=
  if s.pwr.phase = .ready && s.cf F.THM_CONFIG_THM_DEMAND_PERIOD != 0 then .next s.demandReading else .next s

/-- R379: a substituted sensor (`own`: of the station itself) has delivered only valid values for 1,000,000 tides. -/
def execSubstitutionEnd (own : Bool) (ring slot sensor : Nat) (s : State) : Ans :=
  let k := if own then sensor else sensorKey ring slot sensor
  match SMap.find s.thm.sensors k with
  | some x =>
    if x.subst.isSome && decide (x.run ≥ 1000000) then .next (((s.setSensor k { x with subst := none, run := 0 }).raiseInt 198).settle) else .next s
  | none => .next s

/-- R383: the slot's erase is complete; the pages follow. -/
def execVaultEraseComplete (s : State) : Ans :=
  match s.vlt.op with
  | some o =>
    if o.busy && o.stage = .erase then
      let v := s.vlt.eraseSector s.vlt.target
      .next (s.withVlt { v with op := some { o with busy := false, stage := .page s.pages } })
    else .next s
  | none => .next s

/-- R383: a page, the journal records or the commit record are programmed; after the commit record the keys are applied and the
response is written. -/
def execVaultProgramComplete (s : State) : Ans :=
  match s.vlt.op with
  | some o =>
    if o.busy then
      let go : VaultStage → Ans := fun t =>
        let v : VltSt := { s.vlt with op := some { o with busy := false, stage := t } }
        .next (s.withVlt v)
      match o.stage with
      | .erase => .next s
      | .page k =>
        if k ≤ 1 then
          let x := SlotSt.header s.role (s.vlt.gen + 1) (o.keys.foldl putKey s.cfg)
          let v : VltSt := { s.vlt with slots := s.vlt.slots.set s.vlt.target (some x), op := some { o with busy := false, stage := .journal } }
          .next (s.withVlt v)
        else go (.page (k - 1))
      | .journal => go .record
      | .record => .next (((s.commitDone o).committed s.cfg).settle)
    else .next s
  | none => .next s

/-- R387: an erase or program fails verification: of the commit in progress, or of the records written at this start-up (R385). `last`:
of two journal sectors the failing one is that of the last records. -/
def execVaultSectorRemap (s : State) (last : Bool := false) : Ans :=
  match s.vlt.op, s.vlt.startWrite with
  | some o, _ => if o.busy then .next ((s.sectorFails o last).settle) else .next s
  | none, some l =>
    let u := s.withVlt { s.vlt with startWrite := none }
    .next (((u.remapSector l).getD (u.markBad l)).settle)
  | none, none => .next s

end Sys2Proof.Machine
end

