-- ==== Sys2Proof/Machine/Wardens.lean ====
section
/-! DEFINITION. The Wardens' events and host writes (12_wardens.md R354 to R373). `chan` false is Warden A, true Warden B. -/
namespace Sys2Proof.Machine

/-- R358: an input (0 and 1: guard contacts, 2: emergency stop) has a new filtered level. -/
def execWardenInputFiltered (chan : Bool) (input : Nat) (level : Bool) (s : State) : Ans :=
  if s.isOn (wrdPolder chan) && decide (input < 3) then
    let c := s.wch chan
    let s :=
      match input with
      | 0 => s.setWch chan { c with guard1 := some level }
      | 1 => s.setWch chan { c with guard2 := some level }
      | _ => (s.setWch chan { c with estop := some level }).wflag chan F.WRD_A_STATUS_ESTOP_OK level
    let s := if input < 2 then s.wardGuard chan else s
    .next ((s.wardEval chan).settle)
  else .next s

/-- R359: a contact discrepancy has lasted longer than CONTACT_TIME: LOCKOUT, cause CONTACT, TESTED cleared. -/
def execContactDiscrepancyTimeout (chan : Bool) (s : State) : Ans :=
  if s.isOn (wrdPolder chan) && s.contactDiff chan then
    let s := s.wput chan F.WRD_A_STATUS_TESTED 0
    .next ((s.wardLock chan F.WRD_A_STATUS_LOCK_CONTACT).settle)
  else .next s

/-- R364: the channel sends its exchange. -/
def execWardenExchangeSend (chan : Bool) (s : State) : Ans :=
  if s.isOn (wrdPolder chan) && s.comparing then
    .next (s.wardSend chan)
  else .next s

/-- R364: the channel receives the partner's last exchange, intact. -/
def execWardenExchangeReceived (chan : Bool) (s : State) : Ans :=
  if s.isOn (wrdPolder chan) && s.comparing then
    match (s.wch (!chan)).sent with
    | some x => .next ((s.wardReceive chan x).settle)
    | none => .next s
  else .next s

/-- R364: with `silent`, no exchange has arrived for 2 ms, which is the discrepancy SILENT; without it, a discrepancy has
persisted for 10 ms: LOCKOUT with its causes. -/
def execWardenDiscrepancyLockout (chan silent : Bool) (s : State) : Ans :=
  let c := s.wch chan
  if !(s.isOn (wrdPolder chan) && s.comparing) then .next s
  else if silent then .next ((s.setWch chan { c with silent := true }).wput chan F.WRD_A_STATUS_PARTNER_OK 0)
  else if c.discrepant then
    let s := if c.silent then s.wput chan F.WRD_A_STATUS_LOCK_SILENT 1 else s
    let s := if c.cross then s.wput chan F.WRD_A_STATUS_LOCK_CROSS 1 else s
    let s := if c.config then s.wput chan F.WRD_A_STATUS_LOCK_CONFIG 1 else s
    .next ((s.wardGo chan wLockout false).settle)
  else .next s

/-- R363: 1 is written to WRD_CTRL RELEASE (and to BLOCK in the same commit: `block`, which then applies). -/
def execWardenRelease (block : Bool) (s : State) : Ans := .next ((s.wardCtrl true block).settle)

/-- R363: 1 is written to WRD_CTRL BLOCK. -/
def execWardenBlock (s : State) : Ans := .next ((s.wardCtrl false true).settle)

/-- R367, R368: a test pulse falls due: it starts while the output is high, and is skipped otherwise. Warden B makes none while
no exchange arrives. -/
def execSafeOutTestPulseStart (chan : Bool) (s : State) : Ans :=
  if s.isOn (wrdPolder chan) && !(s.wch chan).pulse && (!chan || s.wis chan F.WRD_A_STATUS_PARTNER_OK) then
    if s.wis chan F.WRD_A_STATUS_SAFE_OUT then
      let p := s.fresh 11
      let s := p.2
      .next ((s.setWch chan { s.wch chan with pulse := true, pulseAge := some p.1 }).wput chan F.WRD_A_STATUS_SAFE_OUT 0)
    else .next (s.bump F.WRD_COUNTS_SKIPPED)
  else .next s

/-- R368: a test pulse ends: the output is high again if the state commands it. -/
def execSafeOutTestPulseEnd (chan : Bool) (s : State) : Ans :=
  if s.isOn (wrdPolder chan) && (s.wch chan).pulse then
    .next (((s.setWch chan { s.wch chan with pulse := false }).wardOutputs chan).settle)
  else .next s

/-- R367: a readback sample of the SAFE_OUT land; a mismatch with the commanded level is a LOCKOUT, cause READBACK. -/
def execSafeOutReadback (chan level : Bool) (s : State) : Ans :=
  if s.isOn (wrdPolder chan) then
    let s := s.wflag chan F.WRD_A_STATUS_READBACK level
    if s.wis chan F.WRD_A_STATUS_SAFE_OUT == level then .next s
    else .next ((s.wardLock chan F.WRD_A_STATUS_LOCK_READBACK).settle)
  else .next s

end Sys2Proof.Machine
end

