-- ==== Sys2Proof/Machine/Dispatch.lean ====
section
/-! DEFINITION. One arm per command: its meaning (Machine/<Family>.lean), everything but the queue of waiting commands. -/
namespace Sys2Proof.Machine

def exec (i : Instr) (s : State) : Host.Outcome State Fault Refusal :=
  match i with
  | .vcrestRise straps suppliesGood vio3 vio => Sys2Proof.Machine.execVcrestRise straps suppliesGood vio3 s vio
  | .vcrestFall => Sys2Proof.Machine.execVcrestFall s
  | .supplyLost vio3 vio monitored guards => Sys2Proof.Machine.execSupplyLost s vio3 vio monitored guards
  | .supplyReturn vio3 vio monitored guards => Sys2Proof.Machine.execSupplyReturn s vio3 vio monitored guards
  | .wakenLow held => Sys2Proof.Machine.execWakenLow held s
  | .laneWakeLatch port => Sys2Proof.Machine.execLaneWakeLatch port s
  | .dripAlarm => Sys2Proof.Machine.execDripAlarm s
  | .guardChangeAccepted land level => Sys2Proof.Machine.execGuardChangeAccepted land level s
  | .wakeDuringAwake source => Sys2Proof.Machine.execWakeDuringAwake source s
  | .startUp => Sys2Proof.Machine.execStartUp s
  | .polderPowerGood polder p0Clock => Sys2Proof.Machine.execPolderPowerGood polder p0Clock s
  | .polderStartFailure polder => Sys2Proof.Machine.execPolderStartFailure polder s
  | .culvertPolderIdleStop polder => Sys2Proof.Machine.execCulvertPolderIdleStop polder s
  | .startUpThermalReading reading => Sys2Proof.Machine.execStartUpThermalReading reading s
  | .configLoadComplete bad corrected lost => Sys2Proof.Machine.execConfigLoadComplete bad s corrected lost
  | .startUpPoldersAndCalibration => Sys2Proof.Machine.execStartUpPoldersAndCalibration s
  | .readyEntered => Sys2Proof.Machine.execReadyEntered s
  | .p0ClockPresent => Sys2Proof.Machine.execP0ClockPresent s
  | .dripOkSet guards => Sys2Proof.Machine.execDripOkSet s guards
  | .dripClockLost => Sys2Proof.Machine.execDripClockLost s
  | .pllLockDeclared bandEdge bandLane => Sys2Proof.Machine.execPllLockDeclared bandEdge bandLane s
  | .storedBandAbandoned => Sys2Proof.Machine.execStoredBandAbandoned s
  | .pllNoLock => Sys2Proof.Machine.execPllNoLock s
  | .lockRetry p0Clock => Sys2Proof.Machine.execLockRetry p0Clock s
  | .pllHoldoverEntry refLost => Sys2Proof.Machine.execPllHoldoverEntry refLost s
  | .pllReengage => Sys2Proof.Machine.execPllReengage s
  | .reengagementFailed => Sys2Proof.Machine.execReengagementFailed s
  | .holdoverTooLong => Sys2Proof.Machine.execHoldoverTooLong s
  | .syncInEdge falling phase => Sys2Proof.Machine.execSyncInEdge falling phase s
  | .parallelReadCycle addr visited allLow straps => Sys2Proof.Machine.execParallelReadCycle addr visited allLow straps s
  | .parallelWriteCycle addr data allLow => Sys2Proof.Machine.execParallelWriteCycle addr data allLow s
  | .spiHeaderFrame header straps ends => Sys2Proof.Machine.execSpiHeaderFrame header s straps ends
  | .spiDataFrame data straps ends => Sys2Proof.Machine.execSpiDataFrame data straps s ends
  | .spiShortFrame => Sys2Proof.Machine.execSpiShortFrame s
  | .registerWrite port addr value => Sys2Proof.Machine.execRegisterWrite port addr value s
  | .doorbell port n value => Sys2Proof.Machine.execDoorbell port n value s
  | .reeveTakeCommand => Sys2Proof.Machine.execReeveTakeCommand s
  | .responseComplete n => Sys2Proof.Machine.execResponseComplete n s
  | .identify n straps => Sys2Proof.Machine.execIdentify n straps s
  | .status n => Sys2Proof.Machine.execStatus n s
  | .sleep n => Sys2Proof.Machine.execSleep n s
  | .crestStandbyReached => Sys2Proof.Machine.execCrestStandbyReached s
  | .wakeRemote n woke ready => Sys2Proof.Machine.execWakeRemote n woke s ready
  | .configWrite n => Sys2Proof.Machine.execConfigWrite n s
  | .configRead n => Sys2Proof.Machine.execConfigRead n s
  | .vaultCommit n => Sys2Proof.Machine.execVaultCommit n s
  | .journalRead n corrected => Sys2Proof.Machine.execJournalRead n s corrected
  | .vaultExport n straps => Sys2Proof.Machine.execVaultExport n straps s
  | .exportTimeout => Sys2Proof.Machine.execExportTimeout s
  | .adcCalibrate n => Sys2Proof.Machine.execAdcCalibrate n s
  | .calibrationComplete trims => Sys2Proof.Machine.execCalibrationComplete trims s
  | .autoCalibrationStart => Sys2Proof.Machine.execAutoCalibrationStart s
  | .thermalMeasure n => Sys2Proof.Machine.execThermalMeasure n s
  | .clockRelock n => Sys2Proof.Machine.execClockRelock n s
  | .ringDiscover n found => Sys2Proof.Machine.execRingDiscover n found s
  | .ringAlign n loops aligned wraps => Sys2Proof.Machine.execRingAlign n loops aligned s wraps
  | .laneSleep n => Sys2Proof.Machine.execLaneSleep n s
  | .laneWake n => Sys2Proof.Machine.execLaneWake n s
  | .cellBringIn n verified auto => Sys2Proof.Machine.execCellBringIn n verified auto s
  | .cellRetire n => Sys2Proof.Machine.execCellRetire n s
  | .twinSwap n => Sys2Proof.Machine.execTwinSwap n s
  | .twinResync n => Sys2Proof.Machine.execTwinResync n s
  | .captureArm n => Sys2Proof.Machine.execCaptureArm n s
  | .captureRead n => Sys2Proof.Machine.execCaptureRead n s
  | .captureDisarm n => Sys2Proof.Machine.execCaptureDisarm n s
  | .faultAck n => Sys2Proof.Machine.execFaultAck n s
  | .faultInject n factory => Sys2Proof.Machine.execFaultInject n factory s
  | .remote n => Sys2Proof.Machine.execRemote n s
  | .remoteTimeout ring => Sys2Proof.Machine.execRemoteTimeout ring s
  | .rxClockDetect port => Sys2Proof.Machine.execRxClockDetect port s
  | .rxWordLock port => Sys2Proof.Machine.execRxWordLock port s
  | .rxDeskewSet port tap => Sys2Proof.Machine.execRxDeskewSet port tap s
  | .rxUp port codeErrors => Sys2Proof.Machine.execRxUp port s codeErrors
  | .rxDown port codeErrors => Sys2Proof.Machine.execRxDown port s codeErrors
  | .rxRealign port codeErrors => Sys2Proof.Machine.execRxRealign port codeErrors s
  | .portReady port => Sys2Proof.Machine.execPortReady port s
  | .portStatusReceived port status codeErrors => Sys2Proof.Machine.execPortStatusReceived port status s codeErrors
  | .tideBoundary coreDone offset => Sys2Proof.Machine.execTideBoundary coreDone s offset
  | .tideFrameReceived port frame codeErrors => Sys2Proof.Machine.execTideFrameReceived port frame s codeErrors
  | .commandLoss => Sys2Proof.Machine.execCommandLoss s
  | .periodicUnwrap ring => Sys2Proof.Machine.execPeriodicUnwrap ring s
  | .messageAckTimeout ring => Sys2Proof.Machine.execMessageAckTimeout ring s
  | .messageBusyRetry ring => Sys2Proof.Machine.execMessageBusyRetry ring s
  | .alignAverageComplete delta => Sys2Proof.Machine.execAlignAverageComplete delta s
  | .referencePortChange => Sys2Proof.Machine.execReferencePortChange s
  | .triggerTokenRaise line offset => Sys2Proof.Machine.execTriggerTokenRaise line offset s
  | .laneActivity port => Sys2Proof.Machine.execLaneActivity port s
  | .adcRoundStart conv => Sys2Proof.Machine.execAdcRoundStart conv s
  | .modulatorAdcStart conv onNs hb => Sys2Proof.Machine.execModulatorAdcStart conv onNs s hb
  | .gridInstant rate k => Sys2Proof.Machine.execGridInstant rate k s
  | .adcHostStart mask => Sys2Proof.Machine.execAdcHostStart mask s
  | .adcResult conv pv => Sys2Proof.Machine.execAdcResult conv pv s
  | .observerStep => Sys2Proof.Machine.execObserverStep s
  | .trackerValid => Sys2Proof.Machine.execTrackerValid s
  | .trackerInvalid srcLost => Sys2Proof.Machine.execTrackerInvalid srcLost s
  | .runWrite value => Sys2Proof.Machine.execRunWrite value s
  | .modEnWrite value => Sys2Proof.Machine.execModEnWrite value s
  | .dabHalfCycleEdge bridge => Sys2Proof.Machine.execDabHalfCycleEdge bridge s
  | .dabQuarterPoint bridge second => Sys2Proof.Machine.execDabQuarterPoint bridge second s
  | .inverterCarrierValley => Sys2Proof.Machine.execInverterCarrierValley s
  | .tripActive trip => Sys2Proof.Machine.execTripActive trip s
  | .tripClear mask => Sys2Proof.Machine.execTripClear mask s
  | .jtagFreeze => Sys2Proof.Machine.execJtagFreeze s
  | .modulatorClockResume => Sys2Proof.Machine.execModulatorClockResume s
  | .lpePublish => Sys2Proof.Machine.execLpePublish s
  | .feClear mask => Sys2Proof.Machine.execFeClear mask s
  | .desaturation channel => Sys2Proof.Machine.execDesaturation channel s
  | .channelUndervoltage channel under => Sys2Proof.Machine.execChannelUndervoltage channel under s
  | .bothOnRefused hb => Sys2Proof.Machine.execBothOnRefused hb s
  | .halfBridgeHoldEnd hb => Sys2Proof.Machine.execHalfBridgeHoldEnd hb s
  | .dieRefreshLoss channel => Sys2Proof.Machine.execDieRefreshLoss channel s
  | .bootstrapWarn hb => Sys2Proof.Machine.execBootstrapWarn hb s
  | .bootstrapMaxReached hb offIn => Sys2Proof.Machine.execBootstrapMaxReached hb offIn s
  | .dieBootstrapLimit hb => Sys2Proof.Machine.execDieBootstrapLimit hb s
  | .ovComparatorChange k above => Sys2Proof.Machine.execOvComparatorChange k above s
  | .chopperTurnOn => Sys2Proof.Machine.execChopperTurnOn s
  | .chopperTurnOff => Sys2Proof.Machine.execChopperTurnOff s
  | .chopperCheckFailed => Sys2Proof.Machine.execChopperCheckFailed s
  | .sluiceMismatch a b => Sys2Proof.Machine.execSluiceMismatch a b s
  | .faultEvent source => Sys2Proof.Machine.execFaultEvent source s
  | .brokenErrorWire source => Sys2Proof.Machine.execBrokenErrorWire source s
  | .intPendWrite k value => Sys2Proof.Machine.execIntPendWrite k value s
  | .intEnWrite k value => Sys2Proof.Machine.execIntEnWrite k value s
  | .intTgtWrite j value => Sys2Proof.Machine.execIntTgtWrite j value s
  | .hsleepChange target low => Sys2Proof.Machine.execHsleepChange target low s
  | .strataEntryAccepted => Sys2Proof.Machine.execStrataEntryAccepted s
  | .strataMark value => Sys2Proof.Machine.execStrataMark value s
  | .strataDataRead port => Sys2Proof.Machine.execStrataDataRead port s
  | .wardenInputFiltered chan input level => Sys2Proof.Machine.execWardenInputFiltered chan input level s
  | .contactDiscrepancyTimeout chan => Sys2Proof.Machine.execContactDiscrepancyTimeout chan s
  | .wardenExchangeSend chan => Sys2Proof.Machine.execWardenExchangeSend chan s
  | .wardenExchangeReceived chan => Sys2Proof.Machine.execWardenExchangeReceived chan s
  | .wardenDiscrepancyLockout chan silent => Sys2Proof.Machine.execWardenDiscrepancyLockout chan silent s
  | .wardenRelease block => Sys2Proof.Machine.execWardenRelease block s
  | .wardenBlock => Sys2Proof.Machine.execWardenBlock s
  | .safeOutTestPulseStart chan => Sys2Proof.Machine.execSafeOutTestPulseStart chan s
  | .safeOutTestPulseEnd chan => Sys2Proof.Machine.execSafeOutTestPulseEnd chan s
  | .safeOutReadback chan level => Sys2Proof.Machine.execSafeOutReadback chan level s
  | .onDieReading reading => Sys2Proof.Machine.execOnDieReading reading s
  | .thermalDemandTimer => Sys2Proof.Machine.execThermalDemandTimer s
  | .substitutionEnd own ring slot sensor => Sys2Proof.Machine.execSubstitutionEnd own ring slot sensor s
  | .vaultEraseComplete => Sys2Proof.Machine.execVaultEraseComplete s
  | .vaultProgramComplete => Sys2Proof.Machine.execVaultProgramComplete s
  | .vaultSectorRemap last => Sys2Proof.Machine.execVaultSectorRemap s last
  | .ethFrameReceived port frame good stamp frac => Sys2Proof.Machine.execEthFrameReceived port frame good stamp frac s
  | .netRxPop => Sys2Proof.Machine.execNetRxPop s
  | .hostTxGo slot ctrl => Sys2Proof.Machine.execHostTxGo slot ctrl s
  | .ethFrameSent port stamp frac => Sys2Proof.Machine.execEthFrameSent port stamp frac s
  | .timedLaunch port => Sys2Proof.Machine.execTimedLaunch port s
  | .supervisionFrame => Sys2Proof.Machine.execSupervisionFrame s
  | .linkChange port up aneg => Sys2Proof.Machine.execLinkChange port up aneg s
  | .timOffsetWrite value => Sys2Proof.Machine.execTimOffsetWrite value s
  | .servoReset => Sys2Proof.Machine.execServoReset s
  | .timStepWrite value => Sys2Proof.Machine.execTimStepWrite value s
  | .timSecondWrite value => Sys2Proof.Machine.execTimSecondWrite value s
  | .secondMark => Sys2Proof.Machine.execSecondMark s
  | .svSubscriptionTimeout sub => Sys2Proof.Machine.execSvSubscriptionTimeout sub s
  | .gooseNewState pub => Sys2Proof.Machine.execGooseNewState pub s
  | .gsePubForce mask => Sys2Proof.Machine.execGsePubForce mask s
  | .gooseRepeat pub => Sys2Proof.Machine.execGooseRepeat pub s
  | .gooseDeadlinePassed sub => Sys2Proof.Machine.execGooseDeadlinePassed sub s
  | .gallerySample step => Sys2Proof.Machine.execGallerySample step s
  | .galTrigWrite mask => Sys2Proof.Machine.execGalTrigWrite mask s
  | .holdoffEnd profile => Sys2Proof.Machine.execHoldoffEnd profile s
  | .galFreeWrite index => Sys2Proof.Machine.execGalFreeWrite index s
  | .twinLinkFrameReceived frame arrival id codeErrors => Sys2Proof.Machine.execTwinLinkFrameReceived frame arrival s id codeErrors
  | .echoPathSilent ring => Sys2Proof.Machine.execEchoPathSilent ring s
  | .twinTakeover => Sys2Proof.Machine.execTwinTakeover s
  | .pairingPartnerSilent => Sys2Proof.Machine.execPairingPartnerSilent s
  | .autoSwapTimer => Sys2Proof.Machine.execAutoSwapTimer s
  | .resyncComplete snap => Sys2Proof.Machine.execResyncComplete snap s
  | .resyncTimeout => Sys2Proof.Machine.execResyncTimeout s
  | .wearSample => Sys2Proof.Machine.execWearSample s
  | .tripInactive trip => Sys2Proof.Machine.execTripInactive trip s
  | .busMonitorSample value => Sys2Proof.Machine.execBusMonitorSample value s
  | .aliveDividerEdge => Sys2Proof.Machine.execAliveDividerEdge s
  | .errorWireRestored source => Sys2Proof.Machine.execErrorWireRestored source s
  | .vio3BecomesPresent guards => Sys2Proof.Machine.execVio3BecomesPresent guards s
  | .inverterCarrierPeak => Sys2Proof.Machine.execInverterCarrierPeak s

end Sys2Proof.Machine
end

