-- ==== Sys2Proof/Machine/Idle.lean ====
section
/-! DEFINITION. What passes while no command waits. -/
namespace Sys2Proof.Machine

/-- A drip cycle in units of 2^-32 ns times 32,768 (R83). -/
def dripCycle : Nat := 1000000000 * 2 ^ 32

/-- R83, R84: the drip clock runs on for `d` (2^-32 ns): PWR_DRIP_COUNT counts whole cycles, and reaching the alarm value sets the
latch of an armed alarm. It counts from the first DRIP_OK on while that clock is not lost; cycles before that come with its event (DESIGN CHOICE,
assumption 80). -/
def State.dripAdvance (s : State) (d : Int) : State :=
  if s.pwr.vcrest && s.pwr.dripRuns then
    let p := s.pwr.dripPart + d.toNat * 32768
    if p < dripCycle then s.withPwr { s.pwr with dripPart := p }
    else
      let s := s.withPwr { s.pwr with dripPart := p - dripCycle }
      let s := s.setWord R.PWR_DRIP_COUNT (s.word R.PWR_DRIP_COUNT + 1)
      if s.word R.PWR_DRIP_COUNT = s.word R.PWR_DRIP_ALARM then s.wakeEvent .drip else s
  else s

/-- R272: the legs of a running inverter follow their wave. -/
def State.invIdle (s : State) : State :=
  if s.isOn 10 && !s.mod.frozen && s.isInverter && s.mod.invRun then
    ((s.invFollow ((s.tim.now + 2 ^ 64 - s.mod.boundaryAt) % 2 ^ 64 / (5 * 2 ^ 27))).drive).settle
  else s

/-- Two core clocks pass: the timebase counts on (14_network_time.md R402), so does the drip clock, in Crest standby too (R83), an
ADC clock (R192) and the interrupt races of R345, R346 and R348 are over (DESIGN CHOICE, assumption 80). -/
def State.idle (s : State) : State :=
  let d := 2 * s.tickStep
  let s := s.dripAdvance d
  if s.isOn 1 then
    let s := (s.advance d).netExpire.endClock
    let s := ([0, 1, 2, 3].foldl State.adcPast s.clocksPassed).endClock
    let s : State := if s.gdr.notch.any (·.isSome) then s.notchTo.settle else s
    s.invIdle
  else s

/-- `s` with the command `c` at the front of its queue. -/
def State.putFront (s : State) (c : Instr) : State := { s with pending := c :: s.pending }

/-- `s` with the queue `q`. -/
def State.withQueue (s : State) (q : List Instr) : State := { s with pending := q }

end Sys2Proof.Machine
end

