-- ==== Sys2Proof/Machine/Flags.lean ====
section
/-! DEFINITION. Status bits. A block has no condition flags of a processor; its status bits are register fields (set by
`State.put` and `State.flag`), its interrupt flags INT_PEND (11_faults_interrupts.md R340). -/
namespace Sys2Proof.Machine

/-- INT_PEND bit `n`. -/
def State.pends (s : State) (n : Nat) : Bool := s.int.pend.getLsbD n

/-- IRQ line `k` is high (R340). -/
def State.irqHigh (s : State) (k : Nat) : Bool := s.isOn 1 && s.int.irq k

end Sys2Proof.Machine
end

