-- ==== Sys2Proof/Machine/Lands.lean ====
section
/-! DEFINITION. The levels of the output lands: none is high impedance (02_module.md R53, R62, R65; 10_gate_drive.md R321;
11_faults_interrupts.md R337, R338; 12_wardens.md R360). -/
namespace Sys2Proof.Machine

/-- R53: a land of bank `n` that polder `p` drives at level `x`. -/
def State.land {α : Type} (s : State) (n p : Nat) (x : α) : Option α := if s.bank n && s.isOn p then some x else none

/-- R65: HD0 to HD15 between bus cycles. A read cycle drives the unit `State.hdRead` holds, within the cycle alone. -/
def State.hdLand (_s : State) : Option (BitVec 16) := none

/-- R62: SPI_SDO over the last frame; high-impedance once SPI_CSn has risen. -/
def State.sdoLand (s : State) : Option Word := (s.land 2 1 (if s.spi.finished then none else s.spi.sdo)).join

/-- IRQk. -/
def State.irqLand (s : State) (k : Nat) : Option Bool := s.land 2 1 (s.irqHigh k)

/-- R337: ALIVE. -/
def State.aliveLand (s : State) : Option Bool := s.land 2 1 s.flt.alive

/-- R338: FAULTn, open-drain: pulled low, or released. -/
def State.faultnLand (s : State) : Option Bool := (s.land 2 1 (if s.faultnLow then some false else none)).join

/-- R360: SAFE_OUT of Warden A (`false`) or B. -/
def State.safeOutLand (s : State) (b : Bool) : Option Bool := s.land 3 (wrdPolder b) (s.wis b F.WRD_A_STATUS_SAFE_OUT)

/-- R321: SLUICE_A and SLUICE_B, driven alike. -/
def State.sluiceLand (s : State) : Option Bool := s.land 3 13 (s.isCell && s.is F.GDR_SLUICE_CMD)

end Sys2Proof.Machine
end

