-- ==== Sys2Proof/Machine/Operands.lean ====
section
/-! DEFINITION. Operands of the commands as the block takes them. A command carries its operands as values; the operands of a
Reeve command lie in the request its mailbox holds (04_host_reeve.md R128). Their forms are read by `MbSt.arg`,
`MbSt.len` and `MbSt.flags` (ReeveOps) and checked by `commandForm`; a block has no operand form of a processor. -/
namespace Sys2Proof.Machine

/-- R128: byte `i` of a request's arguments. -/
def State.argByte (s : State) (n i : Nat) : Nat := (s.mb n).arg i 1

end Sys2Proof.Machine
end

