-- ==== Sys2Proof/Safety.lean ====
section
/-! DEFINITION. What counts as a well-formed and a safe state, and what a step leaves alone, in the terms the statements use. -/
namespace Sys2Proof.Machine

/-- Every channel die is off. -/
def State.gatesOff (s : State) : Prop := s.pins.gates = 0

/-- The command `c` completes on `s`. -/
def Runs (c : Instr) (s : State) : Prop := ∃ t, exec c s = .next t

/-- Bit `i` of the register at `a` belongs to a field of `l`. -/
def inFields (l : List Fld) (a i : Nat) : Prop := ∃ f ∈ l, f.addr = a ∧ f.lo ≤ i ∧ i < f.lo + f.w

/-- Every register bit outside the fields of `l` is as before. -/
def State.sameBits (s t : State) (l : List Fld) : Prop :=
  ∀ a i, i < 32 → ¬ inFields l a i → (t.word a).getLsbD i = (s.word a).getLsbD i

/-- Nothing but the fields of `l` differs. -/
def State.onlyFields (s t : State) (l : List Fld) : Prop := t = { s with regs := t.regs } ∧ s.sameBits t l

/-- Every register outside `l` is as before. -/
def State.sameWords (s t : State) (l : List Nat) : Prop := ∀ a, a ∉ l → t.word a = s.word a

/-- What no run breaks: every sparse map in its canonical form, the log and the queues of Strata within their sizes (R349,
R350), the last 64 capture descriptors (R435), at most eight filled receive slots (R398), and the lists of fixed length. -/
structure State.Inv (s : State) : Prop where
  mem : Memory.wf s.gal.mem = true
  regs : SMap.wf s.regs = true
  cfg : SMap.wf s.cfg = true
  eff : SMap.wf s.eff = true
  slots : ∀ x ∈ s.vlt.slots, ∀ y, x = some y → SMap.wf y.cfg = true
  log : s.str.log.length ≤ 4096
  queues : ∀ q ∈ s.str.queues, q.length ≤ 16
  records : s.gal.records.length ≤ 64
  slotsFull : s.net.count ≤ 8
  strataPorts : s.str.queues.length = 4
  mailboxes : s.rve.mb.length = 11
  ports : s.cul.ports.length = 10
  converters : s.adc.conv.length = 4
  profiles : s.gal.prof.length = 4
  causes : s.gdr.cause.length = 4
  counts : s.flt.events.length = 4
  escalations : s.flt.escalated.length = 4
  functions : s.mod.func.length = 4
  waiting : s.net.waiting.length = 2
  sending : s.net.sending.length = 2
  receiveSlots : s.net.rx.length = 8
  transmitSlots : s.net.tx.length = 4
  stamps : ∀ x ∈ s.net.tx, x.stamps.length = 2 ∧ x.fracs.length = 2
  svPublishers : s.stm.pub.length = 8
  svSubscriptions : s.stm.sub.length = 16
  goosePublishers : s.stm.gpub.length = 16
  gooseSubscriptions : s.stm.gsub.length = 64

end Sys2Proof.Machine
end

