-- ==== Sys2Proof/Certificates/Slice0/Obligations.lean ====
section
/-! DEFINITION. The statements about the model, for the provers. Each cites the rules of the spec it rests on; OBLIGATIONS.json
lists them. -/
open Sys2Proof Sys2Proof.Machine

/-- Every command and every state: a step runs the command at the front of the queue on the state with the queue's rest; with
an empty queue it idles. No word spells a command. Rests also on the model's choices: assumptions 6, 80. -/
def Obligations.StepRunsTheFront : Prop :=
  ∀ (c : Instr) (q : List Instr) (s : State),
    (s.pending = c :: q → step s = exec c (s.withQueue q)) ∧
    (s.pending = [] → step s = .next s.idle) ∧
    (∀ nbits w : Nat, s.withFetchWord nbits w = s)

/-- A step takes the front of the queue and leaves the rest as it is. Rests also on the model's choices: assumptions 6, 80. -/
def Obligations.StepLeavesTheQueuesRest : Prop :=
  ∀ s t : State, step s = .next t → t.pending = s.pending.tail

/-- No step stops: every command on every state answers a next state. Rests also on the model's choices: assumption 4. -/
def Obligations.EveryStepAnswersNext : Prop :=
  ∀ s : State, ∃ t : State, step s = .next t

/-- Every step keeps the canonical forms and the sizes of `State.Inv`, from every state that has them. Rests also on the
model's choices: assumptions 3, 80. -/
def Obligations.EveryStepKeepsInv : Prop :=
  ∀ s t : State, s.Inv → step s = .next t → t.Inv

/-- The state after reset has the forms and sizes that every step keeps. Rests also on the model's choices: assumption 2. -/
def Obligations.ResetHasInv : Prop :=
  State.reset.Inv

/-- The capture memory changes by GALLERY_SAMPLE alone, or is lost with polder 9 (R80). -/
def Obligations.CaptureMemoryKept : Prop :=
  ∀ (c : Instr) (s t : State), (∀ k, c ≠ .gallerySample k) → exec c s = .next t →
    (∀ a, Memory.get t.gal.mem a = Memory.get s.gal.mem a) ∨ (t.isOn 9 = false ∧ t.gal.mem = [])

/-- R340: with no race, INT_WINNERt reads the highest source presented to target t, or 0x100, and the IRQ line is high
exactly while there is one. R344, R345, R346, R347, R348: commits to INT_PENDk, INT_ENk and INT_TGTj set the bits of their
sources and no other; the level of HSLEEPn sets the sleep bit of its target. -/
def Obligations.InterruptControl : Prop :=
  (∀ (s : State) (k : Nat), s.int.race.getD k none = none →
    ((s.readWinner k).2 = s) ∧
    ((s.readWinner k).1 = 256 ∨ ((s.readWinner k).1 < 256 ∧ s.int.presented (s.readWinner k).1 k = true)) ∧
    (∀ n, n < 256 → s.int.presented n k = true → n ≤ (s.readWinner k).1 ∧ (s.readWinner k).1 ≠ 256) ∧
    (s.int.irq k = true ↔ (s.readWinner k).1 ≠ 256)) ∧
  (∀ (s : State) (v : Word), s.isOn 1 = true →
    (∀ k, k < 8 → ∃ t : State, exec (.intPendWrite k v) s = .next t ∧ t = { s with int := { s.int with pend := t.int.pend } } ∧
      ∀ n, n < 256 → t.pends n = if n / 32 = k then v.getLsbD (n % 32) else s.pends n) ∧
    (∀ k, k < 8 → ∃ t : State, exec (.intEnWrite k v) s = .next t ∧
      t = { s with int := { s.int with en := t.int.en, race := t.int.race, raceFb := t.int.raceFb, raceSeen := t.int.raceSeen } } ∧
      ∀ n, n < 256 → t.int.en.getLsbD n = if n / 32 = k then v.getLsbD (n % 32) else s.int.en.getLsbD n) ∧
    (∀ j, j < 16 → ∃ t : State, exec (.intTgtWrite j v) s = .next t ∧
      t = { s with int := { s.int with tgt := t.int.tgt, race := t.int.race, raceFb := t.int.raceFb, raceSeen := t.int.raceSeen } } ∧
      ∀ n, n < 256 → t.int.target n = if n / 16 = j then v.toNat / 4 ^ (n % 16) % 4 else s.int.target n) ∧
    (∀ k low, k < 4 → ∃ t : State, exec (.hsleepChange k low) s = .next t ∧
      t = { s with int := { s.int with sleep := t.int.sleep, race := t.int.race, raceFb := t.int.raceFb, raceSeen := t.int.raceSeen } } ∧
      ∀ m, m < 4 → t.int.sleep.getLsbD m = if m = k then low else s.int.sleep.getLsbD m))

/-- What follows a command (fault events, the lines, an answer to the partner) touches the fault collector, interrupts,
Strata, the modulators and gate drive, capture, trigger tokens and the twin message alone: no other register, no committed
key, no byte of the capture memory, not the queue. Rests also on the model's choices: assumption 4. -/
def Obligations.SettleFrame : Prop :=
  ∀ s : State,
    s.settle = { s with
      regs := s.settle.regs, eff := s.settle.eff, pwr := { s.pwr with breach := s.settle.pwr.breach }
      flt := s.settle.flt, int := s.settle.int, str := s.settle.str, mod := s.settle.mod, gdr := s.settle.gdr
      pins := s.settle.pins, gal := { s.settle.gal with mem := s.gal.mem }
      cul := { s.cul with tokens := s.settle.cul.tokens }
      twn := { s.twn with msgOut := s.settle.twn.msgOut }, rve := { s.rve with mb := s.settle.rve.mb } } ∧
    (∀ a, a / 65536 ≠ 7 → a / 65536 ≠ 9 → a / 65536 ≠ 15 → s.settle.word a = s.word a) ∧
    (SMap.wf s.eff = true → ∀ a, a / 65536 ≠ 7 → a / 65536 ≠ 9 → s.settle.effWord a = s.effWord a)

/-! ## Power, wake and start-up (chapters 2 and 3) -/

/-- R54, R11, R85: VCREST rises: straps latched, POWER_ON alone recorded as a cause, everything in Crest at its reset value,
no gate on; the Vault's flash keeps what it holds. With VCREST present already nothing happens. R54, R55: a fall of VCREST
clears the role latch, the Breach flag and all Crest state, and no gate is on; the Vault's flash keeps what it holds. Rests
also on the model's choices: assumptions 2, 4, 9. -/
def Obligations.CrestSupplyRisesAndFalls : Prop :=
  (∀ (straps : Straps) (good vio3 : Bool) (vio : BitVec 2) (s : State),
    (s.pwr.vcrest = true → exec (.vcrestRise straps good vio3 vio) s = .next s) ∧
    (s.pwr.vcrest = false → ∃ t : State, exec (.vcrestRise straps good vio3 vio) s = .next t ∧
      t.pwr.vcrest = true ∧ t.pwr.latch = some straps ∧ t.pwr.straps = straps ∧ t.pwr.suppliesGood = good ∧ t.pwr.vio3 = vio3 ∧
      t.pwr.vio = vio ∧
      t.pwr.phase = .crest ∧ t.pwr.startCause = true ∧ t.pwr.breach = false ∧ t.pwr.on = 1 ∧
      t.word R.PWR_WAKE_CAUSE = 1 ∧ (∀ a, t.word a = resetWord a ∧ t.cfgWord a = resetWord a ∧ t.effWord a = resetWord a) ∧
      t.gal.mem = [] ∧ t.vlt.slots = s.vlt.slots ∧ t.vlt.journal = s.vlt.journal ∧ t.pins = { s.pins with gates := 0 } ∧ t.pending = s.pending)) ∧
  (∀ s : State,
    (s.pwr.vcrest = false → exec .vcrestFall s = .next s) ∧
    (s.pwr.vcrest = true → ∃ t : State, exec .vcrestFall s = .next t ∧
      t.pwr.vcrest = false ∧ t.pwr.latch = none ∧ t.role = .none ∧ t.pwr.breach = false ∧ t.pwr.on = 0 ∧
      t.pwr.startCause = false ∧ t.pwr.reqWaken = false ∧ t.pwr.reqDrip = false ∧ t.pwr.reqGuard = false ∧ t.pwr.reqLane = 0 ∧
      (∀ a, t.word a = resetWord a ∧ t.cfgWord a = resetWord a ∧ t.effWord a = resetWord a) ∧
      t.gal.mem = [] ∧ t.vlt.slots = s.vlt.slots ∧ t.vlt.journal = s.vlt.journal ∧ t.pins = { s.pins with gates := 0 } ∧
      t.pending = s.pending))

/-- R52, R53, R55, R80, R472: a loss of a monitored supply turns all gates off. Outside standby all polders but Crest go off
with their registers at the reset values, standby with SUPPLY_LOST latched; in standby only the loss is noted. The Vault's
flash keeps what it holds. The VIO banks come and go in any order; while the monitored supplies stay good a change of the
banks changes nothing else, but for the guard levels accepted as VIO3 becomes present. R84, R85, R472: what the wake events
and the returning supplies set: the request latch or the start cause, and the record in PWR_WAKE_CAUSE; the unarmed ones set
nothing. R84, R473, R81, R182: an armed lane sets its latch and its record; in an awake device its receive direction is asked
for and its Culvert polder starts, and no other request has an effect there beside its latch and record. Rests also on the
model's choices: assumptions 4, 5, 10, 80. -/
def Obligations.SupplyLossAndWakeEvents : Prop :=
  (∀ (vio3 : Bool) (vio : BitVec 2) (guards : BitVec 4) (s : State), s.Inv →
    (∀ c, c = .supplyLost vio3 vio false guards ∨ c = .supplyReturn vio3 vio false guards ∨
        (s.pwr.suppliesGood = true ∧ ∃ m, c = .supplyReturn vio3 vio m guards) →
      exec c s = .next { s with pwr := { s.pwr with
        vio3 := vio3, vio := vio, guardPin := if vio3 && !s.pwr.vio3 then guards else s.pwr.guardPin
        guardAccepted := if vio3 && !s.pwr.vio3 then guards else s.pwr.guardAccepted } }) ∧
    (s.pwr.vcrest = false ∨ s.pwr.phase = .crest →
      exec (.supplyLost vio3 vio true guards) s = .next { s with
        pwr := { s.pwr with
          suppliesGood := false, vio3 := vio3, vio := vio, guardPin := if vio3 && !s.pwr.vio3 then guards else s.pwr.guardPin
          guardAccepted := if vio3 && !s.pwr.vio3 then guards else s.pwr.guardAccepted }
        pins := { s.pins with gates := 0 } }) ∧
    (s.pwr.vcrest = true → s.pwr.phase ≠ .crest → ∃ t : State, exec (.supplyLost vio3 vio true guards) s = .next t ∧
      t.pwr.phase = .crest ∧ t.pwr.on = 1 ∧ t.pwr.suppliesGood = false ∧ t.pwr.vio3 = vio3 ∧ t.pwr.vio = vio ∧ t.gatesOff ∧
      t.is F.PWR_WAKE_CAUSE_SUPPLY_LOST = true ∧
      (∀ a, 1 ≤ polderOf a → polderOf a ≤ 15 → t.word a = resetWord a) ∧
      (∀ a, polderOf a = 0 → a ≠ R.PWR_WAKE_CAUSE → t.word a = s.word a) ∧
      t.gal.mem = [] ∧ t.vlt.slots = s.vlt.slots ∧ t.vlt.journal = s.vlt.journal ∧ t.pwr.latch = s.pwr.latch ∧
      t.pwr.breach = s.pwr.breach ∧ t.pending = s.pending)) ∧
  (∀ s : State, s.pwr.vcrest = true →
    (∀ held, ∃ t : State, exec (.wakenLow held) s = .next t.settle ∧ t.is F.PWR_WAKE_CAUSE_WAKEN = true ∧
      s.sameBits t [F.PWR_WAKE_CAUSE_WAKEN] ∧
      t = { s with regs := t.regs, pwr := { s.pwr with wakenLow := held, reqWaken := true } }) ∧
    (s.cfIs F.PWR_WAKE_EN_ALARM_EN = true → s.is F.PWR_STATE_DRIP_OK = true →
      ∃ t : State, exec .dripAlarm s = .next t.settle ∧ t.is F.PWR_WAKE_CAUSE_DRIP_ALARM = true ∧
        t.word R.PWR_DRIP_COUNT = s.word R.PWR_DRIP_ALARM ∧
        s.sameBits t [F.PWR_WAKE_CAUSE_DRIP_ALARM, ⟨R.PWR_DRIP_COUNT, 0, 32⟩] ∧
        t = { s with regs := t.regs, pwr := { s.pwr with reqDrip := true } }) ∧
    (s.cfIs F.PWR_WAKE_EN_ALARM_EN = false ∨ s.is F.PWR_STATE_DRIP_OK = false → exec .dripAlarm s = .next s) ∧
    (∀ land level, land < 4 → s.pwr.vio3 = true → s.pwr.guardAccepted.getLsbD land ≠ level →
      ∃ t : State, exec (.guardChangeAccepted land level) s = .next t.settle ∧ t.pwr.guardAccepted.getLsbD land = level ∧
        (∀ k, k ≠ land → t.pwr.guardAccepted.getLsbD k = s.pwr.guardAccepted.getLsbD k) ∧
        t = { s with regs := t.regs, pwr := { s.pwr with
          guardPin := t.pwr.guardPin, guardAccepted := t.pwr.guardAccepted
          reqGuard := s.pwr.reqGuard || s.cfIs F.PWR_WAKE_EN_GUARD_EN } } ∧
        s.sameBits t [F.PWR_WAKE_CAUSE_GUARD] ∧
        t.is F.PWR_WAKE_CAUSE_GUARD = (s.is F.PWR_WAKE_CAUSE_GUARD || s.cfIs F.PWR_WAKE_EN_GUARD_EN)) ∧
    (∀ land level, s.pwr.vio3 = false ∨ s.pwr.guardAccepted.getLsbD land = level →
      exec (.guardChangeAccepted land level) s = .next s) ∧
    (∀ n, natBit (s.cf F.PWR_WAKE_EN_LANE_EN) n = false → exec (.laneWakeLatch n) s = .next s.settle) ∧
    (∀ guards, exec (.vio3BecomesPresent guards) s =
      .next { s with pwr := { s.pwr with vio3 := true, guardPin := guards, guardAccepted := guards } }) ∧
    (∀ vio3 vio guards, s.pwr.suppliesGood = false →
      (s.pwr.phase = .crest → ∃ t : State, exec (.supplyReturn vio3 vio true guards) s = .next t ∧
        t.is F.PWR_WAKE_CAUSE_SUPPLY_RETURN = true ∧ s.sameBits t [F.PWR_WAKE_CAUSE_SUPPLY_RETURN] ∧
        t = { s with regs := t.regs, pwr := { s.pwr with
          suppliesGood := true, vio3 := vio3, vio := vio, startCause := true
          guardPin := if vio3 && !s.pwr.vio3 then guards else s.pwr.guardPin
          guardAccepted := if vio3 && !s.pwr.vio3 then guards else s.pwr.guardAccepted } }) ∧
      (s.pwr.phase ≠ .crest → exec (.supplyReturn vio3 vio true guards) s =
        .next { s with pwr := { s.pwr with
          suppliesGood := true, vio3 := vio3, vio := vio, guardPin := if vio3 && !s.pwr.vio3 then guards else s.pwr.guardPin
          guardAccepted := if vio3 && !s.pwr.vio3 then guards else s.pwr.guardAccepted } }))) ∧
  (∀ (s : State) (n : Nat), s.pwr.vcrest = true → n < 10 → natBit (s.cf F.PWR_WAKE_EN_LANE_EN) n = true →
    (∀ c, c = .laneWakeLatch n ∨ (c = .wakeDuringAwake (.lane n) ∧ s.awake = true) →
      ∃ t : State, exec c s = .next t.settle ∧ t.pwr.reqLane.getLsbD n = true ∧ natBit (t.get F.PWR_WAKE_CAUSE_LANE) n = true ∧
        (∀ a, a / 65536 ≠ 4 → a ≠ R.PWR_WAKE_CAUSE → t.word a = s.word a) ∧
        t = { s with regs := t.regs, cul := t.cul, int := t.int, str := t.str, pwr := { s.pwr with
          reqLane := s.pwr.reqLane ||| (1#10 <<< n), laneRx := t.pwr.laneRx, queue := t.pwr.queue, starting := t.pwr.starting } } ∧
        (s.awake = false → s.sameBits t [F.PWR_WAKE_CAUSE_LANE] ∧
          t = { s with regs := t.regs, pwr := { s.pwr with reqLane := t.pwr.reqLane } }) ∧
        (s.awake = true → s.is (F.CUL_Pn_STATUS_RX_AWAKE n) = false → t.pends 19 = (s.isOn 1 || s.pends 19)) ∧
        (s.awake = true → s.isOn (portPolder n) = false → t.pwr.laneRx.getLsbD n = true ∧ t.cul = s.cul) ∧
        (s.awake = true → s.isOn (portPolder n) = true → s.isStation = true → t.is (F.CUL_Pn_STATUS_RX_AWAKE n) = true) ∧
        (s.awake = true → (rolePolders s.role).contains (portPolder n) = true → s.servicePlan = false →
          s.isOn (portPolder n) = false → s.isOn 4 = true → s.isOn 1 = true → s.pwr.blocked = false →
          s.pwr.starting = [] → s.pwr.queue = [] → t.pwr.starting = [portPolder n])) ∧
    (∀ w, s.awake = true → s.armed w = true → (∀ k, w ≠ .lane k) →
      ∃ t : State, exec (.wakeDuringAwake w) s = .next t.settle ∧
        t = { s with regs := t.regs, pwr := { s.pwr with
          reqWaken := t.pwr.reqWaken, reqDrip := t.pwr.reqDrip, reqGuard := t.pwr.reqGuard } } ∧
        s.sameBits t [F.PWR_WAKE_CAUSE_WAKEN, F.PWR_WAKE_CAUSE_DRIP_ALARM, F.PWR_WAKE_CAUSE_GUARD] ∧
        (w = .waken → t.pwr.reqWaken = true ∧ t.is F.PWR_WAKE_CAUSE_WAKEN = true) ∧
        (w = .drip → t.pwr.reqDrip = true ∧ t.is F.PWR_WAKE_CAUSE_DRIP_ALARM = true) ∧
        (w = .guard → t.pwr.reqGuard = true ∧ t.is F.PWR_WAKE_CAUSE_GUARD = true)) ∧
    (∀ w, s.awake = true → s.armed w = false → exec (.wakeDuringAwake w) s = .next s.settle) ∧
    (∀ w, s.awake = false → exec (.wakeDuringAwake w) s = .next s))

/-- R85, R102, R12: start-up begins in standby with every supply present, a request latched and a role: STARTING, polder 4
first; without one of these nothing starts. R386, R102, R104, R476: the steps of start-up: the configuration load puts the
highest good generation in force, or the reset values where there is none; the role's polders follow once reading, load and
lock are done; the P0 clock starts the lock; READY is entered with source 203, and the ports in use send idles. Rests also on
the model's choices: assumptions 4, 13, 14, 16, 17, 18. -/
def Obligations.StartUpRuns : Prop :=
  (∀ s : State,
    (s.pwr.vcrest = true → s.pwr.suppliesGood = true → s.requested = true → s.pwr.phase = .crest → s.role ≠ .none →
      ∃ t : State, exec .startUp s = .next t ∧ t.pwr.phase = .starting ∧ t.pwr.startCause = false ∧ t.pwr.on = s.pwr.on ∧
        t = { s with pwr := t.pwr } ∧ (s.isOn 4 = false → t.pwr.starting = [4] ∧ t.pwr.queue = [[1, 3], [2, 15]])) ∧
    (s.pwr.vcrest = false ∨ s.pwr.suppliesGood = false ∨ s.requested = false ∨ s.pwr.phase ≠ .crest ∨ s.role = .none →
      exec .startUp s = .next s)) ∧
  (∀ s : State, s.Inv →
    (∀ bad corrected lost, s.isOn 2 = true → s.pwr.configDone = false → s.pwr.phase = .starting ∨ s.pwr.phase = .service →
      ∃ u : State, exec (.configLoadComplete bad corrected lost) s = .next u.settle ∧ u.pwr.configDone = true ∧
        (∀ a, s.isOn (polderOf a) = true → u.effWord a = u.cfgWord a) ∧
        (∀ i x, i < 4 → s.vlt.slots.getD i none = some x → x.valid = true → bad.getLsbD i = false →
          lost.getLsbD i = false → x.gen ≤ u.vlt.gen) ∧
        ((∃ i x, i < 4 ∧ s.vlt.slots.getD i none = some x ∧ x.valid = true ∧ bad.getLsbD i = false ∧
            lost.getLsbD i = false ∧ u.vlt.gen = x.gen ∧ u.cfg = x.cfg) ∨
          ((∀ i x, i < 4 → s.vlt.slots.getD i none = some x → x.valid = true → bad.getLsbD i = true ∨
              lost.getLsbD i = true) ∧ u.vlt.gen = 0 ∧ u.cfg = [])) ∧
        (∀ r, r ∈ u.vlt.journal → r ∈ s.vlt.journal) ∧ u.pwr.on = s.pwr.on) ∧
    (s.pwr.phase = .starting → s.pwr.thermalDone = true → s.pwr.configDone = true → s.is F.CLK_STATUS_LOCKED = true →
      s.pwr.calStarted = false → ∃ t : State, exec .startUpPoldersAndCalibration s = .next t ∧ t = { s with pwr := t.pwr } ∧
        t.pwr.calStarted = true ∧ t.pwr.on = s.pwr.on ∧ t.pwr.phase = .starting ∧
        (s.pwr.on = 0x801F → s.servicePlan = false → s.pwr.blocked = false → s.pwr.starting = [] → s.pwr.queue = [] →
          (s.role = .station → t.pwr.starting = [14] ∧ t.pwr.queue = [[9, 10, 11, 12], [13], [7], [8], [5, 6]]) ∧
          (s.role = .cell ∨ s.role = .port → t.pwr.starting = [14] ∧ t.pwr.queue = [[9, 10, 11, 12], [13], [5]]))) ∧
    (s.clk.waitP0 = true → s.isOn 2 = true → ∃ t : State, exec .p0ClockPresent s = .next t ∧
      t.get F.CLK_STATUS_BUSY = 1 ∧ t.is F.CLK_STATUS_REF_LOST = false ∧ t.clk.waitP0 = false ∧
      t.clk.attempt = (if !s.clk.full && s.bandEligible then .stored else .full) ∧
      t = { s with regs := t.regs, clk := t.clk } ∧
      s.sameBits t [F.CLK_STATUS_BUSY, F.CLK_STATUS_HOLDOVER, F.CLK_STATUS_LOCKED, F.CLK_STATUS_SOURCE, F.CLK_STATUS_REF_LOST]) ∧
    (((rolePolders s.role).all (fun p => p == 5 || p == 6 || s.isOn p)) = true → s.pwr.starting = [] → s.pwr.queue = [] →
      s.is F.CLK_STATUS_LOCKED = true → s.pwr.calDone = true → s.pwr.phase = .starting → s.clk.relock = none →
      ∃ u : State, exec .readyEntered s = .next u.settle ∧ u.pwr.phase = .ready ∧ u.pends 203 = (s.isOn 1 || s.pends 203) ∧
        u.flt.readyOnce = true ∧ (∀ p ∈ s.usedPorts, s.isOn (portPolder p) = true →
          u.is (F.CUL_Pn_STATUS_TX_AWAKE p) = true ∧ u.is (F.CUL_Pn_STATUS_RX_AWAKE p) = true ∧
          (s.is (F.CUL_Pn_STATUS_TX_AWAKE p) = false → (u.cport p).tx = .idle)) ∧
        u.gal = s.gal ∧ u.vlt = { s.vlt with startWrite := none } ∧ u.cfg = s.cfg))

/-- R79, R80, R81, R284: a started polder at power-good is on, its CFG registers taken from the configuration in force; one
that fails its start, or a Culvert polder whose ports have slept, is off; what an off polder held is at its reset value, and
without tide boundaries the loop engine publishes 0. Rests also on the model's choices: assumptions 4, 5, 18, 56. -/
def Obligations.PoldersStartAndStop : Prop :=
  ∀ (s : State) (p : Nat), 1 ≤ p → p ≤ 15 → s.Inv →
    (s.pwr.starting.contains p = true → ∀ clock, ∃ u : State, exec (.polderPowerGood p clock) s = .next u.settle ∧
      u.isOn p = true ∧ (∀ q, q ≠ p → u.isOn q = s.isOn q) ∧ u.pwr.starting.contains p = false ∧
      (∀ a, polderOf a = p → u.effWord a = s.cfgWord a) ∧ u.cfg = s.cfg) ∧
    (s.pwr.starting.contains p = true → exec (.polderStartFailure p) s =
      .next ({ s with pwr := { s.pwr with
        starting := s.pwr.starting.filter (· != p), queue := [], blocked := true } }.fault 0).settle) ∧
    (p = 5 ∨ p = 6 → s.isOn p = true → s.awake = true → s.portsAsleep p = true →
      ∃ u : State, exec (.culvertPolderIdleStop p) s = .next u.settle ∧ u.isOn p = false ∧ (∀ q, q ≠ p → u.isOn q = s.isOn q) ∧
        (∀ a, polderOf a = p → u.word a = resetWord a ∧ u.effWord a = resetWord a) ∧
        (∀ a, polderOf a ≠ p → u.effWord a = s.effWord a ∧ (p = 6 ∨ polderOf a ≠ 11 → u.word a = s.word a)) ∧
        (p = 5 → s.isOn 11 = true → (∀ n, n < 32 → u.word (R.LPE_LOOPn_OUT n) = 0) ∧
          (∀ g, g < 8 → u.word (R.LPE_GRPg_OUT g) = 0 ∧ u.word (R.LPE_GENg_OUT g) = 0)) ∧ u.gal = s.gal ∧ u.cfg = s.cfg)

/-- R83, R472, R337: DRIP_OK and the guard levels taken as the drip clock starts, the fault of a lost drip clock; ALIVE
toggles, resumes high, or stays low. Rests also on the model's choices: assumptions 4, 11, 18, 80. -/
def Obligations.DripAndAlive : Prop :=
  ∀ s : State,
    (∀ guards, s.pwr.vcrest = true → ∃ u : State, exec (.dripOkSet guards) s = .next u.settle ∧
      u.is F.PWR_STATE_DRIP_OK = true ∧ s.sameBits u [F.PWR_STATE_DRIP_OK] ∧
      u = { s with regs := u.regs, dripLost := false, pwr := { s.pwr with
        dripRuns := true, guardPin := u.pwr.guardPin, guardAccepted := u.pwr.guardAccepted } } ∧
      (s.pwr.vio3 = true → s.pwr.dripRuns = false → u.pwr.guardPin = guards ∧ u.pwr.guardAccepted = guards) ∧
      (s.pwr.vio3 = false ∨ s.pwr.dripRuns = true → u.pwr = { s.pwr with dripRuns := true })) ∧
    (s.pwr.vcrest = true → s.isOn 1 = true ∨ s.is F.PWR_STATE_DRIP_OK = false →
      ∃ u : State, exec .dripClockLost s = .next u.settle ∧ u.is F.PWR_STATE_DRIP_OK = false ∧
        u = { s with regs := u.regs, dripLost := true, pwr := { s.pwr with dripRuns := false } } ∧ s.sameBits u [F.PWR_STATE_DRIP_OK]) ∧
    (s.aliveMayRun = true → s.flt.aliveRun = true →
      exec .aliveDividerEdge s = .next { s.spaced .alive with flt := { s.flt with alive := !s.flt.alive } }) ∧
    (s.aliveMayRun = true → s.flt.aliveRun = false →
      exec .aliveDividerEdge s = .next { s.spaced .alive with flt := { s.flt with aliveRun := true, alive := true } }) ∧
    (s.aliveMayRun = false →
      exec .aliveDividerEdge s = .next { s.spaced .alive with flt := { s.flt with aliveRun := false, alive := false } })

/-- R91, R92, R474: what a lock, an abandoned stored-band attempt, a failed search and a retry do. R93, R94, R95, R101:
holdover, its end by re-engagement or its persistence, and a SYNC_IN edge. R96, R97, Tables 3-6 and 3-7: the statuses of
CLOCK_RELOCK, and what its acceptance does: the domains on the safe clock with gated outputs, a lock attempt (where the P0
clock is waited for, with it), and for the service plan the polders of R88 off. R96, R97, R474: how a relock ends: a lock
shows the plan asked for and answers OK, a search without lock answers TIMEOUT. Rests also on the model's choices:
assumptions 4, 14, 18, 19, 57. -/
def Obligations.ClockControl : Prop :=
  (∀ s : State,
    (∀ edge lane, s.clk.attempt = .stored ∨ s.clk.attempt = .full → s.clk.relock = none →
      ∃ u : State, exec (.pllLockDeclared edge lane) s = .next u.settle ∧
        u.get F.CLK_STATUS_LOCKED = 1 ∧ u.get F.CLK_STATUS_BUSY = 0 ∧ u.get F.CLK_STATUS_HOLDOVER = 0 ∧
        u.get F.CLK_STATUS_GATED = 0 ∧ u.get F.CLK_STATUS_ON_SAFE = 0 ∧ u.get F.CLK_STATUS_REF_LOST = 0 ∧ u.get F.CLK_BAND_BAND_EDGE = edge.toNat ∧
        u.get F.CLK_BAND_BAND_LANE = lane.toNat ∧ u.get F.CLK_BAND_VALID = 1 ∧
        u.get F.CLK_BAND_BAND_TEMP = ofSigned 16 s.dieTemp ∧
        u.get F.CLK_LOCK_COUNT_FAST = (if s.clk.attempt = .stored then satInc 16 (s.get F.CLK_LOCK_COUNT_FAST)
          else s.get F.CLK_LOCK_COUNT_FAST) ∧
        u.get F.CLK_LOCK_COUNT_FULL = (if s.clk.attempt = .stored then s.get F.CLK_LOCK_COUNT_FULL
          else satInc 16 (s.get F.CLK_LOCK_COUNT_FULL)) ∧
        u.clk.attempt = .none ∧ u.clk.noLock = false ∧ u.clk.startWait = false ∧
        (s.pwr.phase = .service → s.servicePlan = false → s.clk.restart = false → u.pwr.phase = .starting) ∧
        u = { s with regs := u.regs, clk := u.clk, cul := u.cul, int := u.int, str := u.str, pwr := { s.pwr with
          phase := u.pwr.phase, laneTx := u.pwr.laneTx, laneRx := u.pwr.laneRx } } ∧
        (∀ a, a / 65536 ≠ 4 → a ∉ [R.CLK_STATUS, R.CLK_BAND, R.CLK_LOCK_COUNT] → u.word a = s.word a) ∧
        (s.pwr.laneTx = 0 → s.pwr.laneRx = 0 → s.pwr.reqLane = 0 → u.cul = s.cul ∧ u.int = s.int ∧ u.str = s.str ∧
          s.sameWords u [R.CLK_STATUS, R.CLK_BAND, R.CLK_LOCK_COUNT])) ∧
    (s.clk.attempt = .stored → exec .storedBandAbandoned s = .next { s with clk := { s.clk with attempt := .full } }) ∧
    (s.clk.attempt = .full → s.clk.relock = none → ∃ u : State, exec .pllNoLock s = .next u.settle ∧
      u.get F.CLK_STATUS_BUSY = 0 ∧ u.get F.CLK_STATUS_LOCKED = 0 ∧ u.clk.attempt = .none ∧ u.clk.noLock = true ∧
      (s.pwr.phase = .starting ∨ (s.pwr.phase = .service ∧
          (s.clk.startWait = true ∨ (s.get F.CLK_STATUS_PLAN = 0 ∧ s.pwr.calStarted = false))) →
        u.pwr.phase = .service ∧ u.clk.retry = true ∧ u.clk.startWait = true) ∧
      u = { s with regs := u.regs, clk := u.clk, pwr := { s.pwr with phase := u.pwr.phase } } ∧
      s.sameBits u [F.CLK_STATUS_BUSY, F.CLK_STATUS_LOCKED]) ∧
    (s.clk.retry = true → s.clk.attempt = .none → ∀ clock, ∃ t : State, exec (.lockRetry clock) s = .next t ∧
      ((s.isStation = true ∨ clock = true) → t.clk.attempt = .full ∧ t.get F.CLK_STATUS_BUSY = 1) ∧
      (s.isStation = false → clock = false → t.clk.waitP0 = true ∧ t.clk.full = true ∧ t.get F.CLK_STATUS_SOURCE = 3 ∧
        t.is F.CLK_STATUS_REF_LOST = true) ∧
      t.clk.retry = false ∧ t = { s with regs := t.regs, clk := t.clk } ∧
      s.sameBits t [F.CLK_STATUS_BUSY, F.CLK_STATUS_HOLDOVER, F.CLK_STATUS_LOCKED, F.CLK_STATUS_SOURCE, F.CLK_STATUS_REF_LOST])) ∧
  (∀ s : State,
    (∀ lost, s.isOn 4 = true → s.is F.CLK_STATUS_LOCKED = true → s.clk.attempt = .none →
      ∃ u : State, exec (.pllHoldoverEntry lost) s = .next u.settle ∧ u.get F.CLK_STATUS_HOLDOVER = 1 ∧
        u.get F.CLK_STATUS_LOCKED = 0 ∧ u.is F.CLK_STATUS_REF_LOST = lost ∧
        u.get F.CLK_HOLD_COUNT_COUNT = satInc 16 (s.get F.CLK_HOLD_COUNT_COUNT) ∧
        u = { s with regs := u.regs, int := u.int, str := u.str } ∧
        s.sameBits u [F.CLK_STATUS_HOLDOVER, F.CLK_STATUS_LOCKED, F.CLK_STATUS_REF_LOST, F.CLK_HOLD_COUNT_COUNT,
          F.CUL_ALIGN_STATE]) ∧
    (s.is F.CLK_STATUS_HOLDOVER = true → s.clk.stay = false → s.clk.attempt = .none →
      ∃ t : State, exec .pllReengage s = .next t.settle ∧ t.get F.CLK_STATUS_BUSY = 1 ∧ t.get F.CLK_STATUS_REF_LOST = 0 ∧
        t.get F.CLK_STATUS_SOURCE = s.referenceSource % 4 ∧ t.is F.CLK_STATUS_HOLDOVER = true ∧
        t = { s with regs := t.regs, int := t.int, str := t.str, clk := { s.clk with attempt := .reengage } } ∧
        s.sameBits t [F.CLK_STATUS_BUSY, F.CLK_STATUS_REF_LOST, F.CLK_STATUS_SOURCE, F.CUL_ALIGN_STATE]) ∧
    (∀ edge lane, s.clk.attempt = .reengage → ∃ u : State, exec (.pllLockDeclared edge lane) s = .next u.settle ∧
      u.is F.CLK_STATUS_HOLDOVER = false ∧ u.get F.CLK_STATUS_LOCKED = 1 ∧ u.get F.CLK_STATUS_BUSY = 0 ∧
      u.get F.CLK_BAND_BAND_EDGE = edge.toNat ∧ u.get F.CLK_BAND_BAND_LANE = lane.toNat ∧ u.clk.attempt = .none ∧
      u = { s with regs := u.regs, clk := u.clk } ∧ s.sameWords u [R.CLK_STATUS, R.CLK_BAND]) ∧
    (s.clk.attempt = .reengage → ∃ u : State, exec .reengagementFailed s = .next (u.fault 4).settle ∧
      u.get F.CLK_STATUS_BUSY = 0 ∧
      u = { s with regs := u.regs, int := u.int, str := u.str, clk := { s.clk with attempt := .none, stay := true } } ∧
      s.sameBits u [F.CLK_STATUS_BUSY, F.CUL_ALIGN_STATE]) ∧
    (s.is F.CLK_STATUS_HOLDOVER = true → ∃ u : State, exec .holdoverTooLong s = .next u.settle ∧
      u.get F.CLK_STATUS_HOLD_LONG = 1 ∧ u = { s with regs := u.regs, clk := { s.clk with holdLong := true } } ∧
      s.sameBits u [F.CLK_STATUS_HOLD_LONG]) ∧
    (∀ falling phase, s.isStation = true → s.isOn 4 = true → s.cfIs F.CLK_CONFIG_CLK_SYNC_EN = true →
      s.cfIs F.CLK_CONFIG_CLK_SYNC_EDGE = falling →
      (s.is F.CLK_STATUS_GATED = true ∨ s.clk.everLocked = false →
        exec (.syncInEdge falling phase) s = .next { s with clk := { s.clk with anchored := true } }) ∧
      (s.is F.CLK_STATUS_GATED = false → s.clk.everLocked = true → ∃ t : State, exec (.syncInEdge falling phase) s = .next t ∧
        t.get F.CLK_SYNC_PHASE_PHASE = phase.toNat ∧ t.get F.CLK_STATUS_SYNC_SEEN = 1 ∧
        s.onlyFields t [F.CLK_SYNC_PHASE_PHASE, F.CLK_STATUS_SYNC_SEEN])) ∧
    (∀ falling phase, s.isStation = false → exec (.syncInEdge falling phase) s = .next s)) ∧
  (∀ (s : State) (n : Nat), s.Inv → s.takes n 0x28 = true → (s.mb n).arg 1 3 = 0 →
    (∀ a, (s.mb n).arg 0 1 = a → (a % 4 ≥ 2 ∨ a / 8 ≠ 0 → exec (.clockRelock n) s = .next (s.respond n .badArg [])) ∧
      (a = 1 ∨ a = 5 → s.isStation = false → exec (.clockRelock n) s = .next (s.respond n .notInRole []))) ∧
    (∀ full, (s.mb n).arg 0 1 = b2n full * 4 →
      (s.clk.attempt ≠ .none ∨ s.held &&& resClock ≠ 0 → exec (.clockRelock n) s = .next (s.respond n .busy [])) ∧
      (s.clk.attempt = .none → s.held &&& resClock = 0 → s.anyTxAwake = true ∨ s.pulseBlocked = false →
        exec (.clockRelock n) s = .next (s.respond n .refusedState [])) ∧
      (s.clk.attempt = .none → s.held &&& resClock = 0 → s.anyTxAwake = false → s.pulseBlocked = true → s.clk.waitP0 = true →
        ∃ u : State, exec (.clockRelock n) s = .next u.settle ∧ u.get F.CLK_STATUS_GATED = 1 ∧ u.get F.CLK_STATUS_ON_SAFE = 1 ∧
          u.get F.CLK_STATUS_BUSY = 1 ∧ u.clk.relock = some (n, 0) ∧ u.clk.waitP0 = true ∧ u.clk.full = full ∧ u.get F.CLK_STATUS_SOURCE = 3 ∧
          u.clk.attempt = .none ∧ u.runs n 0x28 = true ∧ s.sameWords u [R.CLK_STATUS]) ∧
      (s.clk.attempt = .none → s.held &&& resClock = 0 → s.anyTxAwake = false → s.pulseBlocked = true → s.clk.waitP0 = false →
        ∃ u : State, exec (.clockRelock n) s = .next u.settle ∧ u.get F.CLK_STATUS_GATED = 1 ∧ u.get F.CLK_STATUS_ON_SAFE = 1 ∧
          u.get F.CLK_STATUS_TIMEBASE_DEGRADED = 1 ∧ u.get F.CLK_STATUS_LOCKED = 0 ∧ u.get F.CLK_STATUS_BUSY = 1 ∧
          u.clk.relock = some (n, 0) ∧ (full = true → u.clk.attempt = .full) ∧ u.runs n 0x28 = true ∧ u.held &&& resClock ≠ 0 ∧
          u = { s with regs := u.regs, clk := u.clk, rve := u.rve } ∧ s.sameWords u [R.CLK_STATUS])) ∧
    ((s.mb n).arg 0 1 = 1 → s.isStation = true → s.servicePlan = false → s.clk.attempt = .none → s.held &&& resClock = 0 →
      s.anyTxAwake = false → s.pulseBlocked = true → s.clk.waitP0 = false →
      ∃ u : State, exec (.clockRelock n) s = .next u.settle ∧
        (∀ p, u.isOn p = (s.isOn p && !serviceOff.contains p)) ∧ u.clk.relock = some (n, 1) ∧ u.get F.CLK_STATUS_BUSY = 1 ∧
        u.gatesOff)) ∧
  (∀ (s : State) (n plan : Nat), s.Inv → n < 4 → s.clk.relock = some (n, plan) →
    (∀ edge lane, s.clk.attempt = .stored ∨ s.clk.attempt = .full → plan = 1 ∨ (plan = 0 ∧ s.pwr.calStarted = false) →
      ∃ u : State, exec (.pllLockDeclared edge lane) s = .next u.settle ∧ u.get F.CLK_STATUS_LOCKED = 1 ∧
        u.get F.CLK_STATUS_PLAN = plan ∧ u.clk.relock = none ∧ (u.mb n).ready = true ∧ (u.mb n).rsp.getD 2 0 = 0 ∧
        (plan = 1 → s.pwr.phase ≠ .stopping → u.pwr.phase = .service) ∧ u.vlt = s.vlt ∧ u.cfg = s.cfg) ∧
    (s.clk.attempt = .full → ∃ u : State, exec .pllNoLock s = .next u.settle ∧ u.get F.CLK_STATUS_LOCKED = 0 ∧
      u.clk.relock = none ∧ u.clk.noLock = true ∧ (u.mb n).ready = true ∧
      (u.mb n).rsp.getD 2 0 = BitVec.ofNat 8 Status.timeout.code ∧ s.sameBits u [F.CLK_STATUS_BUSY, F.CLK_STATUS_LOCKED]))

/-! ## Thermal, host accesses, mailboxes and the Vault (chapters 4 and 13) -/

/-- R374, R375, R131: a demanded reading makes BUSY read 1; a reading below the shutdown temperature is clamped, held in
THM_DIE and raises source 196; with no commit in progress the Vault is as before. R103, R380, Table 13-2: a start-up reading
below the shutdown temperature lets start-up go on; one at or above it returns the device to standby with THERMAL recorded;
in a running device it starts the stop sequence with the gates off. Both keep the reading as the pending shutdown. Rests also
on the model's choices: assumptions 4, 5. -/
def Obligations.ReadingsAndThermalShutdown : Prop :=
  (∀ s : State, s.Inv → s.pwr.vcrest = true →
    (s.pwr.phase = .ready → s.cf F.THM_CONFIG_THM_DEMAND_PERIOD ≠ 0 → ∃ t : State, exec .thermalDemandTimer s = .next t ∧
      t.get F.THM_DIE_BUSY = 1 ∧ s.onlyFields t [F.THM_DIE_BUSY]) ∧
    (∀ n, s.takes n 0x21 = true → ∃ t : State, exec (.thermalMeasure n) s = .next t ∧ t.get F.THM_DIE_BUSY = 1 ∧
      t.runs n 0x21 = true ∧ (∀ m, m ≠ n → t.mb m = s.mb m) ∧
      t = { s with regs := t.regs, rve := { s.rve with mb := t.rve.mb } } ∧ s.sameBits t [F.THM_DIE_BUSY]) ∧
    (∀ r : BitVec 16, s.is F.THM_DIE_BUSY = true → s.pwr.thermalDone = true → toSigned 16 r.toNat < thermalShutdown →
      s.vlt.op = none → ∃ u : State, exec (.onDieReading r) s = .next u.settle ∧
        u.dieTemp = clampInt (-960) 2800 (toSigned 16 r.toNat) ∧ u.is F.THM_DIE_VALID = true ∧ u.is F.THM_DIE_BUSY = false ∧
        u.pends 196 = (s.isOn 1 || s.pends 196) ∧
        s.sameBits u [F.THM_DIE_TEMP, F.THM_DIE_VALID, F.THM_DIE_BUSY, F.ADC_CAL_STATUS_DRIFT] ∧
        u = { s with regs := u.regs, int := u.int, str := u.str, thm := u.thm, rve := u.rve })) ∧
  (∀ (s : State) (r : BitVec 16), s.Inv →
    (s.isOn 2 = true → s.pwr.thermalDone = false → s.pwr.phase = .starting →
      (thermalShutdown ≤ toSigned 16 r.toNat → ∃ t : State, exec (.startUpThermalReading r) s = .next t ∧
        t.pwr.phase = .crest ∧ t.pwr.on = 1 ∧ t.is F.PWR_WAKE_CAUSE_THERMAL = true ∧ t.requested = false ∧
        t.pwr.pendingShutdown = some (BitVec.ofInt 16 (clampInt (-960) 2800 (toSigned 16 r.toNat))) ∧ t.gatesOff) ∧
      (toSigned 16 r.toNat < thermalShutdown → ∃ u : State, exec (.startUpThermalReading r) s = .next u.settle ∧
        u.pwr.thermalDone = true ∧ u.dieTemp = clampInt (-960) 2800 (toSigned 16 r.toNat) ∧ u.pwr.on = s.pwr.on)) ∧
    (s.pwr.vcrest = true → s.is F.THM_DIE_BUSY = true → s.pwr.thermalDone = true → s.pwr.phase = .ready →
      thermalShutdown ≤ toSigned 16 r.toNat → ∃ u : State, exec (.onDieReading r) s = .next u.settle ∧
        u.pwr.phase = .stopping ∧ u.gatesOff ∧
        u.pwr.pendingShutdown = some (BitVec.ofInt 16 (clampInt (-960) 2800 (toSigned 16 r.toNat)))))

/-- R65, R66, R112, R114: a read of the lowest half of a one-word register captures the word and drives its low half; the
read of the upper half that follows drives the captured word's upper half and has no side effect. Without polder 1, or the
supply of VIO1 (R53), HD carries nothing. A bus cycle counts as passing time for open races (`State.spaced`, assumption 80).
R67, R113, R53: on the bus the low half of a one-word register is staged; the high half commits the word of both. Without
polder 1, or the supply of VIO1, a write cycle does nothing. R117, R118, R62, R53: a header selects the address, direction
and increment and returns HST_SPI_STATUS; a malformed one sets BAD_HEADER; a write data frame commits at the current address,
which moves on; in a read the frame returns the captured word. Where SPI_CSn rises after a frame the transaction is over and
SPI_SDO high-impedance; without the supply of VIO2 no frame does anything. Rests also on the model's choices: assumptions 1,
4, 72, 80. -/
def Obligations.HostPortAccesses : Prop :=
  (∀ (s : State) (addr : BitVec 24) (visited : List (BitVec 24)) (straps : Straps),
    (s.isOn 1 = true → s.bank 1 = true → addr.toNat % 4 = 0 → itemAt addr.toNat = (addr.toNat, 1) →
      ∃ u : State, exec (.parallelReadCycle addr visited false straps) s = .next u.settle ∧
        u.hdRead = some (((s.spaced .bus).hostWord straps addr.toNat).1.extractLsb' 0 16) ∧
        u.bus = { snap := some (addr.toNat, [((s.spaced .bus).hostWord straps addr.toNat).1], 1) } ∧
        u.pwr = s.pwr ∧ u.cfg = s.cfg ∧ u.eff = s.eff ∧ u.gal = s.gal ∧ u.spiPort = s.spiPort ∧ u.rve = s.rve) ∧
    (∀ w : Word, s.isOn 1 = true → s.bank 1 = true → addr.toNat % 4 = 2 → itemAt (addr.toNat - 2) = (addr.toNat - 2, 1) →
      s.bus.snap = some (addr.toNat - 2, [w], 1) →
      exec (.parallelReadCycle addr visited false straps) s =
        .next { s.spaced .bus with
          hdRead := some (w.extractLsb' 16 16), bus := { snap := some (addr.toNat - 2, [w], 2) } }.settle) ∧
    (s.isOn 1 = false ∨ s.bank 1 = false →
      exec (.parallelReadCycle addr visited false straps) s = .next { s with hdRead := none })) ∧
  (∀ (s : State) (addr : BitVec 24) (d d0 : BitVec 16),
    (s.isOn 1 = true → s.bank 1 = true → addr.toNat % 4 = 0 → itemAt addr.toNat = (addr.toNat, 1) → s.bus.wbuf = none →
      exec (.parallelWriteCycle addr d false) s =
        .next ({ s.spaced .bus with hdRead := none, bus := { wbuf := some (addr.toNat, [(0, d.toNat)]) } }.marked .bus).settle) ∧
    (s.isOn 1 = true → s.bank 1 = true → addr.toNat % 4 = 2 → itemAt (addr.toNat - 2) = (addr.toNat - 2, 1) →
      s.bus.wbuf = some (addr.toNat - 2, [(0, d0.toNat)]) →
      exec (.parallelWriteCycle addr d false) s =
        .next (({ s.spaced .bus with hdRead := none, bus := {} }.hostCommit .bus (addr.toNat - 2) (d ++ d0 : BitVec 32)).marked
          .bus).settle) ∧
    (s.isOn 1 = false ∨ s.bank 1 = false → exec (.parallelWriteCycle addr d false) s = .next { s with hdRead := none })) ∧
  ((∀ (s : State) (x : Word) (straps : Straps) (ends : Bool), s.bank 2 = false →
    exec (.spiHeaderFrame x straps ends) s = .next s ∧ exec (.spiDataFrame x straps ends) s = .next s) ∧
  (∀ (s : State) (x : Word) (straps : Straps), s.isOn 1 = true → s.bank 2 = true →
    (∃ t : State, exec (.spiHeaderFrame x straps true) s = .next t ∧ t.spi = { sdo := some (s.word R.HST_SPI_STATUS), finished := true } ∧
      t.sdoLand = none ∧ t = { s with
        regs := t.regs, int := t.int, adc := t.adc, free := t.free, spi := t.spi, spiPort := t.spiPort } ∧
      (∀ a, a ≠ R.HST_SPI_STATUS → t.word a = s.word a)) ∧
    (s.spi.phase = .ignored ∨ s.spi.phase = .turnaround → ∃ t : State, exec (.spiDataFrame x straps true) s = .next t ∧
      t.spi = { sdo := t.spi.sdo, finished := true } ∧ t.sdoLand = none ∧ t.regs = s.regs) ∧
    (∀ c cs, s.spi.phase = .reading → s.spi.captured = c :: cs →
      ∃ u : State, exec (.spiDataFrame x straps true) s = .next u.settle ∧ u.spi = { sdo := some c.2.2.1, finished := true } ∧
        u.sdoLand = none) ∧
    (bitsOf x 24 6 = 0 → bitsOf x 0 24 % 4 = 0 → x.getLsbD 31 = false →
      exec (.spiHeaderFrame x straps false) s = .next { s with spi :=
        { phase := .writing, header := x, addr := bitsOf x 0 24, inc := x.getLsbD 30, sdo := some (s.word R.HST_SPI_STATUS) } }) ∧
    (bitsOf x 24 6 = 0 → bitsOf x 0 24 % 4 = 0 → x.getLsbD 31 = true → itemAt (bitsOf x 0 24) = (bitsOf x 0 24, 1) →
      ∃ t : State, exec (.spiHeaderFrame x straps false) s = .next t ∧ t.spi.phase = .turnaround ∧ t.spi.header = x ∧
        t.spi.sdo = some (s.word R.HST_SPI_STATUS) ∧ t.spi.inc = x.getLsbD 30 ∧
        t.spi.addr = (if x.getLsbD 30 then (bitsOf x 0 24 + 4) % 2 ^ 24 else bitsOf x 0 24) ∧ t.spi.captured.length = 1 ∧
        t.regs = s.regs ∧ t.cfg = s.cfg ∧ t.eff = s.eff ∧ t.gal = s.gal) ∧
    (bitsOf x 24 6 ≠ 0 ∨ bitsOf x 0 24 % 4 ≠ 0 → ∃ t : State, exec (.spiHeaderFrame x straps false) s = .next t ∧ t.spi.phase = .ignored ∧
      t.spi.sdo = some (s.word R.HST_SPI_STATUS) ∧ t.is F.HST_SPI_STATUS_BAD_HEADER = true ∧
      t = { s with regs := t.regs, spi := t.spi } ∧ s.sameBits t [F.HST_SPI_STATUS_BAD_HEADER]) ∧
    (s.spi.phase = .idle → exec (.spiDataFrame x straps false) s = .next s) ∧
    (s.spi.phase = .ignored → ∃ t : State, exec (.spiDataFrame x straps false) s = .next t ∧
      t = { s with free := t.free, spi := { s.spi with sdo := t.spi.sdo } }) ∧
    (s.spi.phase = .turnaround → ∃ t : State, exec (.spiDataFrame x straps false) s = .next t ∧ t.spi.phase = .reading ∧
      t.spi.sdo = some s.spi.header ∧ t.spi.captured.length = s.spi.captured.length + 1 ∧ t.regs = s.regs ∧ t.cfg = s.cfg ∧
      t.gal = s.gal) ∧
    (s.spi.phase = .writing → itemAt s.spi.addr = (s.spi.addr, 1) → s.spi.addr % 4 = 0 →
      exec (.spiDataFrame x straps false) s = .next (({ s.spaced .spi with spiPort := {}, spi := { s.spi with
        sdo := some 0, addr := if s.spi.inc then (s.spi.addr + 4) % 2 ^ 24 else s.spi.addr } }.hostCommit .spi s.spi.addr x).marked
          .spi).settle) ∧
    (∀ c cs, s.spi.phase = .reading → s.spi.captured = c :: cs →
      ∃ u : State, exec (.spiDataFrame x straps false) s = .next u.settle ∧ u.spi.sdo = some c.2.2.1 ∧ u.spi.phase = .reading ∧
        u.spi.captured.length = cs.length + 1)))

/-- R8, R9, R113: a committed write of a register without an action of its own sets its RW bits to the value and clears its
W1C bits written as 1; RO, RC, WO and CFG bits and reserved bits stay. A register of an absent role or of a polder that is
off and an unassigned offset ignore it. An access of a port counts as passing time for open races (`State.spaced`,
`State.marked`). Rests also on the model's choices: assumption 80. -/
def Obligations.RegisterWrites : Prop :=
  ∀ (s : State) (port : Port) (addr : BitVec 24) (value : BitVec 64), s.isOn 1 = true → addr.toNat % 4 = 0 →
    (∀ r, findReg addr.toNat = some r → r.words = 1 → s.hostHas r = true →
      addr.toNat ∉ [R.ADC_START, R.DPC_CTRL, R.MOD_CTRL, R.MOD_TRIP_CLEAR, R.LPE_FE_CLEAR, R.STR_MARK, R.WRD_CTRL, R.NET_RX_POP,
        R.TIM_CTRL, R.TIM_SECOND, R.TIM_STEP, R.TIM_OFFSET, R.GSE_PUB_FORCE, R.GAL_TRIG, R.GAL_FREE, R.CLK_STATUS] →
      addr.toNat < 0xD1000 ∨ 0xD3000 ≤ addr.toNat →
      (∀ n, n < 4 → addr.toNat ≠ 0x20080 + 256 * n ∧
        (n ≠ port.mailbox → addr.toNat < R.RVE_Mn_REQk n 0 ∨ R.RVE_Mn_REQk n 16 ≤ addr.toNat)) →
      addr.toNat < R.INT_PENDk 0 ∨ R.INT_FBt 4 ≤ addr.toNat →
      (∀ g, g < 16 → addr.toNat < R.GSE_PUBg_HVm g 0 ∨ R.GSE_PUBg_HVm g 16 ≤ addr.toNat) →
      (addr.toNat / 65536 = 7 → s.mod.frozen = false) →
      (addr.toNat / 65536 = 6 ∨ addr.toNat / 65536 = 8 → s.twn.operating = false) →
      ∃ u : State, exec (.registerWrite port addr value) s = .next (u.marked port.kind).settle ∧
        u = { s.spaced port.kind with regs := u.regs, bus := u.bus, spiPort := u.spiPort } ∧ u.portSt port = {} ∧
        s.sameWords u [addr.toNat] ∧
        ∀ i, i < 32 → (u.word addr.toNat).getLsbD i =
          if (r.accMask .rw).getLsbD i then value.getLsbD i
          else (s.word addr.toNat).getLsbD i && !((r.accMask .w1c).getLsbD i && value.getLsbD i)) ∧
    (s.role ≠ .none → ∀ p, s.isOn p = true →
      (addr.toNat, p) ∈ [(0x000020, 1), (R.PWR_DRIP_ALARM, 0), (R.RVE_HOST_SECONDS, 2)] →
      ∃ u : State, exec (.registerWrite port addr value) s = .next (u.marked port.kind).settle ∧
        u.word addr.toNat = value.extractLsb' 0 32 ∧ s.sameWords u [addr.toNat] ∧
        u = { s.spaced port.kind with regs := u.regs, bus := u.bus, spiPort := u.spiPort } ∧ u.portSt port = {}) ∧
    (s.role ≠ .none → ∀ p, s.isOn p = true → (addr.toNat, p) ∈ [(R.PWR_WAKE_CAUSE, 0), (R.ADC_WIN_EVENT, 12)] →
      ∃ u : State, exec (.registerWrite port addr value) s = .next (u.marked port.kind).settle ∧
        (∀ i, i < 32 → (u.word addr.toNat).getLsbD i = true → (s.word addr.toNat).getLsbD i = true) ∧
        (addr.toNat = R.ADC_WIN_EVENT → u.word addr.toNat = s.word addr.toNat &&& ~~~(value.extractLsb' 0 32)) ∧
        (addr.toNat = R.PWR_WAKE_CAUSE → u.word addr.toNat = s.word addr.toNat &&& ~~~(value.extractLsb' 0 32 &&& 0x003FF0FB#32)) ∧
        s.sameWords u [addr.toNat]) ∧
    (∀ r, findReg addr.toNat = some r → r.words = 1 → addr.toNat < 0xD0000 → s.hostHas r = false →
      exec (.registerWrite port addr value) s = .next (((s.spaced port.kind).setPort port {}).marked port.kind).settle) ∧
    (findReg addr.toNat = none → addr.toNat < 0xD1000 ∨ 0xD3000 ≤ addr.toNat →
      exec (.registerWrite port addr value) s = .next (((s.spaced port.kind).setPort port {}).marked port.kind).settle)

/-- R68: while all three lands are low, HD carries nothing and neither the read nor the write has any effect. R119: a frame
cut short is discarded without effect, a read data frame's side effects included, sets SHORT_FRAME and ends its transaction. -/
def Obligations.ContendedCyclesAndShortFrames : Prop :=
  (∀ (s : State) (addr : BitVec 24) (visited : List (BitVec 24)) (straps : Straps) (d : BitVec 16),
    exec (.parallelReadCycle addr visited true straps) s = .next { s with hdRead := none } ∧
    exec (.parallelWriteCycle addr d true) s = .next { s with hdRead := none }) ∧
  (∀ s : State,
    (s.isOn 1 = true → s.bank 2 = true → ∃ t : State, exec .spiShortFrame s = .next t ∧ t.is F.HST_SPI_STATUS_SHORT_FRAME = true ∧
      t.spi = {} ∧ t = { s with regs := t.regs, spi := t.spi } ∧ s.sameBits t [F.HST_SPI_STATUS_SHORT_FRAME]) ∧
    (s.isOn 1 = false ∨ s.bank 2 = false → exec .spiShortFrame s = .next s))

/-- R124, R125: a doorbell of the port's own mailbox is accepted in IDLE and DONE with a copy of the request buffer; in
QUEUED and EXECUTING it is ignored and sets LOST; another mailbox's, or a write of 0, does nothing; a write of any register
then leaves the accepted copy. R126, R128, R130, R107: the Reeve takes the first queued mailbox after the last one; a
malformed request, one that the role lacks, or any while the device stops is answered at once, everything else goes on. Rests
also on the model's choices: assumptions 49, 80. -/
def Obligations.DoorbellsAndExecution : Prop :=
  (∀ (s : State) (port : Port) (value : Word), s.Inv → s.isOn 1 = true → s.isOn 2 = true →
    (value.getLsbD 0 = true → (s.mbState port.mailbox = mbIdle ∨ s.mbState port.mailbox = mbDone) →
      ∃ t : State, exec (.doorbell port port.mailbox value) s = .next (t.marked port.kind) ∧ t.mbState port.mailbox = mbQueued ∧
        (t.mb port.mailbox).req = s.requestBytes port.mailbox ∧ (t.mb port.mailbox).ready = false ∧
        t.get (F.RVE_Mn_STATE_CODE port.mailbox) = (t.mb port.mailbox).code ∧
        t.get (F.RVE_Mn_STATE_TAG port.mailbox) = (t.mb port.mailbox).tag ∧
        (∀ m, m ≠ port.mailbox → t.mb m = s.mb m) ∧ s.sameWords t [R.RVE_Mn_STATE port.mailbox] ∧
        t = { s.spaced port.kind with regs := t.regs, rve := t.rve, bus := t.bus, spiPort := t.spiPort } ∧ t.portSt port = {}) ∧
    (value.getLsbD 0 = true → (s.mbState port.mailbox = mbQueued ∨ s.mbState port.mailbox = mbExecuting) →
      ∃ t : State, exec (.doorbell port port.mailbox value) s = .next (t.marked port.kind) ∧
        t.is (F.RVE_Mn_STATE_LOST port.mailbox) = true ∧ t.rve = s.rve ∧ s.sameBits t [F.RVE_Mn_STATE_LOST port.mailbox] ∧
        t = { s.spaced port.kind with regs := t.regs, bus := t.bus, spiPort := t.spiPort }) ∧
    (∀ n, n < 4 → n ≠ port.mailbox ∨ value.getLsbD 0 = false →
      exec (.doorbell port n value) s = .next (((s.setPort port {}).spaced port.kind).marked port.kind)) ∧
    (∀ (q : Port) (a : BitVec 24) (v : BitVec 64), s.mbState port.mailbox = mbQueued ∨ s.mbState port.mailbox = mbExecuting →
      ∃ t : State, exec (.registerWrite q a v) s = .next t ∧ (t.mb port.mailbox).req = (s.mb port.mailbox).req)) ∧
  (∀ (s : State) (k : Nat), s.Inv → s.isOn 2 = true → k < 4 → s.mbState ((s.rve.last + 1 + k) % 4) = mbQueued →
    (∀ j, j < k → s.mbState ((s.rve.last + 1 + j) % 4) ≠ mbQueued) →
    let n := (s.rve.last + 1 + k) % 4
    ∃ t : State, exec .reeveTakeCommand s = .next t ∧ t.mbState n = mbExecuting ∧ t.rve.last = n ∧
      t = { s with regs := t.regs, rve := { s.rve with mb := t.rve.mb, last := n }, twn := t.twn } ∧
      s.sameBits t [F.RVE_Mn_STATE_STATE n] ∧ (∀ m, m ≠ n → t.mb m = s.mb m) ∧
      (∀ st, s.earlyAnswer n = some st → (t.mb n).ready = true ∧ (t.mb n).rsp =
        [BitVec.ofNat 8 (s.mb n).code, BitVec.ofNat 8 (s.mb n).tag, BitVec.ofNat 8 st.code] ++ List.replicate 61 0) ∧
      (s.earlyAnswer n = none → s.twn.operating = false → t.mb n = s.mb n ∧ t.twn = s.twn) ∧
      (s.pwr.phase = .stopping → s.earlyAnswer n = some .busy) ∧
      (s.pwr.phase ≠ .stopping → s.unnamed n (s.mb n).code = false →
        (malformed (s.mb n).req = true → s.earlyAnswer n = some .badArg) ∧
        (malformed (s.mb n).req = false → stationOnly (s.mb n).code = true → s.isStation = false →
          s.earlyAnswer n = some .notInRole)))

/-- R129: a complete response stands in the response buffer, the state is DONE and source 192 + n is raised. R129: the bytes
of a response: code, tag, status, length, data and zeros; a status other than OK has no data. The mailbox's resources are
free; nothing else is touched. Rests also on the model's choices: assumption 38. -/
def Obligations.Responses : Prop :=
  (∀ (s : State) (n : Nat), s.Inv → n < 4 → s.isOn 2 = true → (s.mb n).ready = true → s.mbState n = mbExecuting →
    (s.mb n).copied = false → ∃ u : State, exec (.responseComplete n) s = .next u.settle ∧
      u.mbState n = mbDone ∧ (u.mb n).ready = false ∧ u.pends (192 + n) = (s.isOn 1 || s.pends (192 + n)) ∧
      (∀ k, k < 16 → u.word (R.RVE_Mn_RSPk n k) = BitVec.ofNat 32 (leAt (s.mb n).rsp (4 * k) 4)) ∧
      (n < 2 → s.sameWords u (R.RVE_Mn_STATE n :: (List.range 16).map (R.RVE_Mn_RSPk n)) ∧
        u = { s with regs := u.regs, rve := { s.rve with mb := u.rve.mb }, int := u.int, str := u.str }) ∧
      (n = 3 → s.cul.msg.silent = false → u.cul.msg.out = (s.mb n).rsp ∧ u.cul.msg.phase = .sending 0) ∧
      (n = 3 → s.cul.msg.silent = true → u.cul.msg = s.cul.msg)) ∧
  (∀ (s : State) (n : Nat) (st : Status) (data : List Byte), s.Inv → n < 11 → data.length ≤ 56 →
    let d := if st = .ok then data else []
    ((s.respond n st data).mb n).rsp = [BitVec.ofNat 8 (s.mb n).code, BitVec.ofNat 8 (s.mb n).tag, BitVec.ofNat 8 st.code,
      BitVec.ofNat 8 d.length] ++ d ++ List.replicate (60 - d.length) 0 ∧
    ((s.respond n st data).mb n).rsp.length = 64 ∧
    ((s.respond n st data).mb n).ready = true ∧ ((s.respond n st data).mb n).running = false ∧
    ((s.respond n st data).mb n).held = 0 ∧ (∀ m, m ≠ n → (s.respond n st data).mb m = s.mb m) ∧
    s.respond n st data = { s with rve := { s.rve with mb := (s.respond n st data).rve.mb } })

/-- R130, R470: what the immediate commands answer: IDENTIFY and STATUS the words of their tables, CONFIG_READ the word in
force (flags 0), JOURNAL_READ the records asked for and the next. They change nothing but their mailbox and, with corrected
errors, the ECC count. Rests also on the model's choices: assumptions 49, 64. -/
def Obligations.ImmediateAnswers : Prop :=
  ∀ (s : State) (n : Nat) (straps : Straps), s.Inv →
    (s.takes n 0x01 = true → ∃ t : State, exec (.identify n straps) s = .next t ∧
      t = s.respond n .ok (leBytes 4 (s.word R.HST_PART).toNat ++ leBytes 4 (Config.revision &&& 0xFFFF00FF#32).toNat
        ++ leBytes 4 (s.roleWord straps).toNat ++ leBytes 4 (s.cfgWord R.HST_PLACE).toNat
        ++ leBytes 4 (s.cfgWord R.HST_DEVICE_ID).toNat)) ∧
    (s.takes n 0x02 = true → ∃ t : State, exec (.status n) s = .next t ∧
      t = s.respond n .ok (leBytes 4 s.pwrWord.toNat ++ leBytes 4 s.pwr.on.toNat ++ leBytes 4 (s.word R.CLK_STATUS).toNat
        ++ leBytes 4 s.fltSummary.toNat ++ leBytes 4 (s.word R.CUL_TIDE).toNat ++ leBytes 4 s.nowNs)) ∧
    (∀ a, s.takes n 0x11 = true → (s.mb n).flags = 0 → (s.mb n).arg 0 4 = a →
      (s.foreignBlock a = false → a % 4 = 0 → isCfgReg s.role a = true → exec (.configRead n) s = .next (s.respond n .ok
        (leBytes 4 (s.cfgWord a).toNat ++ leBytes 4 (b2n (s.rve.staged.any (fun k => k.addr == a)))))) ∧
      (s.foreignBlock a = false → a % 4 ≠ 0 ∨ isCfgReg s.role a = false →
        exec (.configRead n) s = .next (s.respond n .badArg [])) ∧
      (s.foreignBlock a = true → exec (.configRead n) s = .next (s.respond n .notInRole []))) ∧
    (∀ corrected, s.takes n 0x13 = true →
      (s.held &&& resVault ≠ 0 → exec (.journalRead n corrected) s = .next (s.respond n .busy [])) ∧
      (s.held &&& resVault = 0 → (s.mb n).arg 0 4 < s.vlt.first →
        exec (.journalRead n corrected) s = .next (s.respond n .badArg [])) ∧
      (s.held &&& resVault = 0 → s.vlt.first ≤ (s.mb n).arg 0 4 → exec (.journalRead n corrected) s = .next
        ((s.put F.VLT_COUNTS_ECC_CORR (min (s.get F.VLT_COUNTS_ECC_CORR + corrected) 65535)).respond n .ok
        ((s.vlt.journal.filter (fun r => r.seq == (s.mb n).arg 0 4 || r.seq == (s.mb n).arg 0 4 + 1)).flatMap JRecord.bytes))))

/-- R121, R122, R123, R456: CONFIG_WRITE with the Vault free stages the keys of all its entries over the staged set (with
DISCARD over none) and answers OK, or, where an entry or a rule refuses, answers that status and leaves the set as it is; it
touches no configuration. VAULT_COMMIT, in a cell with the live wear counters staged first, ends at once without a change;
with one it demands a reading and holds the Vault, or answers VAULT_FULL where a sector it needs is bad, the journal has no
room outside the reserve, or its sequence numbers end (R387, R388). Rests also on the model's choices: assumptions 4, 39, 49,
70, 71, 103. -/
def Obligations.StagingAndCommits : Prop :=
  ∀ (s : State) (n : Nat), s.Inv →
    (s.takes n 0x10 = true → ∃ t : State, exec (.configWrite n) s = .next t ∧ t = { s with rve := t.rve } ∧
      (t.mb n).ready = true ∧ (∀ m, m ≠ n → t.mb m = s.mb m) ∧
      (((t.mb n).rsp.getD 2 0 = 0 ∧ t.rve.staged.length ≤ 128) ∨ ((t.mb n).rsp.getD 2 0 ≠ 0 ∧ t.rve.staged = s.rve.staged)) ∧
      (s.held &&& resVault ≠ 0 → (t.mb n).rsp.getD 2 0 = 1#8) ∧
      (∀ e, s.held &&& resVault = 0 → (s.mb n).len = 12 → s.entryKeys ((s.mb n).entry 0) = .error e →
        (t.mb n).rsp.getD 2 0 = BitVec.ofNat 8 e.code)) ∧
    (s.takes n 0x10 = true →
      (s.held &&& resVault ≠ 0 → exec (.configWrite n) s = .next (s.respond n .busy [])) ∧
      (∀ e, s.held &&& resVault = 0 → s.requestKeys ((List.range ((s.mb n).len / 12)).map (s.mb n).entry) = .error e →
        exec (.configWrite n) s = .next (s.respond n e [])) ∧
      (∀ keys, s.held &&& resVault = 0 → s.requestKeys ((List.range ((s.mb n).len / 12)).map (s.mb n).entry) = .ok keys →
        (∀ e, s.stageRequest n (natBit (s.mb n).flags 0) keys = .error e →
          exec (.configWrite n) s = .next (s.respond n e [])) ∧
        (∀ l, s.stageRequest n (natBit (s.mb n).flags 0) keys = .ok l → ∃ t : State, exec (.configWrite n) s = .next t ∧
          t.rve.staged = l ∧ l.length ≤ 128 ∧ (t.mb n).ready = true ∧ (∀ m, m ≠ n → t.mb m = s.mb m) ∧
          (t.mb n).rsp = [BitVec.ofNat 8 (s.mb n).code, BitVec.ofNat 8 (s.mb n).tag, 0, 0] ++ List.replicate 60 0 ∧
          t = { s with rve := { s.rve with staged := l, mb := t.rve.mb } }))) ∧
    (s.takes n 0x12 = true → ∀ v : State, v = (if s.isCell then s.stageWear n else s) →
      (s.held &&& resVault ≠ 0 → exec (.vaultCommit n) s = .next (s.respond n .busy [])) ∧
      (s.held &&& resVault = 0 → s.changes v.rve.staged = [] →
        exec (.vaultCommit n) s = .next ({ s with rve := { s.rve with staged := [] } }.respond n .ok (List.replicate 8 0))) ∧
      (s.held &&& resVault = 0 → s.changes v.rve.staged ≠ [] →
        let need := s.ownRecords.length + (s.changes v.rve.staged).length
        let reserve := if (s.changes v.rve.staged).all (fun k => k.addr == R.VLT_KEEP) then 0 else 256
        let full := s.vlt.isBad s.vlt.target = true ∨ s.vlt.journalBad need = true ∨ 2 ^ 32 < s.vlt.next + need ∨
          (v.makeRoom (need + reserve)).vlt.free < need + reserve
        (full → exec (.vaultCommit n) s = .next ((v.respond n .vaultFull []).settle)) ∧
        (¬full → s.pwr.vcrest = true → ∃ u : State, exec (.vaultCommit n) s = .next u.settle ∧ u.is F.THM_DIE_BUSY = true ∧
          u.held &&& resVault ≠ 0 ∧ (u.mb n).running = true ∧ u.cfg = s.cfg ∧ u.eff = s.eff ∧
          u.vlt = { s.vlt with op := u.vlt.op, startWrite := none } ∧
          (∃ o, u.vlt.op = some o ∧ o.keys = s.changes v.rve.staged ∧ o.stage = .erase ∧ o.busy = false ∧ o.begun = false ∧
            o.for_ = .host n ∧ o.seconds = (s.originOf n).2.2) ∧
          (∀ k ∈ v.rve.staged, k ∈ s.rve.staged ∨ ∃ i, i < 9 ∧ k.addr = (F.SPR_WEAR_SAVEi_VALUE i).addr) ∧
          s.sameBits u [F.THM_DIE_BUSY])))

/-- R383, R384, R387: the erase, the pages, the journal records and the commit record follow one another, each waiting for
its reading; the commit record puts the next generation in force in its slot. A failing sector takes a spare. R132:
VAULT_EXPORT at offset 0 opens an export with a new image; each answers the image's length and 52 bytes of it; the last
chunk, or a second without a request, ends it. A wrong offset, a held Vault and an offset past the image have their statuses.
Rests also on the model's choices: assumptions 4, 49, 61, 63, 64, 103. -/
def Obligations.VaultOperationsAndExports : Prop :=
  (∀ (s : State) (o : VaultOp), s.vlt.op = some o → o.busy = true →
    (o.stage = .erase → ∃ t : State, exec .vaultEraseComplete s = .next t ∧ t = { s with vlt := t.vlt } ∧
      t.vlt.op = some { o with busy := false, stage := .page s.pages } ∧ t.vlt.slots = s.vlt.slots ∧ t.vlt.gen = s.vlt.gen ∧
      t.vlt.journal = s.vlt.journal) ∧
    (∀ k, o.stage = .page k → exec .vaultProgramComplete s = .next { s with vlt := { s.vlt with
      op := some { o with busy := false, stage := if k ≤ 1 then .journal else .page (k - 1) }
      slots := if k ≤ 1 then s.vlt.slots.set s.vlt.target
        (some (SlotSt.header s.role (s.vlt.gen + 1) (o.keys.foldl putKey s.cfg))) else s.vlt.slots } }) ∧
    (o.stage = .journal → exec .vaultProgramComplete s = .next { s with vlt := { s.vlt with
      op := some { o with busy := false, stage := .record } } }) ∧
    (o.stage = .record → s.twn.operating = false → s.vlt.slots.length = 4 → s.vlt.slot < 4 →
      ∃ u : State, exec .vaultProgramComplete s = .next u.settle ∧ u.vlt.gen = s.vlt.gen + 1 ∧ u.vlt.op = none ∧
        u.vlt.slot = s.vlt.target ∧ u.cfg = o.keys.foldl putKey s.cfg ∧
        u.vlt.slots.getD s.vlt.target none = some (SlotSt.written s.role (s.vlt.gen + 1) u.cfg) ∧
        (∀ x, u.vlt.slots.getD s.vlt.target none = some x → x.valid = true) ∧
        u.vlt.next = s.vlt.next + o.own.length + o.keys.length) ∧
    (∀ last, s.vlt.spares < 8 → ∃ u : State, exec (.vaultSectorRemap last) s = .next u.settle ∧
      u.vlt.spares = s.vlt.spares + 1 ∧ u.vlt.remaps.length = s.vlt.remaps.length + 1 ∧
      u.pends 200 = (s.isOn 1 || s.pends 200) ∧ u.vlt.slots = s.vlt.slots ∧ u.vlt.journal = s.vlt.journal ∧ u.regs = s.regs ∧
      u.cfg = s.cfg) ∧
    (∀ last n, 8 ≤ s.vlt.spares → o.for_ = .host n → ∃ u : State, exec (.vaultSectorRemap last) s = .next u.settle ∧
      u.vlt.op = none ∧ u.vlt.bad.length = s.vlt.bad.length + 1 ∧ u.vlt.slots = s.vlt.slots ∧ u.vlt.journal = s.vlt.journal ∧
      u.vlt.gen = s.vlt.gen ∧ u.cfg = s.cfg ∧ u.regs = s.regs ∧
      (n < s.rve.mb.length → (u.mb n).rsp.getD 2 0 = BitVec.ofNat 8 Status.vaultFull.code))) ∧
  (∀ (s : State) (n : Nat) (straps : Straps), s.Inv →
    (s.takes n 0x14 = true → (s.mb n).arg 0 4 % 52 ≠ 0 →
      exec (.vaultExport n straps) s = .next (s.respond n .badArg [])) ∧
    (s.takes n 0x14 = true → (s.mb n).arg 0 4 % 52 = 0 → s.vlt.image = none →
      (s.held &&& resVault ≠ 0 → exec (.vaultExport n straps) s = .next (s.respond n .busy [])) ∧
      (s.held &&& resVault = 0 → (s.mb n).arg 0 4 ≠ 0 →
        exec (.vaultExport n straps) s = .next (s.respond n .refusedState []))) ∧
    (s.takes n 0x14 = true → (s.mb n).arg 0 4 = 0 → s.held &&& resVault = 0 ∨ s.vlt.image ≠ none → s.uhlop straps ≠ [] →
      ∃ t : State, exec (.vaultExport n straps) s = .next t ∧
        (t.mb n).rsp = [BitVec.ofNat 8 (s.mb n).code, BitVec.ofNat 8 (s.mb n).tag, 0, 56] ++
          leBytes 4 (s.uhlop straps).length ++ padTo 52 ((s.uhlop straps).take 52) ++ List.replicate 4 0 ∧
        t.vlt = { s.vlt with image := if 52 < (s.uhlop straps).length then some (s.uhlop straps) else none } ∧
        t = { s with rve := t.rve, vlt := t.vlt }) ∧
    (∀ b, s.takes n 0x14 = true → (s.mb n).arg 0 4 % 52 = 0 → (s.mb n).arg 0 4 ≠ 0 → s.vlt.image = some b →
      (s.mb n).arg 0 4 < b.length → ∃ t : State, exec (.vaultExport n straps) s = .next t ∧
        (t.mb n).rsp = [BitVec.ofNat 8 (s.mb n).code, BitVec.ofNat 8 (s.mb n).tag, 0, 56] ++ leBytes 4 b.length
          ++ padTo 52 (bytesAt b ((s.mb n).arg 0 4) 52) ++ List.replicate 4 0 ∧
        t.vlt = { s.vlt with image := if (s.mb n).arg 0 4 + 52 < b.length then some b else none } ∧
        (∀ m, m ≠ n → t.mb m = s.mb m) ∧ t = { s with rve := t.rve, vlt := t.vlt }) ∧
    (s.vlt.image ≠ none → exec .exportTimeout s = .next { s with
      vlt := { s.vlt with image := none }, rve := { s.rve with autoHeld := s.rve.autoHeld &&& ~~~resVault } }) ∧
    (s.vlt.image = none → exec .exportTimeout s = .next s))

/-! ## Stopping, relock and measurement (chapters 3 and 6) -/

/-- R106, R107, R108, Table 3-10: SLEEP is refused as Table 3-9 says, or the device is STOPPING with the wake latches cleared
and re-armed, the Wardens back in START and the response formed; at the end every polder but Crest is off and the device
stands by, or starts at once if a latch is set. Rests also on the model's choices: assumptions 4, 5, 18. -/
def Obligations.SleepAndStandby : Prop :=
  ∀ (s : State) (n : Nat), s.Inv →
    (s.takes n 0x08 = true → ∀ m, m < 4 → m ≠ n → s.mbState m = mbExecuting →
      exec (.sleep n) s = .next (s.respond n .busy [])) ∧
    (s.takes n 0x08 = true → s.held &&& ~~~(resVault ||| resClock) ≠ 0 → exec (.sleep n) s = .next (s.respond n .busy [])) ∧
    (s.takes n 0x08 = true → (∀ m, m < 4 → m ≠ n → s.mbState m ≠ mbExecuting) →
      s.held &&& ~~~(resVault ||| resClock) = 0 →
      ((s.isStation = true ∧ s.pulseBlocked = false) ∨ (s.isStation = false ∧ s.bridgesOff = false) ∨ s.held &&& resVault ≠ 0 ∨
        s.held &&& resClock ≠ 0 ∨ s.twin = 2 → exec (.sleep n) s = .next (s.respond n .refusedState [])) ∧
      ((s.isStation = true → s.pulseBlocked = true) → (s.isStation = false → s.bridgesOff = true) → s.held &&& resVault = 0 →
        s.held &&& resClock = 0 → s.twin ≠ 2 → ∃ u : State, exec (.sleep n) s = .next u.settle ∧ u.pwr.phase = .stopping ∧
          u.requested = s.pwr.wakenLow ∧ (u.mb n).ready = true ∧ (u.mb n).rsp.getD 2 0 = 0 ∧ u.held &&& resSleep ≠ 0 ∧
          (∀ b, s.isOn (wrdPolder b) = true → s.wstate b ≠ wLockout → u.wstate b = wStart) ∧ u.pwr.on = s.pwr.on ∧
          u.cfg = s.cfg ∧ u.vlt = s.vlt)) ∧
    (s.pwr.phase = .stopping → s.requested = false → ∃ t : State, exec .crestStandbyReached s = .next t ∧
      t.pwr.phase = .crest ∧ t.pwr.on = 1 ∧ t.gatesOff ∧ (∀ a, 1 ≤ polderOf a → polderOf a ≤ 15 → t.word a = resetWord a) ∧
      (∀ a, polderOf a = 0 → t.word a = s.word a ∧ t.cfgWord a = s.cfgWord a ∧ t.effWord a = s.cfgWord a) ∧
      t.vlt.slots = s.vlt.slots ∧ t.vlt.journal = s.vlt.journal ∧ t.gal.mem = []) ∧
    (s.pwr.phase = .stopping → s.requested = true → s.pwr.vcrest = true → s.pwr.suppliesGood = true → s.role ≠ .none →
      ∃ t : State, exec .crestStandbyReached s = .next t ∧ t.pwr.phase = .starting ∧ t.pwr.on = 1 ∧ t.pwr.starting = [4] ∧
        t.pwr.startCause = false)

/-- R86, R205, R207, R208, R209: the statuses of ADC_CALIBRATE (which starts polder 12 where it is off) and its start, the
automatic calibration, and the end of a run: trims within Table 6-6 become live and clear the converter's FAIL, others set
it. Rests also on the model's choices: assumptions 4, 17, 19, 30, 35. -/
def Obligations.Calibrations : Prop :=
  ∀ (s : State) (n : Nat), s.Inv →
    (s.takes n 0x20 = true → ∀ mask, (s.mb n).arg 0 1 = mask →
      (mask = 0 ∨ 15 < mask → exec (.adcCalibrate n) s = .next (s.respond n .badArg [])) ∧
      (mask ≠ 0 → mask ≤ 15 → s.held &&& resMeasure ≠ 0 → exec (.adcCalibrate n) s = .next (s.respond n .busy [])) ∧
      (mask ≠ 0 → mask ≤ 15 → s.held &&& resMeasure = 0 → s.isOn 12 = false → s.servicePlan = true ∨ s.pwr.blocked = true →
        exec (.adcCalibrate n) s = .next (s.respond n .refusedState [])) ∧
      (mask ≠ 0 → mask ≤ 15 → s.held &&& resMeasure = 0 → s.isOn 12 = false → s.servicePlan = false → s.pwr.blocked = false →
        exec (.adcCalibrate n) s = .next (s.demand [12])) ∧
      (mask ≠ 0 → mask ≤ 15 → s.held &&& resMeasure = 0 → s.isOn 12 = true → s.dieTemp < -880 ∨ 2400 < s.dieTemp →
        exec (.adcCalibrate n) s = .next (s.respond n .tempWindow [])) ∧
      (mask ≠ 0 → mask ≤ 15 → s.held &&& resMeasure = 0 → s.isOn 12 = true → -880 ≤ s.dieTemp → s.dieTemp ≤ 2400 →
        ∃ t : State, exec (.adcCalibrate n) s = .next t ∧
          t.get F.ADC_CAL_STATUS_RUNNING = s.get F.ADC_CAL_STATUS_RUNNING ||| mask ∧ t.held &&& resMeasure ≠ 0 ∧
          (∀ k, k < 4 → natBit mask k = true → t.is (F.ADC_SEQn_STATUS_CAL k) = true ∧
            t.is (F.ADC_SEQn_STATUS_BUSY k) = false) ∧
          (∀ k, k < 4 → natBit mask k = false → t.word (R.ADC_SEQn_STATUS k) = s.word (R.ADC_SEQn_STATUS k)) ∧
          t = { s with regs := t.regs, rve := t.rve })) ∧
    (∀ trims, s.isOn 12 = true → s.get F.ADC_CAL_STATUS_RUNNING ≠ 0 →
      s.pwr.calRun = true ∨ s.pwr.calStarted = false ∨ s.pwr.calDone = true →
      ∃ u : State, exec (.calibrationComplete trims) s = .next u.settle ∧ u.get F.ADC_CAL_STATUS_RUNNING = 0 ∧
        u.getS F.ADC_CAL_STATUS_CAL_TEMP = s.dieTemp ∧ u.pends 63 = (s.isOn 1 || s.pends 63) ∧ u.adc.calibrated = true ∧
        (∀ k, k < 4 → natBit (s.get F.ADC_CAL_STATUS_RUNNING) k = true → u.is (F.ADC_SEQn_STATUS_CAL k) = false ∧
          (trimsPass (trims.getD k []) = true → natBit (u.get F.ADC_CAL_STATUS_VALID) k = true ∧
            natBit (u.get F.ADC_CAL_STATUS_FAIL) k = false ∧ u.word (R.ADC_TRIMn_OG k) = (trims.getD k []).getD 0 0 ∧
            ∀ j, j < 4 → u.word (R.ADC_TRIMn_CWj k j) = (trims.getD k []).getD (j + 1) 0) ∧
          (trimsPass (trims.getD k []) = false → natBit (u.get F.ADC_CAL_STATUS_FAIL) k = true)) ∧
        (s.pwr.calRun = true → u.pwr.calDone = true) ∧ u.cfg = s.cfg ∧ u.eff = s.eff) ∧
    (∀ trims, s.isOn 12 = true → s.get F.ADC_CAL_STATUS_RUNNING ≠ 0 → s.pwr.calRun = false → s.pwr.calStarted = true →
      s.pwr.calDone = false → ∃ u : State, exec (.calibrationComplete trims) s = .next u.settle ∧
        (u.get F.ADC_CAL_STATUS_RUNNING = 0 ∨ (u.get F.ADC_CAL_STATUS_RUNNING = 15 ∧ u.pwr.calRun = true)) ∧
        u.getS F.ADC_CAL_STATUS_CAL_TEMP = s.dieTemp ∧ u.pends 63 = (s.isOn 1 || s.pends 63)) ∧
    (s.isOn 12 = true → s.is F.ADC_CAL_STATUS_DRIFT = true → s.cfIs F.ADC_CONFIG_ADC_AUTO_CAL = true → s.pulseBlocked = true →
      s.held &&& resMeasure = 0 → s.get F.ADC_CAL_STATUS_RUNNING = 0 → -880 ≤ s.dieTemp → s.dieTemp ≤ 2400 →
      ∃ t : State, exec .autoCalibrationStart s = .next t ∧ t.get F.ADC_CAL_STATUS_RUNNING = 15 ∧ t.held &&& resMeasure ≠ 0 ∧
        t = { s with regs := t.regs, rve := { s.rve with autoHeld := t.rve.autoHeld } })

/-- R189, R190, R192, R193, R194, R196, R206: a start of a converter that is free begins a round with the committed sequence:
the count advances, BUSY is set and STAMP dates the hold of entry 0 on the edge-clock grid; one during a round or a
calibration only counts. The start time of a tide start with OFFSET, an ADC_START write and a modulator start with its check
are such starts. R187, R190, R191: a result is v_diff times the gain in codes, rounded and limited to 16 bits, written with
FRESH, the round's count and SAT; the last entry's ends the round with the converter's interrupt. Rests also on the model's
choices: assumptions 1, 4, 36, 68, 76, 80. -/
def Obligations.RoundsAndResults : Prop :=
  (∀ (s : State) (conv : Nat), s.Inv → conv < 4 → s.isOn 12 = true →
    let free := s.is (F.ADC_SEQn_STATUS_CAL conv) = false ∧ s.is (F.ADC_SEQn_STATUS_BUSY conv) = false ∧
      s.cfgOf (F.ADC_SEQn_CTRL_EN conv) = 1
    let began : Nat → Nat → State → Prop := fun d start t =>
      (∀ a, adcSeq conv a = true → t.effWord a = s.cfgWord a) ∧ (∀ a, adcSeq conv a = false → t.effWord a = s.effWord a) ∧
      t.get (F.ADC_SEQn_STATUS_ROUND conv) = (s.get (F.ADC_SEQn_STATUS_ROUND conv) + 1) % 16 ∧
      t.is (F.ADC_SEQn_STATUS_BUSY conv) = true ∧
      t.get (F.ADC_SEQn_STAMP_STAMP conv) =
        ((start + gridSlack d) / 2 ^ 32 + 10 * s.cfgOf (F.ADC_SEQn_ENTRYk_TS conv 0)) % 2 ^ 32 ∧
      (t.adc.conv.getD conv {}).next = 0 ∧
      s.sameBits t ([F.ADC_SEQn_STATUS_ROUND conv, F.ADC_SEQn_STATUS_BUSY conv, F.ADC_SEQn_STAMP_STAMP conv] ++
        [0, 1, 2, 3].flatMap (fun m => [F.ADC_NTCm_VALUE_VALID m, F.ADC_NTCm_VALUE_TEMP m])) ∧
      t = { s with regs := t.regs, eff := t.eff, adc := t.adc, tim := { s.tim with now := t.tim.now } }
    let skips : State → Prop := fun t =>
      t.get (F.ADC_SEQn_STATUS_SKIP conv) = satInc 8 (s.get (F.ADC_SEQn_STATUS_SKIP conv)) ∧
      t.pends 61 = (s.isOn 1 || s.pends 61) ∧ s.sameBits t [F.ADC_SEQn_STATUS_SKIP conv] ∧
      t = { s with regs := t.regs, int := t.int, str := t.str, adc := t.adc, tim := { s.tim with now := t.tim.now } }
    let overruns : State → Prop := fun t =>
      t.get (F.ADC_SEQn_STATUS_OVERRUN conv) = satInc 8 (s.get (F.ADC_SEQn_STATUS_OVERRUN conv)) ∧
      t.pends 61 = (s.isOn 1 || s.pends 61) ∧ s.sameBits t [F.ADC_SEQn_STATUS_OVERRUN conv] ∧
      t = { s with regs := t.regs, int := t.int, str := t.str, adc := t.adc, tim := { s.tim with now := t.tim.now } }
    ((s.adc.conv.getD conv {}).due = none → exec (.adcRoundStart conv) s = .next s.endClock) ∧
    (∀ d, (s.adc.conv.getD conv {}).due = some d → ∃ t : State, exec (.adcRoundStart conv) s = .next t.endClock ∧
      (t.adc.conv.getD conv {}).due = none ∧
      t.tim.now = (if laterThan (d / 2 ^ 32) (s.tim.now / 2 ^ 32) then d % 2 ^ 64 else s.tim.now) ∧
      (free → began (s.cfgOf (F.ADC_SEQn_TIDE_OFFSET conv)) (d % 2 ^ 64) t) ∧
      (s.is (F.ADC_SEQn_STATUS_CAL conv) = true → s.cfgOf (F.ADC_SEQn_CTRL_EN conv) = 1 → skips t) ∧
      (s.is (F.ADC_SEQn_STATUS_CAL conv) = false → s.is (F.ADC_SEQn_STATUS_BUSY conv) = true →
        (s.adc.conv.getD conv {}).began = none → overruns t)) ∧
    (∀ mask : BitVec 4, mask = 1#4 <<< conv → ∃ t : State, exec (.adcHostStart mask) s = .next t.endClock ∧ t.tim = s.tim ∧
      (free → began 0 s.tim.now t) ∧
      (s.is (F.ADC_SEQn_STATUS_CAL conv) = true → s.cfgOf (F.ADC_SEQn_CTRL_EN conv) = 1 → skips t) ∧
      (s.is (F.ADC_SEQn_STATUS_CAL conv) = false → s.is (F.ADC_SEQn_STATUS_BUSY conv) = true →
        (s.adc.conv.getD conv {}).began = none → overruns t)) ∧
    (∀ hb onNs, s.cfgOf (F.ADC_SEQn_CTRL_SOURCE conv) = 3 → s.cfgOf (F.ADC_SEQn_EVENT_HB conv) = hb →
      s.cfgOf (F.ADC_SEQn_CTRL_EN conv) = 1 → ∃ t : State, exec (.modulatorAdcStart conv onNs hb) s = .next t.endClock ∧
        t.tim = s.tim ∧
        (free → (s.applyKeys (adcSeq conv)).lastHold conv < onNs → began (s.cfgOf (F.ADC_SEQn_EVENT_DELAY conv)) s.tim.now t) ∧
        (free → onNs ≤ (s.applyKeys (adcSeq conv)).lastHold conv → skips t) ∧
        (s.is (F.ADC_SEQn_STATUS_CAL conv) = true → skips t) ∧
        (s.is (F.ADC_SEQn_STATUS_CAL conv) = false → s.is (F.ADC_SEQn_STATUS_BUSY conv) = true →
          (s.adc.conv.getD conv {}).began = none → overruns t))) ∧
  (∀ (s : State) (conv : Nat) (pv : Int), s.Inv → conv < 4 → s.isOn 12 = true → s.is (F.ADC_SEQn_STATUS_BUSY conv) = true →
    let k := (s.adc.conv.getD conv {}).next
    let v := if s.cf (F.ADC_SEQn_ENTRYk_INPUT conv k) = 25 then 0 else pv
    k < 16 → ∃ (u : State) (raw : Int), exec (.adcResult conv pv) s = .next u.settle ∧
      (2 * (raw * 1500000000000 - v * 2 ^ s.cf (F.ADC_SEQn_ENTRYk_GAIN conv k) * 32768)).natAbs ≤ 1500000000000 ∧
      u.getS (F.ADC_RESn_k_VALUE conv k) = clampInt (-32768) 32767 raw ∧ u.is (F.ADC_RESn_k_FRESH conv k) = true ∧
      u.get (F.ADC_RESn_k_ROUND conv k) = s.get (F.ADC_SEQn_STATUS_ROUND conv) ∧
      (u.is (F.ADC_RESn_k_SAT conv k) = true ↔ raw ≤ -32768 ∨ 32767 ≤ raw) ∧
      (u.adc.conv.getD conv {}).next = k + 1 ∧ (u.adc.conv.getD conv {}).produced.getLsbD k = true ∧
      (s.cf (F.ADC_SEQn_CTRL_LAST conv) ≤ k → u.is (F.ADC_SEQn_STATUS_BUSY conv) = false ∧
        u.pends (57 + conv) = (s.isOn 1 || s.pends (57 + conv))) ∧
      (k < s.cf (F.ADC_SEQn_CTRL_LAST conv) → u.is (F.ADC_SEQn_STATUS_BUSY conv) = true) ∧
      (∀ n j, n < 4 → j < 16 → ¬(n = conv ∧ j = k) → u.word (R.ADC_RESn_k n j) = s.word (R.ADC_RESn_k n j)) ∧
      u.cfg = s.cfg ∧ u.eff = s.eff ∧ u.pwr = s.pwr)

/-! ## Culvert: ports, lanes, alignment, messages and ring commands (chapters 1, 4 and 5) -/

/-- R142, R148, R149, R184: DOWN, CLOCK, WORD, DESKEW and UP follow one another, each with the port's interrupt; the port
becomes usable with UP and the peer's RX_UP; code errors of the bring-up are counted. A usable port becomes READY. R142,
R148, R150: a lost clock lane or lost alignment: the state falls back, a loss of UP is counted and raises the port's
interrupt, and without LEAVING it pulses the port-down fault of a used port; the reference port takes the PLL's reference
with it (R93). R146, R149: a port status is taken over. Rests also on the model's choices: assumptions 4, 5, 14, 20, 37. -/
def Obligations.PortsComeAndGo : Prop :=
  (∀ (s : State) (p : Nat), s.portOn p = true →
    let stage : Nat → State → Prop := fun v t => t.get (F.CUL_Pn_STATUS_RX_STATE p) = v ∧
      t.is (F.CUL_Pn_STATUS_USABLE p) = (v == 5 && s.is (F.CUL_Pn_STATUS_PEER_RX_UP p)) ∧
      s.sameBits t [F.CUL_Pn_STATUS_RX_STATE p, F.CUL_Pn_STATUS_USABLE p, F.CUL_Pn_STATUS_READY p, F.CUL_Pn_STATUS_DETECT p,
        F.CUL_Pn_DESKEW_TAP p, F.CUL_Pn_ERRORS_CODE p, F.CUL_Pn_STATUS_WRAPPED 0, F.CUL_Pn_STATUS_WRAPPED 1] ∧
      t.pends p = (s.isOn 1 || s.pends p) ∧
      t = { s with regs := t.regs, cul := { s.cul with ports := t.cul.ports }, int := t.int, str := t.str }
    (s.get (F.CUL_Pn_STATUS_RX_STATE p) = 1 → ∃ t : State, exec (.rxClockDetect p) s = .next t.settle ∧ stage 2 t ∧
      t.is (F.CUL_Pn_STATUS_DETECT p) = true) ∧
    (s.get (F.CUL_Pn_STATUS_RX_STATE p) = 2 → ∃ t : State, exec (.rxWordLock p) s = .next t.settle ∧ stage 3 t) ∧
    (∀ tap, s.get (F.CUL_Pn_STATUS_RX_STATE p) = 3 → ∃ t : State, exec (.rxDeskewSet p tap) s = .next t.settle ∧ stage 4 t ∧
      t.get (F.CUL_Pn_DESKEW_TAP p) = tap.toNat) ∧
    (∀ e, s.get (F.CUL_Pn_STATUS_RX_STATE p) = 4 → ∃ t : State, exec (.rxUp p e) s = .next t.settle ∧ stage 5 t ∧
      t.get (F.CUL_Pn_ERRORS_CODE p) = min 65535 (s.get (F.CUL_Pn_ERRORS_CODE p) + e)) ∧
    (s.usable p = true → ∃ t : State, exec (.portReady p) s = .next t ∧ t.is (F.CUL_Pn_STATUS_READY p) = true ∧
      s.onlyFields t [F.CUL_Pn_STATUS_READY p]) ∧
    (∀ v, v < 5 → s.get (F.CUL_Pn_STATUS_RX_STATE p) = v →
      (v ≠ 1 → exec (.rxClockDetect p) s = .next s) ∧ (v ≠ 2 → exec (.rxWordLock p) s = .next s) ∧
      (v ≠ 4 → ∀ e, exec (.rxUp p e) s = .next s))) ∧
  (∀ (s : State) (p : Nat), s.portOn p = true →
    let up := s.get (F.CUL_Pn_STATUS_RX_STATE p) == 5
    (∀ e, 2 ≤ s.get (F.CUL_Pn_STATUS_RX_STATE p) → ∃ u : State, exec (.rxDown p e) s = .next u.settle ∧
      u.get (F.CUL_Pn_ERRORS_CODE p) = min 65535 (s.get (F.CUL_Pn_ERRORS_CODE p) + e) ∧
      u.get (F.CUL_Pn_STATUS_RX_STATE p) = 1 ∧ u.is (F.CUL_Pn_STATUS_DETECT p) = false ∧
      u.is (F.CUL_Pn_STATUS_USABLE p) = false ∧ u.is (F.CUL_Pn_STATUS_READY p) = false ∧
      u.get (F.CUL_Pn_ERRORS_DOWN p) = (if up then satInc 16 (s.get (F.CUL_Pn_ERRORS_DOWN p)) else s.get (F.CUL_Pn_ERRORS_DOWN p)) ∧
      u.pends p = (s.isOn 1 || s.pends p) ∧
      (s.isStation = false → p = s.cul.refPort → s.isOn 4 = true → s.is F.CLK_STATUS_LOCKED = true → s.clk.attempt = .none →
        u.is F.CLK_STATUS_HOLDOVER = true ∧ u.is F.CLK_STATUS_LOCKED = false ∧ u.is F.CLK_STATUS_REF_LOST = true) ∧
      (s.is (F.CUL_Pn_STATUS_LEAVING_SEEN p) = true → u.is (F.CUL_Pn_STATUS_TX_AWAKE p) = false ∧ u.flt = s.flt ∧
        u.is (F.CUL_Pn_STATUS_LEAVING_SEEN p) = false) ∧
      (s.is (F.CUL_Pn_STATUS_LEAVING_SEEN p) = false →
        u.flt = (if up && s.usedPorts.contains p then (s.fault 16).flt else s.flt) ∧
        u.is (F.CUL_Pn_STATUS_TX_AWAKE p) = s.is (F.CUL_Pn_STATUS_TX_AWAKE p)) ∧
      u = { s with regs := u.regs, cul := { s.cul with ports := u.cul.ports }, int := u.int, str := u.str, flt := u.flt }) ∧
    (∀ e, 3 ≤ s.get (F.CUL_Pn_STATUS_RX_STATE p) → ∃ u : State, exec (.rxRealign p e) s = .next u.settle ∧
      u.get (F.CUL_Pn_STATUS_RX_STATE p) = 2 ∧ u.is (F.CUL_Pn_STATUS_USABLE p) = false ∧
      u.pends p = (s.isOn 1 || s.pends p) ∧
      u.get (F.CUL_Pn_ERRORS_CODE p) = min 65535 (s.get (F.CUL_Pn_ERRORS_CODE p) + e) ∧
      u.get (F.CUL_Pn_ERRORS_DOWN p) = (if up then satInc 16 (s.get (F.CUL_Pn_ERRORS_DOWN p)) else s.get (F.CUL_Pn_ERRORS_DOWN p)) ∧
      u.flt = (if up && s.usedPorts.contains p && !s.is (F.CUL_Pn_STATUS_LEAVING_SEEN p) then (s.fault 16).flt else s.flt) ∧
      (up = true → s.is (F.CUL_Pn_STATUS_LEAVING_SEEN p) = true → u.is (F.CUL_Pn_STATUS_TX_AWAKE p) = false) ∧
      u = { s with regs := u.regs, cul := { s.cul with ports := u.cul.ports }, int := u.int, str := u.str, flt := u.flt }) ∧
    (∀ x e, s.get (F.CUL_Pn_STATUS_RX_STATE p) = 5 → ∃ u : State, exec (.portStatusReceived p x e) s = .next u.settle ∧
      u.get (F.CUL_Pn_ERRORS_CODE p) = min 65535 (s.get (F.CUL_Pn_ERRORS_CODE p) + e) ∧
      u.is (F.CUL_Pn_STATUS_PEER_RX_UP p) = x.getLsbD 0 ∧ u.is (F.CUL_Pn_STATUS_PEER_ROOTED p) = x.getLsbD 1 ∧
      u.is (F.CUL_Pn_STATUS_LEAVING_SEEN p) = x.getLsbD 2 ∧ u.is (F.CUL_Pn_STATUS_USABLE p) = x.getLsbD 0 ∧
      s.sameBits u [F.CUL_Pn_STATUS_PEER_RX_UP p, F.CUL_Pn_STATUS_PEER_ROOTED p, F.CUL_Pn_STATUS_LEAVING_SEEN p,
        F.CUL_Pn_STATUS_USABLE p, F.CUL_Pn_STATUS_READY p, F.CUL_Pn_ERRORS_CODE p, F.CUL_Pn_STATUS_WRAPPED 0,
        F.CUL_Pn_STATUS_WRAPPED 1] ∧
      u = { s with regs := u.regs, cul := { s.cul with ports := u.cul.ports } }))

/-- R182, R183, R81, R104: the refusals of LANE_SLEEP and LANE_WAKE; accepted, the directions named sleep, also those that
were to wake with their polder, or wake, a transmit direction once the device may transmit; a polder that is off starts for
them; activity on a sleeping lane raises source 19 and wakes an enabled one. Rests also on the model's choices: assumptions
4, 5, 19, 37, 58. -/
def Obligations.LanesSleepAndWake : Prop :=
  ∀ (s : State) (n p d : Nat), s.Inv → (s.mb n).arg 0 1 = p → (s.mb n).arg 1 1 = d →
    (∀ c, (c = .laneSleep n ∧ s.takes n 0x32 = true) ∨ (c = .laneWake n ∧ s.takes n 0x33 = true) →
      (9 < p ∨ 3 < d → exec c s = .next (s.respond n .badArg [])) ∧
      (p ≤ 9 → d ≤ 3 → s.isStation = false → 4 < p → exec c s = .next (s.respond n .notInRole []))) ∧
    (s.takes n 0x32 = true → p ≤ 9 → d ≤ 3 → s.isStation = true ∨ p ≤ 4 →
      (d ≠ 0 → (s.portRing p).isSome = true → s.usable p = true → s.is (F.CUL_Pn_STATUS_WRAPPED p) = false →
        exec (.laneSleep n) s = .next (s.respond n .refusedState [])) ∧
      (s.usable p = false ∨ s.is (F.CUL_Pn_STATUS_WRAPPED p) = true ∨ (s.portRing p).isSome = false → s.portOn p = false →
        ∃ t : State, exec (.laneSleep n) s = .next t ∧ (t.mb n).ready = true ∧ (t.mb n).rsp.getD 2 0 = 0 ∧
          t.pwr.laneTx.getLsbD p = (s.pwr.laneTx.getLsbD p && !natBit d 0) ∧
          t.pwr.laneRx.getLsbD p = (s.pwr.laneRx.getLsbD p && !natBit d 1) ∧
          (∀ q, q ≠ p → t.pwr.laneTx.getLsbD q = s.pwr.laneTx.getLsbD q ∧ t.pwr.laneRx.getLsbD q = s.pwr.laneRx.getLsbD q) ∧
          t = { s with rve := t.rve, pwr := { s.pwr with laneTx := t.pwr.laneTx, laneRx := t.pwr.laneRx } }) ∧
      (s.usable p = false ∨ s.is (F.CUL_Pn_STATUS_WRAPPED p) = true ∨ (s.portRing p).isSome = false → s.portOn p = true →
        ∃ u : State, exec (.laneSleep n) s = .next u.settle ∧ (u.mb n).ready = true ∧ (u.mb n).rsp.getD 2 0 = 0 ∧
          (natBit d 0 = true → u.is (F.CUL_Pn_STATUS_TX_AWAKE p) = false) ∧
          (natBit d 1 = true → u.is (F.CUL_Pn_STATUS_RX_AWAKE p) = false ∧ u.get (F.CUL_Pn_STATUS_RX_STATE p) = 0) ∧
          (d = 0 → u = s.respond n .ok []) ∧ (natBit d 0 = true → u.pwr.laneTx.getLsbD p = false) ∧
          (natBit d 1 = true → u.pwr.laneRx.getLsbD p = false) ∧
          (natBit d 1 = true → s.get (F.CUL_Pn_STATUS_RX_STATE p) = 5 →
            u.get (F.CUL_Pn_ERRORS_DOWN p) = satInc 16 (s.get (F.CUL_Pn_ERRORS_DOWN p))) ∧
          (natBit d 1 = false ∨ s.get (F.CUL_Pn_STATUS_RX_STATE p) ≠ 5 → u.flt = s.flt) ∧
          u = { s with regs := u.regs, cul := { s.cul with ports := u.cul.ports }, rve := u.rve, flt := u.flt, int := u.int,
                       str := u.str, pwr := { s.pwr with laneTx := u.pwr.laneTx, laneRx := u.pwr.laneRx } })) ∧
    (s.takes n 0x33 = true → p ≤ 9 → d ≤ 3 → s.isStation = true ∨ p ≤ 4 →
      (s.servicePlan = true ∨ (s.isStation = false ∧ 2 ≤ p) → exec (.laneWake n) s = .next (s.respond n .refusedState [])) ∧
      (s.servicePlan = false → s.isStation = true ∨ p < 2 → s.portOn p = true →
        ∃ t : State, exec (.laneWake n) s = .next t.settle ∧ (t.mb n).ready = true ∧ (t.mb n).rsp.getD 2 0 = 0 ∧
          (natBit d 0 = true → s.noTransmit = false → t.is (F.CUL_Pn_STATUS_TX_AWAKE p) = true) ∧
          (natBit d 0 = true → s.noTransmit = true → t.pwr.laneTx.getLsbD p = true ∧
            t.is (F.CUL_Pn_STATUS_TX_AWAKE p) = s.is (F.CUL_Pn_STATUS_TX_AWAKE p)) ∧
          (natBit d 1 = true → t.is (F.CUL_Pn_STATUS_RX_AWAKE p) = true) ∧
          t = { s with regs := t.regs, cul := { s.cul with ports := t.cul.ports }, rve := t.rve, int := t.int, str := t.str
                       pwr := { s.pwr with laneTx := t.pwr.laneTx, laneRx := t.pwr.laneRx } }) ∧
      (s.servicePlan = false → s.isStation = true ∨ p < 2 → s.portOn p = false →
        ∃ t : State, exec (.laneWake n) s = .next t ∧ (t.mb n).ready = true ∧ (t.mb n).rsp.getD 2 0 = 0 ∧
          t.pwr.laneTx.getLsbD p = (s.pwr.laneTx.getLsbD p || natBit d 0) ∧
          t.pwr.laneRx.getLsbD p = (s.pwr.laneRx.getLsbD p || natBit d 1) ∧ t.pwr.on = s.pwr.on ∧
          t = { s with pwr := t.pwr, rve := t.rve })) ∧
    (∀ q, q < 10 → s.awake = true → (rolePolders s.role).contains (portPolder q) = true →
      s.is (F.CUL_Pn_STATUS_RX_AWAKE q) = false → ∃ t : State, exec (.laneActivity q) s = .next t.settle ∧
        t.pends 19 = (s.isOn 1 || s.pends 19) ∧
        (natBit (s.cf F.PWR_WAKE_EN_LANE_EN) q = false → t.cul = s.cul ∧ t.regs = s.regs ∧ t.pwr = s.pwr) ∧
        (natBit (s.cf F.PWR_WAKE_EN_LANE_EN) q = true →
          (s.portOn q = true → s.unusedPort q = false → t.is (F.CUL_Pn_STATUS_RX_AWAKE q) = true) ∧
          (s.portOn q = false → t.pwr.laneRx.getLsbD q = true ∧ t.cul = s.cul ∧ t.regs = s.regs)) ∧
        t = { s with regs := t.regs, cul := { s.cul with ports := t.cul.ports }, int := t.int, str := t.str, pwr := { s.pwr with
          laneRx := t.pwr.laneRx, queue := t.pwr.queue, starting := t.pwr.starting } })

/-- R173, R174, R146, R460: the first average with a valid loop delay aligns the device; one more than 4 ns off starts
slewing with fault 21; a smaller one moves the place by one step at most, toward the value. In HOLD, or without the loop
delay, only delta is held. A device that wraps takes delta as 0. A reference not rooted for 8 tides changes. Rests also on
the model's choices: assumptions 4, 14, 22. -/
def Obligations.AlignmentFollows : Prop :=
  ∀ (s : State) (delta : Int), s.isOn 5 = true → s.isStation = false → s.role ≠ .none →
    (s.wraps = true → exec (.alignAverageComplete delta) s = exec (.alignAverageComplete 0) s) ∧
    (s.wraps = true ↔ s.is (F.CUL_Pn_STATUS_WRAPPED 0) = true ∨ s.is (F.CUL_Pn_STATUS_WRAPPED 1) = true) ∧
    (s.wraps = false →
    (s.is F.CUL_ALIGN_LOOP_VALID = false ∨ s.get F.CUL_ALIGN_STATE = 3 → ∃ t : State,
      exec (.alignAverageComplete delta) s = .next t ∧ t.get F.CUL_DELTA_DELTA = ofSigned 32 delta ∧
      s.onlyFields t [F.CUL_DELTA_DELTA]) ∧
    (s.is F.CUL_ALIGN_LOOP_VALID = true →
      let l : Int := s.get (F.CUL_RINGr_LOOP_L s.ownRing)
      let c0 := halfRound (l - 2048 - delta - 2 * s.cfS F.CUL_ASYM_CUL_ASYM_COMP)
      (s.get F.CUL_ALIGN_STATE = 0 → ∃ t : State, exec (.alignAverageComplete delta) s = .next t.settle ∧
        t.get F.CUL_ALIGN_STATE = 1 ∧ t.get F.CUL_COMP0_COMP0 = ofSigned 32 c0 ∧
        t.get F.CUL_COMP1_COMP1 = ofSigned 32 (l - 2048 - c0) ∧ t.cul.place = unitsToSteps t.compInUse ∧
        t.pends 16 = (s.isOn 1 || s.pends 16) ∧
        s.sameBits t [F.CUL_DELTA_DELTA, F.CUL_COMP0_COMP0, F.CUL_COMP1_COMP1, F.CUL_ALIGN_STATE] ∧
        t = { s with regs := t.regs, cul := { s.cul with place := t.cul.place, takeover := t.cul.takeover },
                     int := t.int, str := t.str }) ∧
      (s.get F.CUL_ALIGN_STATE = 1 → ∃ w : State, w.get F.CUL_COMP0_COMP0 = ofSigned 32 c0 ∧
        w.get F.CUL_COMP1_COMP1 = ofSigned 32 (l - 2048 - c0) ∧ s.onlyFields w [F.CUL_DELTA_DELTA, F.CUL_COMP0_COMP0,
          F.CUL_COMP1_COMP1] ∧
        (256 < (w.compInUse - 10 * s.cul.place).natAbs → ∃ u : State,
          exec (.alignAverageComplete delta) s = .next (u.fault 21).settle ∧ u.get F.CUL_ALIGN_STATE = 2 ∧
          u.cul = s.cul ∧ u.pends 16 = (s.isOn 1 || s.pends 16)) ∧
        ((w.compInUse - 10 * s.cul.place).natAbs ≤ 256 → ∃ t : State,
          exec (.alignAverageComplete delta) s = .next t ∧ t.get F.CUL_ALIGN_STATE = 1 ∧
          (t.cul.place - s.cul.place).natAbs ≤ 1 ∧
          (t.cul.place - unitsToSteps w.compInUse).natAbs ≤ (s.cul.place - unitsToSteps w.compInUse).natAbs ∧
          t = { w with cul := { s.cul with place := t.cul.place } }))) ∧
    (s.is F.CUL_ALIGN_LOOP_VALID = true → s.get F.CUL_ALIGN_STATE = 2 →
      let l : Int := s.get (F.CUL_RINGr_LOOP_L s.ownRing)
      let c0 := halfRound (l - 2048 - delta - 2 * s.cfS F.CUL_ASYM_CUL_ASYM_COMP)
      ∃ t : State, exec (.alignAverageComplete delta) s = .next t ∧ t.get F.CUL_COMP0_COMP0 = ofSigned 32 c0 ∧
        t.get F.CUL_COMP1_COMP1 = ofSigned 32 (l - 2048 - c0) ∧
        s.onlyFields t [F.CUL_DELTA_DELTA, F.CUL_COMP0_COMP0, F.CUL_COMP1_COMP1])) ∧
    (8 ≤ (s.cport s.cul.refPort).notRooted → s.is (F.CUL_Pn_STATUS_PEER_ROOTED (1 - s.cul.refPort)) = true →
      s.get (F.CUL_Pn_STATUS_RX_STATE (1 - s.cul.refPort)) = 5 → s.isOn 4 = true → s.is F.CLK_STATUS_LOCKED = true →
      s.clk.attempt = .none → ∃ u : State, exec .referencePortChange s = .next u.settle ∧
        u.cul.refPort = 1 - s.cul.refPort ∧ u.is F.CLK_STATUS_HOLDOVER = true ∧ u.is F.CLK_STATUS_LOCKED = false ∧
        u.is F.CLK_STATUS_REF_LOST = true ∧
        u.cul.place - unitsToSteps u.compInUse = s.cul.place - unitsToSteps s.compInUse)

/-- R86, R133, R134, R135, R171, R166, R181: REMOTE is refused, starts the ring's polders, or holds its ring and sends its
request in chunks from the first; a missing acknowledge or a busy mailbox sends it again; its timeout answers TIMEOUT. The
unwrap and token events of an origin. Rests also on the model's choices: assumptions 4, 19, 23, 34, 58. -/
def Obligations.MessagesAndTokens : Prop :=
  ∀ (s : State) (n r : Nat), s.Inv → r < 4 → s.cul.remote.length = 4 →
    (s.takes n 0x70 = true → ∀ q, (s.mb n).arg 0 1 = r → (s.mb n).arg 1 1 = q →
      let enc := bytesAt (s.mb n).req 12 52
      (q = 0 ∨ 96 < q ∨ (s.mb n).arg 2 2 ≠ 0 ∨ malformed enc = true ∨ leAt enc 0 1 = 0x70 →
        exec (.remote n) s = .next (s.respond n .badArg [])) ∧
      (1 ≤ q → q ≤ 96 → (s.mb n).arg 2 2 = 0 → malformed enc = false → leAt enc 0 1 ≠ 0x70 → leAt enc 2 1 ≤ 48 →
        12 + leAt enc 2 1 ≤ (s.mb n).len →
        (s.held &&& resRing r ≠ 0 → exec (.remote n) s = .next (s.respond n .busy [])) ∧
        (s.held &&& resRing r = 0 → (s.ringPolders r).all s.isOn = false →
          (s.servicePlan = true ∨ s.pwr.blocked = true → exec (.remote n) s = .next (s.respond n .refusedState [])) ∧
          (s.servicePlan = false → s.pwr.blocked = false → exec (.remote n) s = .next (s.demand (s.ringPolders r)))) ∧
        (s.held &&& resRing r = 0 → (s.ringPolders r).all s.isOn = true → s.is (F.CUL_POS_r_s_PRESENT r q) = false →
          exec (.remote n) s = .next (s.respond n .refusedState [])) ∧
        (s.held &&& resRing r = 0 → (s.ringPolders r).all s.isOn = true → s.is (F.CUL_POS_r_s_PRESENT r q) = true → ∃ t : State, exec (.remote n) s = .next t ∧
          (∃ x, t.remoteOn r = some x ∧ x.mailbox = n ∧ x.dest = q ∧ x.phase = .sending 0 ∧ x.tries = 0 ∧ x.bytes.length = 64 ∧
            x.bytes.take 52 = padTo 52 enc ∧ x.timeout = s.cf F.RVE_CONFIG_RVE_REMOTE_TIMEOUT) ∧
          t.runs n 0x70 = true ∧ t.held &&& resRing r ≠ 0 ∧
          t = { s with rve := t.rve, cul := { s.cul with remote := t.cul.remote } }))) ∧
    (∀ x, s.remoteOn r = some x →
      exec (.remoteTimeout r) s = .next (({ s with cul := { s.cul with remote := s.cul.remote.set r none } }).respond
        x.mailbox .timeout []) ∧
      (x.phase = .busyWait → exec (.messageBusyRetry r) s = .next { s with cul := { s.cul with
        remote := s.cul.remote.set r (some { x with phase := .sending 0, tries := 0 }) } }) ∧
      (s.isStation = true → x.phase = .waitAck → x.tries < 3 → exec (.messageAckTimeout r) s = .next { s with cul :=
        { s.cul with remote := s.cul.remote.set r (some { x with phase := .sending 0, tries := x.tries + 1 }) } })) ∧
    (s.isStation = false → s.cul.msg.phase = .waitAck → ∃ t : State, exec (.messageAckTimeout r) s = .next t ∧
      t = { s with cul := { s.cul with msg := { s.cul.msg with
        phase := t.cul.msg.phase, tries := t.cul.msg.tries, outAt := [] } } } ∧
      (s.cul.msg.tries < 3 → t.cul.msg.phase = .sending 0 ∧ t.cul.msg.tries = s.cul.msg.tries + 1) ∧
      (3 ≤ s.cul.msg.tries → t.cul.msg.phase = .given)) ∧
    (s.isStation = true → s.is (F.CUL_RINGr_STATE_WRAP_SEEN r) = true → s.cfIs F.CUL_CONFIG_CUL_AUTO_UNWRAP = true →
      exec (.periodicUnwrap r) s = .next { s with cul := { s.cul with unwrap := s.cul.unwrap.set r true } }) ∧
    (∀ line offset, s.isOn 5 = true → exec (.triggerTokenRaise line offset) s = .next { s with cul := { s.cul with
      tokens := s.cul.tokens ++ [⟨line, s.get F.CUL_TIDE_TIDE, offset, false, 0⟩] } })

/-- R86, R88, R127, R172, R29, R30, R176, R168: the statuses of the ring commands, whose polders start where they are off.
Taken, each holds its rings and runs on. RING_DISCOVER: IDENTIFY goes to every position found after 256 tides, then
CONFIG_WRITE and VAULT_COMMIT, and devices with distinct IDs are not excluded; the end (`State.discoverTide`, of each
boundary) shows them, clears the stale counts of its rings alone, and answers. RING_ALIGN sends UNWRAP, stores the loop delay
measured over 1,024 tides, and ends with all aligned or at 20 ms. WAKE_REMOTE wakes the port before its slot, sends UNWRAP
once it is READY, and the woken device leaves the sleeping block by an internal commit; else TIMEOUT. Rests also on the
model's choices: assumptions 4, 19, 24, 25, 26, 49, 100. -/
def Obligations.RingCommands : Prop :=
  ∀ (s : State) (n mask : Nat), s.Inv → (s.mb n).arg 0 1 = mask →
    let needs : List Nat → State := fun ps => if (s.servicePlan || s.pwr.blocked) = true then s.respond n .refusedState []
      else s.demand ps
    let codes : State → Nat → Nat → List Nat := fun t r q =>
      (t.cul.sentMsgs.filter (fun m => m.ring == r && m.slot == q)).map (fun m => leAt m.bytes 0 1)
    (∀ c, (∃ f, c = .ringDiscover n f ∧ s.takes n 0x30 = true) ∨ (∃ w l a, c = .ringAlign n l a w ∧ s.takes n 0x31 = true) →
      (15 < mask → exec c s = .next (s.respond n .badArg [])) ∧
      (mask ≤ 15 → s.held &&& resRings mask ≠ 0 → exec c s = .next (s.respond n .busy [])) ∧
      (mask ≤ 15 → s.held &&& resRings mask = 0 → ((ringsIn mask).flatMap s.ringPolders).all s.isOn = false →
        exec c s = .next (needs ((ringsIn mask).flatMap s.ringPolders)))) ∧
    (∀ found, s.takes n 0x30 = true → mask ≤ 15 → s.held &&& resRings mask = 0 →
      (∀ r, r < 4 → natBit mask r = true → (s.ringPolders r).all s.isOn = true) →
      ((∃ r, r < 4 ∧ natBit mask r = true ∧ s.ringDriving r = true) →
        exec (.ringDiscover n found) s = .next (s.respond n .refusedState [])) ∧
      ((∀ r, r < 4 → natBit mask r = true → s.ringDriving r = false) →
        ∃ t : State, exec (.ringDiscover n found) s = .next t ∧ t.runs n 0x30 = true ∧ (t.mb n).stage = 1 ∧ (t.mb n).inStage = 0 ∧
          (∀ r, r < 4 → natBit mask r = true → t.held &&& resRing r ≠ 0 ∧ t.discovering r = true) ∧
          (∀ m, m ≠ n → t.mb m = s.mb m) ∧ t = { s with rve := { s.rve with mb := t.rve.mb } })) ∧
    (∀ found, s.runs n 0x30 = true → mask ≤ 15 → found.length = 4 → (∀ r, r < 4 → (found.getD r []).length ≤ 96) →
      ((s.mb n).stage = 1 → (s.mb n).inStage < 256 → exec (.ringDiscover n found) s = .next s) ∧
      ((s.mb n).stage = 1 → 256 ≤ (s.mb n).inStage → ∃ t : State, exec (.ringDiscover n found) s = .next t ∧ (t.mb n).stage = 2 ∧
        t.runs n 0x30 = true ∧
        (∀ r q, r < 4 → 1 ≤ q → codes t r q =
          codes s r q ++ (if natBit mask r = true ∧ q ≤ (found.getD r []).length then [0x01] else [])) ∧
        t = { s with rve := { s.rve with mb := t.rve.mb }, cul := { s.cul with sentMsgs := t.cul.sentMsgs }
                     spr := { s.spr with sent := t.spr.sent } }) ∧
      ((s.mb n).stage = 2 → (∃ r, r < 4 ∧ natBit mask r = true ∧ s.ringQuiet r = false) →
        exec (.ringDiscover n found) s = .next s) ∧
      ((s.mb n).stage = 2 → (∀ r, r < 4 → natBit mask r = true → s.ringQuiet r = true) →
        (∀ r, r < 4 → ∀ i ∈ found.getD r [], i ≠ 0) → s.cf F.HST_DEVICE_ID_DEVICE_ID ≠ 0 →
        (∀ r, r < 4 → natBit mask r = false → found.getD r [] = s.cul.ids.getD r []) →
        ∃ t : State, exec (.ringDiscover n found) s = .next t ∧ (t.mb n).stage = 3 ∧ (t.mb n).nexts = [] ∧
          (∀ r, r < 4 → t.cul.ids.getD r [] = found.getD r []) ∧
          (∀ r q, r < 4 → natBit mask r = true → 1 ≤ q → codes t r q =
            if q ≤ (found.getD r []).length then [0x10, 0x12] else []) ∧
          ((s.cf F.HST_DEVICE_ID_DEVICE_ID :: (if s.twn.partnerId = 0 then [] else [s.twn.partnerId]) ++
            found.flatMap id).Nodup → t.cul.excluded = []) ∧
          (∀ r q, r < 4 → 1 ≤ q → q ≤ (found.getD r []).length →
            (t.cul.excluded.contains (r, q) = true ↔ 1 < (s.cf F.HST_DEVICE_ID_DEVICE_ID :: s.twn.partnerId ::
              found.flatMap id).count ((found.getD r []).getD (q - 1) 0))) ∧
          t = { s with rve := { s.rve with mb := t.rve.mb }, spr := { s.spr with sent := t.spr.sent }, cul := { s.cul with
            sentMsgs := t.cul.sentMsgs, ids := t.cul.ids, excluded := t.cul.excluded } })) ∧
    (s.runs n 0x30 = true → mask ≤ 15 →
      ((s.mb n).stage = 3 → (∀ r, r < 4 → natBit mask r = true → s.ringQuiet r = true ∧ (s.cul.ids.getD r []).length ≤ 96) →
        (s.discoverTide n).cul = s.cul ∧ (s.discoverTide n).cfg = s.cfg ∧ ((s.discoverTide n).mb n).stage = 4 ∧
        (∀ r, r < 4 → natBit mask r = true →
          (s.discoverTide n).get (F.CUL_RINGr_STATE_FOUND r) = (s.cul.ids.getD r []).length ∧
          (s.discoverTide n).get (F.CUL_RINGr_STATE_STATE r) = (if s.cul.ids.getD r [] = [] then 0 else 1) ∧
          ∀ q, 1 ≤ q → q ≤ 96 →
            (s.discoverTide n).is (F.CUL_POS_r_s_PRESENT r q) = decide (q ≤ (s.cul.ids.getD r []).length) ∧
            (s.discoverTide n).get (F.CUL_POS_r_s_STALE_TOTAL r q) = 0) ∧
        (∀ r q, r < 4 → natBit mask r = false → 1 ≤ q → q ≤ 96 →
          (s.discoverTide n).word (R.CUL_POS_r_s r q) = s.word (R.CUL_POS_r_s r q) ∧
          (s.discoverTide n).word (R.CUL_RINGr_STATE r) = s.word (R.CUL_RINGr_STATE r))) ∧
      ((s.mb n).stage = 4 → (s.mb n).waits = false → (s.mb n).nexts = [] → ((s.discoverTide n).mb n).ready = true ∧
        (s.cul.excluded ≠ [] → ((s.discoverTide n).mb n).rsp.getD 2 0 = BitVec.ofNat 8 Status.refusedState.code) ∧
        (s.cul.excluded = [] → (∀ r, r < 4 → natBit mask r = true → ∀ i ∈ s.cul.ids.getD r [], i ≠ 0) →
          ((s.discoverTide n).mb n).rsp.getD 2 0 = 0) ∧ (s.discoverTide n).regs = s.regs ∧ (s.discoverTide n).vlt = s.vlt)) ∧
    (∀ wraps loops ok, s.takes n 0x31 = true → mask ≤ 15 → s.held &&& resRings mask = 0 →
      (∀ r, r < 4 → natBit mask r = true → (s.ringPolders r).all s.isOn = true) →
      ((∃ r, r < 4 ∧ natBit mask r = true ∧ (s.get (F.CUL_RINGr_STATE_FOUND r) = 0 ∨ wraps.getLsbD r = true ∨
          (s.twn.operating = false ∧ ((s.is (F.CUL_Pn_STATUS_READY (2 * r)) && (s.cport (2 * r)).peerReady) = false ∨
            (s.cf (F.CUL_RINGr_SLEEP_FIRST_ASLEEP r) = 0 ∧
              (s.is (F.CUL_Pn_STATUS_READY (2 * r + 1)) && (s.cport (2 * r + 1)).peerReady) = false))))) →
        exec (.ringAlign n loops ok wraps) s = .next (s.respond n .refusedState [])) ∧
      ((∀ r, r < 4 → natBit mask r = true → s.get (F.CUL_RINGr_STATE_FOUND r) ≠ 0 ∧ s.wrapBad wraps r = false) →
        ∃ t : State, exec (.ringAlign n loops ok wraps) s = .next t ∧ t.runs n 0x31 = true ∧ (t.mb n).stage = 1 ∧
          (∀ r, r < 4 → natBit mask r = true → t.held &&& resRing r ≠ 0 ∧ (s.cul.unwrap.length = 4 → t.cul.unwrap.getD r false = true)) ∧
          (∀ r, r < 4 → natBit mask r = false → t.cul.unwrap.getD r false = s.cul.unwrap.getD r false) ∧
          t = { s with rve := { s.rve with mb := t.rve.mb }, cul := { s.cul with unwrap := t.cul.unwrap } })) ∧
    (∀ wraps loops, s.runs n 0x31 = true → mask ≤ 15 →
      ((s.mb n).stage = 1 → ∀ ok,
        ((s.mb n).inStage < 1024 → exec (.ringAlign n loops ok wraps) s = .next s) ∧
        (1024 ≤ (s.mb n).inStage → ∃ t : State, exec (.ringAlign n loops ok wraps) s = .next t ∧ (t.mb n).stage = 2 ∧
          (∀ r, r < 4 → natBit mask r = true → t.get (F.CUL_RINGr_LOOP_L r) = loops.getD r 0 % 2 ^ 32 ∧
            t.is (F.CUL_RINGr_STATE_LOOP_VALID r) = true) ∧
          s.sameBits t ([0, 1, 2, 3].flatMap (fun r => [F.CUL_RINGr_LOOP_L r, F.CUL_RINGr_STATE_LOOP_VALID r])) ∧
          t = { s with regs := t.regs, rve := { s.rve with mb := t.rve.mb } })) ∧
      ((s.mb n).stage = 2 →
        ((∀ r, r < 4 → natBit mask r = true → s.ringAligned r = true) →
          ∃ u : State, exec (.ringAlign n loops true wraps) s = .next u.settle ∧ (u.mb n).ready = true ∧ (u.mb n).rsp.getD 2 0 = 0 ∧
            (∀ r, r < 4 → natBit mask r = true → u.get (F.CUL_RINGr_STATE_STATE r) = 2 ∧
              (u.is (F.CUL_RINGr_STATE_DELAY_SHORT r) = true ↔
                s.cf F.CUL_CONFIG_CUL_INPUT_DELAY < ceilDiv (2 * s.get (F.CUL_RINGr_LOOP_L r)) 64000 + 1 ∨
                s.cf F.CUL_CONFIG_CUL_APPLY_DELAY < ceilDiv (2 * s.get (F.CUL_RINGr_LOOP_L r)) 64000 + 1)) ∧
            s.sameBits u ([0, 1, 2, 3].flatMap (fun r => [F.CUL_RINGr_STATE_STATE r, F.CUL_RINGr_STATE_DELAY_SHORT r])) ∧
            u = { s with regs := u.regs, rve := { s.rve with mb := u.rve.mb } }) ∧
        ((s.mb n).inStage < 20000 → exec (.ringAlign n loops false wraps) s = .next s) ∧
        (20000 ≤ (s.mb n).inStage → exec (.ringAlign n loops false wraps) s = .next (s.respond n .timeout [])))) ∧
    (∀ q ready woke, s.takes n 0x09 = true → (s.mb n).arg 1 1 = q →
      (3 < mask ∨ q = 0 ∨ 96 < q → exec (.wakeRemote n woke ready) s = .next (s.respond n .badArg [])) ∧
      (mask ≤ 3 → 1 ≤ q → q ≤ 96 →
        (s.held &&& resRing mask ≠ 0 → exec (.wakeRemote n woke ready) s = .next (s.respond n .busy [])) ∧
        (s.held &&& resRing mask = 0 → (s.ringPolders mask).all s.isOn = false →
          exec (.wakeRemote n woke ready) s = .next (needs (s.ringPolders mask))) ∧
        (s.held &&& resRing mask = 0 → (s.ringPolders mask).all s.isOn = true →
          (s.cf (F.CUL_RINGr_SLEEP_FIRST_ASLEEP mask) ≠ q ∨ s.relayFull mask q = true →
            exec (.wakeRemote n woke ready) s = .next (s.respond n .refusedState [])) ∧
          (s.cf (F.CUL_RINGr_SLEEP_FIRST_ASLEEP mask) = q → s.relayFull mask q = false →
            ∃ u : State, exec (.wakeRemote n woke ready) s = .next u.settle ∧ u.runs n 0x09 = true ∧ (u.mb n).stage = 1 ∧
              (u.mb n).tides = 0 ∧ u.held &&& resRing mask ≠ 0 ∧
              (1 < q → codes u mask (q - 1) = codes s mask (q - 1) ++ [0x33] ∧ u.regs = s.regs) ∧
              (q = 1 → s.noTransmit = false →
                u.is (F.CUL_Pn_STATUS_TX_AWAKE (if s.twn.operating then mask else 2 * mask)) = true) ∧ u.cfg = s.cfg)))) ∧
    (∀ q ready woke, s.runs n 0x09 = true → (s.mb n).arg 1 1 = q → mask ≤ 3 →
      ((s.mb n).stage = 1 →
        (1024 ≤ (s.mb n).inStage → ready = true → ∃ t : State, exec (.wakeRemote n woke ready) s = .next t ∧ (t.mb n).stage = 2 ∧
          t = { s with rve := { s.rve with mb := t.rve.mb }, cul := { s.cul with unwrap := s.cul.unwrap.set mask true } }) ∧
        ((s.mb n).inStage < 1024 → ready = true → exec (.wakeRemote n woke ready) s = .next s) ∧
        (ready = false → exec (.wakeRemote n woke ready) s =
          .next (if 50000 ≤ (s.mb n).tides then s.respond n .timeout [] else s))) ∧
      ((s.mb n).stage = 2 →
        (woke = true → s.appears mask q s.tide = true → exec (.wakeRemote n woke ready) s =
          .next ((s.setMb n { s.mb n with stage := 3, inStage := 0 }).internalCommit n
            [(F.CUL_RINGr_SLEEP_FIRST_ASLEEP mask, if s.positions mask < q + 1 then 0 else q + 1)] .ok []).settle) ∧
        (woke = true → s.appears mask q s.tide = false → exec (.wakeRemote n woke ready) s = .next s) ∧
        (woke = false → exec (.wakeRemote n woke ready) s =
          .next (if 50000 ≤ (s.mb n).tides then s.respond n .timeout [] else s))))

/-! ## Tides, frames, modulation and gate drive (chapters 5, 8 and 10) -/

/-- R151, R152, R158, R159, R177, R408, R165, R261, R262, R265, R222 to R229, R32, R236: a boundary gives the tide its number
and time. A station's boundary sends on every awake port of an enabled ring an intact frame of the tide, with the ring's ID
and the apply delay; with the decision completed the entries are those of the commanded states, and with no cell in an
unplanned exit and no operation on a spare each stack's commanded level has moved by one at most; in DPC the comparators
follow R223, and the levels move by one of the two vectors of the direction of Tables 7-2 and 7-3, or the tide counts as
blocked. A device's slot buffer takes the record of the core, or repeats the old one with STALE; a cell executes the entry of
the tide, state and AFE enable and Sluice, or counts its absence. Without polder 5 nothing happens. Rests also on the model's
choices: assumptions 4, 15, 29, 31, 58, 80. -/
def Obligations.TideBoundaries : Prop :=
  ∀ (s : State) (done : Bool) (offset : Nat),
    (s.isOn 5 = false ∨ (s.isStation = false ∧ s.cul.running = false) →
      exec (.tideBoundary done offset) s = .next (s.spaced .tide)) ∧
    (s.isOn 5 = true → s.isStation = true → s.twn.operating = false → ∃ u : State,
      exec (.tideBoundary done offset) s = .next u.settle ∧ u.tide = s.nextTide % 2 ^ 32 ∧
      u.get F.TIM_TIDE_NUM_VALUE = s.nextTide % 2 ^ 32 ∧ u.get F.TIM_TIDE_NS_VALUE = s.boundaryNs (offset % 32) % 2 ^ 32 ∧
      (∀ r d, r < 4 → d < 2 → s.cfIs (F.CUL_RINGr_FORMAT_ENABLE r) = true → s.discovering r = false →
        (∀ n, s.runs n 0x30 = false) → s.txAwake (2 * r + d) = true → s.cul.leaving ≠ some 0 → s.cul.ports.length = 10 →
        s.cf F.CUL_CONFIG_CUL_APPLY_DELAY < 128 → ∃ f : TideFrame, (u.cport (2 * r + d)).tx = .frame f ∧ f.intact = true ∧
          f.tide = s.nextTide % 2 ^ 32 ∧ f.ringId = s.ringId r % 256 ∧ f.apply = s.cf F.CUL_CONFIG_CUL_APPLY_DELAY) ∧
      (done = false → u.cul.decided = false) ∧
      (done = true → s.gridRuns = true → u.cul.decided = true ∧ (s.cul.cmds.length = 4 → ∀ r, r < 3 →
        u.cul.cmds.getD r [] = (List.range (s.positions r)).map (fun i => u.entryOf r (i + 1) u.spareEntries))) ∧
      (s.gridRuns = true → s.spr.ops = [] → u.spr.ops = [] →
        (∀ x q, x < 3 → 1 ≤ q → q ≤ 48 → (u.pos x q).sluice = false ∧ (u.pos x q).fault < 3) →
        ∀ x, x < 3 → (u.level x - s.level x).natAbs ≤ 1) ∧
      (done = true → s.gridRuns = true → s.ctl = 1 → u.ctl = 1 →
        let c := powerComparators s.dpc.sP s.dpc.sQ (u.getS F.DPC_PREF_VALUE - u.getS F.OBS_P_VALUE)
          (u.getS F.DPC_QREF_VALUE - u.getS F.OBS_Q_VALUE) (u.cf F.DPC_HYST_HP * 2 ^ 8) (u.cf F.DPC_HYST_HQ * 2 ^ 8)
        let v := stepVectors (stepDirection (fluxSector ((u.get F.OBS_ANGLE_VALUE + 3 * 2 ^ 30) % 2 ^ 32)) c.1 c.2)
        let delta := [0, 1, 2].map (fun x => u.level x - s.level x)
        let count := F.DPC_COUNTS_BLOCKED
        u.dpc.sP = c.1 ∧ u.dpc.sQ = c.2 ∧
        (s.spr.ops = [] → u.spr.ops = [] → (∀ x q, x < 3 → 1 ≤ q → q ≤ 48 → (u.pos x q).sluice = false ∧ (u.pos x q).fault < 3) →
          (c.1 = 0 → delta = [0, 0, 0] ∧ u.get count = s.get count) ∧
          (c.1 ≠ 0 → ((delta = v.1 ∨ delta = v.2) ∧ u.get count = s.get count) ∨
            (delta = [0, 0, 0] ∧ u.get count = satInc count.w (s.get count)))))) ∧
    (s.isOn 5 = true → s.isCell = true ∨ s.isPort = true → s.cul.running = true → ∃ u : State,
      exec (.tideBoundary done offset) s = .next u.settle ∧ u.tide = s.nextTide % 2 ^ 32 ∧
      u.get F.TIM_TIDE_NUM_VALUE = s.nextTide % 2 ^ 32 ∧ u.get F.TIM_TIDE_NS_VALUE = s.boundaryNs (offset % 32) % 2 ^ 32 ∧
      (done = true → u.cul.slot = u.cul.record ∧ u.cul.record.take 2 = leBytes 2 s.recVdc) ∧
      (done = false → u.cul.record = s.cul.record ∧
        u.cul.slot = patch s.cul.record 2 [s.cul.record.getD 2 0 ||| 1]) ∧
      (s.isCell = true → s.isOn 10 = true → s.mod.frozen = false → s.cul.tideMatch = 16 → s.get F.CUL_ALIGN_STATE ≠ 0 →
        (∀ v, bestEntry s.cul.entries s.nextTide = some v → u.mod.entry = v ∧ u.mod.missing = 0 ∧
          u.is F.MOD_STATUS_CMD_LOST = false ∧ u.get F.MOD_AFE_STATE_PENDING_STATE = v % 4 ∧
          u.get F.MOD_CELL_COUNTS_MISSING = s.get F.MOD_CELL_COUNTS_MISSING ∧
          (natBit v 3 = false → u.mod.afeOn = false) ∧
          (u.mod.afeOn = true → s.mod.afeOn = true → s.get F.MOD_AFE_STATE_DWELL_LEFT ≤ 1 → u.get F.MOD_AFE_STATE_STATE = v % 4 ∧
            (v % 4 ≠ s.get F.MOD_AFE_STATE_STATE → s.mod.func.length = 4 →
              u.mod.func.getD 0 .off = (afeLevels (v % 4)).1 ∧ u.mod.func.getD 1 .off = (afeLevels (v % 4)).2 ∧
              u.get F.MOD_AFE_STATE_DWELL_LEFT = s.cf F.MOD_AFE_CFG_MOD_AFE_DWELL % 2 ^ F.MOD_AFE_STATE_DWELL_LEFT.w)) ∧
          (s.mod.afeOn = true → 2 ≤ s.get F.MOD_AFE_STATE_DWELL_LEFT →
            u.get F.MOD_AFE_STATE_STATE = s.get F.MOD_AFE_STATE_STATE)) ∧
        (bestEntry s.cul.entries s.nextTide = none → u.mod.entry = s.mod.entry ∧
          u.get F.MOD_AFE_STATE_PENDING_STATE = s.get F.MOD_AFE_STATE_PENDING_STATE ∧
          u.get F.MOD_CELL_COUNTS_MISSING = satInc 16 (s.get F.MOD_CELL_COUNTS_MISSING) ∧
          u.mod.missing = min 65535 (s.mod.missing + 1)))) ∧
    (∀ t r d p, s.originPort r d = some p → p < s.cul.ports.length → s.txAwake p = true → ∃ f : TideFrame,
      ((s.originate t r d).cport p).tx = .frame f ∧ f.intact = true ∧ f.tide = t % 2 ^ 32 ∧ f.ringId = s.ringId r % 256 ∧
      f.apply = s.cf F.CUL_CONFIG_CUL_APPLY_DELAY ∧ ∀ q, q ≠ p → (s.originate t r d).cport q = s.cport q)

/-- R143, R149, R161, R163: a frame on a port that is not UP, or without a running PLL, is not taken. A bad CRC is counted
and, in a device of a ring, forwarded stomped; at a wrapped port the frame is dropped. A station keeps the records of an
intact frame of its ring, and the header's flags are the peer's status. Rests also on the model's choices: assumptions 4, 27,
96. -/
def Obligations.TideFramesReceived : Prop :=
  ∀ (s : State) (p : Nat) (f : TideFrame) (errors : Nat),
    let code := F.CUL_Pn_ERRORS_CODE p
    let counted : State → Prop := fun u => u.get code = min 65535 (s.get code + errors)
    (s.portOn p = false ∨ s.get (F.CUL_Pn_STATUS_RX_STATE p) ≠ 5 ∨ s.pllRuns = false →
      ∃ t : State, exec (.tideFrameReceived p f errors) s = .next t ∧ s.onlyFields t [code] ∧
        (p < 10 → s.isOn (portPolder p) = true → s.get (F.CUL_Pn_STATUS_RX_STATE p) ≠ 0 → counted t) ∧
        (10 ≤ p ∨ s.isOn (portPolder p) = false ∨ s.get (F.CUL_Pn_STATUS_RX_STATE p) = 0 → t = s)) ∧
    (s.Inv → s.portOn p = true → s.get (F.CUL_Pn_STATUS_RX_STATE p) = 5 → s.pllRuns = true → f.header.length = 16 →
      32 ≤ f.body.length → s.usedPorts.contains p = true →
      let count := if f.stomped = true then F.CUL_Pn_CRC_STOMPED p else F.CUL_Pn_CRC_BAD p
      (s.isStation = true → f.intact = false → ∃ u : State, exec (.tideFrameReceived p f errors) s = .next u.settle ∧
        u.get count = satInc 16 (s.get count) ∧ counted u ∧ s.onlyFields u [count, code]) ∧
      (s.isStation = false → f.intact = false → s.is (F.CUL_Pn_STATUS_WRAPPED p) = true → ∃ u : State,
        exec (.tideFrameReceived p f errors) s = .next u.settle ∧ u.get count = satInc 16 (s.get count) ∧ counted u ∧
        u.get F.CUL_COUNTS_DROP = satInc 16 (s.get F.CUL_COUNTS_DROP) ∧
        s.onlyFields u [count, code, F.CUL_COUNTS_DROP]) ∧
      (s.isStation = false → f.intact = false → s.is (F.CUL_Pn_STATUS_WRAPPED p) = false →
        s.is (F.CUL_Pn_STATUS_WRAPPED (1 - p)) = false → s.usable (1 - p) = true → s.txAwake (1 - p) = true → ∃ u : State,
        exec (.tideFrameReceived p f errors) s = .next u.settle ∧ u.get count = satInc 16 (s.get count) ∧ counted u ∧
        ∃ g : TideFrame, (u.cport (1 - p)).tx = .frame g ∧ g.stomped = true ∧ g.body.length = f.body.length ∧
          g.header.length = 16) ∧
      (∀ r, s.isStation = true → s.twn.operating = false → f.intact = true → s.portRing p = some r → f.ringId = s.ringId r →
        f.apply ≠ 0 → ∃ u : State, exec (.tideFrameReceived p f errors) s = .next u.settle ∧ counted u ∧
          u.is (F.CUL_Pn_STATUS_PEER_RX_UP p) = f.flagBit 4 ∧ u.is (F.CUL_Pn_STATUS_PEER_ROOTED p) = f.flagBit 3 ∧
          u.is (F.CUL_Pn_STATUS_LEAVING_SEEN p) = f.flagBit 7 ∧
          (⟨r, f.dir, f.tide, s.tide, f.isWrapped, bytesAt f.body (s.cmdBytes r) (s.positions r * s.recSize r)⟩ : RecFrame) ∈
            u.cul.recs))

/-- R304, R306, R307, R308, R318, R355: a channel is on only with both Warden enables present, polder 13 on, no undervoltage
and no hold of its half-bridge (a chopper half-bridge excepted from the OV3 block): so it is after the outputs have followed
their causes, and every step from a state in which it is so leads to such a state. With nothing of ranks 1 to 5 the switches
of a half-bridge are on as its function asks. Unless a function or a frozen input asks for both switches, the two of a
half-bridge are never on together. Rests also on the model's choices: assumptions 50, 52, 102. -/
def Obligations.GatesFollowTheirCauses : Prop :=
  ∀ s : State,
    (∀ k, k < 9 → s.drive.gateOn k = true → s.isOn 13 = true ∧ s.pulsesReleased = true ∧
      natBit (s.get F.GDR_CH_STATUS_UVLO) k = false) ∧
    (∀ k, k < 8 → s.drive.gateOn k = true → s.drive.hbHeld (k / 2) = false ∧ (s.chopHb (k / 2) = true ∨ s.ov3Holds = false)) ∧
    (∀ t : State, s.Inv → step s = .next t →
      (∀ k, k < 9 → s.gateOn k = true → s.isOn 13 = true ∧ s.pulsesReleased = true ∧
        natBit (s.get F.GDR_CH_STATUS_UVLO) k = false ∧ (k < 8 → s.hbHeld (k / 2) = false)) →
      ∀ k, k < 9 → t.gateOn k = true → t.isOn 13 = true ∧ t.pulsesReleased = true ∧
        natBit (t.get F.GDR_CH_STATUS_UVLO) k = false ∧ (k < 8 → t.hbHeld (k / 2) = false)) ∧
    (∀ n, n < 4 → s.isOn 10 = true → s.isOn 13 = true → s.placed = true → s.pulsesReleased = true → s.ov3Holds = false →
      s.mod.frozen = false → s.mod.en = true → (∀ m, m < 4 → s.tripLevel m = none) → s.get F.GDR_CH_STATUS_UVLO = 0 →
      s.hbHeld n = false → s.is F.GDR_STATUS_CHOP_FAULT = false → s.gdr.notch.getD n none = none →
      s.drive.gateOn (2 * n) = (s.funcLevel n == .high || s.funcLevel n == .both) ∧
      s.drive.gateOn (2 * n + 1) = (s.funcLevel n == .low || s.funcLevel n == .both)) ∧
    (s.mod.frozen = false → (∀ n, n < 4 → s.mod.func.getD n .off ≠ .both) → ∀ n, n < 4 → s.chopHb n = false →
      ¬(s.drive.gateOn (2 * n) = true ∧ s.drive.gateOn (2 * n + 1) = true)) ∧
    (s.isOn 10 = false ∨ (s.mod.en = false ∧ s.mod.frozen = false ∧ s.get F.MOD_TRIP_STATUS_LATCHED = 0 ∧ s.mod.releasing = 0) →
      s.drive.gatesOff)

/-- R253, R255, R334, R278, R279: MOD_CTRL EN: 1 waits for the boundary and is refused by Breach, 0 turns every gate off at
once that no trip forces on; writes in a freeze do nothing. A freeze stops the clocks and keeps what the host reads of MOD_
registers; their return leaves EN 0 with FROZEN, source 73 and fault 81. Rests also on the model's choices: assumption 4. -/
def Obligations.EnableAndFreeze : Prop :=
  ∀ s : State, s.isOn 10 = true →
    (s.mod.frozen = false → s.is F.MOD_CTRL_EN = false → s.pwr.breach = false →
      ∃ u : State, exec (.modEnWrite true) s = .next u.settle ∧ u.is F.MOD_CTRL_EN = true ∧ u.is F.MOD_STATUS_ENABLED = true ∧
        s.onlyFields u [F.MOD_CTRL_EN, F.MOD_STATUS_ENABLED]) ∧
    (s.mod.frozen = true ∨ s.pwr.breach = true → exec (.modEnWrite true) s = .next s.settle) ∧
    (s.mod.frozen = false → s.is F.MOD_CTRL_EN = true → ∃ u : State, exec (.modEnWrite false) s = .next u.settle ∧
      u.is F.MOD_CTRL_EN = false ∧ u.is F.MOD_STATUS_ENABLED = false ∧ u.mod.en = false ∧
      (s.get F.MOD_TRIP_STATUS_LATCHED = 0 → s.mod.releasing = 0 → u.gatesOff)) ∧
    (s.mod.frozen = false → ∃ t : State, exec .jtagFreeze s = .next t ∧ t.mod.frozen = true ∧
      (∀ a, a / 65536 = 7 → State.word { t with regs := t.mod.stopRegs } a = s.word a ∧
        State.cfgWord { t with cfg := t.mod.stopCfg } a = s.cfgWord a) ∧
      (∀ a straps, a / 65536 = 7 → (t.hostWord straps a).1 = (s.hostWord straps a).1) ∧
      t = { s with mod := { s.mod with frozen := true, stopRegs := t.mod.stopRegs, stopCfg := t.mod.stopCfg } }) ∧
    (s.mod.frozen = true → exec .jtagFreeze s = .next s) ∧
    (s.mod.frozen = true → ∃ u : State, exec .modulatorClockResume s = .next (u.fault 81).settle ∧ u.mod.frozen = false ∧
      u.is F.MOD_CTRL_EN = false ∧ u.mod.en = false ∧ u.is F.MOD_STATUS_FROZEN = true ∧
      u.pends 73 = (s.isOn 1 || s.pends 73))

/-- R274 to R277: an active trip latches and forces its levels at once; its end leaves the latch; one that is not enabled, or
whose filter a freeze stops, does neither; a clear of an active trip is refused with fault 80, of an inactive one holds the
levels until the boundary. R265, R270: after MOD_CMD_LOSS missing commands CMD_LOST is set with source 71, and a cell's AFE
legs are OFF. Rests also on the model's choices: assumptions 4, 53. -/
def Obligations.TripsAndCommandLoss : Prop :=
  (∀ (s : State) (t : Nat), t < 4 →
    (s.tripSeen t = true → natBit (s.get F.MOD_TRIP_STATUS_LATCHED) t = false → ∃ u : State,
      exec (.tripActive t) s = .next u.settle ∧ natBit (u.get F.MOD_TRIP_STATUS_ACTIVE) t = true ∧
      natBit (u.get F.MOD_TRIP_STATUS_LATCHED) t = true ∧ u.is F.MOD_STATUS_TRIPPED = true ∧
      u.pends (64 + t) = (s.isOn 1 || s.pends (64 + t)) ∧
      (∀ n l, n < 4 → s.placed = true → u.tripLevel n = some l → u.mod.inp.getD n .off = l) ∧
      (∀ k, k < 4 → k ≠ t → natBit (u.get F.MOD_TRIP_STATUS_LATCHED) k = natBit (s.get F.MOD_TRIP_STATUS_LATCHED) k)) ∧
    (s.tripSeen t = true → natBit (s.get F.MOD_TRIP_STATUS_ACTIVE) t = true → ∃ u : State,
      exec (.tripInactive t) s = .next u.settle ∧ natBit (u.get F.MOD_TRIP_STATUS_ACTIVE) t = false ∧ u.tripLand t = false ∧
      (∀ k, k ≠ t → u.pins.trips.getLsbD k = s.pins.trips.getLsbD k) ∧ s.sameBits u [F.MOD_TRIP_STATUS_ACTIVE] ∧
      u = { s with regs := u.regs, pins := { s.pins with trips := u.pins.trips } }) ∧
    (∀ active, s.tripSeen t = false → ∃ u : State,
      exec (if active then .tripActive t else .tripInactive t) s = .next u.settle ∧ u.tripLand t = active ∧
      u = { s with pins := { s.pins with trips := u.pins.trips } }) ∧
    (∀ mask : BitVec 4, mask = 1#4 <<< t → s.isOn 10 = true → s.mod.frozen = false →
      (natBit (s.get F.MOD_TRIP_STATUS_LATCHED) t = false → exec (.tripClear mask) s = .next s.settle) ∧
      (natBit (s.get F.MOD_TRIP_STATUS_LATCHED) t = true → natBit (s.get F.MOD_TRIP_STATUS_ACTIVE) t = true → ∃ u : State,
        exec (.tripClear mask) s = .next (u.fault 80).settle ∧ natBit (u.get F.MOD_TRIP_STATUS_REFUSED) t = true ∧
        u.get F.MOD_TRIP_STATUS_LATCHED = s.get F.MOD_TRIP_STATUS_LATCHED ∧ u.pends 68 = (s.isOn 1 || s.pends 68) ∧
        s.sameBits u [F.MOD_TRIP_STATUS_REFUSED] ∧ u = { s with regs := u.regs, int := u.int, str := u.str }) ∧
      (natBit (s.get F.MOD_TRIP_STATUS_LATCHED) t = true → natBit (s.get F.MOD_TRIP_STATUS_ACTIVE) t = false → ∃ u : State,
        exec (.tripClear mask) s = .next u.settle ∧ natBit (u.get F.MOD_TRIP_STATUS_LATCHED) t = false ∧
        u.mod.releasing.getLsbD t = true ∧ u.tripForces t = true ∧
        (u.is F.MOD_STATUS_TRIPPED = true ↔ s.get F.MOD_TRIP_STATUS_LATCHED ≠ 2 ^ t)))) ∧
  (∀ s : State,
    (s.modRuns = true → s.isCell = true ∨ s.isPort = true → s.is F.MOD_STATUS_CMD_LOST = false → s.Inv →
      s.cf F.MOD_AFE_CFG_MOD_CMD_LOSS ≤ s.mod.missing → ∃ u : State, exec .commandLoss s = .next u.settle ∧
        u.is F.MOD_STATUS_CMD_LOST = true ∧ u.pends 71 = (s.isOn 1 || s.pends 71) ∧
        (s.isCell = true → u.mod.afeOn = false ∧ u.mod.func.getD 0 .off = .off ∧ u.mod.func.getD 1 .off = .off) ∧
        (s.isPort = true → s.onlyFields { u with int := s.int, str := s.str } [F.MOD_STATUS_CMD_LOST])) ∧
    (s.modRuns = false ∨ s.is F.MOD_STATUS_CMD_LOST = true ∨ s.mod.missing < s.cf F.MOD_AFE_CFG_MOD_CMD_LOSS →
      exec .commandLoss s = .next s))

/-- R267, R268, R269, R272, R273: an edge of a running bridge flips its level and takes the phase formed at the edge before,
and the next phase lies within one step of it; a bridge starts and halts at quarter-points; an inverter latches its
references at a valley and uses them from the peak on. R314 to R320, R324: comparators, the OV2 and OV3 states, the chopper
with its check, the bus monitor, and a Sluice mismatch. Rests also on the model's choices: assumptions 4, 52, 54, 55. -/
def Obligations.BridgesLegsAndChopper : Prop :=
  (∀ (s : State) (b : Nat), s.modRuns = true → b < s.mod.bridges.length →
    (s.dabBridges.contains b = true → (s.bridge b).run = .running → ∃ u : State,
      exec (.dabHalfCycleEdge b) s = .next u.settle ∧ (u.bridge b).high = !(s.bridge b).high ∧
      (u.bridge b).edges = (s.bridge b).edges + 1 ∧ (u.bridge b).psi = (s.bridge b).psiNext ∧ (u.bridge b).run = .running ∧
      (toSigned 32 (ofSigned 32 ((u.bridge b).psiNext - (u.bridge b).psi : Int))).natAbs ≤
        s.cf F.MOD_DAB_CFG_MOD_DAB_STEP * 65536 ∧
      (s.isCell = true → u.get F.MOD_DAB_PHASE_PHASE = (s.bridge b).psiNext % 2 ^ 32) ∧
      (∀ k, k ≠ b → u.bridge k = s.bridge k)) ∧
    (s.dabBridges.contains b = true → s.Inv →
      ((s.bridge b).run = .running → 2 ≤ (s.bridge b).edges → s.dabMode = 0 → ∀ second, ∃ u : State,
        exec (.dabQuarterPoint b second) s = .next u.settle ∧ (u.bridge b).run = .off ∧
        u.mod.func.getD (s.bridgeHb b) .off = .off ∧ u.mod.func.getD (s.bridgeHb b + 1) .off = .off) ∧
      ((s.bridge b).run ≠ .running → s.dabMode = 1 ∨ s.dabMode = 2 → ∀ second, ∃ u : State,
        exec (.dabQuarterPoint b second) s = .next u.settle ∧ (u.bridge b).run = .running ∧
        (u.bridge b).psi = s.startPhase b ∧ (u.bridge b).high = !second)) ∧
    (s.isInverter = true → ∃ u : State, exec .inverterCarrierValley s = .next u.settle ∧ u.mod.invRef = s.mod.invRef ∧
      (natBit s.mod.entry 1 = true → u.mod.invLatched = s.mod.invLatched) ∧
      (natBit s.mod.entry 1 = false → ∀ l, l < 4 → u.mod.invLatched.getD l 0 =
        clampInt (-(2 ^ 24)) (2 ^ 24) (s.getS (F.LPE_LOOPn_OUT_VALUE (s.invLoop l))))) ∧
    (s.isInverter = true → ∃ u : State, exec .inverterCarrierPeak s = .next u.settle ∧ u.mod.invRef = s.mod.invLatched ∧
      u.mod.invRun = natBit s.mod.entry 0 ∧
      ∀ l, l < 4 → u.get (F.MOD_INV_REFl_REF l) = ofSigned (F.MOD_INV_REFl_REF l).w (s.mod.invLatched.getD l 0))) ∧
  (∀ s : State, s.isOn 13 = true →
    (∀ k above, 1 ≤ k → k ≤ 3 → s.cfIs (F.GDR_OVk_CFG_EN k) = true → s.gdr.above.getLsbD (k - 1) ≠ above →
      ∃ u : State, exec (.ovComparatorChange k above) s = .next u.settle ∧ u.gdr.above.getLsbD (k - 1) = above ∧
        (∀ j, j < 3 → j ≠ k - 1 → u.gdr.above.getLsbD j = s.gdr.above.getLsbD j) ∧
        u.is F.GDR_STATUS_OV1_ABOVE = u.gdr.above.getLsbD 0 ∧
        u.is F.GDR_STATUS_OV2_ACTIVE = ((s.is F.GDR_STATUS_CHOP_FAULT && u.gdr.above.getLsbD 0) || u.gdr.above.getLsbD 1) ∧
        (k = 3 → above = true → u.is F.GDR_STATUS_OV3_BLOCK = true ∧
          ∀ n, n < 4 → s.chopHb n = false → u.gateOn (2 * n) = false ∧ u.gateOn (2 * n + 1) = false)) ∧
    (s.cfIs F.GDR_CHOP_CFG_EN = true → s.is F.GDR_STATUS_CHOP_FAULT = false → s.gdr.above.getLsbD 0 = true → s.gdr.chop = false →
      ∃ u : State, exec .chopperTurnOn s = .next u.settle ∧ u.gdr.chop = true ∧ u.gdr.check = true ∧
        u.get F.GDR_BUS_V_ON = s.get F.GDR_BUS_VALUE ∧
        u.get F.GDR_CHOP_COUNT_COUNT = satInc 32 (s.get F.GDR_CHOP_COUNT_COUNT)) ∧
    (s.gdr.chop = true → s.gdr.above.getLsbD 0 = false → ∃ u : State, exec .chopperTurnOff s = .next u.settle ∧
      u.gdr.chop = false ∧ u.gdr.check = false) ∧
    (s.gdr.check = true → s.is F.GDR_STATUS_CHOP_FAULT = false → ∃ u : State, exec .chopperCheckFailed s = .next u.settle ∧
      u.is F.GDR_STATUS_CHOP_FAULT = true ∧ u.gdr.chop = false ∧ u.gdr.check = false ∧
      u.pends 84 = (s.isOn 1 || s.pends 84)) ∧
    (∀ v : BitVec 12, ∃ t : State, exec (.busMonitorSample v) s = .next t ∧ t.get F.GDR_BUS_VALUE = v.toNat ∧
      t.gdr.check = (s.gdr.check && !decide (v.toNat ≤ s.get F.GDR_BUS_V_ON - s.get F.GDR_BUS_V_ON / 50)) ∧
      t = { s with regs := t.regs, gdr := { s.gdr with check := t.gdr.check } } ∧ s.sameBits t [F.GDR_BUS_VALUE]) ∧
    (∀ a b, a ≠ s.is F.GDR_SLUICE_CMD ∨ b ≠ s.is F.GDR_SLUICE_CMD → ∃ u : State,
      exec (.sluiceMismatch a b) s = .next (u.fault 90).settle ∧ u.is F.GDR_SLUICE_MISMATCH = true ∧
      u.is F.GDR_SLUICE_A_LAND = a ∧ u.is F.GDR_SLUICE_B_LAND = b ∧ u.pends 87 = (s.isOn 1 || s.pends 87) ∧
      s.sameBits u [F.GDR_SLUICE_MISMATCH, F.GDR_SLUICE_A_LAND, F.GDR_SLUICE_B_LAND] ∧
      u = { s with regs := u.regs, int := u.int, str := u.str }))

/-- R305, R307, R308, R309, R313: a fault of a half-bridge names its cause, holds it with both switches off, is counted once
and raises its source; the hold ends at an edge of a named channel made since the causes are gone, by HALF_BRIDGE_HOLD_END,
and while polder 13 stays on no other command ends one. R310, R311: BS_WARN of a bootstrapped high switch; at GDR_BSMAX a
notch is counted and the warning ends, the high switch turning off, or without refresh the half-bridge faults; with no room
for a notch nothing happens. Rests also on the model's choices: assumptions 4, 50, 52, 102. -/
def Obligations.HalfBridgeFaultsAndBootstrap : Prop :=
  (∀ (s : State) (n : Nat), s.Inv → n < 4 → s.isOn 13 = true →
    (∀ c cause, (∃ k, c = .desaturation k ∧ k < 8 ∧ n = k / 2 ∧ cause = 1 + k % 2 ∧
          natBit (s.cf F.GDR_CHAN_CFG_DESAT_EN) k = true ∧ s.gateOn k = true) ∨
        (c = .bothOnRefused n ∧ cause = 5) ∨ (c = .dieBootstrapLimit n ∧ cause = 6 ∧ natBit (s.cf F.GDR_CHAN_CFG_BS_EN) n = true ∧ s.gateOn (2 * n) = true) →
      s.chopHb n = false → ∃ u : State, exec c s = .next u.settle ∧ u.hbHeld n = true ∧
        (u.word (R.GDR_HBn_FAULT n)).getLsbD cause = true ∧ u.gateOn (2 * n) = false ∧ u.gateOn (2 * n + 1) = false ∧
        u.get (F.GDR_HBn_FAULT_COUNT n) = (if s.hbHeld n then s.get (F.GDR_HBn_FAULT_COUNT n)
          else satInc 16 (s.get (F.GDR_HBn_FAULT_COUNT n))) ∧
        (s.hbHeld n = false → u.pends (80 + n) = (s.isOn 1 || s.pends (80 + n)))) ∧
    (∀ k, s.isOn 13 = true → k < 9 → s.chopChannel k = true → natBit (s.cf F.GDR_CHAN_CFG_DESAT_EN) k = true →
      s.gateOn k = true → s.is F.GDR_STATUS_CHOP_FAULT = false → ∃ u : State, exec (.desaturation k) s = .next u.settle ∧
        u.is F.GDR_STATUS_CHOP_FAULT = true ∧ u.gdr.chop = false) ∧
    (s.hbHeld n = false ∨ s.namedEdge n = false → exec (.halfBridgeHoldEnd n) s = .next s.settle) ∧
    (∀ (c : Instr) (t : State), c ≠ .halfBridgeHoldEnd n → exec c s = .next t → s.hbHeld n = true → t.isOn 13 = true → t.hbHeld n = true) ∧
    (s.hbHeld n = true → s.namedEdge n = true → ∃ u : State, exec (.halfBridgeHoldEnd n) s = .next u.settle ∧
      u.pends (80 + n) = (s.isOn 1 || s.pends (80 + n)) ∧
      (natBit (s.get F.GDR_CH_STATUS_UVLO) (2 * n) = false → natBit (s.get F.GDR_CH_STATUS_UVLO) (2 * n + 1) = false →
        u.hbHeld n = false ∧ u.gdr.cause.getD n 0 = 0) ∧
      (s.get F.GDR_CH_STATUS_UVLO = 0 → ∀ m, m < 4 → m ≠ n → u.hbHeld m = s.hbHeld m)) ∧
    (∀ k under, k < 9 → ∃ u : State, exec (.channelUndervoltage k under) s = .next u.settle ∧
      natBit (u.get F.GDR_CH_STATUS_UVLO) k = under ∧ (under = true → u.gateOn k = false) ∧
      ∀ m, m < 9 → m ≠ k → natBit (u.get F.GDR_CH_STATUS_UVLO) m = natBit (s.get F.GDR_CH_STATUS_UVLO) m) ∧
    (∀ k, k < 9 → ∃ t : State, exec (.dieRefreshLoss k) s = .next t ∧ t.gateOn k = false ∧
      (∀ m, m ≠ k → t.gateOn m = s.gateOn m) ∧ t.get F.GDR_CH_STATUS_ON = t.pins.gates.toNat ∧
      t = { s with regs := t.regs, pins := t.pins } ∧ s.sameBits t [F.GDR_CH_STATUS_ON, F.GDR_STATUS_CHOP_ON])) ∧
  (∀ (s : State) (n : Nat), s.Inv → s.bootstrapped n = true →
    (∃ t : State, exec (.bootstrapWarn n) s = .next t ∧ natBit (t.get F.GDR_STATUS_BS_WARN) n = true ∧
      s.onlyFields t [F.GDR_STATUS_BS_WARN]) ∧
    (∀ off, s.unheld n = true →
      (natBit (s.cf F.GDR_CHAN_CFG_REFRESH_EN) n = false → ∃ u : State, exec (.bootstrapMaxReached n off) s = .next u.settle ∧
        u.hbHeld n = true ∧ (u.word (R.GDR_HBn_FAULT n)).getLsbD 6 = true ∧ u.gateOn (2 * n) = false) ∧
      (natBit (s.cf F.GDR_CHAN_CFG_REFRESH_EN) n = true → s.noNotch n off = true →
        exec (.bootstrapMaxReached n off) s = .next s.settle) ∧
      (natBit (s.cf F.GDR_CHAN_CFG_REFRESH_EN) n = true → s.noNotch n off = false → ∃ u : State,
        exec (.bootstrapMaxReached n off) s = .next u.settle ∧
        u.get F.GDR_BS_NOTCH_COUNT = satInc 32 (s.get F.GDR_BS_NOTCH_COUNT) ∧
        natBit (u.get F.GDR_STATUS_BS_WARN) n = false ∧ (u.gateOn (2 * n) = false ∧ (s.gateOn (2 * n + 1) = false →
          s.funcLevel n = .high → u.gateOn (2 * n + 1) = false)) ∧
        (s.funcLevel n = .high → u.gdr.notch.getD n none = some ⟨s.tim.now, 0⟩) ∧
        (s.funcLevel n = .high → s.gdr.notch.length = 4 → u.mod.func = s.mod.func))))

/-! ## Faults, interrupts, Strata and the Wardens (chapters 11 and 12) -/

/-- R328, R330, R331, R334: an event of a source: its class is the base class, one higher while a source of that class is
sticky; it becomes sticky with the highest class it had, its class's count and interrupt follow, and a Breach clears EN of a
powered modulator. The collector makes every new signal and pulse an event. -/
def Obligations.FaultEventsAreClassed : Prop :=
  ∀ (s : State) (n : Nat), n < 128 → s.Inv →
    (s.baseClass n = none → s.faultEvent n = s) ∧
    (∀ b, s.baseClass n = some b →
      let up := s.stickyAt b
      let c := if up then min 3 (b + 1) else b
      let t := s.faultEvent n
      t.flt.sticky = s.flt.sticky ||| (1#128 <<< n) ∧
      t.effClass n = (if s.flt.sticky.getLsbD n then max c (s.effClass n) else c) ∧
      (∀ m, m < 128 → m ≠ n → t.effClass m = s.effClass m) ∧
      t.flt.events.getD c 0 = satInc 16 (s.flt.events.getD c 0) ∧ (∀ k, k ≠ c → t.flt.events.getD k 0 = s.flt.events.getD k 0) ∧
      (s.isOn 1 = true → t.pends (160 + c) = true ∧ (up = true → t.pends 165 = true)) ∧
      (c = 3 → t.pwr.breach = true ∧ (s.isOn 10 = true → t.is F.MOD_CTRL_EN = false ∧ t.mod.en = false)) ∧
      (c ≠ 3 → t.pwr = s.pwr ∧ t.mod = s.mod ∧ t.pins = s.pins) ∧ t.cfg = s.cfg ∧ t.rve = s.rve) ∧
    (s.isOn 1 = true → s.flt.wiring = false → s.flt.prev.getLsbD n = false → s.baseClass n ≠ none →
      n < 76 ∨ 80 ≤ n →
      s.flt.pulses.getLsbD n = true ∨ s.levelSignals.getLsbD n = true →
        s.collect.flt.sticky.getLsbD n = true ∧ s.collect.flt.pulses = 0 ∧ s.collect.flt.prev = s.levelSignals)

/-- R331: an event of base class b takes class b + 1, Breach at most, if any source, itself included, is sticky with
effective class b, else class b. The source's effective class becomes the higher of that and its present one, if it is
sticky. An escalated event advances ESCALATED of its new class and raises interrupt source 165. -/
def Obligations.EventsEscalate : Prop :=
  ∀ (s : State) (n b : Nat), n < 128 → s.Inv → s.isOn 1 = true → s.baseClass n = some b →
    let up : Prop := ∃ m, m < 128 ∧ s.flt.sticky.getLsbD m = true ∧ s.effClass m = b
    let t := s.faultEvent n
    (up → t.effClass n = (if s.flt.sticky.getLsbD n then max (s.effClass n) (min 3 (b + 1)) else min 3 (b + 1)) ∧
      t.flt.escalated = s.flt.escalated.set (min 3 (b + 1)) (satInc 16 (s.flt.escalated.getD (min 3 (b + 1)) 0)) ∧ t.pends 165 = true) ∧
    (¬up → t.effClass n = (if s.flt.sticky.getLsbD n then max (s.effClass n) b else b) ∧ t.flt.escalated = s.flt.escalated ∧
      t.pends 165 = s.pends 165) ∧
    (∀ m, m < 128 → m ≠ n → t.effClass m = s.effClass m)

/-- R327, R329, R335, R336, R339: a signal pulses its source; an acknowledgement answers the sources sticky after it, clears
only sources of its mask and none of class Breach, and clears one without an action of its own whose signal is over. A trip,
the frozen modulator, the following errors, the chopper, bus OV3 and the Wardens have their own action applied. An injection
needs factory test and answers FACTORY_ONLY without it; broken wires are noted with source 164. Rests also on the model's
choices: assumptions 4, 73. -/
def Obligations.FaultCommands : Prop :=
  ∀ (s : State) (n : Nat), s.Inv →
    (∀ k, k < 128 → ∃ u : State, exec (.faultEvent k) s = .next u.settle ∧
      u.flt.pulses = (if s.isOn 1 then s.flt.pulses ||| (1#128 <<< k) else s.flt.pulses) ∧
      u = { s with flt := { s.flt with pulses := u.flt.pulses } }) ∧
    (s.takes n 0x60 = true → s.pwr.phase = .starting → exec (.faultAck n) s = .next (s.respond n .refusedState [])) ∧
    (s.takes n 0x60 = true → s.pwr.phase = .stopping → exec (.faultAck n) s = .next (s.respond n .busy [])) ∧
    (s.takes n 0x60 = true → s.pwr.phase ≠ .starting → s.pwr.phase ≠ .stopping → ∃ u : State,
      exec (.faultAck n) s = .next (u.settle.respond n .ok (leBytes 16 u.settle.flt.sticky.toNat)).settle ∧
      ∀ k, k < 128 → (u.flt.sticky.getLsbD k = true → s.flt.sticky.getLsbD k = true) ∧
        (natBit ((s.mb n).arg 0 16) k = false ∨ s.effClass k = 3 → u.flt.sticky.getLsbD k = s.flt.sticky.getLsbD k) ∧
        ((s.mb n).arg 0 16 = 2 ^ k → reservedSource k = false → k ∉ [76, 77, 78, 79, 81, 83, 88, 89, 96, 97, 98] →
          s.levelSignals.getLsbD k = false → s.effClass k ≠ 3 → u.flt.sticky.getLsbD k = false) ∧
        ((s.mb n).arg 0 16 = 2 ^ k → s.flt.sticky.getLsbD k = false ∨ s.effClass k ≠ 3 →
          (∀ j, j < 4 → k = 76 + j →
            let latched := natBit (s.get F.MOD_TRIP_STATUS_LATCHED) j
            let active := natBit (s.get F.MOD_TRIP_STATUS_ACTIVE) j
            (∀ i, i < 4 → natBit (u.get F.MOD_TRIP_STATUS_LATCHED) i =
              (natBit (s.get F.MOD_TRIP_STATUS_LATCHED) i && (i != j || active))) ∧
            (latched = true → active = true → natBit (u.get F.MOD_TRIP_STATUS_REFUSED) j = true ∧
              (s.isOn 1 = true → u.pends 68 = true))) ∧
          (k = 81 → s.isOn 10 = true → s.mod.frozen = false →
            u.is F.MOD_CTRL_EN = (s.is F.MOD_CTRL_EN || (!s.isStation && s.cfIs F.MOD_CONFIG_MOD_EN_AT_START))) ∧
          (k = 83 → ∀ l, l < 32 → (u.loop l).latched = false ∧
            ((s.loop l).latched = true → u.is (F.LPE_LOOPn_FLAGS_FE_LATCHED l) = false ∧ (s.isOn 1 = true → u.pends (96 + l) = true))) ∧
          (k = 88 → u.is F.GDR_STATUS_CHOP_FAULT = false ∧ (s.is F.GDR_STATUS_CHOP_FAULT = true → s.isOn 1 = true → u.pends 84 = true)) ∧
          (k = 89 → u.is F.GDR_STATUS_OV3_BLOCK = (s.is F.GDR_STATUS_OV3_BLOCK && s.gdr.above.getLsbD 2) ∧
            (s.is F.GDR_STATUS_OV3_BLOCK = true → s.gdr.above.getLsbD 2 = false → s.isOn 1 = true → u.pends 86 = true)) ∧
          (96 ≤ k → k ≤ 98 → ∀ b, s.wstate b = wLockout →
            (s.causesAbsent = true → u.wstate b ≠ wLockout ∧ u.wis b F.WRD_A_STATUS_LOCK_CONTACT = false) ∧
            (s.causesAbsent = false → u.wstate b = wLockout)))) ∧
    (∀ factory k, s.takes n 0x61 = true → (s.mb n).arg 0 1 = k →
      (factory = false ∨ s.pwr.latch = none ∨ (∃ l, s.pwr.latch = some l ∧ l.testmode = false) →
        exec (.faultInject n factory) s = .next (s.respond n .factoryOnly [])) ∧
      (factory = true → (∃ l, s.pwr.latch = some l ∧ l.testmode = true) → reservedSource k = true →
        exec (.faultInject n factory) s = .next (s.respond n .badArg [])) ∧
      (factory = true → (∃ l, s.pwr.latch = some l ∧ l.testmode = true) → reservedSource k = false → s.isOn 1 = true → ∃ u : State,
        exec (.faultInject n factory) s = .next u.settle ∧ u.flt.pulses = s.flt.pulses ||| (1#128 <<< k) ∧
        u.flt.injected = s.flt.injected ||| (1#128 <<< k) ∧ (u.mb n).ready = true ∧ (u.mb n).rsp.getD 2 0 = 0 ∧
        u = { s with flt := u.flt, rve := u.rve })) ∧
    (∀ k, k < 128 → s.isOn 1 = true → s.flt.wiring = false → s.flt.wire.getLsbD k = false → ∃ u : State,
      exec (.brokenErrorWire k) s = .next u.settle ∧ u.flt = { s.flt with wire := s.flt.wire ||| (1#128 <<< k) } ∧
      u.pends 164 = true ∧ u = { s with flt := u.flt, int := u.int, str := u.str }) ∧
    (∀ k, k < 128 → s.isOn 1 = true → s.flt.wiring = false → exec (.errorWireRestored k) s =
      .next { s with flt := { s.flt with wire := s.flt.wire &&& ~~~(1#128 <<< k) } }.settle)

/-- R349, R350, R352, R471: the arbiter logs the first entry of the lowest port that waits, a full log losing its oldest; a
mark is offered to port 3 or dropped and counted; a read of STR_DATA_LO takes the oldest entry. Rests also on the model's
choices: assumptions 4, 80. -/
def Obligations.StrataLog : Prop :=
  ∀ s : State, s.isOn 1 = true → s.Inv →
    (∀ q e l, q < 4 → s.str.queues.getD q [] = e :: l → (∀ k, k < q → s.str.queues.getD k [] = []) → ∃ t : State,
      exec .strataEntryAccepted s = .next t.settle ∧
      (s.str.log.length < 4096 → t.str.queues = s.str.queues.set q l ∧ t.str.log = s.str.log ++ [entryBits e s.nowNs] ∧ t.str.overrun = s.str.overrun ∧ t.int = s.int) ∧
      (s.str.log.length = 4096 → t.str.log = s.str.log.drop 1 ++ [entryBits e s.nowNs] ∧
        t.str.overrun = satInc 16 s.str.overrun) ∧ t = { s with str := t.str, int := t.int }) ∧
    (∀ v : BitVec 16, ∃ t : State, exec (.strataMark v) s = .next t.settle ∧ t = { s with str := t.str, int := t.int } ∧
      ((s.str.queues.getD 3 []).length < 16 → t.str = { s.str with
        queues := s.str.queues.set 3 (s.str.queues.getD 3 [] ++ [⟨3, 0, false, false, v.toNat⟩]) } ∧ t.int = s.int) ∧
      ((s.str.queues.getD 3 []).length = 16 → s.int.arm.getLsbD 167 = false → t.str.drop = satInc 16 s.str.drop ∧
        t.str.queues.getD 3 [] = s.str.queues.getD 3 [])) ∧
    (∀ port, s.role ≠ .none → ∃ t : State, exec (.strataDataRead port) s = .next t.settle ∧ t.str = { s.str with log := s.str.log.tail } ∧
      t = { s.spaced port.kind with str := t.str, bus := t.bus, spiPort := t.spiPort } ∧
      (∀ e l, s.str.log = e :: l → (t.portSt port).snap =
        some (R.STR_DATA_LO, [e.extractLsb' 0 32, e.extractLsb' 32 32], 1)))

/-- R357, R358, R359, R364, R367: a demand of an enabled emergency stop takes an armed or released channel to DEMAND with its
enable and SAFE_OUT 0; contact discrepancies, persisting differences and readback mismatches lock it out with their cause.
R355, R363, R364: the exchange carries the channel's state; a received one is compared, and a partner in LOCKOUT locks the
channel out. A release needs both channels ARMED and sets both enables, else it is refused; a block takes released channels
back. R367, R368: a test pulse takes SAFE_OUT low while the output is high, else it is counted as skipped; at its end the
state commands the output again. Rests also on the model's choices: assumptions 1, 4, 5, 51. -/
def Obligations.WardenStates : Prop :=
  (∀ (s : State) (b : Bool), s.isOn (wrdPolder b) = true →
    (∀ level, ∃ u : State, exec (.wardenInputFiltered b 2 level) s = .next u.settle ∧ (u.wch b).estop = some level ∧
      u.wis b F.WRD_A_STATUS_ESTOP_OK = level ∧
      (level = false → s.wkey b F.WRD_CFG_ESTOP_EN = true → s.wstate b = wArmed ∨ s.wstate b = wReleased →
        u.wstate b = wDemand ∧ u.wis b F.WRD_A_STATUS_ENABLE = false ∧ u.wis b F.WRD_A_STATUS_SAFE_OUT = false)) ∧
    (∀ level, ∃ u : State, exec (.wardenInputFiltered b 0 level) s = .next u.settle ∧ (u.wch b).guard1 = some level ∧
      (u.wch b).guard2 = (s.wch b).guard2 ∧
      (level = false → s.wkey b F.WRD_CFG_GUARD_EN = true → s.wstate b = wArmed ∨ s.wstate b = wReleased →
        u.wstate b = wDemand ∧ u.wis b F.WRD_A_STATUS_ENABLE = false)) ∧
    (s.contactDiff b = true → s.wstate b ≠ wLockout → ∃ u : State, exec (.contactDiscrepancyTimeout b) s = .next u.settle ∧
      u.wstate b = wLockout ∧ u.wis b F.WRD_A_STATUS_LOCK_CONTACT = true ∧ u.wis b F.WRD_A_STATUS_TESTED = false ∧
      u.wis b F.WRD_A_STATUS_ENABLE = false ∧ u.pends 228 = (s.isOn 1 || s.pends 228)) ∧
    (s.comparing = true → ∃ t : State, exec (.wardenDiscrepancyLockout b true) s = .next t ∧
      t.wch b = { s.wch b with silent := true } ∧ t.wch (!b) = s.wch (!b) ∧ t.wis b F.WRD_A_STATUS_PARTNER_OK = false ∧
      s.sameBits t [wrdFld b F.WRD_A_STATUS_PARTNER_OK] ∧ t = { s with regs := t.regs, wrd := t.wrd }) ∧
    (s.comparing = true → (s.wch b).cross = true ∨ (s.wch b).config = true ∨ (s.wch b).silent = true →
      s.wstate b ≠ wLockout → ∃ u : State, exec (.wardenDiscrepancyLockout b false) s = .next u.settle ∧
        u.wstate b = wLockout ∧ u.wis b F.WRD_A_STATUS_ENABLE = false ∧
        ((s.wch b).silent = true → u.wis b F.WRD_A_STATUS_LOCK_SILENT = true) ∧
        ((s.wch b).cross = true → u.wis b F.WRD_A_STATUS_LOCK_CROSS = true) ∧
        ((s.wch b).config = true → u.wis b F.WRD_A_STATUS_LOCK_CONFIG = true)) ∧
    (∀ level, (s.wis b F.WRD_A_STATUS_SAFE_OUT = level → ∃ t : State, exec (.safeOutReadback b level) s = .next t ∧
        t.wis b F.WRD_A_STATUS_READBACK = level ∧ s.onlyFields t [wrdFld b F.WRD_A_STATUS_READBACK]) ∧
      (s.wis b F.WRD_A_STATUS_SAFE_OUT ≠ level → s.wstate b ≠ wLockout → ∃ u : State,
        exec (.safeOutReadback b level) s = .next u.settle ∧ u.wstate b = wLockout ∧
        u.wis b F.WRD_A_STATUS_LOCK_READBACK = true ∧ u.wis b F.WRD_A_STATUS_ENABLE = false))) ∧
  (∀ (s : State) (b : Bool),
    (s.isOn (wrdPolder b) = true → s.comparing = true → ∃ t : State, exec (.wardenExchangeSend b) s = .next t ∧
      t.wch b = { s.wch b with sent := some (s.wardExchange b), disc := (s.wch b).discrepant
                               pulseAge := (s.wch b).pulseAge.map (· + 10) } ∧
      t.wch (!b) = s.wch (!b) ∧
      t.get F.WRD_DISC_MS = (if (!b && (s.wch b).disc && (s.wch b).discrepant) = true
        then satInc 8 (s.get F.WRD_DISC_MS) else s.get F.WRD_DISC_MS) ∧
      s.sameBits t [F.WRD_DISC_MS] ∧ t = { s with regs := t.regs, wrd := t.wrd }) ∧
    ((s.wardExchange b).guard = (!s.wkey b F.WRD_CFG_GUARD_EN || s.guardClosed b == some true) ∧
      (s.wardExchange b).estop = (!s.wkey b F.WRD_CFG_ESTOP_EN || (s.wch b).estop == some true) ∧
      (s.wardExchange b).state = s.wstate b ∧ (s.wardExchange b).pulseAge = (s.wch b).pulseAge ∧
      (s.wardExchange b).enable = s.wis b F.WRD_A_STATUS_ENABLE ∧ (s.wardExchange b).checksum = s.wcfg b) ∧
    (∀ x, s.isOn (wrdPolder b) = true → s.comparing = true → (s.wch (!b)).sent = some x → ∃ u : State,
      exec (.wardenExchangeReceived b) s = .next u.settle ∧ u.wis b F.WRD_A_STATUS_PARTNER_OK = true ∧
      (u.wch b).got = some x ∧ (u.wch b).config = (x.checksum != s.wcfg b) ∧ (u.wch b).silent = false ∧
      (∀ y, (s.wch b).sent = some y → (u.wch b).cross = x.differs y) ∧
      (x.state = wLockout → u.wstate b = wLockout)) ∧
    (s.isOn 14 = true → s.isOn 15 = true → s.wstate false = wArmed → s.wstate true = wArmed → ∃ u : State,
      exec (.wardenRelease false) s = .next u.settle ∧ u.wstate false = wReleased ∧ u.wstate true = wReleased ∧
      u.pulsesReleased = true) ∧
    (s.isOn 14 = true → s.isOn 15 = false ∨ s.wstate false ≠ wArmed ∨ s.wstate true ≠ wArmed → ∃ u : State,
      exec (.wardenRelease false) s = .next u.settle ∧ u.is F.WRD_EVENTS_REFUSED = true ∧
      u.pends 226 = (s.isOn 1 || s.pends 226) ∧ s.sameBits u [F.WRD_EVENTS_REFUSED] ∧
      u = { s with regs := u.regs, int := u.int, str := u.str }) ∧
    (∀ c, c = .wardenBlock ∨ c = .wardenRelease true → s.isOn 14 = true → ∃ u : State, exec c s = .next u.settle ∧
      ∀ d, (s.wstate d = wReleased → u.wstate d = wArmed ∧ u.wis d F.WRD_A_STATUS_ENABLE = false) ∧
        (s.wstate d ≠ wReleased → u.wstate d = s.wstate d)) ∧
    (∀ c, c = .wardenBlock ∨ c = .wardenRelease b → s.isOn 14 = false → exec c s = .next s.settle)) ∧
  (∀ (s : State) (b : Bool), s.isOn (wrdPolder b) = true →
    ((s.wch b).pulse = false → b = false ∨ s.wis b F.WRD_A_STATUS_PARTNER_OK = true →
      (s.wis b F.WRD_A_STATUS_SAFE_OUT = true → ∃ t : State, exec (.safeOutTestPulseStart b) s = .next t ∧
        (t.wch b).pulse = true ∧ t.wis b F.WRD_A_STATUS_SAFE_OUT = false ∧ t.free = s.free + 1 ∧
        (∃ age, age ≤ 10 ∧ (t.wch b).pulseAge = some age) ∧ t = { s with regs := t.regs, wrd := t.wrd, free := t.free } ∧
        s.sameBits t [wrdFld b F.WRD_A_STATUS_SAFE_OUT]) ∧
      (s.wis b F.WRD_A_STATUS_SAFE_OUT = false → ∃ t : State, exec (.safeOutTestPulseStart b) s = .next t ∧
        t.get F.WRD_COUNTS_SKIPPED = satInc F.WRD_COUNTS_SKIPPED.w (s.get F.WRD_COUNTS_SKIPPED) ∧
        s.onlyFields t [F.WRD_COUNTS_SKIPPED])) ∧
    ((s.wch b).pulse = true → ∃ u : State, exec (.safeOutTestPulseEnd b) s = .next u.settle ∧ (u.wch b).pulse = false ∧
      u.wis b F.WRD_A_STATUS_SAFE_OUT = (s.wstate b == wArmed || s.wstate b == wReleased) ∧ u.wstate b = s.wstate b))

/-! ## Station network and time (chapter 14) -/

/-- R404: a write of TIM_OFFSET drives the servo, RATE_LIMIT is 1 while a clamp acts, its rising edge raises source 137;
SERVO_RESET clears. R405, R195: a step within its limit moves TIM_NOW and the start times that wait; a larger one is refused.
Rests also on the model's choices: assumption 4. -/
def Obligations.ServoAndSteps : Prop :=
  ∀ (s : State) (value : Word), s.isOn 1 = true →
    (s.isStation = true →
      (s.is F.TIM_CTRL_SERVO_EN = true → ∃ t : State, exec (.timOffsetWrite value) s = .next t.settle ∧
        (let m := s.rateMax
         let a := s.getS F.TIM_INTEG_VALUE - s.cf F.TIM_SERVO_KI * value.toInt / 65536
         let b := clampInt (-m) m a - s.cf F.TIM_SERVO_KP * value.toInt / 65536
         t.getS F.TIM_INTEG_VALUE = clampInt (-m) m a ∧ t.getS F.TIM_RATE_VALUE = clampInt (-m) m b ∧
          (t.is F.TIM_STATUS_RATE_LIMIT = true ↔ a < -m ∨ m < a ∨ b < -m ∨ m < b) ∧
          t.pends 137 = (s.pends 137 || (t.is F.TIM_STATUS_RATE_LIMIT && !s.is F.TIM_STATUS_RATE_LIMIT))) ∧
        s.sameBits t [F.TIM_INTEG_VALUE, F.TIM_RATE_VALUE, F.TIM_STATUS_RATE_LIMIT] ∧
        t = { s with regs := t.regs, int := t.int, str := t.str }) ∧
      (s.is F.TIM_CTRL_SERVO_EN = false → exec (.timOffsetWrite value) s = .next s.settle) ∧
      (value.toInt.natAbs ≤ s.cf F.TIM_CONFIG_TIM_STEP_LIMIT → ∃ u : State, exec (.timStepWrite value) s = .next u.settle ∧
        (u.nowNs : Int) = (s.nowNs + value.toInt) % 2 ^ 32 ∧ u.is F.TIM_STATUS_STEP_DONE = true ∧ u.pends 136 = true ∧
        (s.markReached = true ∨ laterThan (s.get F.TIM_SECOND_VALUE) u.nowNs = true →
          u.get F.TIM_SECOND_VALUE = s.get F.TIM_SECOND_VALUE ∧ u.pends 134 = s.pends 134 ∧
          (s.gridRates = [] → u.eff = s.eff)) ∧
        (s.markReached = false → laterThan (s.get F.TIM_SECOND_VALUE) u.nowNs = false →
          u.get F.TIM_SECOND_VALUE = (s.get F.TIM_SECOND_VALUE + 1000000000) % 2 ^ 32 ∧ u.pends 134 = true) ∧
        (∀ n, n < 4 → (u.adc.conv.getD n {}).due = ((s.adc.conv.getD n {}).due).map
          (fun t => ofSigned 64 (t + value.toInt * 2 ^ 32))) ∧
        (s.gridRates = [] → s.sameBits u [F.TIM_STATUS_STEP_DONE, F.TIM_SECOND_VALUE]) ∧
        (s.gridRates = [] → s.isOn 7 = false →
          u = { s with regs := u.regs, eff := u.eff, tim := u.tim, int := u.int, str := u.str, adc := u.adc }) ∧
        u.cfg = s.cfg ∧ u.pwr = s.pwr ∧ u.flt = s.flt ∧ u.cul = s.cul ∧ u.vlt = s.vlt) ∧
      (s.cf F.TIM_CONFIG_TIM_STEP_LIMIT < value.toInt.natAbs →
        ∃ u : State, exec (.timStepWrite value) s = .next (u.fault 108).settle ∧ u.is F.TIM_STATUS_STEP_REFUSED = true ∧
          u.pends 135 = true ∧ s.sameBits u [F.TIM_STATUS_STEP_REFUSED] ∧
          u = { s with regs := u.regs, int := u.int, str := u.str })) ∧
    (∃ t : State, exec .servoReset s = .next t ∧ t.get F.TIM_INTEG_VALUE = 0 ∧ t.get F.TIM_RATE_VALUE = 0 ∧
      t.is F.TIM_STATUS_RATE_LIMIT = false ∧ s.onlyFields t [F.TIM_INTEG_VALUE, F.TIM_RATE_VALUE, F.TIM_STATUS_RATE_LIMIT])

/-- R406, R422: at the mark it advances by 10^9 modulo 2^32, source 134 is raised and the keys of the SV publishers take
effect; a write of TIM_SECOND is accepted only as the rule says. R195, R407, R410: a grid instant that has not passed yet
starts every free converter on that rate, and every enabled publisher of the rate takes the sample, forming its frame with
the last of its group. Rests also on the model's choices: assumptions 4, 68. -/
def Obligations.SecondMarksAndGridInstants : Prop :=
  (∀ (s : State) (value : Word), s.Inv → s.isStation = true → s.isOn 1 = true →
    (let now := s.reach (s.get F.TIM_SECOND_VALUE)
     ∃ t : State, exec .secondMark s = .next t.settle ∧ t.get F.TIM_SECOND_VALUE = (s.get F.TIM_SECOND_VALUE + 1000000000) % 2 ^ 32 ∧
      t.pends 134 = true ∧ t.timeCame (s.get F.TIM_SECOND_VALUE) = true ∧
      (∀ a, t.effWord a = if s.isOn 8 && svPubKey a then s.cfgWord a else s.effWord a) ∧
      now.sameBits t [F.TIM_SECOND_VALUE] ∧ now.nowNs = (if laterThan (s.get F.TIM_SECOND_VALUE) s.nowNs then s.get F.TIM_SECOND_VALUE else s.nowNs) ∧
      t = { now with regs := t.regs, eff := t.eff, int := t.int, str := t.str }) ∧
    (let busy := (s.isOn 8 = true ∧ ∃ p, p < 8 ∧ s.cfIs (F.SV_PUBp_CFG_EN p) = true) ∨
        (s.isOn 12 = true ∧ ∃ n, n < 4 ∧ s.cfgOf (F.ADC_SEQn_CTRL_SOURCE n) = 2 ∧ s.cfgOf (F.ADC_SEQn_CTRL_EN n) = 1)
     ∃ t : State, exec (.timSecondWrite value) s = .next t ∧
      (¬busy → laterThan value.toNat s.nowNs = true → t.get F.TIM_SECOND_VALUE = value.toNat ∧
        s.onlyFields t [F.TIM_SECOND_VALUE]) ∧
      (busy ∨ laterThan value.toNat s.nowNs = false → t.is F.TIM_STATUS_SECOND_REFUSED = true ∧
        s.onlyFields t [F.TIM_STATUS_SECOND_REFUSED]))) ∧
  (∀ (s : State) (rate k : Nat), s.Inv → s.isStation = true → s.isOn 1 = true → rate ≠ 0 → k < rate →
    (s.gridTaken rate k = true → exec (.gridInstant rate k) s = .next s) ∧
    (s.gridTaken rate k = false → ∃ t : State, exec (.gridInstant rate k) s = .next t.settle ∧ t.gridTaken rate k = true ∧ t.timeCame (s.gridTime rate k) = true ∧
      (∀ n, n < 4 → s.isOn 12 = true → s.cfgOf (F.ADC_SEQn_CTRL_SOURCE n) = 2 → s.cfgOf (F.ADC_SEQn_GRID_RATE n) = rate →
        s.is (F.ADC_SEQn_STATUS_CAL n) = false → s.is (F.ADC_SEQn_STATUS_BUSY n) = false → s.cfgOf (F.ADC_SEQn_CTRL_EN n) = 1 →
        t.is (F.ADC_SEQn_STATUS_BUSY n) = true ∧
          t.get (F.ADC_SEQn_STATUS_ROUND n) = (s.get (F.ADC_SEQn_STATUS_ROUND n) + 1) % 16) ∧
      (∀ n, n < 4 → s.isOn 12 = false ∨ s.cfgOf (F.ADC_SEQn_CTRL_SOURCE n) ≠ 2 ∨ s.cfgOf (F.ADC_SEQn_GRID_RATE n) ≠ rate →
        t.word (R.ADC_SEQn_STATUS n) = s.word (R.ADC_SEQn_STATUS n)) ∧
      (∀ p, p < 8 → s.isOn 8 = true → s.cfIs (F.SV_PUBp_CFG_EN p) = true → svRate (s.cfIs (F.SV_PUBp_CFG_RATE p)) = rate →
        ((k + 1) % max 1 (s.cf (F.SV_PUBp_CFG_NOASDU p)) = 0 → t.stm.pub.getD p [] = []) ∧
        ((k + 1) % max 1 (s.cf (F.SV_PUBp_CFG_NOASDU p)) ≠ 0 → s.stm.pub.getD p [] = [] →
          (t.stm.pub.getD p []).map (fun w => w.count) = [k])) ∧
      (∀ p, p < 8 → s.isOn 8 = false ∨ s.cfIs (F.SV_PUBp_CFG_EN p) = false ∨
        svRate (s.cfIs (F.SV_PUBp_CFG_RATE p)) ≠ rate → t.stm.pub.getD p [] = s.stm.pub.getD p []) ∧
      t.cfg = s.cfg ∧ t.pwr = s.pwr ∧ t.flt = s.flt))

/-- R393, R398, R401: a bad frame is discarded and counted; a PTP frame to the device or a group, or one of an EtherType of
NET_HOST_ETYPE, fills the next receive slot with its port and stamp, or is lost with OVERRUN and source 133; a raw frame no
rule takes is counted in OTHER; NET_RX_POP frees the oldest slot. R413, R414: an SV frame goes to each enabled subscription
whose APPID, svID and source match. With the Simulation bit it has no effect; one that differs in confRev, ASDUs, channels,
smpSynch or test is rejected with its reasons, and the subscription is invalid. An accepted ASDU later than the last is
taken: values, qualities, smpCnt, a gap counted with source 141; eight gapless frames make the subscription valid with source
140. R418 to R420: a GOOSE frame goes to each enabled subscription whose APPID, gocbRef and source match. With the Simulation
bit, or another test flag, it has no effect; one of another confRev, form or with ndsCom is rejected; a new stNum, or a later
sqNum, gives the values, STNUM, SQNUM and the deadline, a new stNum source 143; other frames are repeats. The trips follow.
R124, R400: a management request to the device's own address fills M2's request buffer and rings its doorbell, with the
sender kept for the response; a repeat of the last accepted one is discarded; one while M2 is QUEUED or EXECUTING sets LOST
and raises source 153. Rests also on the model's choices: assumptions 1, 4, 65, 67, 68. -/
def Obligations.FramesReceived : Prop :=
  (∀ (s : State) (port : Nat) (f : EthFrame) (stamp frac : Nat), s.Inv → s.ethOn port = true →
    let now := s.reach stamp
    (∃ t : State, exec (.ethFrameReceived port f false stamp frac) s = .next t ∧
      t.get (F.NET_Pp_ERR_ERROR port) = satInc 16 (s.get (F.NET_Pp_ERR_ERROR port)) ∧
      now.onlyFields t [F.NET_Pp_ERR_ERROR port]) ∧
    (∀ b, f.body = .raw b →
      f.etype = 0x88F7 ∨ (f.seq = none ∧ s.cf F.NET_CONFIG_MODE ≠ 2 ∧ f.etype ≠ 0 ∧
        (f.etype = s.cf F.NET_HOST_ETYPE_ETYPE0 ∨ f.etype = s.cf F.NET_HOST_ETYPE_ETYPE1)) →
      ¬(s.cfIs F.NET_MGMT_EN = true ∧ f.etype = s.cf F.NET_MGMT_ETYPE ∧ f.dst = s.mac ∧ isRequest b = true) → f.dst = s.mac ∨ isGroup f.dst = true →
      ∃ u : State, exec (.ethFrameReceived port f true stamp frac) s = .next u.settle ∧ u.timeCame stamp = true ∧
        u.get (F.NET_Pp_RXCOUNT_VALUE port) = satInc 32 (s.get (F.NET_Pp_RXCOUNT_VALUE port)) ∧
        (s.net.count < 8 → u.net.count = s.net.count + 1 ∧ u.pends 131 = (s.isOn 1 || s.pends 131) ∧
          u.net.rx.getD ((s.net.head + s.net.count) % 8) none = some ⟨port, stamp, frac, (s.frameBytes f).1⟩ ∧
          (∀ j, j ≠ (s.net.head + s.net.count) % 8 → u.net.rx.getD j none = s.net.rx.getD j none) ∧
          now.sameBits u [F.NET_Pp_RXCOUNT_VALUE port] ∧
          u = { now with regs := u.regs, int := u.int, str := u.str, net := { now.net with rx := u.net.rx, count := u.net.count } }) ∧
        (8 ≤ s.net.count → u.get F.NET_RX_STATUS_OVERRUN = satInc 16 (s.get F.NET_RX_STATUS_OVERRUN) ∧
          u.pends 133 = (s.isOn 1 || s.pends 133) ∧ now.sameBits u [F.NET_Pp_RXCOUNT_VALUE port, F.NET_RX_STATUS_OVERRUN] ∧
          u = { now with regs := u.regs, int := u.int, str := u.str })) ∧
    (∀ b, f.body = .raw b → f.seq = none → s.cf F.NET_CONFIG_MODE ≠ 2 → f.dst ≠ s.mac → isGroup f.dst = false →
      ∃ u : State, exec (.ethFrameReceived port f true stamp frac) s = .next u.settle ∧
        u.get (F.NET_Pp_ERR_OTHER port) = satInc 16 (s.get (F.NET_Pp_ERR_OTHER port)) ∧
        now.onlyFields u [F.NET_Pp_RXCOUNT_VALUE port, F.NET_Pp_ERR_OTHER port]) ∧
    (s.net.count ≠ 0 → exec .netRxPop s =
      .next { s with net := { s.net with head := (s.net.head + 1) % 8, count := s.net.count - 1 } }) ∧
    (s.net.count = 0 → exec .netRxPop s = .next s)) ∧
  (∀ (s : State) (port i appid stamp frac : Nat) (sim : Bool) (f : EthFrame) (as_ : List SvAsdu), s.Inv → s.ethOn port = true →
    s.isOn 8 = true → i < 16 → f.seq = none → s.cf F.NET_CONFIG_MODE ≠ 2 → f.etype = 0x88BA → f.body = .sv appid sim as_ →
    ∃ u : State, exec (.ethFrameReceived port f true stamp frac) s = .next u.settle ∧ u.timeCame stamp = true ∧
      let x := s.svSub i
      let y := u.svSub i
      let rate := svRate (s.cfIs (F.SV_SUBs_CFG_RATE i))
      let mine := s.cfIs (F.SV_SUBs_CFG_EN i) = true ∧ s.cf (F.SV_SUBs_CFG_APPID i) = appid ∧
        (s.macAt (R.SV_SUBs_SRC_LO i) = List.replicate 6 0 ∨ s.macAt (R.SV_SUBs_SRC_LO i) = f.src) ∧
        as_ ≠ [] ∧ ∀ a ∈ as_, a.id = s.textAt (R.SV_SUBs_IDi i 0) 9
      let conf := ∃ a ∈ as_, a.confRev ≠ s.effWord (R.SV_SUBs_CONFREV i)
      let form := as_.length ≠ s.cf (F.SV_SUBs_CFG_NOASDU i) ∨ (∃ a ∈ as_, a.channels.length ≠ s.cf (F.SV_SUBs_CFG_NCH i)) ∨
        ∃ a ∈ as_, (a.channels.getD 0 (0, 0)).2.getLsbD 11 ≠ s.cfIs (F.SV_SUBs_CFG_TEST i)
      let low := ∃ a ∈ as_, a.synch < s.cf (F.SV_SUBs_CFG_SYNC_MIN i)
      let keeps := fun (l : List Nat) => ∀ a, R.SV_SUBs_CFG i ≤ a → a < R.SV_SUBs_CFG i + 256 → a ∉ l → u.word a = s.word a
      let holds := fun (c : List (Word × Word)) => ∀ k, k < c.length → k < 16 →
        u.word (R.SV_SUBs_VALc i k) = (c.getD k (0, 0)).1 ∧ u.word (R.SV_SUBs_QUALc i k) = (c.getD k (0, 0)).2
      (¬mine ∨ sim = true → y = x ∧ keeps []) ∧
      (mine → sim = false → conf ∨ form ∨ low → y.valid = false ∧ y.last = x.last ∧ u.is (F.SV_SUBs_STATUS_VALID i) = false ∧
        (u.is (F.SV_SUBs_STATUS_CONFREV i) = true ↔ conf) ∧ (u.is (F.SV_SUBs_STATUS_FORMAT i) = true ↔ form) ∧
        (u.is (F.SV_SUBs_STATUS_SYNC_LOW i) = true ↔ low) ∧ keeps [R.SV_SUBs_STATUS i] ∧
        (x.valid = true → s.isOn 1 = true → u.pends 140 = true)) ∧
      (mine → sim = false → ¬(conf ∨ form ∨ low) → (∀ a ∈ as_, a.channels.length ≤ 16) →
        (∀ a, as_ = [a] → a.count < rate →
          let d := match x.last with | some l => (a.count + rate - l % rate) % rate | none => 1
          (d = 0 ∨ rate ≤ 2 * d → y.last = x.last ∧ u.get (F.SV_SUBs_STATUS_SMPCNT i) = s.get (F.SV_SUBs_STATUS_SMPCNT i) ∧
            keeps [R.SV_SUBs_STATUS i]) ∧
          (0 < d → 2 * d < rate → y.last = some a.count ∧ u.get (F.SV_SUBs_STATUS_SMPCNT i) = a.count ∧ holds a.channels ∧
            u.get (F.SV_SUBs_LOST_VALUE i) = min (s.get (F.SV_SUBs_LOST_VALUE i) + (d - 1)) (2 ^ 32 - 1) ∧
            (1 < d → y.run = 1 ∧ (s.isOn 1 = true → u.pends 141 = true)))) ∧
        (∀ a l, x.last = some l → as_.getLast? = some a →
          (∀ k, k < as_.length → ((as_.map (fun b => b.count)).getD k 0) = (l + 1 + k) % rate) →
          y.last = some a.count ∧ u.get (F.SV_SUBs_STATUS_SMPCNT i) = a.count ∧ holds a.channels ∧
          u.get (F.SV_SUBs_LOST_VALUE i) = s.get (F.SV_SUBs_LOST_VALUE i) ∧ y.run = min 8 (x.run + 1) ∧
          (y.valid = true ↔ x.valid = true ∨ 7 ≤ x.run) ∧
          (x.valid = false → 7 ≤ x.run → u.is (F.SV_SUBs_STATUS_VALID i) = true ∧ (s.isOn 1 = true → u.pends 140 = true))))) ∧
  (∀ (s : State) (port i appid stamp frac : Nat) (sim : Bool) (f : EthFrame) (g : GooseContent), s.Inv → s.ethOn port = true →
    s.isOn 8 = true → i < 64 → f.seq = none → s.cf F.NET_CONFIG_MODE ≠ 2 → f.etype = 0x88B8 → f.body = .goose appid sim g →
    ∃ u : State, exec (.ethFrameReceived port f true stamp frac) s = .next u.settle ∧ u.timeCame stamp = true ∧
      let x := s.gseSub i
      let y := u.gseSub i
      let mine := s.cfIs (F.GSE_SUBs_CFG_EN i) = true ∧ s.cf (F.GSE_SUBs_CFG_APPID i) = appid ∧
        (s.macAt (R.GSE_SUBs_SRC_LO i) = List.replicate 6 0 ∨ s.macAt (R.GSE_SUBs_SRC_LO i) = f.src) ∧
        g.ref = s.textAt (R.GSE_SUBs_REFi i 0) 16
      let n := s.cf (F.GSE_SUBs_CFG_NMEM i)
      let conf := g.confRev ≠ s.effWord (R.GSE_SUBs_CONFREV i)
      let form := g.members.length ≠ n ∨ ∃ m, m < n ∧ ((g.members.getD m ⟨0, false, 0⟩).fixed = false ∨
        (g.members.getD m ⟨0, false, 0⟩).type ≠ s.cf (F.GSE_SUBs_TYPES_VALUE i) / 4 ^ m % 4)
      let silent := sim = true ∨ g.test ≠ s.cfIs (F.GSE_SUBs_CFG_TEST i)
      let bad := conf ∨ form ∨ g.ndsCom = true
      let newState := ∀ l, x.last = some l → g.stNum ≠ l.1
      let fresh := ∀ l, x.last = some l → g.stNum ≠ l.1 ∨ laterThan g.sqNum l.2 = true
      let keeps := fun (l : List Nat) => ∀ a, R.GSE_SUBs_CFG i ≤ a → a < R.GSE_SUBs_CFG i + 256 → a ∉ l → u.word a = s.word a
      (¬mine ∨ silent → y = x ∧ keeps []) ∧
      (mine → ¬silent → bad → y.valid = false ∧ y.last = x.last ∧ u.is (F.GSE_SUBs_STATUS_VALID i) = false ∧
        (u.is (F.GSE_SUBs_STATUS_CONFREV i) = true ↔ conf) ∧ (u.is (F.GSE_SUBs_STATUS_FORMAT i) = true ↔ form) ∧
        u.is (F.GSE_SUBs_STATUS_NDSCOM i) = g.ndsCom ∧ keeps [R.GSE_SUBs_STATUS i] ∧
        (x.valid = true → s.isOn 1 = true → u.pends 142 = true)) ∧
      (mine → ¬silent → ¬bad → ¬fresh → y = x ∧ keeps []) ∧
      (mine → ¬silent → ¬bad → fresh → n ≤ 16 → g.stNum < 2 ^ 32 → g.sqNum < 2 ^ 32 →
        y = { x with valid := true, was := true, last := some (g.stNum, g.sqNum), deadline := (u.nowNs + g.ttl * 1000000) % 2 ^ 32 } ∧
        u.get (F.GSE_SUBs_STNUM_VALUE i) = g.stNum ∧ u.get (F.GSE_SUBs_SQNUM_VALUE i) = g.sqNum ∧
        (∀ m, m < n → u.word (R.GSE_SUBs_VALm i m) = (g.members.getD m ⟨0, true, 0⟩).value) ∧
        u.is (F.GSE_SUBs_STATUS_VALID i) = true ∧ u.is (F.GSE_SUBs_STATUS_EXPIRED i) = false ∧
        (newState → s.isOn 1 = true → u.pends 143 = true) ∧ (x.valid = false → s.isOn 1 = true → u.pends 142 = true) ∧
        (∀ k, k < 8 → u.stm.trips.getLsbD k = u.tripSignal k ∧
          (s.cfIs (F.GSE_TRIPk_EN k) = true → s.cf (F.GSE_TRIPk_SUB k) = i → s.cf (F.GSE_TRIPk_MEM k) < n → u.stm.trips.getLsbD k =
            ((g.members.getD (s.cf (F.GSE_TRIPk_MEM k)) ⟨0, true, 0⟩).value.getLsbD 0 != s.cfIs (F.GSE_TRIPk_POL k)))))) ∧
  (∀ (s : State) (port stamp frac : Nat) (f : EthFrame) (b : List Byte), s.Inv → s.ethOn port = true → s.isOn 2 = true →
    f.seq = none → s.cf F.NET_CONFIG_MODE ≠ 2 → f.body = .raw b → s.cfIs F.NET_MGMT_EN = true →
    f.etype = s.cf F.NET_MGMT_ETYPE → f.dst = s.mac → beAt b 0 2 = 1 → 68 ≤ b.length →
    ∃ u : State, exec (.ethFrameReceived port f true stamp frac) s = .next u.settle ∧ u.timeCame stamp = true ∧
      let v := s.reach stamp
      let req := bytesAt b 4 64
      let again := ∃ t, v.net.mgmt = some (f.src, req.getD 1 0, t)
      let waits := s.mbState 2 = mbIdle ∨ s.mbState 2 = mbDone
      (again → u.mb 2 = s.mb 2 ∧ u.net.mgmt = v.net.mgmt ∧ u.word (R.RVE_Mn_STATE 2) = s.word (R.RVE_Mn_STATE 2)) ∧
      (¬again → waits → u.net.mgmt = some (f.src, req.getD 1 0, v.nowNs) ∧ u.mbState 2 = mbQueued ∧
        u.get (F.RVE_Mn_STATE_CODE 2) = (req.getD 0 0).toNat ∧ u.get (F.RVE_Mn_STATE_TAG 2) = (req.getD 1 0).toNat ∧
        u.mb 2 = { req := req, mac := f.src, ethPort := port } ∧
        (∀ k, k < 16 → u.word (R.RVE_Mn_REQk 2 k) = BitVec.ofNat 32 (leAt req (4 * k) 4)) ∧
        u.is (F.RVE_Mn_STATE_LOST 2) = s.is (F.RVE_Mn_STATE_LOST 2)) ∧
      (¬again → ¬waits → u.is (F.RVE_Mn_STATE_LOST 2) = true ∧ (s.isOn 1 = true → u.pends 153 = true) ∧ u.mb 2 = s.mb 2 ∧
        u.net.mgmt = v.net.mgmt ∧ u.mbState 2 = s.mbState 2) ∧
      (∀ n, n ≠ 2 → u.mb n = s.mb n))

/-- R399, R397, R401, R409: GO starts a host slot's frame on an idle powered port in class 3 (on a powered-down port it
waits), or keeps it until its launch time in class 2, or drops it late with LATE, NET_LATE and source 138; at its launch time
it starts; when it has left, GO is 0, DONE 1, the stamp written and source 132 raised. A control word while GO is 1 is
ignored. R395, R421: a supervision frame goes out on each idle port with the shared sequence number, in redundancy only; a
link change shows in LINK, and in ANEG_DONE where NET_CONFIG enables auto-negotiation, is counted and raises its source.
Rests also on the model's choices: assumptions 4, 66, 68. -/
def Obligations.TransmissionAndLinks : Prop :=
  (∀ (s : State) (slot port : Nat), s.Inv → s.isOn 7 = true → slot < 4 → port < 2 →
    let x : TxSlot := s.net.tx.getD slot {}
    let after : State → TxSlot := fun t => t.net.tx.getD slot {}
    let launch := ((SMap.find x.mem 4).getD 0).toNat
    (∀ ctrl : Word, x.ctrl.getLsbD 31 = true → exec (.hostTxGo slot ctrl) s = .next s.settle) ∧
    (∀ ctrl : Word, x.ctrl.getLsbD 31 = false → (ctrl.extractLsb' 12 2).toNat = port → s.net.waiting.getD port [] = [] →
      s.net.sending.getD port none = none →
      let f := s.slotFrame slot (ctrl.extractLsb' 0 11).toNat
      (ctrl.getLsbD 14 = false → s.ethOn port = false → ∃ t : State, exec (.hostTxGo slot ctrl) s = .next t.settle ∧
        t.net.waiting.getD port [] = [⟨3, none, .slot slot f⟩] ∧ t.net.sending = s.net.sending ∧
        (after t).ctrl.getLsbD 31 = true ∧ t = { s with net := t.net }) ∧
      (ctrl.getLsbD 14 = false → s.ethOn port = true → ∃ t : State, exec (.hostTxGo slot ctrl) s = .next t.settle ∧
        t.net.sending.getD port none = some ⟨3, none, .slot slot f⟩ ∧ t.net.waiting.getD port [] = [] ∧
        (after t).ctrl.getLsbD 31 = true ∧ (after t).ctrl.getLsbD 30 = false ∧ (after t).left = 2 ^ port ∧
        (∀ j, j ≠ slot → t.net.tx.getD j {} = s.net.tx.getD j {}) ∧ t = { s with net := t.net }) ∧
      (ctrl.getLsbD 14 = true → laterThan launch s.nowNs = true → ∃ t : State, exec (.hostTxGo slot ctrl) s = .next t.settle ∧
        t.net.waiting.getD port [] = [⟨2, some launch, .slot slot f⟩] ∧ t.net.sending.getD port none = none ∧
        (after t).ctrl.getLsbD 31 = true ∧ t = { s with net := t.net }) ∧
      (ctrl.getLsbD 14 = true → laterThan launch s.nowNs = false → launch ≠ s.nowNs →
        ∃ t : State, exec (.hostTxGo slot ctrl) s = .next t.settle ∧ t.net.waiting = s.net.waiting ∧ t.net.sending = s.net.sending ∧
          (after t).ctrl.getLsbD 31 = false ∧ (after t).ctrl.getLsbD 29 = true ∧
          t.get F.NET_LATE_VALUE = satInc F.NET_LATE_VALUE.w (s.get F.NET_LATE_VALUE) ∧ t.pends 138 = (s.isOn 1 || s.pends 138) ∧
          s.sameBits t [F.NET_LATE_VALUE] ∧ t = { s with regs := t.regs, net := t.net, int := t.int, str := t.str })) ∧
    (∀ f L, s.ethOn port = true → s.net.waiting.getD port [] = [⟨2, some L, .slot slot f⟩] → s.net.sending.getD port none = none →
      ∃ t : State, exec (.timedLaunch port) s = .next t.settle ∧ t.timeCame L = true ∧
        t.net.sending.getD port none = some ⟨2, some L, .slot slot f⟩ ∧ t.net.waiting.getD port [] = [] ∧
        (let now := s.reach L; t = { now with net := { now.net with waiting := t.net.waiting, sending := t.net.sending } })) ∧
    (∀ f c L stamp frac, s.ethOn port = true → s.net.sending.getD port none = some ⟨c, L, .slot slot f⟩ → s.net.waiting.getD port [] = [] →
      ∃ t : State, exec (.ethFrameSent port stamp frac) s = .next t.settle ∧ t.net.sending.getD port none = none ∧
        (after t).stamps.getD port 0 = stamp ∧ (after t).fracs.getD port 0 = frac ∧
        (x.left = 2 ^ port → (after t).ctrl.getLsbD 31 = false ∧ (after t).ctrl.getLsbD 30 = true ∧
          t.pends 132 = (s.isOn 1 || s.pends 132)) ∧
        (x.left = 3 → (after t).ctrl = x.ctrl ∧ (after t).left = 3 - 2 ^ port ∧ t.int = (s.reach stamp).int) ∧
        t = { s.reach stamp with net := t.net, int := t.int, str := t.str })) ∧
  (∀ s : State, s.Inv →
    (s.isOn 7 = true → s.redundant = true → s.net.waiting = [[], []] → s.net.sending = [none, none] →
      ∃ t : State, exec .supervisionFrame s = .next t.settle ∧ t.net.seq = (s.net.seq + 1) % 65536 ∧
        (∀ p, p < 2 → ∃ f : EthFrame, t.net.sending.getD p none = some ⟨4, none, .frame f⟩ ∧
          f.dst = [0x01, 0x15, 0x4E, 0x00, 0x01, 0x00] ∧ f.src = s.mac ∧ f.etype = 0x88FB ∧ f.seq = some s.net.seq) ∧
        t = { s with net := { s.net with seq := t.net.seq, sending := t.net.sending } }) ∧
    (s.isOn 7 = false ∨ s.redundant = false → exec .supervisionFrame s = .next s) ∧
    (∀ (port : Nat) (up aneg : Bool), s.ethOn port = true → s.is (F.NET_Pp_STATUS_LINK port) ≠ up →
      ∃ t : State, exec (.linkChange port up aneg) s = .next t.settle ∧ t.is (F.NET_Pp_STATUS_LINK port) = up ∧
        t.is (F.NET_Pp_STATUS_ANEG_DONE port) =
          (up && aneg && s.cfIs (if port = 0 then F.NET_CONFIG_P0_ANEG else F.NET_CONFIG_P1_ANEG)) ∧
        t.get (F.NET_Pp_STATUS_CHANGES port) = satInc 16 (s.get (F.NET_Pp_STATUS_CHANGES port)) ∧
        t.pends (128 + port) = (s.isOn 1 || s.pends (128 + port)) ∧
        s.sameBits t [F.NET_Pp_STATUS_LINK port, F.NET_Pp_STATUS_ANEG_DONE port, F.NET_Pp_STATUS_CHANGES port] ∧
        t = { s with regs := t.regs, int := t.int, str := t.str }))

/-- R414, R419, R420: a subscription that times out, or whose deadline passes, is invalid with its status bit and its source,
and the GOOSE trips follow their subscriptions. Rests also on the model's choices: assumptions 4, 68. -/
def Obligations.SubscriptionsExpire : Prop :=
  ∀ (s : State) (i : Nat), s.Inv → s.isOn 8 = true →
    (i < 16 → (s.svSub i).valid = true → ∃ u : State, exec (.svSubscriptionTimeout i) s = .next u.settle ∧
      (u.svSub i).valid = false ∧ u.is (F.SV_SUBs_STATUS_VALID i) = false ∧ u.is (F.SV_SUBs_STATUS_TIMEOUT i) = true ∧
      u.pends 140 = (s.isOn 1 || s.pends 140) ∧ (∀ j, j ≠ i → u.svSub j = s.svSub j) ∧
      s.sameBits u [F.SV_SUBs_STATUS_VALID i, F.SV_SUBs_STATUS_TIMEOUT i] ∧
      u = { s with regs := u.regs, int := u.int, str := u.str, stm := { s.stm with sub := u.stm.sub } }) ∧
    ((s.svSub i).valid = false → exec (.svSubscriptionTimeout i) s = .next s) ∧
    (i < 64 → (s.gseSub i).valid = true → ∃ u : State, exec (.gooseDeadlinePassed i) s = .next u.settle ∧
      u.timeCame (s.gseSub i).deadline = true ∧
      (u.gseSub i).valid = false ∧ u.is (F.GSE_SUBs_STATUS_VALID i) = false ∧ u.is (F.GSE_SUBs_STATUS_EXPIRED i) = true ∧
      u.pends 142 = (s.isOn 1 || s.pends 142) ∧ (∀ j, j ≠ i → u.gseSub j = s.gseSub j) ∧
      (∀ k, k < 8 → u.stm.trips.getLsbD k = u.tripSignal k ∧
        (u.stm.trips.getLsbD k ≠ s.stm.trips.getLsbD k → s.isOn 1 = true → u.pends (144 + k) = true) ∧
        (s.cfIs (F.GSE_TRIPk_EN k) = true → s.cf (F.GSE_TRIPk_SUB k) = i → u.stm.trips.getLsbD k =
          (s.cfIs (F.GSE_TRIPk_INVALID_TRIP k) || s.stm.tripHeld.getLsbD k))) ∧
      (let now := s.reach (s.gseSub i).deadline
       now.sameBits u [F.GSE_SUBs_STATUS_VALID i, F.GSE_SUBs_STATUS_EXPIRED i] ∧
       u = { now with regs := u.regs, int := u.int, str := u.str
                      stm := { s.stm with gsub := u.stm.gsub, trips := u.stm.trips, tripHeld := u.stm.tripHeld } })) ∧
    ((s.gseSub i).valid = false → exec (.gooseDeadlinePassed i) s = .next s)

/-- R417: a new state advances stNum (2^32 - 1 to 1), sets sqNum to 0, raises source 152 and goes out in class 1 with the
members as they are; a repeat advances sqNum and doubles the interval up to MAX_MS. Rests also on the model's choices:
assumptions 4, 65, 69. -/
def Obligations.GoosePublishers : Prop :=
  ∀ (s : State) (g : Nat), s.Inv → s.isOn 8 = true → g < 16 → s.cfIs (F.GSE_PUBg_CFG_EN g) = true →
    let next := min (s.cf (F.GSE_PUBg_TIMES_MIN_US g)) (s.cf (F.GSE_PUBg_TIMES_MAX_MS g) * 1000)
    let fresh : State → Prop := fun t =>
      (t.gsePub g).stNum = rollOver (s.gsePub g).stNum ∧ (t.gsePub g).sqNum = 0 ∧ (t.gsePub g).interval = next ∧
      (t.gsePub g).last = (s.gseMembers g).map (fun m => m.value) ∧ t.pends 152 = (s.isOn 1 || s.pends 152)
    (s.gseChanged g = true → ∃ t : State, exec (.gooseNewState g) s = .next t.settle ∧ fresh t ∧
      (∀ k, k ≠ g → t.gsePub k = s.gsePub k) ∧
      (s.redundant = false → s.net.waiting.getD 0 [] = [] → s.net.sending.getD 0 none = none → ∃ f c,
        t.net.sending.getD 0 none = some ⟨1, none, .goose g f⟩ ∧ f.etype = 0x88B8 ∧ f.dst = s.macAt (R.GSE_PUBg_DST_LO g) ∧
        f.body = .goose (s.cf (F.GSE_PUBg_CFG_APPID g)) false c ∧ c.stNum = rollOver (s.gsePub g).stNum ∧ c.sqNum = 0 ∧
        c.ttl = ceilDiv (2 * next) 1000 ∧ c.members = s.gseMembers g) ∧
      t.cfg = s.cfg ∧ t.eff = s.eff ∧ t.tim = s.tim ∧ t.flt = s.flt) ∧
    (s.gseChanged g = false → exec (.gooseNewState g) s = .next s) ∧
    (∀ mask : BitVec 16, natBit mask.toNat g = true → ∃ t : State, exec (.gsePubForce mask) s = .next t.settle ∧ fresh t ∧
      (∀ k, k < 16 → natBit mask.toNat k = false → t.gsePub k = s.gsePub k)) ∧
    ((s.gsePub g).interval ≠ 0 → ∃ t : State, exec (.gooseRepeat g) s = .next t.settle ∧
      t.gsePub g = { s.gsePub g with
        sqNum := rollOver (s.gsePub g).sqNum
        interval := min (2 * (s.gsePub g).interval) (s.cf (F.GSE_PUBg_TIMES_MAX_MS g) * 1000) } ∧
      (∀ k, k ≠ g → t.gsePub k = s.gsePub k) ∧ (∀ n, n ≠ 139 → n ≠ 167 → t.pends n = s.pends n)) ∧
    rollOver (2 ^ 32 - 1) = 1

/-! ## Gallery, wear and substitution (chapters 13, 15 and 16) -/

/-- R424, R426, R427, R430, R434: a sample instant stores the profile's channels in FILLING, ARMED and CAPTURING at the next
position of its slot; FILLING ends with PRE samples; a capture ends with POST samples, with source 168 + p, once every cause
of the core clock is seen. The profiles' other samples and the conditions are left out of this statement. R428 to R430, R433,
R434: a host trigger of an ARMED profile with PRE samples stored before the trigger sample, and that sample fewer than POST
samples back, starts a record of the next index; in CAPTURING it is counted as coincident and seen in the record; otherwise
it is counted as ignored, and a hold-off of triggers counts it and may end. A profile with EN = 0 takes none. Rests also on
the model's choices: assumptions 4, 68, 90, 91. -/
def Obligations.GallerySamplesAndTriggers : Prop :=
  (∀ (s : State) (k p : Nat), s.Inv →
    (s.isOn 9 = false ∨ s.boundaries = false ∨ 5 ≤ k → exec (.gallerySample k) s = .next s) ∧
    (s.isOn 9 = true → s.boundaries = true → k < 5 → p < 4 → s.cfIs (F.GAL_PROFp_CFG_EN p) = true →
      s.cf (F.GAL_PROFp_CFG_DIV p) ≠ 0 → (5 * s.tide + k) % s.cf (F.GAL_PROFp_CFG_DIV p) = 0 →
      (∀ q, q < 4 → q ≠ p → s.cfIs (F.GAL_PROFp_CFG_EN q) = false) → (∀ i, i < 2 → s.cfIs (F.GAL_PROFp_CONDi_EN p i) = false) →
      let y := s.gp p
      let now := s.reach (s.get F.TIM_TIDE_NS_VALUE + 200 * k)
      let mine : GalRecord → Bool := fun r => r.index == y.record && r.profile == p
      ∃ u : State, exec (.gallerySample k) s = .next u.settle ∧ u.timeCame (s.get F.TIM_TIDE_NS_VALUE + 200 * k) = true ∧
        (u.gp p).last = (s.galChannels p).map (fun c => (c, now.channel c)) ∧
        u.gal.mem = (if y.state = 1 ∨ y.state = 2 ∨ y.state = 3
          then Memory.setAll s.gal.mem (s.galBase p y.slot + y.pos * s.galB p)
            ((s.galChannels p).flatMap (fun c => leBytes 4 (now.channel c).toNat))
          else s.gal.mem) ∧
        (y.state = 0 ∨ y.state = 4 ∨ y.state = 5 → (u.gp p).state = y.state ∧ u.gal.records = s.gal.records) ∧
        (y.state = 1 ∨ y.state = 2 → (u.gp p).stored = y.stored + 1 ∧
          (u.gp p).pos = (if y.pos + 1 < s.galN p then y.pos + 1 else 0) ∧ u.gal.records = s.gal.records ∧
          (u.gp p).state = (if y.state = 2 ∨ s.cf (F.GAL_PROFp_PRE_PRE p) ≤ y.stored + 1 then 2 else 1)) ∧
        (y.state = 3 → ∀ r, s.gal.records.find? mine = some r → ∃ r', u.gal.records.find? mine = some r' ∧
          r'.post = r.post + 1 ∧ (u.gp p).state = 3 ∧ (u.gp p).got = y.got + 1 ∧ r'.complete = r.complete ∧
          (s.isOn 1 = true → y.got + 1 < s.cf (F.GAL_PROFp_POST_POST p) → (u.settle.gp p).state = 3) ∧
          (s.isOn 1 = true → s.cf (F.GAL_PROFp_POST_POST p) ≤ y.got + 1 →
            (∃ d, u.settle.gal.records.find? mine = some d ∧ d.complete = true ∧ d.post = r.post + 1) ∧ u.settle.pends (168 + p) = true ∧
            (s.cfIs (F.GAL_PROFp_CFG_SINGLE p) = true → (u.settle.gp p).state = 0) ∧
            (s.cfIs (F.GAL_PROFp_CFG_SINGLE p) = false → s.cf (F.GAL_PROFp_CFG_HOLD_MODE p) ≠ 0 →
              s.cf (F.GAL_PROFp_HOLD_VALUE p) ≠ 0 → (u.settle.gp p).state = 4))) ∧
        now.sameWords u [R.GAL_STATUS] ∧ u = { now with regs := u.regs, gal := u.gal, int := u.int, str := u.str })) ∧
  (∀ (s : State) (p : Nat) (mask : BitVec 16), s.Inv → s.isOn 9 = true → p < 4 → mask = 1#16 <<< p →
    let y := s.gp p
    let mine : GalRecord → Bool := fun r => r.index == y.record && r.profile == p
    let x := s.instantBefore p
    let n := if y.recent.head? = some x ∧ (s.nowNs + 2 ^ 32 - x.ns) % 2 ^ 32 = 0 then 1 else 0
    let fits := s.cf (F.GAL_PROFp_PRE_PRE p) + n ≤ y.stored ∧ n ≤ s.cf (F.GAL_PROFp_POST_POST p)
    let ignored : State → Prop := fun t =>
      t.get (F.GAL_PROFp_COUNTS_IGNORED p) = satInc 16 (s.get (F.GAL_PROFp_COUNTS_IGNORED p)) ∧
      t.pends 180 = ((s.isOn 1 && s.int.arm.getLsbD 180) || s.pends 180)
    (s.cfIs (F.GAL_PROFp_CFG_EN p) = false → exec (.galTrigWrite mask) s = .next s.settle) ∧
    (s.cfIs (F.GAL_PROFp_CFG_EN p) = true → ∃ t : State, exec (.galTrigWrite mask) s = .next t.settle ∧ t.gal.mem = s.gal.mem ∧
      (y.state = 2 → fits →
        (t.gp p).state = 3 ∧ (t.gp p).record = s.gal.next ∧ t.gal.next = (s.gal.next + 1) % 65536 ∧
        t.get F.GAL_STATUS_NEXT_INDEX = t.gal.next ∧ t.get (F.GAL_PROFp_LAST_INDEX p) = s.gal.next % 65536 ∧
        t.is (F.GAL_PROFp_LAST_EXISTS p) = true ∧
        (∃ r, t.gal.records.head? = some r ∧ r.index = s.gal.next ∧ r.profile = p ∧ r.cause = 35 ∧ r.complete = false ∧
          r.pre = s.cf (F.GAL_PROFp_PRE_PRE p) ∧ r.post = n ∧
          r.frac = (if n = 1 then 255 else fracOf ((s.nowNs + 2 ^ 32 - x.ns) % 2 ^ 32)
            (200 * intervalAfter (s.cf (F.GAL_PROFp_CFG_DIV p)) x.index)) ∧ r.div = s.cf (F.GAL_PROFp_CFG_DIV p) ∧
          r.seconds = s.word R.RVE_HOST_SECONDS ∧ r.base = s.galBase p y.slot ∧
          r.limit = s.galBase p y.slot + s.galN p * s.galB p) ∧
        (s.cfIs (F.GAL_PROFp_CFG_OUT_EN p) = true → t.pends (176 + p) = (s.isOn 1 || s.pends (176 + p))) ∧
        (s.cfIs (F.GAL_PROFp_CFG_OUT_EN p) = false → t.cul = s.cul ∧ t.int = s.int)) ∧
      (y.state = 3 → (t.gp p).state = 3 ∧
        t.get (F.GAL_PROFp_COUNTS_COINCIDENT p) = satInc 16 (s.get (F.GAL_PROFp_COUNTS_COINCIDENT p)) ∧
        ∀ r, s.gal.records.find? mine = some r → ∃ r', t.gal.records.find? mine = some r' ∧ natBit r'.other 3 = true) ∧
      (y.state ≠ 2 ∧ y.state ≠ 3 ∧ y.state ≠ 4 ∨ (y.state = 2 ∧ ¬fits) ∨ (y.state = 4 ∧ s.cf (F.GAL_PROFp_CFG_HOLD_MODE p) ≠ 2) →
        ignored t ∧ t.gal = s.gal) ∧
      (y.state = 4 → s.cf (F.GAL_PROFp_CFG_HOLD_MODE p) = 2 → ignored t ∧ (t.gp p).counted = y.counted + 1 ∧
        (y.counted + 1 < s.cf (F.GAL_PROFp_HOLD_VALUE p) → (t.gp p).state = 4) ∧
        (s.cf (F.GAL_PROFp_HOLD_VALUE p) ≤ y.counted + 1 → (s.nextSlot p = none → (t.gp p).state = 5) ∧
          ∀ i, s.nextSlot p = some i → (t.gp p).slot = i ∧ (t.gp p).stored = 0 ∧
            (t.gp p).state = (if s.cf (F.GAL_PROFp_PRE_PRE p) = 0 then 2 else 1)))))

/-- R427, R430, R431, R435: the end of a hold-off fills the next slot or is FULL with source 172 + p; CAPTURE_ARM,
CAPTURE_DISARM, CAPTURE_READ answer as their rules say; GAL_FREE frees a record's slot, which a FULL profile takes. Rests
also on the model's choices: assumptions 4, 19, 90, 91. -/
def Obligations.HoldoffsAndSlots : Prop :=
  ∀ (s : State) (n p : Nat), s.Inv → p < 4 →
    let needs := if s.pwr.blocked then s.respond n .refusedState [] else s.demand [9]
    let fills : Nat → State → Prop := fun i t =>
      (t.gp p).slot = i ∧ (t.gp p).pos = 0 ∧ (t.gp p).stored = 0 ∧
      (t.gp p).state = (if s.cf (F.GAL_PROFp_PRE_PRE p) = 0 then 2 else 1) ∧
      t.gal.held.any (overlaps (s.galBase p i) (s.galBase p i + s.galN p * s.galB p)) = false
    (s.isOn 9 = true → (s.gp p).state = 4 →
      s.cf (F.GAL_PROFp_CFG_HOLD_MODE p) ≠ 2 ∨ s.cf (F.GAL_PROFp_HOLD_VALUE p) ≤ (s.gp p).counted →
      ∃ t : State, exec (.holdoffEnd p) s = .next t.settle ∧ (∀ i, s.nextSlot p = some i → fills i t) ∧
        (s.nextSlot p = none → (t.gp p).state = 5 ∧ t.pends (172 + p) = (s.isOn 1 || s.pends (172 + p))) ∧
        bitsOf (t.word R.GAL_STATUS) (3 * p) 3 = (t.gp p).state ∧ t.gal.mem = s.gal.mem ∧ s.sameWords t [R.GAL_STATUS] ∧
        t = { s with regs := t.regs, gal := t.gal, int := t.int, str := t.str }) ∧
    ((s.gp p).state ≠ 4 → exec (.holdoffEnd p) s = .next s) ∧
    (s.takes n 0x50 = true → 3 < (s.mb n).arg 0 1 → exec (.captureArm n) s = .next (s.respond n .badArg [])) ∧
    (s.takes n 0x50 = true → (s.mb n).arg 0 1 = p →
      (s.isOn 9 = false → exec (.captureArm n) s = .next needs) ∧
      (s.isOn 9 = true → s.cfIs (F.GAL_PROFp_CFG_EN p) = false ∨ (s.gp p).state ≠ 0 ∨ s.nextSlot p = none →
        exec (.captureArm n) s = .next (s.respond n .refusedState [])) ∧
      (∀ i, s.isOn 9 = true → s.cfIs (F.GAL_PROFp_CFG_EN p) = true → (s.gp p).state = 0 → s.nextSlot p = some i →
        ∃ u : State, exec (.captureArm n) s = .next (u.respond n .ok []) ∧ fills i u ∧ u.gal.mem = s.gal.mem ∧
          s.sameWords u [R.GAL_STATUS] ∧ u = { s with regs := u.regs, gal := u.gal })) ∧
    (s.takes n 0x52 = true → 3 < (s.mb n).arg 0 1 → exec (.captureDisarm n) s = .next (s.respond n .badArg [])) ∧
    (s.takes n 0x52 = true → (s.mb n).arg 0 1 = p → s.isOn 9 = false → exec (.captureDisarm n) s = .next needs) ∧
    (s.takes n 0x52 = true → (s.mb n).arg 0 1 = p → s.isOn 9 = true →
      ∃ u : State, exec (.captureDisarm n) s = .next (u.respond n .ok []) ∧ (u.gp p).state = 0 ∧
        bitsOf (u.word R.GAL_STATUS) (3 * p) 3 = 0 ∧ (∀ q, q ≠ p → u.gp q = s.gp q) ∧ s.sameWords u [R.GAL_STATUS] ∧
        u = { s with regs := u.regs, gal := { s.gal with prof := u.gal.prof } }) ∧
    (s.takes n 0x51 = true → s.isOn 9 = false → exec (.captureRead n) s = .next needs) ∧
    (s.takes n 0x51 = true → s.isOn 9 = true →
      (∀ r, s.gal.records.find? (fun r => r.index == (s.mb n).arg 0 2) = some r →
        exec (.captureRead n) s = .next (s.respond n .ok r.bytes) ∧ r.bytes.length = 56) ∧
      (s.gal.records.find? (fun r => r.index == (s.mb n).arg 0 2) = none →
        exec (.captureRead n) s = .next (s.respond n .refusedState []))) ∧
    (∀ index : BitVec 16, s.isOn 9 = true → (∀ q, q < 4 → q ≠ p → (s.gp q).state ≠ 5) →
      let s1 := { s with gal := { s.gal with held := s.gal.held.filter (fun h => h.1 != index.toNat) } }
      ((s.gp p).state ≠ 5 ∨ s1.nextSlot p = none → exec (.galFreeWrite index) s = .next s1) ∧
      (∀ i, (s.gp p).state = 5 → s1.nextSlot p = some i →
        ∃ t : State, exec (.galFreeWrite index) s = .next t ∧ fills i t ∧ t.gal.mem = s.gal.mem ∧
          (∀ h ∈ t.gal.held, h.1 ≠ index.toNat) ∧ t = { s with regs := t.regs, gal := t.gal }))

/-- R456: a sample of t_m counts hot seconds and, at a reversal after at least 10 °C, the half-cycle's bin (up to 20, 40, 60
°C and above). R379: a substitution of a sensor that has delivered valid values for 1,000,000 tides ends with source 198, no
other. R378, R379: at a station's boundary, in single operation, T_max is the hottest sensor's value, a substituted one's its
frozen value. A step is entered at its TEMP, stays above TEMP less THM_HYST, and is not left while a substitution is held;
the highest entered one gives THM_STATUS STEP and THM_LIMIT, a change raises source 197. An own sensor whose valid reading
fails is substituted by its last value and THM_FAIL_MARGIN, with source 198. Rests also on the model's choices: assumptions
4, 5, 7, 60. -/
def Obligations.WearAndSubstitutions : Prop :=
  (∀ s : State, s.Inv →
    (s.isCell = false ∨ s.isOn 1 = false ∨ s.hottestNtc = none → exec .wearSample s = .next s) ∧
    (∀ tm : Int, s.isCell = true → s.isOn 1 = true → s.hottestNtc = some tm →
      ∃ t : State, exec .wearSample s = .next t ∧
        (1600 ≤ tm → 99 ≤ s.wear.hot → t.wear.hot = 0 ∧ t.get F.SPR_HOT_VALUE = satInc 32 (s.get F.SPR_HOT_VALUE)) ∧
        (1600 ≤ tm → s.wear.hot < 99 → t.wear.hot = s.wear.hot + 1 ∧ t.get F.SPR_HOT_VALUE = s.get F.SPR_HOT_VALUE) ∧
        (tm < 1600 → t.wear.hot = s.wear.hot ∧ t.get F.SPR_HOT_VALUE = s.get F.SPR_HOT_VALUE) ∧
        (s.wear.turn = none → t.wear.turn = some tm ∧ t.wear.peak = tm ∧
          ∀ k, k < 4 → t.get (F.SPR_BINk_VALUE k) = s.get (F.SPR_BINk_VALUE k)) ∧
        (∀ r, s.wear.turn = some r → (s.wear.rising = true → s.wear.peak ≤ tm) → (s.wear.rising = false → tm ≤ s.wear.peak) →
          t.wear.peak = tm ∧ t.wear.turn = some r ∧ t.wear.rising = s.wear.rising ∧
          ∀ k, k < 4 → t.get (F.SPR_BINk_VALUE k) = s.get (F.SPR_BINk_VALUE k)) ∧
        (∀ r, s.wear.turn = some r → (s.wear.rising = true → tm < s.wear.peak) → (s.wear.rising = false → s.wear.peak < tm) →
          160 ≤ (s.wear.peak - r).natAbs →
          t.wear.turn = some s.wear.peak ∧ t.wear.peak = tm ∧ t.wear.rising = (!s.wear.rising) ∧
          ∀ k, k < 4 → t.get (F.SPR_BINk_VALUE k) = (if min 3 (((s.wear.peak - r).natAbs - 1) / 320) = k
            then satInc 32 (s.get (F.SPR_BINk_VALUE k)) else s.get (F.SPR_BINk_VALUE k))) ∧
        s.sameWords t [R.SPR_HOT, R.SPR_BINk 0, R.SPR_BINk 1, R.SPR_BINk 2, R.SPR_BINk 3] ∧
        t = { s with regs := t.regs, wear := t.wear }) ∧
    (∀ (own : Bool) (ring slot sensor : Nat),
      let k := if own then sensor else sensorKey ring slot sensor
      (∀ x, SMap.find s.thm.sensors k = some x → x.subst = none ∨ x.run < 1000000 →
        exec (.substitutionEnd own ring slot sensor) s = .next s) ∧
      (∀ x, SMap.find s.thm.sensors k = some x → x.subst ≠ none → 1000000 ≤ x.run →
        ∃ u : State, exec (.substitutionEnd own ring slot sensor) s = .next u.settle ∧
          SMap.find u.thm.sensors k = some { x with subst := none, run := 0 } ∧
          (∀ j, j ≠ k → SMap.find u.thm.sensors j = SMap.find s.thm.sensors j) ∧ u.pends 198 = (s.isOn 1 || s.pends 198) ∧
          u = { s with thm := { s.thm with sensors := u.thm.sensors }, int := u.int, str := u.str }) ∧
      (SMap.find s.thm.sensors k = none → exec (.substitutionEnd own ring slot sensor) s = .next s))) ∧
  (∀ (s : State) (done : Bool) (offset : Nat), s.isOn 5 = true → s.isStation = true → s.twn.operating = false →
    ∃ u : State, exec (.tideBoundary done offset) s = .next u.settle ∧
      let entered := fun (k : Nat) => u.thm.entered.getLsbD (k - 1)
      let step := u.get F.THM_STATUS_STEP
      (u.thm.sensors ≠ [] → ∃ top : Int, (∃ x ∈ u.thm.sensors, x.2.value = top) ∧ (∀ x ∈ u.thm.sensors, x.2.value ≤ top) ∧
        ∀ k, 1 ≤ k → k ≤ 4 → (entered k = true ↔ s.cfIs (F.THM_STEPk_EN k) = true ∧
          (s.cfS (F.THM_STEPk_TEMP k) ≤ top ∨ (s.thm.entered.getLsbD (k - 1) = true ∧
            (u.substituting = true ∨ s.cfS (F.THM_STEPk_TEMP k) - 16 * s.cf F.THM_CONFIG_THM_HYST ≤ top))))) ∧
      (∀ k, 1 ≤ k → k ≤ 4 → entered k = true → k ≤ step) ∧ step ≤ 4 ∧ (step ≠ 0 → entered step = true) ∧
      u.get F.THM_LIMIT_LIMIT = (if step = 0 then 0x7FFFFFFF else ofSigned 32 (milliPu (s.cf (F.THM_STEPk_LIMIT step)))) ∧
      (step ≠ s.get F.THM_STATUS_STEP → s.isOn 1 = true → u.pends 197 = true) ∧
      (∀ m x, m < 4 → SMap.find s.thm.sensors m = some x → x.subst = none → s.ntcTele m = noTemp →
        SMap.find u.thm.sensors m = some { x with
          valid := false, run := 0, subst := some (x.last + 16 * s.cf F.THM_CONFIG_THM_FAIL_MARGIN) } ∧
        u.substituting = true ∧ (s.isOn 1 = true → u.pends 198 = true)))

/-! ## Grid control, loop engine, spares and twins (chapters 7, 9 and 16) -/

/-- R214, R217: an observer step, 200 ns after the one before it in its tide, computes p and q from the flux, the currents
and w; in twin operation it takes the shared results that are due, and it touches nothing else. R241: a change of tracker
validity raises source 91, to invalid in DPC also fault 74. Rests also on the model's choices: assumptions 4, 7, 40, 68. -/
def Obligations.ObserverAndTracker : Prop :=
  ∀ s : State,
    (s.gridRuns = true → let now := s.reach (s.get F.TIM_TIDE_NS_VALUE + 40 + 200 * min 4 s.dpc.steps)
      ∃ t : State, exec .observerStep s = .next t ∧
      t.timeCame (s.get F.TIM_TIDE_NS_VALUE + 40 + 200 * min 4 s.dpc.steps) = true ∧
      t.dpc.steps = min 4 s.dpc.steps + 1 ∧
      t.dpc.p = fx (pu t.dpc.w * (pu t.dpc.psiA * pu t.dpc.iB - pu t.dpc.psiB * pu t.dpc.iA)) ∧
      t.dpc.q = fx (pu t.dpc.w * (pu t.dpc.psiA * pu t.dpc.iA + pu t.dpc.psiB * pu t.dpc.iB)) ∧
      t.dpc.theta = fxAtan2 t.dpc.psiB t.dpc.psiA ∧
      t.dpc.iA = clarkeA (t.dpc.i.getD 0 0) (t.dpc.i.getD 1 0) (t.dpc.i.getD 2 0) ∧
      t.dpc.iB = clarkeB (t.dpc.i.getD 1 0) (t.dpc.i.getD 2 0) ∧
      (s.twn.operating = false → t.adc = now.adc ∧ t.twn = s.twn) ∧
      t = { now with
        adc := t.adc
        twn := { s.twn with shared := t.twn.shared, presented := t.twn.presented }
        dpc := { s.dpc with
          yA := t.dpc.yA, yB := t.dpc.yB, w := t.dpc.w, theta := t.dpc.theta, psiA := t.dpc.psiA, psiB := t.dpc.psiB
          p := t.dpc.p, q := t.dpc.q, i := t.dpc.i, iA := t.dpc.iA, iB := t.dpc.iB, steps := t.dpc.steps } }) ∧
    (s.gridRuns = false → exec .observerStep s = .next s) ∧
    (s.gridRuns = true → s.trkConditions = true → s.trkValid = false →
      ∃ u : State, exec .trackerValid s = .next u.settle ∧ u.trkValid = true ∧ u.is F.DPC_STATE_TRK_VALID = true ∧
        u.pends 91 = (s.isOn 1 || s.pends 91) ∧ s.sameBits u [F.OBS_TRK_STATUS_VALID, F.DPC_STATE_TRK_VALID] ∧
        u = { s with regs := u.regs, int := u.int, str := u.str }) ∧
    (∀ lost : Bool, s.gridRuns = true → lost = true ∨ s.trkConditions = false → s.trkValid = true →
      ∃ u : State, exec (.trackerInvalid lost) s = .next (if s.ctl = 1 then u.fault 74 else u).settle ∧
        u.trkValid = false ∧ u.is F.DPC_STATE_TRK_VALID = false ∧ u.pends 91 = (s.isOn 1 || s.pends 91) ∧
        (lost = true → u.is F.OBS_TRK_STATUS_SRC_LOST = true) ∧
        s.sameBits u [F.OBS_TRK_STATUS_VALID, F.DPC_STATE_TRK_VALID, F.OBS_TRK_STATUS_SRC_LOST] ∧
        u = { s with regs := u.regs, int := u.int, str := u.str })

/-- R247: RUN is cleared at any time, set in OFF only. R297: LPE_FE_CLEAR releases latched loops, bumplessly, each with its
source. R444: in twin operation the active queues both writes and another twin ignores them. Rests also on the model's
choices: assumption 4. -/
def Obligations.RunTimeWrites : Prop :=
  ∀ s : State,
    (∀ value : Bool, s.gridRuns = true → s.twn.operating = false →
      (value = false ∨ s.ctl = 0 → ∃ u : State, exec (.runWrite value) s = .next u.settle ∧ u.is F.DPC_CTRL_RUN = value ∧
        s.onlyFields u [F.DPC_CTRL_RUN]) ∧
      (value = true → s.ctl ≠ 0 → exec (.runWrite value) s = .next s.settle)) ∧
    (∀ value : Bool, s.gridRuns = true → s.twn.operating = true →
      (s.twin = 2 → exec (.runWrite value) s = .next (State.settle { s with twn := { s.twn with
        queueOut := s.twn.queueOut ++ [⟨1, R.DPC_CTRL, BitVec.ofNat 32 (b2n value)⟩] } })) ∧
      (s.twin ≠ 2 → exec (.runWrite value) s = .next s.settle)) ∧
    (∀ mask : Word, s.isOn 11 = true → s.twn.operating = false →
      ∃ u : State, exec (.feClear mask) s = .next u.settle ∧
        (∀ n, n < 32 → n < s.lpe.loops.length → mask.getLsbD n = true → (s.loop n).latched = true →
          (u.loop n).latched = false ∧ (u.loop n).count = 0 ∧ (u.loop n).ePrev = (s.loop n).e ∧
          (u.loop n).a = clampInt (s.cfS (F.LPE_LOOPn_IMIN_VALUE n)) (s.cfS (F.LPE_LOOPn_IMAX_VALUE n))
            ((s.loop n).out - (s.loop n).d - (s.loop n).f) ∧
          u.is (F.LPE_LOOPn_FLAGS_FE_LATCHED n) = false ∧ u.pends (96 + n) = (s.isOn 1 || s.pends (96 + n))) ∧
        (∀ n, n < 32 → mask.getLsbD n = false ∨ (s.loop n).latched = false → u.loop n = s.loop n ∧
          u.word (R.LPE_LOOPn_FLAGS n) = s.word (R.LPE_LOOPn_FLAGS n)) ∧
        u = { s with regs := u.regs, lpe := { s.lpe with loops := u.lpe.loops }, int := u.int, str := u.str }) ∧
    (∀ mask : Word, s.isOn 11 = true → s.twn.operating = true →
      (s.twin = 2 → exec (.feClear mask) s = .next (State.settle { s with twn := { s.twn with
        queueOut := s.twn.queueOut ++ [⟨1, R.LPE_FE_CLEAR, mask⟩] } })) ∧
      (s.twin ≠ 2 → exec (.feClear mask) s = .next s.settle))

/-- R284: the outputs of a pass are published together: LPE_PASS, each loop's output (its group's where it is a member, 0
with EN = 0) and latch, each group and each generator; the loops that ask for it raise their source. R282, R284, R287, R289,
R290, R291: in the pass of a tide boundary an enabled loop outside the groups, neither frozen nor waiting for its first
evaluation or for committed keys, and with set points for its sources, keeps its state where it is not due, and where it is
due computes error, increment, integrator, derivative, feedforward and output as R287 writes them, the limits narrowed by
OV2. A loop with EN = 0 has the output 0. Rests also on the model's choices: assumptions 4, 7, 43, 77, 102. -/
def Obligations.PassIsPublished : Prop :=
  (∀ (s : State) (t0 : Nat), s.isOn 11 = true → s.lpe.pass = some t0 →
    ∃ u : State, exec .lpePublish s = .next u.settle ∧ u.get F.LPE_PASS_TIDE = t0 % 2 ^ 32 ∧ u.lpe.pass = none ∧
      (∀ n, n < 32 →
        let g := s.cf (F.LPE_LOOPn_CFG_GROUP n)
        u.getS (F.LPE_LOOPn_OUT_VALUE n) = toSigned 32 (ofSigned 32
          (if s.cfIs (F.LPE_LOOPn_CFG_EN n) = false then 0
           else if s.member n g then (s.lpe.groups.getD g (0, none)).1 else (s.loop n).out)) ∧
        u.is (F.LPE_LOOPn_FLAGS_FE_LATCHED n) = (s.loop n).latched ∧
        u.is (F.LPE_LOOPn_FLAGS_WINNER n) = (s.member n g && (s.loop n).winner) ∧
        u.pends (96 + n) = ((s.isOn 1 && (s.loop n).raise_) || s.pends (96 + n))) ∧
      (∀ g, g < 8 → u.getS (F.LPE_GRPg_OUT_VALUE g) = toSigned 32 (ofSigned 32 (s.lpe.groups.getD g (0, none)).1) ∧
        u.getS (F.LPE_GENg_OUT_VALUE g) = toSigned 32 (ofSigned 32 ((s.lpe.gens.getD g {}).y / 2 ^ 40))) ∧
      u = { s with regs := u.regs, lpe := { s.lpe with loops := u.lpe.loops, pass := none }, int := u.int, str := u.str }) ∧
  (∀ (s : State) (done : Bool) (offset n kr kb kf : Nat), s.isOn 5 = true → s.boundaries = true → s.isOn 11 = true →
    s.twn.operating = false → n < 32 → s.lpe.loops.length = 32 → kr < 16 → kb < 16 → kf < 16 →
    ∃ u : State, exec (.tideBoundary done offset) s = .next u.settle ∧ u.lpe.pass = some (s.nextTide % 2 ^ 32) ∧
      (s.cfgOf (F.LPE_LOOPn_CFG_EN n) = 0 → (u.loop n).out = 0 ∧ (u.loop n).latched = false) ∧
      (s.cfIs (F.LPE_LOOPn_CFG_EN n) = true → s.keysWait (loopKey n) = false → s.cfIs (F.LPE_LOOPn_CFG_GROUP_EN n) = false →
        s.cf (F.LPE_LOOPn_SRC_REF n) = 256 + kr → s.cf (F.LPE_LOOPn_SRC_FB n) = 256 + kb → s.cf (F.LPE_LOOPn_SRC_FF n) = 256 + kf →
        (s.loop n).fresh = false → (s.loop n).enabling = false → (s.loop n).latched = false →
        let x := s.loop n
        let y := u.loop n
        let t := s.nextTide % 2 ^ 32
        let key := fun (f : Fld) => s.cfS f
        let set := fun (k : Nat) => s.getS (F.LPE_SETk_VALUE k)
        let imin := key (F.LPE_LOOPn_IMIN_VALUE n)
        let imax := key (F.LPE_LOOPn_IMAX_VALUE n)
        let c := s.cf (F.LPE_LOOPn_CFG_OV2_CLAMP n)
        let lo := if s.ov2 = true ∧ c = 1 then max (key (F.LPE_LOOPn_OMIN_VALUE n)) 0 else key (F.LPE_LOOPn_OMIN_VALUE n)
        let hi := if s.ov2 = true ∧ c = 2 then min (key (F.LPE_LOOPn_OMAX_VALUE n)) 0 else key (F.LPE_LOOPn_OMAX_VALUE n)
        let e := sat32 (set kr - set kb)
        let inc := sat32 (sat32 (key (F.LPE_LOOPn_KP_VALUE n) * (e - x.ePrev) / 2 ^ 24) + sat32 (key (F.LPE_LOOPn_KI_VALUE n) * e / 2 ^ 32))
        let held := (x.clamped = 1 ∧ 0 < inc) ∨ (x.clamped = -1 ∧ inc < 0)
        let a := clampInt imin imax (x.a + if held then 0 else inc)
        let d := sat32 (x.d + (sat32 (key (F.LPE_LOOPn_KD_VALUE n) * (x.fbPrev - set kb) / 2 ^ 24) - x.d) / 2 ^ s.cf (F.LPE_LOOPn_CFG_DF n))
        let f := sat32 (key (F.LPE_LOOPn_KF_VALUE n) * set kf / 2 ^ 24)
        let v := sat32 (a + d + f)
        let out := clampInt lo hi v
        let due := s.cf (F.LPE_LOOPn_CFG_DIV n) ≠ 0 ∧ t % s.cf (F.LPE_LOOPn_CFG_DIV n) = s.cf (F.LPE_LOOPn_CFG_PHASE n)
        (¬due → y = x) ∧
        (due → y.e = e ∧ y.a = a ∧ y.d = d ∧ y.f = f ∧ y.ePrev = e ∧ y.fbPrev = set kb ∧
          y.clamped = (if out < v then 1 else if v < out then -1 else 0) ∧
          ((e.natAbs : Int) ≤ key (F.LPE_LOOPn_FE_LIMIT_VALUE n) → 0 < s.cf (F.LPE_LOOPn_FE_FE_TIME n) →
            y.out = out ∧ y.latched = false ∧ y.count = 0))))

/-- R16, R86, R458, R459, R462, R463: the statuses of CELL_BRING_IN and CELL_RETIRE, and their acceptance: the operation
begins, the ring is held and SPR_STATUS shows BUSY. Rests also on the model's choices: assumptions 19, 92, 95. -/
def Obligations.BringInAndRetire : Prop :=
  ∀ (s : State) (n : Nat), s.Inv →
    let x := (s.mb n).arg 0 1
    let q := (s.mb n).arg 1 1
    let on := (s.ringPolders x).all s.isOn = true
    let op : Nat → Nat → Nat → Bool → Bool → SpareOp := fun kind k step asleep verified =>
      { kind := kind, mailbox := some n, ring := x, slot := k, step := step, since := 0, inStep := 0, asleep := asleep
        verified := verified, failed := false, commit := false, worn := none, replace := false, code := 0 }
    (∀ c, (c = .cellRetire n ∧ s.takes n 0x41 = true ∧ q ≠ 0) ∨ (∃ v a, c = .cellBringIn n v a ∧ s.takes n 0x40 = true) →
      x ≤ 2 → q ≤ 48 → s.held &&& resRing x = 0 → ¬on →
      exec c s = .next (if (s.servicePlan || s.pwr.blocked) = true then s.respond n .refusedState []
        else s.demand (s.ringPolders x))) ∧
    (∀ verified auto : Bool, s.takes n 0x40 = true →
      (2 < x ∨ 48 < q → exec (.cellBringIn n verified auto) s = .next (s.respond n .badArg [])) ∧
      (x ≤ 2 → q ≤ 48 → s.held &&& resRing x ≠ 0 → exec (.cellBringIn n verified auto) s = .next (s.respond n .busy [])) ∧
      (x ≤ 2 → q ≤ 48 → s.held &&& resRing x = 0 → on →
        (q = 0 → s.bestSpare x = none → exec (.cellBringIn n verified auto) s = .next (s.respond n .refusedState [])) ∧
        (∀ k, (q = 0 → s.bestSpare x = some k) → (q ≠ 0 → k = q) →
          (s.takable x k = false ∨ (s.sleepsAt x k = true ∧ s.relayFull x k = true) ∨ auto = false ∨ s.loneB = true →
            exec (.cellBringIn n verified auto) s = .next (s.respond n .refusedState [])) ∧
          (s.takable x k = true → s.sleepsAt x k = false → auto = true → s.loneB = false →
            ∃ t : State, exec (.cellBringIn n verified auto) s = .next t.settle ∧ t.runs n 0x40 = true ∧
              t.held &&& resRing x ≠ 0 ∧ (s.spr.ops = [] → (t.word R.SPR_STATUS).getLsbD 31 = true) ∧
              t.spr.ops = s.spr.ops ++ [op 1 k 5 false verified] ∧ s.sameWords t [R.SPR_STATUS] ∧
              t = { s with regs := t.regs, rve := t.rve, spr := { s.spr with ops := t.spr.ops } }) ∧
          (s.takable x k = true → s.sleepsAt x k = true → s.relayFull x k = false → auto = true → s.loneB = false →
            ∃ t : State, exec (.cellBringIn n verified auto) s = .next t.settle ∧ t.runs n 0x40 = true ∧
              t.held &&& resRing x ≠ 0 ∧ t.spr.ops = s.spr.ops ++ [op 1 k 1 true verified])))) ∧
    (s.takes n 0x41 = true →
      (2 < x ∨ q = 0 ∨ 48 < q → exec (.cellRetire n) s = .next (s.respond n .badArg [])) ∧
      (x ≤ 2 → q ≠ 0 → q ≤ 48 → s.held &&& resRing x ≠ 0 → exec (.cellRetire n) s = .next (s.respond n .busy [])) ∧
      (x ≤ 2 → q ≠ 0 → q ≤ 48 → s.held &&& resRing x = 0 → on →
        (s.is (F.CUL_POS_r_s_PRESENT x q) = false ∨ s.sleepsAt x q = true ∨
          ((s.pos x q).fault < 2 ∧ s.is (F.CUL_POS_r_s_LIMIT x q) = false ∧
            s.getS F.DPC_FREEBOARD_VALUE - s.vdcPu (s.pos x q).vdc < 0) →
          exec (.cellRetire n) s = .next (s.respond n .refusedState [])) ∧
        (s.is (F.CUL_POS_r_s_PRESENT x q) = true → s.sleepsAt x q = false →
          2 ≤ (s.pos x q).fault ∨ s.is (F.CUL_POS_r_s_LIMIT x q) = true ∨
            0 ≤ s.getS F.DPC_FREEBOARD_VALUE - s.vdcPu (s.pos x q).vdc →
          ∃ t : State, exec (.cellRetire n) s = .next t.settle ∧ t.runs n 0x41 = true ∧ t.held &&& resRing x ≠ 0 ∧
            (s.spr.ops = [] → (t.word R.SPR_STATUS).getLsbD 31 = true) ∧
            t.spr.ops = s.spr.ops ++ [op 2 q 1 false true] ∧
            s.sameWords t [R.SPR_STATUS] ∧
            t = { s with regs := t.regs, rve := t.rve, spr := { s.spr with ops := t.spr.ops } })))

/-- R454, R455: the statuses of TWIN_SWAP and TWIN_RESYNC, the swap an active twin announces, the request another twin sends,
the start of a resync, and the automatic swap with its refusals counted. Rests also on the model's choices: assumptions 4,
79, 93. -/
def Obligations.TwinCommands : Prop :=
  ∀ (s : State) (n : Nat), s.Inv →
    let paths := s.is F.TWN_STATUS_LINK_ECHO && s.is F.TWN_STATUS_RING_ECHO && !s.is F.TWN_STATUS_RESYNC
    let free := paths && decide (s.held &&& resRings 15 = 0)
    let held := s.held &&& resTwin ≠ 0
    let announced : State → Prop := fun t => t.is F.TWN_STATUS_SWAP_PENDING = true ∧ t.twn.swapIn = some 65 ∧
      t.held &&& resTwin ≠ 0 ∧ s.sameBits t [F.TWN_STATUS_SWAP_PENDING] ∧ t = { s with regs := t.regs, rve := t.rve, twn := t.twn }
    (s.takes n 0x42 = true → held → (s.twin = 2 ∧ s.twn.partner ≠ 3 ∧ free = true) ∨ (s.twin = 3 ∧ paths = true) →
      exec (.twinSwap n) s = .next (s.respond n .busy [])) ∧
    (s.takes n 0x42 = true →
      (s.twin = 0 ∨ (s.twin = 2 ∧ s.twn.partner ≠ 3 ∧ free = false) ∨ (s.twin = 3 ∧ paths = false) →
        exec (.twinSwap n) s = .next (s.respond n .refusedState [])) ∧
      (s.twin = 1 ∨ 4 ≤ s.twin ∨ (s.twin = 2 ∧ s.twn.partner = 3) →
        exec (.twinSwap n) s = .next (s.respond n .diverged [])) ∧
      (s.twin = 2 → s.twn.partner ≠ 3 → free = true → ¬held → ∃ t : State, exec (.twinSwap n) s = .next t ∧ announced t ∧
        t.twn.swapBy = some n ∧ t.runs n 0x42 = true) ∧
      (s.twin = 3 → paths = true → ¬held → ∃ t : State, exec (.twinSwap n) s = .next t ∧ t.runs n 0x42 = true ∧
        t.twn = { s.twn with swapBy := some n, msgOut := s.twn.msgOut ++ [⟨1, padTo 64 [0x42], 0, 9⟩] } ∧
        t.held &&& resTwin ≠ 0 ∧ t = { s with rve := t.rve, twn := t.twn })) ∧
    (s.twin = 2 → s.cfIs F.TWN_CFG_AUTO_SWAP = true → s.swapDue ≤ s.twn.hourTides →
      (s.twn.partner = 3 ∨ free = false ∨ s.held &&& resTwin ≠ 0 →
        ∃ u : State, exec .autoSwapTimer s = .next u.settle ∧ u.pends 237 = (s.isOn 1 || s.pends 237) ∧
          u.get F.TWN_COUNTS_SWAP_REFUSED = satInc 4 (s.get F.TWN_COUNTS_SWAP_REFUSED) ∧
          s.sameBits u [F.TWN_COUNTS_SWAP_REFUSED] ∧
          u = { s with regs := u.regs, int := u.int, str := u.str
                       twn := { s.twn with retryAt := some (s.twn.hourTides + hourTides) } }) ∧
      (s.twn.partner ≠ 3 → free = true → s.held &&& resTwin = 0 →
        ∃ t : State, exec .autoSwapTimer s = .next t ∧ announced t ∧ t.twn.swapBy = none)) ∧
    (s.twin ≠ 2 ∨ s.cfIs F.TWN_CFG_AUTO_SWAP = false ∨ s.twn.hourTides < s.swapDue →
      exec .autoSwapTimer s = .next s) ∧
    (s.takes n 0x43 = true →
      let refused := s.twin = 0 ∨ s.is F.TWN_STATUS_LINK_ECHO = false ∨ s.is F.TWN_STATUS_MATCHED = false ∨
        s.is F.TWN_STATUS_RESYNC = true
      (refused → exec (.twinResync n) s = .next (s.respond n .refusedState [])) ∧
      (¬refused → s.held &&& resTwin ≠ 0 → exec (.twinResync n) s = .next (s.respond n .busy [])) ∧
      (¬refused → s.held &&& resTwin = 0 → ∃ t : State, exec (.twinResync n) s = .next t ∧ t.is F.TWN_STATUS_RESYNC = true ∧
        t.twn.resyncBy = some n ∧ t.runs n 0x43 = true ∧ t.held &&& resTwin ≠ 0 ∧
        t.twn.msgOut = (if s.twin = 2 then s.twn.msgOut else s.twn.msgOut ++ [⟨1, padTo 64 [0x43], 0, 9⟩]) ∧
        s.sameBits t [F.TWN_STATUS_RESYNC] ∧ t = { s with regs := t.regs, rve := t.rve, twn := t.twn }))

/-- R441, R450, R451: a silent path shows in its bit with source 233; with both silent for ECHO_LOSS_TIDES, the tide that
ends now among them, a STANDBY becomes ACTIVE with fault 122 and source 238, and a DIVERGED twin in control falls back, or
blocks without a valid tracker; a pairing twin whose partner stays silent becomes ACTIVE. Rests also on the model's choices:
assumptions 4, 93, 104. -/
def Obligations.SilenceAndTakeover : Prop :=
  ∀ s : State,
    (∀ ring : Bool,
      let f := if ring then F.TWN_STATUS_RING_ECHO else F.TWN_STATUS_LINK_ECHO
      (s.echoSilent ring = true → s.is f = true → ∃ u : State, exec (.echoPathSilent ring) s = .next u.settle ∧
        u.is f = false ∧ u.pends 233 = (s.isOn 1 || s.pends 233) ∧ s.sameBits u [f] ∧
        u = { s with regs := u.regs, int := u.int, str := u.str }) ∧
      (s.echoSilent ring = false → exec (.echoPathSilent ring) s = .next s)) ∧
    (let became : State → Prop := fun u => u.twin = 2 ∧ u.is F.TWN_STATUS_LINK_ECHO = false ∧
        u.is F.TWN_STATUS_RING_ECHO = false ∧ u.pends 232 = (s.isOn 1 || s.pends 232) ∧
        u.pends 238 = (s.isOn 1 || s.pends 238) ∧
        u.get F.TWN_COUNTS_TAKEOVERS = satInc 4 (s.get F.TWN_COUNTS_TAKEOVERS) ∧
        u.twn = { s.twn with tookOver := true } ∧ u.cfg = s.cfg ∧ u.eff = s.eff
     s.echoGone false = true → s.echoGone true = true →
      (s.twin = 3 → ∃ u : State, exec .twinTakeover s = .next (u.fault 122).settle ∧ became u ∧
        s.sameBits u [F.TWN_STATUS_STATE, F.TWN_STATUS_LINK_ECHO, F.TWN_STATUS_RING_ECHO, F.TWN_COUNTS_TAKEOVERS] ∧ u = { s with regs := u.regs, int := u.int, str := u.str, twn := u.twn }) ∧
      (s.twin = 4 → ∃ u : State, exec .twinTakeover s = .next (u.fault 122).settle ∧ became u ∧
        (s.gridRuns = true → s.ctl = 1 ∨ s.ctl = 2 → u.ctl = (if s.trkValid then 2 else 3) ∧
          (s.trkValid = true → u.get F.DPC_COUNTS_LOSSES = satInc 16 (s.get F.DPC_COUNTS_LOSSES)))) ∧
      (s.twin ≠ 3 → s.twin ≠ 4 → exec .twinTakeover s = .next s)) ∧
    (s.twin = 1 → 1000 ≤ s.twn.silentBoth → ∃ u : State, exec .pairingPartnerSilent s = .next u.settle ∧ u.twin = 2 ∧
      u.get F.TWN_STATUS_HOURS_TO_SWAP = s.cf F.TWN_CFG_TWIN_SWAP_PERIOD ∧ u.pends 232 = (s.isOn 1 || s.pends 232) ∧
      s.sameBits u [F.TWN_STATUS_STATE, F.TWN_STATUS_HOURS_TO_SWAP] ∧
      u = { s with regs := u.regs, twn := { s.twn with hourTides := 0, retryAt := none, tookOver := true }, int := u.int, str := u.str }) ∧
    (s.twin ≠ 1 ∨ s.twn.silentBoth < 1000 → exec .pairingPartnerSilent s = .next s)

/-- R442, R443, R450, R453: an intact twin-link frame of the partner for the own tide counts, a moving ECHO_COUNT shows the
link, AUX of tides 4 modulo 8 compares CFG_CRC, and a standby whose command areas differ from the active's diverges, or pairs
anew where the configurations differ; a damaged frame is counted, one of another tide or identity ignored. The code errors of
P8's tide are counted in every case. Rests also on the model's choices: assumptions 4, 32, 75, 79, 93. -/
def Obligations.TwinLinkFrames : Prop :=
  ∀ (s : State) (f : TideFrame) (arrival : Int) (id errors : Nat), s.twn.operating = true → s.isOn 6 = true →
    s.get (F.CUL_Pn_STATUS_RX_STATE 8) = 5 →
    let code := F.CUL_Pn_ERRORS_CODE 8
    let counted : State → Prop := fun t => t.get code = min 65535 (s.get code + errors)
    (f.intact = false → ∃ t : State, exec (.twinLinkFrameReceived f arrival id errors) s = .next t ∧
      (let c := if f.stomped then F.CUL_Pn_CRC_STOMPED 8 else F.CUL_Pn_CRC_BAD 8
       t.get c = satInc c.w (s.get c) ∧ counted t ∧ s.onlyFields t [c, code])) ∧
    (f.intact = true → f.body.length ≠ 472 ∨ f.tide ≠ s.tide ∨ natBit (leAt f.header 5 1) 0 = s.isTwinB →
      ∃ t : State, exec (.twinLinkFrameReceived f arrival id errors) s = .next t ∧ counted t ∧ s.onlyFields t [code]) ∧
    (f.intact = true → f.body.length = 472 → f.tide = s.tide → natBit (leAt f.header 5 1) 0 = (!s.isTwinB) →
      ∃ u : State, exec (.twinLinkFrameReceived f arrival id errors) s = .next u.settle ∧ counted u ∧
        u.twn.linkGot = true ∧ u.twn.partner = leAt f.header 4 1 / 32 ∧ u.twn.linkCount = some (leAt f.header 4 1 % 32) ∧
        u.twn.xOwn = some arrival ∧ u.twn.partnerId = id ∧
        (advanced s.twn.linkCount (leAt f.header 4 1 % 32) = true → u.is F.TWN_STATUS_LINK_ECHO = true ∧ u.twn.linkMoved = true) ∧
        (s.tide % 8 = 4 → u.twn.crcKnown = true ∧
          u.is F.TWN_STATUS_MATCHED = decide (leAt f.header 12 4 = s.cfgCrc.toNat)) ∧
        (s.twin = 3 → leAt f.header 4 1 / 32 = 1 ∨ leAt f.header 4 1 / 32 = 4 →
          ∀ a, s.twn.areas.find? (fun a => a.1 == f.tide) = some a →
            ((crc32 a.2.flatten).toNat = leAt f.header 8 4 → u.twin = 3) ∧
            ((crc32 a.2.flatten).toNat ≠ leAt f.header 8 4 →
              (u.is F.TWN_STATUS_MATCHED = true → u.twin = 4 ∧ u.pends 234 = (s.isOn 1 || s.pends 234)) ∧
              (u.is F.TWN_STATUS_MATCHED = false → u.twin = 1))))

/-- R454: a completed resync makes a DIVERGED twin, whose CMD_CRC then matches the active's, a STANDBY with the active's
decision state, sources 232 and 235, and ends it in the active; one that has not completed in time answers TIMEOUT and leaves
the state. Rests also on the model's choices: assumptions 4, 93, 104. -/
def Obligations.ResyncEnds : Prop :=
  ∀ s : State, s.Inv → s.is F.TWN_STATUS_RESYNC = true →
    (∃ u : State, exec .resyncTimeout s = .next u.settle ∧ u.is F.TWN_STATUS_RESYNC = false ∧ u.twin = s.twin ∧
      u.twn = { s.twn with resyncBy := none, snapWait := false } ∧
      (∀ k, k < 9 → s.twn.resyncBy = some k → (u.mb k).ready = true ∧
        (u.mb k).rsp.getD 2 0 = BitVec.ofNat 8 Status.timeout.code ∧ (u.mb k).held = 0) ∧
      (s.twn.resyncBy = none → u.rve = { s.rve with autoHeld := s.rve.autoHeld &&& ~~~resTwin }) ∧
      s.sameBits u [F.TWN_STATUS_RESYNC] ∧ u = { s with regs := u.regs, rve := u.rve, twn := u.twn }) ∧
    (∀ snap : Snapshot, s.twin = 4 → (s.loadSnapshot snap).crcMatches = false → exec (.resyncComplete snap) s = .next s) ∧
    (∀ snap : Snapshot, s.twin = 4 → (s.loadSnapshot snap).crcMatches = true → ∃ u : State, exec (.resyncComplete snap) s = .next u.settle ∧ u.twin = 3 ∧
      u.is F.TWN_STATUS_RESYNC = false ∧ u.dpc = { snap.dpc with steps := s.dpc.steps } ∧ u.lpe = snap.lpe ∧ u.thm = snap.thm ∧
      u.twn.queued = snap.queued ∧ u.twn.shared = snap.shared ∧ u.twn.presented = snap.presented ∧
      u.cul = { s.cul with cmds := snap.cmds } ∧ u.twn.goose = snap.goose ∧ u.twn.svParts = snap.svParts ∧ u.twn.svLast = snap.svLast ∧
      u.pends 232 = (s.isOn 1 || s.pends 232) ∧ u.pends 235 = (s.isOn 1 || s.pends 235) ∧
      (∀ k, k < 9 → s.twn.resyncBy = some k → (u.mb k).ready = true ∧ (u.mb k).rsp.getD 2 0 = 0) ∧
      (∀ a, snapReg a = false → a ≠ R.TWN_STATUS → u.word a = s.word a) ∧
      (∀ a v, snap.regs = [(a, v)] → snapReg a = true → u.word a = v) ∧ u.cfg = s.cfg ∧ u.eff = s.eff) ∧
    (∀ snap : Snapshot, s.twin = 2 → s.twn.partner = 2 → ∃ u : State, exec (.resyncComplete snap) s = .next u.settle ∧
      u.is F.TWN_STATUS_RESYNC = false ∧ s.sameBits u [F.TWN_STATUS_RESYNC] ∧
      u.twn = { s.twn with resyncBy := none, snapWait := false } ∧
      (∀ k, k < 9 → s.twn.resyncBy = some k → (u.mb k).ready = true ∧ (u.mb k).rsp.getD 2 0 = 0) ∧
      u = { s with regs := u.regs, rve := u.rve, twn := u.twn }) ∧
    (∀ snap : Snapshot, s.twin ≠ 4 → s.twin ≠ 2 ∨ s.twn.partner ≠ 2 → exec (.resyncComplete snap) s = .next s)
end

