-- ==== Sys2Proof/Laws/SMap.lean ====
section
/-! SUPPORT. Laws of sparse maps and of the memory of bytes: what a write does, and that every operation keeps the canonical
form. -/
namespace Sys2Proof.Machine

/-- A map reads as it was written at the key written, and as before elsewhere. -/
@[simp] theorem SMap.find_set {α : Type} (m : List (Nat × α)) (k j : Nat) (v : α) :
    SMap.find (SMap.set m k v) j = if j = k then some v else SMap.find m j := by
  induction m with
  | nil => by_cases h : j = k <;> simp [SMap.set, SMap.find, h]
  | cons p r ih =>
    obtain ⟨a, w⟩ := p
    simp only [SMap.set]
    by_cases h1 : k = a
    · subst h1
      by_cases h : j = k <;> simp [SMap.find, h]
    · by_cases h2 : k < a
      · by_cases h : j = k
        · simp [h1, h2, SMap.find, h]
        · by_cases h3 : j < k
          · have h4 : j ≠ a := by omega
            have h5 : j < a := by omega
            simp [h1, h2, SMap.find, h, h3, h4, h5]
          · simp [h1, h2, SMap.find, h, h3]
      · by_cases h : j = a
        · have h3 : j ≠ k := by omega
          simp [h1, h2, SMap.find, h, Ne.symm h1]
        · by_cases h3 : j < a
          · have h4 : j ≠ k := by omega
            simp [h1, h2, SMap.find, h, h3, h4]
          · simp [h1, h2, SMap.find, h, h3, ih]

/-- Every key of a map is above `k`. -/
def SMap.above {α : Type} (k : Nat) (m : List (Nat × α)) : Prop := ∀ p ∈ m, k < p.1

/-- Keys rise exactly when the first is below the others and they rise. -/
theorem SMap.wf_cons {α : Type} (p : Nat × α) (m : List (Nat × α)) :
    SMap.wf (p :: m) = true ↔ SMap.above p.1 m ∧ SMap.wf m = true := by
  induction m generalizing p with
  | nil => simp [SMap.wf, SMap.above]
  | cons q r ih =>
    simp only [SMap.wf, Bool.and_eq_true, decide_eq_true_eq]
    constructor
    · rintro ⟨h, hw⟩
      refine ⟨?_, hw⟩
      intro x hx
      rcases List.mem_cons.mp hx with rfl | hx
      · exact h
      · exact Nat.lt_trans h (((ih q).mp hw).1 x hx)
    · rintro ⟨h, hw⟩
      exact ⟨h q (List.mem_cons_self ..), hw⟩

/-- A filter keeps the keys rising. -/
theorem SMap.wf_filter {α : Type} (m : List (Nat × α)) (f : Nat × α → Bool) (h : SMap.wf m = true) :
    SMap.wf (m.filter f) = true := by
  induction m with
  | nil => simp [SMap.wf]
  | cons p r ih =>
    obtain ⟨h1, h2⟩ := (SMap.wf_cons p r).mp h
    by_cases hp : f p = true
    · rw [List.filter_cons_of_pos hp, SMap.wf_cons]
      exact ⟨fun x hx => h1 x (List.mem_filter.mp hx).1, ih h2⟩
    · rw [List.filter_cons_of_neg hp]
      exact ih h2

/-- The keys of a written map are the old ones and the key written. -/
theorem SMap.mem_set {α : Type} (m : List (Nat × α)) (k : Nat) (v : α) (p : Nat × α) (h : p ∈ SMap.set m k v) :
    p = (k, v) ∨ p ∈ m := by
  induction m with
  | nil => simp [SMap.set] at h; exact Or.inl h
  | cons q r ih =>
    obtain ⟨a, w⟩ := q
    simp only [SMap.set] at h
    split at h
    · rcases List.mem_cons.mp h with h | h
      · exact Or.inl h
      · exact Or.inr (List.mem_cons_of_mem _ h)
    · split at h
      · rcases List.mem_cons.mp h with h | h
        · exact Or.inl h
        · exact Or.inr h
      · rcases List.mem_cons.mp h with h | h
        · exact Or.inr (h ▸ List.mem_cons_self ..)
        · rcases ih h with h | h
          · exact Or.inl h
          · exact Or.inr (List.mem_cons_of_mem _ h)

/-- A write keeps the keys rising. -/
theorem SMap.wf_set {α : Type} (m : List (Nat × α)) (k : Nat) (v : α) (h : SMap.wf m = true) :
    SMap.wf (SMap.set m k v) = true := by
  induction m with
  | nil => simp [SMap.set, SMap.wf]
  | cons q r ih =>
    obtain ⟨a, w⟩ := q
    obtain ⟨h1, h2⟩ := (SMap.wf_cons (a, w) r).mp h
    simp only [SMap.set]
    split
    · rename_i hk
      subst hk
      exact (SMap.wf_cons (k, v) r).mpr ⟨h1, h2⟩
    · split
      · rename_i hk hlt
        refine (SMap.wf_cons (k, v) _).mpr ⟨?_, h⟩
        intro x hx
        rcases List.mem_cons.mp hx with rfl | hx
        · exact hlt
        · exact Nat.lt_trans hlt (h1 x hx)
      · rename_i hk hlt
        refine (SMap.wf_cons (a, w) _).mpr ⟨?_, ih h2⟩
        intro x hx
        rcases SMap.mem_set r k v x hx with rfl | hx
        · exact Nat.lt_of_le_of_ne (Nat.le_of_not_lt hlt) (fun h => hk h.symm)
        · exact h1 x hx

/-- A write of one byte keeps the canonical form. -/
theorem Memory.wf_set (m : List (Nat × Byte)) (a : Nat) (b : Byte) (h : Memory.wf m = true) :
    Memory.wf (Memory.set m a b) = true := by
  simp only [Memory.wf, Bool.and_eq_true, List.all_eq_true] at h ⊢
  unfold Memory.set
  split
  · exact ⟨SMap.wf_filter m _ h.1, fun x hx => h.2 x (List.mem_filter.mp hx).1⟩
  · rename_i hb
    refine ⟨SMap.wf_set m a b h.1, fun x hx => ?_⟩
    rcases SMap.mem_set m a b x hx with rfl | hx
    · simpa using hb
    · exact h.2 x hx

/-- A write of bytes keeps the canonical form. -/
theorem Memory.wf_setAll (m : List (Nat × Byte)) (a : Nat) (bs : List Byte) (h : Memory.wf m = true) :
    Memory.wf (Memory.setAll m a bs) = true := by
  induction bs generalizing m a with
  | nil => exact h
  | cons b bs ih => exact ih _ _ (Memory.wf_set m a b h)

/-- A filtered map reads as the map at the keys the filter keeps. -/
theorem SMap.find_filter {α : Type} (m : List (Nat × α)) (f : Nat → Bool) (k : Nat) (h : SMap.wf m = true) (hk : f k = true) :
    SMap.find (m.filter (fun p => f p.1)) k = SMap.find m k := by
  induction m with
  | nil => rfl
  | cons p r ih =>
    obtain ⟨a, w⟩ := p
    obtain ⟨h1, h2⟩ := (SMap.wf_cons (a, w) r).mp h
    by_cases ha : f a = true
    · rw [List.filter_cons_of_pos (by simpa using ha)]
      simp only [SMap.find, ih h2]
    · rw [List.filter_cons_of_neg (by simpa using ha), ih h2]
      have hne : k ≠ a := by rintro rfl; exact ha hk
      simp only [SMap.find, hne, if_false]
      split
      · rename_i hlt
        have : ∀ (l : List (Nat × α)), SMap.above a l → SMap.find l k = none := by
          intro l hl
          cases l with
          | nil => rfl
          | cons q l =>
            obtain ⟨b, x⟩ := q
            have hb : a < b := hl (b, x) (List.mem_cons_self ..)
            have : k ≠ b := by omega
            have : k < b := by omega
            simp [SMap.find, *]
        exact this r h1
      · rfl

end Sys2Proof.Machine
end

