-- ==== Sys2Proof/Laws/State.lean ====
section
/-! SUPPORT. The state's small lemmas: one per field per update, and what the readers of a part say after an update of another
part. -/
namespace Sys2Proof.Machine

/-! ## Part `regs` replaced -/

@[simp] theorem State.withRegs_regs (s : State) (v : List (Nat × Word)) : (s.withRegs v).regs = v := rfl
@[simp] theorem State.withRegs_self (s : State) : s.withRegs s.regs = s := rfl
@[simp] theorem State.withRegs_withRegs (s : State) (v w : List (Nat × Word)) : (s.withRegs v).withRegs w = s.withRegs w := rfl
@[simp] theorem State.withRegs_cfg (s : State) (v : List (Nat × Word)) : (s.withRegs v).cfg = s.cfg := rfl
@[simp] theorem State.withRegs_eff (s : State) (v : List (Nat × Word)) : (s.withRegs v).eff = s.eff := rfl
@[simp] theorem State.withRegs_pwr (s : State) (v : List (Nat × Word)) : (s.withRegs v).pwr = s.pwr := rfl
@[simp] theorem State.withRegs_clk (s : State) (v : List (Nat × Word)) : (s.withRegs v).clk = s.clk := rfl
@[simp] theorem State.withRegs_hdRead (s : State) (v : List (Nat × Word)) : (s.withRegs v).hdRead = s.hdRead := rfl
@[simp] theorem State.withRegs_bus (s : State) (v : List (Nat × Word)) : (s.withRegs v).bus = s.bus := rfl
@[simp] theorem State.withRegs_spiPort (s : State) (v : List (Nat × Word)) : (s.withRegs v).spiPort = s.spiPort := rfl
@[simp] theorem State.withRegs_spi (s : State) (v : List (Nat × Word)) : (s.withRegs v).spi = s.spi := rfl
@[simp] theorem State.withRegs_rve (s : State) (v : List (Nat × Word)) : (s.withRegs v).rve = s.rve := rfl
@[simp] theorem State.withRegs_flt (s : State) (v : List (Nat × Word)) : (s.withRegs v).flt = s.flt := rfl
@[simp] theorem State.withRegs_int (s : State) (v : List (Nat × Word)) : (s.withRegs v).int = s.int := rfl
@[simp] theorem State.withRegs_str (s : State) (v : List (Nat × Word)) : (s.withRegs v).str = s.str := rfl
@[simp] theorem State.withRegs_cul (s : State) (v : List (Nat × Word)) : (s.withRegs v).cul = s.cul := rfl
@[simp] theorem State.withRegs_adc (s : State) (v : List (Nat × Word)) : (s.withRegs v).adc = s.adc := rfl
@[simp] theorem State.withRegs_dpc (s : State) (v : List (Nat × Word)) : (s.withRegs v).dpc = s.dpc := rfl
@[simp] theorem State.withRegs_mod (s : State) (v : List (Nat × Word)) : (s.withRegs v).mod = s.mod := rfl
@[simp] theorem State.withRegs_gdr (s : State) (v : List (Nat × Word)) : (s.withRegs v).gdr = s.gdr := rfl
@[simp] theorem State.withRegs_pins (s : State) (v : List (Nat × Word)) : (s.withRegs v).pins = s.pins := rfl
@[simp] theorem State.withRegs_lpe (s : State) (v : List (Nat × Word)) : (s.withRegs v).lpe = s.lpe := rfl
@[simp] theorem State.withRegs_wrd (s : State) (v : List (Nat × Word)) : (s.withRegs v).wrd = s.wrd := rfl
@[simp] theorem State.withRegs_vlt (s : State) (v : List (Nat × Word)) : (s.withRegs v).vlt = s.vlt := rfl
@[simp] theorem State.withRegs_thm (s : State) (v : List (Nat × Word)) : (s.withRegs v).thm = s.thm := rfl
@[simp] theorem State.withRegs_tim (s : State) (v : List (Nat × Word)) : (s.withRegs v).tim = s.tim := rfl
@[simp] theorem State.withRegs_net (s : State) (v : List (Nat × Word)) : (s.withRegs v).net = s.net := rfl
@[simp] theorem State.withRegs_stm (s : State) (v : List (Nat × Word)) : (s.withRegs v).stm = s.stm := rfl
@[simp] theorem State.withRegs_gal (s : State) (v : List (Nat × Word)) : (s.withRegs v).gal = s.gal := rfl
@[simp] theorem State.withRegs_twn (s : State) (v : List (Nat × Word)) : (s.withRegs v).twn = s.twn := rfl
@[simp] theorem State.withRegs_spr (s : State) (v : List (Nat × Word)) : (s.withRegs v).spr = s.spr := rfl
@[simp] theorem State.withRegs_wear (s : State) (v : List (Nat × Word)) : (s.withRegs v).wear = s.wear := rfl
@[simp] theorem State.withRegs_dripLost (s : State) (v : List (Nat × Word)) : (s.withRegs v).dripLost = s.dripLost := rfl
@[simp] theorem State.withRegs_free (s : State) (v : List (Nat × Word)) : (s.withRegs v).free = s.free := rfl
@[simp] theorem State.withRegs_pending (s : State) (v : List (Nat × Word)) : (s.withRegs v).pending = s.pending := rfl
@[simp] theorem State.withRegs_effWord (s : State) (v : List (Nat × Word)) (a : Nat) : (s.withRegs v).effWord a = s.effWord a := rfl
@[simp] theorem State.withRegs_cf (s : State) (v : List (Nat × Word)) (f : Fld) : (s.withRegs v).cf f = s.cf f := rfl
@[simp] theorem State.withRegs_cfS (s : State) (v : List (Nat × Word)) (f : Fld) : (s.withRegs v).cfS f = s.cfS f := rfl
@[simp] theorem State.withRegs_cfIs (s : State) (v : List (Nat × Word)) (f : Fld) : (s.withRegs v).cfIs f = s.cfIs f := rfl
@[simp] theorem State.withRegs_logged (s : State) (v : List (Nat × Word)) (n : Nat) : (s.withRegs v).logged n = s.logged n := rfl
@[simp] theorem State.withRegs_cfgWord (s : State) (v : List (Nat × Word)) (a : Nat) : (s.withRegs v).cfgWord a = s.cfgWord a := rfl
@[simp] theorem State.withRegs_cfgOf (s : State) (v : List (Nat × Word)) (f : Fld) : (s.withRegs v).cfgOf f = s.cfgOf f := rfl
@[simp] theorem State.withRegs_isOn (s : State) (v : List (Nat × Word)) (p : Nat) : (s.withRegs v).isOn p = s.isOn p := rfl
@[simp] theorem State.withRegs_role (s : State) (v : List (Nat × Word)) : (s.withRegs v).role = s.role := rfl
@[simp] theorem State.withRegs_isStation (s : State) (v : List (Nat × Word)) : (s.withRegs v).isStation = s.isStation := rfl
@[simp] theorem State.withRegs_isCell (s : State) (v : List (Nat × Word)) : (s.withRegs v).isCell = s.isCell := rfl
@[simp] theorem State.withRegs_isPort (s : State) (v : List (Nat × Word)) : (s.withRegs v).isPort = s.isPort := rfl
@[simp] theorem State.withRegs_isTwinB (s : State) (v : List (Nat × Word)) : (s.withRegs v).isTwinB = s.isTwinB := rfl
@[simp] theorem State.withRegs_awake (s : State) (v : List (Nat × Word)) : (s.withRegs v).awake = s.awake := rfl
@[simp] theorem State.withRegs_nowNs (s : State) (v : List (Nat × Word)) : (s.withRegs v).nowNs = s.nowNs := rfl
@[simp] theorem State.withRegs_cport (s : State) (v : List (Nat × Word)) (n : Nat) : (s.withRegs v).cport n = s.cport n := rfl

/-! ## Part `cfg` replaced -/

@[simp] theorem State.withCfg_cfg (s : State) (v : List (Nat × Word)) : (s.withCfg v).cfg = v := rfl
@[simp] theorem State.withCfg_self (s : State) : s.withCfg s.cfg = s := rfl
@[simp] theorem State.withCfg_withCfg (s : State) (v w : List (Nat × Word)) : (s.withCfg v).withCfg w = s.withCfg w := rfl
@[simp] theorem State.withCfg_regs (s : State) (v : List (Nat × Word)) : (s.withCfg v).regs = s.regs := rfl
@[simp] theorem State.withCfg_eff (s : State) (v : List (Nat × Word)) : (s.withCfg v).eff = s.eff := rfl
@[simp] theorem State.withCfg_pwr (s : State) (v : List (Nat × Word)) : (s.withCfg v).pwr = s.pwr := rfl
@[simp] theorem State.withCfg_clk (s : State) (v : List (Nat × Word)) : (s.withCfg v).clk = s.clk := rfl
@[simp] theorem State.withCfg_hdRead (s : State) (v : List (Nat × Word)) : (s.withCfg v).hdRead = s.hdRead := rfl
@[simp] theorem State.withCfg_bus (s : State) (v : List (Nat × Word)) : (s.withCfg v).bus = s.bus := rfl
@[simp] theorem State.withCfg_spiPort (s : State) (v : List (Nat × Word)) : (s.withCfg v).spiPort = s.spiPort := rfl
@[simp] theorem State.withCfg_spi (s : State) (v : List (Nat × Word)) : (s.withCfg v).spi = s.spi := rfl
@[simp] theorem State.withCfg_rve (s : State) (v : List (Nat × Word)) : (s.withCfg v).rve = s.rve := rfl
@[simp] theorem State.withCfg_flt (s : State) (v : List (Nat × Word)) : (s.withCfg v).flt = s.flt := rfl
@[simp] theorem State.withCfg_int (s : State) (v : List (Nat × Word)) : (s.withCfg v).int = s.int := rfl
@[simp] theorem State.withCfg_str (s : State) (v : List (Nat × Word)) : (s.withCfg v).str = s.str := rfl
@[simp] theorem State.withCfg_cul (s : State) (v : List (Nat × Word)) : (s.withCfg v).cul = s.cul := rfl
@[simp] theorem State.withCfg_adc (s : State) (v : List (Nat × Word)) : (s.withCfg v).adc = s.adc := rfl
@[simp] theorem State.withCfg_dpc (s : State) (v : List (Nat × Word)) : (s.withCfg v).dpc = s.dpc := rfl
@[simp] theorem State.withCfg_mod (s : State) (v : List (Nat × Word)) : (s.withCfg v).mod = s.mod := rfl
@[simp] theorem State.withCfg_gdr (s : State) (v : List (Nat × Word)) : (s.withCfg v).gdr = s.gdr := rfl
@[simp] theorem State.withCfg_pins (s : State) (v : List (Nat × Word)) : (s.withCfg v).pins = s.pins := rfl
@[simp] theorem State.withCfg_lpe (s : State) (v : List (Nat × Word)) : (s.withCfg v).lpe = s.lpe := rfl
@[simp] theorem State.withCfg_wrd (s : State) (v : List (Nat × Word)) : (s.withCfg v).wrd = s.wrd := rfl
@[simp] theorem State.withCfg_vlt (s : State) (v : List (Nat × Word)) : (s.withCfg v).vlt = s.vlt := rfl
@[simp] theorem State.withCfg_thm (s : State) (v : List (Nat × Word)) : (s.withCfg v).thm = s.thm := rfl
@[simp] theorem State.withCfg_tim (s : State) (v : List (Nat × Word)) : (s.withCfg v).tim = s.tim := rfl
@[simp] theorem State.withCfg_net (s : State) (v : List (Nat × Word)) : (s.withCfg v).net = s.net := rfl
@[simp] theorem State.withCfg_stm (s : State) (v : List (Nat × Word)) : (s.withCfg v).stm = s.stm := rfl
@[simp] theorem State.withCfg_gal (s : State) (v : List (Nat × Word)) : (s.withCfg v).gal = s.gal := rfl
@[simp] theorem State.withCfg_twn (s : State) (v : List (Nat × Word)) : (s.withCfg v).twn = s.twn := rfl
@[simp] theorem State.withCfg_spr (s : State) (v : List (Nat × Word)) : (s.withCfg v).spr = s.spr := rfl
@[simp] theorem State.withCfg_wear (s : State) (v : List (Nat × Word)) : (s.withCfg v).wear = s.wear := rfl
@[simp] theorem State.withCfg_dripLost (s : State) (v : List (Nat × Word)) : (s.withCfg v).dripLost = s.dripLost := rfl
@[simp] theorem State.withCfg_free (s : State) (v : List (Nat × Word)) : (s.withCfg v).free = s.free := rfl
@[simp] theorem State.withCfg_pending (s : State) (v : List (Nat × Word)) : (s.withCfg v).pending = s.pending := rfl
@[simp] theorem State.withCfg_word (s : State) (v : List (Nat × Word)) (a : Nat) : (s.withCfg v).word a = s.word a := rfl
@[simp] theorem State.withCfg_get (s : State) (v : List (Nat × Word)) (f : Fld) : (s.withCfg v).get f = s.get f := rfl
@[simp] theorem State.withCfg_getS (s : State) (v : List (Nat × Word)) (f : Fld) : (s.withCfg v).getS f = s.getS f := rfl
@[simp] theorem State.withCfg_is (s : State) (v : List (Nat × Word)) (f : Fld) : (s.withCfg v).is f = s.is f := rfl
@[simp] theorem State.withCfg_effWord (s : State) (v : List (Nat × Word)) (a : Nat) : (s.withCfg v).effWord a = s.effWord a := rfl
@[simp] theorem State.withCfg_cf (s : State) (v : List (Nat × Word)) (f : Fld) : (s.withCfg v).cf f = s.cf f := rfl
@[simp] theorem State.withCfg_cfS (s : State) (v : List (Nat × Word)) (f : Fld) : (s.withCfg v).cfS f = s.cfS f := rfl
@[simp] theorem State.withCfg_cfIs (s : State) (v : List (Nat × Word)) (f : Fld) : (s.withCfg v).cfIs f = s.cfIs f := rfl
@[simp] theorem State.withCfg_logged (s : State) (v : List (Nat × Word)) (n : Nat) : (s.withCfg v).logged n = s.logged n := rfl
@[simp] theorem State.withCfg_isOn (s : State) (v : List (Nat × Word)) (p : Nat) : (s.withCfg v).isOn p = s.isOn p := rfl
@[simp] theorem State.withCfg_role (s : State) (v : List (Nat × Word)) : (s.withCfg v).role = s.role := rfl
@[simp] theorem State.withCfg_isStation (s : State) (v : List (Nat × Word)) : (s.withCfg v).isStation = s.isStation := rfl
@[simp] theorem State.withCfg_isCell (s : State) (v : List (Nat × Word)) : (s.withCfg v).isCell = s.isCell := rfl
@[simp] theorem State.withCfg_isPort (s : State) (v : List (Nat × Word)) : (s.withCfg v).isPort = s.isPort := rfl
@[simp] theorem State.withCfg_isTwinB (s : State) (v : List (Nat × Word)) : (s.withCfg v).isTwinB = s.isTwinB := rfl
@[simp] theorem State.withCfg_awake (s : State) (v : List (Nat × Word)) : (s.withCfg v).awake = s.awake := rfl
@[simp] theorem State.withCfg_nowNs (s : State) (v : List (Nat × Word)) : (s.withCfg v).nowNs = s.nowNs := rfl
@[simp] theorem State.withCfg_cport (s : State) (v : List (Nat × Word)) (n : Nat) : (s.withCfg v).cport n = s.cport n := rfl

/-! ## Part `eff` replaced -/

@[simp] theorem State.withEff_eff (s : State) (v : List (Nat × Word)) : (s.withEff v).eff = v := rfl
@[simp] theorem State.withEff_self (s : State) : s.withEff s.eff = s := rfl
@[simp] theorem State.withEff_withEff (s : State) (v w : List (Nat × Word)) : (s.withEff v).withEff w = s.withEff w := rfl
@[simp] theorem State.withEff_regs (s : State) (v : List (Nat × Word)) : (s.withEff v).regs = s.regs := rfl
@[simp] theorem State.withEff_cfg (s : State) (v : List (Nat × Word)) : (s.withEff v).cfg = s.cfg := rfl
@[simp] theorem State.withEff_pwr (s : State) (v : List (Nat × Word)) : (s.withEff v).pwr = s.pwr := rfl
@[simp] theorem State.withEff_clk (s : State) (v : List (Nat × Word)) : (s.withEff v).clk = s.clk := rfl
@[simp] theorem State.withEff_hdRead (s : State) (v : List (Nat × Word)) : (s.withEff v).hdRead = s.hdRead := rfl
@[simp] theorem State.withEff_bus (s : State) (v : List (Nat × Word)) : (s.withEff v).bus = s.bus := rfl
@[simp] theorem State.withEff_spiPort (s : State) (v : List (Nat × Word)) : (s.withEff v).spiPort = s.spiPort := rfl
@[simp] theorem State.withEff_spi (s : State) (v : List (Nat × Word)) : (s.withEff v).spi = s.spi := rfl
@[simp] theorem State.withEff_rve (s : State) (v : List (Nat × Word)) : (s.withEff v).rve = s.rve := rfl
@[simp] theorem State.withEff_flt (s : State) (v : List (Nat × Word)) : (s.withEff v).flt = s.flt := rfl
@[simp] theorem State.withEff_int (s : State) (v : List (Nat × Word)) : (s.withEff v).int = s.int := rfl
@[simp] theorem State.withEff_str (s : State) (v : List (Nat × Word)) : (s.withEff v).str = s.str := rfl
@[simp] theorem State.withEff_cul (s : State) (v : List (Nat × Word)) : (s.withEff v).cul = s.cul := rfl
@[simp] theorem State.withEff_adc (s : State) (v : List (Nat × Word)) : (s.withEff v).adc = s.adc := rfl
@[simp] theorem State.withEff_dpc (s : State) (v : List (Nat × Word)) : (s.withEff v).dpc = s.dpc := rfl
@[simp] theorem State.withEff_mod (s : State) (v : List (Nat × Word)) : (s.withEff v).mod = s.mod := rfl
@[simp] theorem State.withEff_gdr (s : State) (v : List (Nat × Word)) : (s.withEff v).gdr = s.gdr := rfl
@[simp] theorem State.withEff_pins (s : State) (v : List (Nat × Word)) : (s.withEff v).pins = s.pins := rfl
@[simp] theorem State.withEff_lpe (s : State) (v : List (Nat × Word)) : (s.withEff v).lpe = s.lpe := rfl
@[simp] theorem State.withEff_wrd (s : State) (v : List (Nat × Word)) : (s.withEff v).wrd = s.wrd := rfl
@[simp] theorem State.withEff_vlt (s : State) (v : List (Nat × Word)) : (s.withEff v).vlt = s.vlt := rfl
@[simp] theorem State.withEff_thm (s : State) (v : List (Nat × Word)) : (s.withEff v).thm = s.thm := rfl
@[simp] theorem State.withEff_tim (s : State) (v : List (Nat × Word)) : (s.withEff v).tim = s.tim := rfl
@[simp] theorem State.withEff_net (s : State) (v : List (Nat × Word)) : (s.withEff v).net = s.net := rfl
@[simp] theorem State.withEff_stm (s : State) (v : List (Nat × Word)) : (s.withEff v).stm = s.stm := rfl
@[simp] theorem State.withEff_gal (s : State) (v : List (Nat × Word)) : (s.withEff v).gal = s.gal := rfl
@[simp] theorem State.withEff_twn (s : State) (v : List (Nat × Word)) : (s.withEff v).twn = s.twn := rfl
@[simp] theorem State.withEff_spr (s : State) (v : List (Nat × Word)) : (s.withEff v).spr = s.spr := rfl
@[simp] theorem State.withEff_wear (s : State) (v : List (Nat × Word)) : (s.withEff v).wear = s.wear := rfl
@[simp] theorem State.withEff_dripLost (s : State) (v : List (Nat × Word)) : (s.withEff v).dripLost = s.dripLost := rfl
@[simp] theorem State.withEff_free (s : State) (v : List (Nat × Word)) : (s.withEff v).free = s.free := rfl
@[simp] theorem State.withEff_pending (s : State) (v : List (Nat × Word)) : (s.withEff v).pending = s.pending := rfl
@[simp] theorem State.withEff_word (s : State) (v : List (Nat × Word)) (a : Nat) : (s.withEff v).word a = s.word a := rfl
@[simp] theorem State.withEff_get (s : State) (v : List (Nat × Word)) (f : Fld) : (s.withEff v).get f = s.get f := rfl
@[simp] theorem State.withEff_getS (s : State) (v : List (Nat × Word)) (f : Fld) : (s.withEff v).getS f = s.getS f := rfl
@[simp] theorem State.withEff_is (s : State) (v : List (Nat × Word)) (f : Fld) : (s.withEff v).is f = s.is f := rfl
@[simp] theorem State.withEff_cfgWord (s : State) (v : List (Nat × Word)) (a : Nat) : (s.withEff v).cfgWord a = s.cfgWord a := rfl
@[simp] theorem State.withEff_cfgOf (s : State) (v : List (Nat × Word)) (f : Fld) : (s.withEff v).cfgOf f = s.cfgOf f := rfl
@[simp] theorem State.withEff_isOn (s : State) (v : List (Nat × Word)) (p : Nat) : (s.withEff v).isOn p = s.isOn p := rfl
@[simp] theorem State.withEff_role (s : State) (v : List (Nat × Word)) : (s.withEff v).role = s.role := rfl
@[simp] theorem State.withEff_isStation (s : State) (v : List (Nat × Word)) : (s.withEff v).isStation = s.isStation := rfl
@[simp] theorem State.withEff_isCell (s : State) (v : List (Nat × Word)) : (s.withEff v).isCell = s.isCell := rfl
@[simp] theorem State.withEff_isPort (s : State) (v : List (Nat × Word)) : (s.withEff v).isPort = s.isPort := rfl
@[simp] theorem State.withEff_isTwinB (s : State) (v : List (Nat × Word)) : (s.withEff v).isTwinB = s.isTwinB := rfl
@[simp] theorem State.withEff_awake (s : State) (v : List (Nat × Word)) : (s.withEff v).awake = s.awake := rfl
@[simp] theorem State.withEff_nowNs (s : State) (v : List (Nat × Word)) : (s.withEff v).nowNs = s.nowNs := rfl
@[simp] theorem State.withEff_cport (s : State) (v : List (Nat × Word)) (n : Nat) : (s.withEff v).cport n = s.cport n := rfl

/-! ## Part `pwr` replaced -/

@[simp] theorem State.withPwr_pwr (s : State) (v : PowerSt) : (s.withPwr v).pwr = v := rfl
@[simp] theorem State.withPwr_self (s : State) : s.withPwr s.pwr = s := rfl
@[simp] theorem State.withPwr_withPwr (s : State) (v w : PowerSt) : (s.withPwr v).withPwr w = s.withPwr w := rfl
@[simp] theorem State.withPwr_regs (s : State) (v : PowerSt) : (s.withPwr v).regs = s.regs := rfl
@[simp] theorem State.withPwr_cfg (s : State) (v : PowerSt) : (s.withPwr v).cfg = s.cfg := rfl
@[simp] theorem State.withPwr_eff (s : State) (v : PowerSt) : (s.withPwr v).eff = s.eff := rfl
@[simp] theorem State.withPwr_clk (s : State) (v : PowerSt) : (s.withPwr v).clk = s.clk := rfl
@[simp] theorem State.withPwr_hdRead (s : State) (v : PowerSt) : (s.withPwr v).hdRead = s.hdRead := rfl
@[simp] theorem State.withPwr_bus (s : State) (v : PowerSt) : (s.withPwr v).bus = s.bus := rfl
@[simp] theorem State.withPwr_spiPort (s : State) (v : PowerSt) : (s.withPwr v).spiPort = s.spiPort := rfl
@[simp] theorem State.withPwr_spi (s : State) (v : PowerSt) : (s.withPwr v).spi = s.spi := rfl
@[simp] theorem State.withPwr_rve (s : State) (v : PowerSt) : (s.withPwr v).rve = s.rve := rfl
@[simp] theorem State.withPwr_flt (s : State) (v : PowerSt) : (s.withPwr v).flt = s.flt := rfl
@[simp] theorem State.withPwr_int (s : State) (v : PowerSt) : (s.withPwr v).int = s.int := rfl
@[simp] theorem State.withPwr_str (s : State) (v : PowerSt) : (s.withPwr v).str = s.str := rfl
@[simp] theorem State.withPwr_cul (s : State) (v : PowerSt) : (s.withPwr v).cul = s.cul := rfl
@[simp] theorem State.withPwr_adc (s : State) (v : PowerSt) : (s.withPwr v).adc = s.adc := rfl
@[simp] theorem State.withPwr_dpc (s : State) (v : PowerSt) : (s.withPwr v).dpc = s.dpc := rfl
@[simp] theorem State.withPwr_mod (s : State) (v : PowerSt) : (s.withPwr v).mod = s.mod := rfl
@[simp] theorem State.withPwr_gdr (s : State) (v : PowerSt) : (s.withPwr v).gdr = s.gdr := rfl
@[simp] theorem State.withPwr_pins (s : State) (v : PowerSt) : (s.withPwr v).pins = s.pins := rfl
@[simp] theorem State.withPwr_lpe (s : State) (v : PowerSt) : (s.withPwr v).lpe = s.lpe := rfl
@[simp] theorem State.withPwr_wrd (s : State) (v : PowerSt) : (s.withPwr v).wrd = s.wrd := rfl
@[simp] theorem State.withPwr_vlt (s : State) (v : PowerSt) : (s.withPwr v).vlt = s.vlt := rfl
@[simp] theorem State.withPwr_thm (s : State) (v : PowerSt) : (s.withPwr v).thm = s.thm := rfl
@[simp] theorem State.withPwr_tim (s : State) (v : PowerSt) : (s.withPwr v).tim = s.tim := rfl
@[simp] theorem State.withPwr_net (s : State) (v : PowerSt) : (s.withPwr v).net = s.net := rfl
@[simp] theorem State.withPwr_stm (s : State) (v : PowerSt) : (s.withPwr v).stm = s.stm := rfl
@[simp] theorem State.withPwr_gal (s : State) (v : PowerSt) : (s.withPwr v).gal = s.gal := rfl
@[simp] theorem State.withPwr_twn (s : State) (v : PowerSt) : (s.withPwr v).twn = s.twn := rfl
@[simp] theorem State.withPwr_spr (s : State) (v : PowerSt) : (s.withPwr v).spr = s.spr := rfl
@[simp] theorem State.withPwr_wear (s : State) (v : PowerSt) : (s.withPwr v).wear = s.wear := rfl
@[simp] theorem State.withPwr_dripLost (s : State) (v : PowerSt) : (s.withPwr v).dripLost = s.dripLost := rfl
@[simp] theorem State.withPwr_free (s : State) (v : PowerSt) : (s.withPwr v).free = s.free := rfl
@[simp] theorem State.withPwr_pending (s : State) (v : PowerSt) : (s.withPwr v).pending = s.pending := rfl
@[simp] theorem State.withPwr_word (s : State) (v : PowerSt) (a : Nat) : (s.withPwr v).word a = s.word a := rfl
@[simp] theorem State.withPwr_get (s : State) (v : PowerSt) (f : Fld) : (s.withPwr v).get f = s.get f := rfl
@[simp] theorem State.withPwr_getS (s : State) (v : PowerSt) (f : Fld) : (s.withPwr v).getS f = s.getS f := rfl
@[simp] theorem State.withPwr_is (s : State) (v : PowerSt) (f : Fld) : (s.withPwr v).is f = s.is f := rfl
@[simp] theorem State.withPwr_effWord (s : State) (v : PowerSt) (a : Nat) : (s.withPwr v).effWord a = s.effWord a := rfl
@[simp] theorem State.withPwr_cf (s : State) (v : PowerSt) (f : Fld) : (s.withPwr v).cf f = s.cf f := rfl
@[simp] theorem State.withPwr_cfS (s : State) (v : PowerSt) (f : Fld) : (s.withPwr v).cfS f = s.cfS f := rfl
@[simp] theorem State.withPwr_cfIs (s : State) (v : PowerSt) (f : Fld) : (s.withPwr v).cfIs f = s.cfIs f := rfl
@[simp] theorem State.withPwr_logged (s : State) (v : PowerSt) (n : Nat) : (s.withPwr v).logged n = s.logged n := rfl
@[simp] theorem State.withPwr_cfgWord (s : State) (v : PowerSt) (a : Nat) : (s.withPwr v).cfgWord a = s.cfgWord a := rfl
@[simp] theorem State.withPwr_cfgOf (s : State) (v : PowerSt) (f : Fld) : (s.withPwr v).cfgOf f = s.cfgOf f := rfl
@[simp] theorem State.withPwr_nowNs (s : State) (v : PowerSt) : (s.withPwr v).nowNs = s.nowNs := rfl
@[simp] theorem State.withPwr_cport (s : State) (v : PowerSt) (n : Nat) : (s.withPwr v).cport n = s.cport n := rfl

/-! ## Part `clk` replaced -/

@[simp] theorem State.withClk_clk (s : State) (v : ClockSt) : (s.withClk v).clk = v := rfl
@[simp] theorem State.withClk_self (s : State) : s.withClk s.clk = s := rfl
@[simp] theorem State.withClk_withClk (s : State) (v w : ClockSt) : (s.withClk v).withClk w = s.withClk w := rfl
@[simp] theorem State.withClk_regs (s : State) (v : ClockSt) : (s.withClk v).regs = s.regs := rfl
@[simp] theorem State.withClk_cfg (s : State) (v : ClockSt) : (s.withClk v).cfg = s.cfg := rfl
@[simp] theorem State.withClk_eff (s : State) (v : ClockSt) : (s.withClk v).eff = s.eff := rfl
@[simp] theorem State.withClk_pwr (s : State) (v : ClockSt) : (s.withClk v).pwr = s.pwr := rfl
@[simp] theorem State.withClk_hdRead (s : State) (v : ClockSt) : (s.withClk v).hdRead = s.hdRead := rfl
@[simp] theorem State.withClk_bus (s : State) (v : ClockSt) : (s.withClk v).bus = s.bus := rfl
@[simp] theorem State.withClk_spiPort (s : State) (v : ClockSt) : (s.withClk v).spiPort = s.spiPort := rfl
@[simp] theorem State.withClk_spi (s : State) (v : ClockSt) : (s.withClk v).spi = s.spi := rfl
@[simp] theorem State.withClk_rve (s : State) (v : ClockSt) : (s.withClk v).rve = s.rve := rfl
@[simp] theorem State.withClk_flt (s : State) (v : ClockSt) : (s.withClk v).flt = s.flt := rfl
@[simp] theorem State.withClk_int (s : State) (v : ClockSt) : (s.withClk v).int = s.int := rfl
@[simp] theorem State.withClk_str (s : State) (v : ClockSt) : (s.withClk v).str = s.str := rfl
@[simp] theorem State.withClk_cul (s : State) (v : ClockSt) : (s.withClk v).cul = s.cul := rfl
@[simp] theorem State.withClk_adc (s : State) (v : ClockSt) : (s.withClk v).adc = s.adc := rfl
@[simp] theorem State.withClk_dpc (s : State) (v : ClockSt) : (s.withClk v).dpc = s.dpc := rfl
@[simp] theorem State.withClk_mod (s : State) (v : ClockSt) : (s.withClk v).mod = s.mod := rfl
@[simp] theorem State.withClk_gdr (s : State) (v : ClockSt) : (s.withClk v).gdr = s.gdr := rfl
@[simp] theorem State.withClk_pins (s : State) (v : ClockSt) : (s.withClk v).pins = s.pins := rfl
@[simp] theorem State.withClk_lpe (s : State) (v : ClockSt) : (s.withClk v).lpe = s.lpe := rfl
@[simp] theorem State.withClk_wrd (s : State) (v : ClockSt) : (s.withClk v).wrd = s.wrd := rfl
@[simp] theorem State.withClk_vlt (s : State) (v : ClockSt) : (s.withClk v).vlt = s.vlt := rfl
@[simp] theorem State.withClk_thm (s : State) (v : ClockSt) : (s.withClk v).thm = s.thm := rfl
@[simp] theorem State.withClk_tim (s : State) (v : ClockSt) : (s.withClk v).tim = s.tim := rfl
@[simp] theorem State.withClk_net (s : State) (v : ClockSt) : (s.withClk v).net = s.net := rfl
@[simp] theorem State.withClk_stm (s : State) (v : ClockSt) : (s.withClk v).stm = s.stm := rfl
@[simp] theorem State.withClk_gal (s : State) (v : ClockSt) : (s.withClk v).gal = s.gal := rfl
@[simp] theorem State.withClk_twn (s : State) (v : ClockSt) : (s.withClk v).twn = s.twn := rfl
@[simp] theorem State.withClk_spr (s : State) (v : ClockSt) : (s.withClk v).spr = s.spr := rfl
@[simp] theorem State.withClk_wear (s : State) (v : ClockSt) : (s.withClk v).wear = s.wear := rfl
@[simp] theorem State.withClk_dripLost (s : State) (v : ClockSt) : (s.withClk v).dripLost = s.dripLost := rfl
@[simp] theorem State.withClk_free (s : State) (v : ClockSt) : (s.withClk v).free = s.free := rfl
@[simp] theorem State.withClk_pending (s : State) (v : ClockSt) : (s.withClk v).pending = s.pending := rfl
@[simp] theorem State.withClk_word (s : State) (v : ClockSt) (a : Nat) : (s.withClk v).word a = s.word a := rfl
@[simp] theorem State.withClk_get (s : State) (v : ClockSt) (f : Fld) : (s.withClk v).get f = s.get f := rfl
@[simp] theorem State.withClk_getS (s : State) (v : ClockSt) (f : Fld) : (s.withClk v).getS f = s.getS f := rfl
@[simp] theorem State.withClk_is (s : State) (v : ClockSt) (f : Fld) : (s.withClk v).is f = s.is f := rfl
@[simp] theorem State.withClk_effWord (s : State) (v : ClockSt) (a : Nat) : (s.withClk v).effWord a = s.effWord a := rfl
@[simp] theorem State.withClk_cf (s : State) (v : ClockSt) (f : Fld) : (s.withClk v).cf f = s.cf f := rfl
@[simp] theorem State.withClk_cfS (s : State) (v : ClockSt) (f : Fld) : (s.withClk v).cfS f = s.cfS f := rfl
@[simp] theorem State.withClk_cfIs (s : State) (v : ClockSt) (f : Fld) : (s.withClk v).cfIs f = s.cfIs f := rfl
@[simp] theorem State.withClk_logged (s : State) (v : ClockSt) (n : Nat) : (s.withClk v).logged n = s.logged n := rfl
@[simp] theorem State.withClk_cfgWord (s : State) (v : ClockSt) (a : Nat) : (s.withClk v).cfgWord a = s.cfgWord a := rfl
@[simp] theorem State.withClk_cfgOf (s : State) (v : ClockSt) (f : Fld) : (s.withClk v).cfgOf f = s.cfgOf f := rfl
@[simp] theorem State.withClk_isOn (s : State) (v : ClockSt) (p : Nat) : (s.withClk v).isOn p = s.isOn p := rfl
@[simp] theorem State.withClk_role (s : State) (v : ClockSt) : (s.withClk v).role = s.role := rfl
@[simp] theorem State.withClk_isStation (s : State) (v : ClockSt) : (s.withClk v).isStation = s.isStation := rfl
@[simp] theorem State.withClk_isCell (s : State) (v : ClockSt) : (s.withClk v).isCell = s.isCell := rfl
@[simp] theorem State.withClk_isPort (s : State) (v : ClockSt) : (s.withClk v).isPort = s.isPort := rfl
@[simp] theorem State.withClk_isTwinB (s : State) (v : ClockSt) : (s.withClk v).isTwinB = s.isTwinB := rfl
@[simp] theorem State.withClk_awake (s : State) (v : ClockSt) : (s.withClk v).awake = s.awake := rfl
@[simp] theorem State.withClk_nowNs (s : State) (v : ClockSt) : (s.withClk v).nowNs = s.nowNs := rfl
@[simp] theorem State.withClk_cport (s : State) (v : ClockSt) (n : Nat) : (s.withClk v).cport n = s.cport n := rfl

/-! ## Part `hdRead` replaced -/

@[simp] theorem State.withHdRead_hdRead (s : State) (v : Option (BitVec 16)) : (s.withHdRead v).hdRead = v := rfl
@[simp] theorem State.withHdRead_self (s : State) : s.withHdRead s.hdRead = s := rfl
@[simp] theorem State.withHdRead_withHdRead (s : State) (v w : Option (BitVec 16)) : (s.withHdRead v).withHdRead w = s.withHdRead w := rfl
@[simp] theorem State.withHdRead_regs (s : State) (v : Option (BitVec 16)) : (s.withHdRead v).regs = s.regs := rfl
@[simp] theorem State.withHdRead_cfg (s : State) (v : Option (BitVec 16)) : (s.withHdRead v).cfg = s.cfg := rfl
@[simp] theorem State.withHdRead_eff (s : State) (v : Option (BitVec 16)) : (s.withHdRead v).eff = s.eff := rfl
@[simp] theorem State.withHdRead_pwr (s : State) (v : Option (BitVec 16)) : (s.withHdRead v).pwr = s.pwr := rfl
@[simp] theorem State.withHdRead_clk (s : State) (v : Option (BitVec 16)) : (s.withHdRead v).clk = s.clk := rfl
@[simp] theorem State.withHdRead_bus (s : State) (v : Option (BitVec 16)) : (s.withHdRead v).bus = s.bus := rfl
@[simp] theorem State.withHdRead_spiPort (s : State) (v : Option (BitVec 16)) : (s.withHdRead v).spiPort = s.spiPort := rfl
@[simp] theorem State.withHdRead_spi (s : State) (v : Option (BitVec 16)) : (s.withHdRead v).spi = s.spi := rfl
@[simp] theorem State.withHdRead_rve (s : State) (v : Option (BitVec 16)) : (s.withHdRead v).rve = s.rve := rfl
@[simp] theorem State.withHdRead_flt (s : State) (v : Option (BitVec 16)) : (s.withHdRead v).flt = s.flt := rfl
@[simp] theorem State.withHdRead_int (s : State) (v : Option (BitVec 16)) : (s.withHdRead v).int = s.int := rfl
@[simp] theorem State.withHdRead_str (s : State) (v : Option (BitVec 16)) : (s.withHdRead v).str = s.str := rfl
@[simp] theorem State.withHdRead_cul (s : State) (v : Option (BitVec 16)) : (s.withHdRead v).cul = s.cul := rfl
@[simp] theorem State.withHdRead_adc (s : State) (v : Option (BitVec 16)) : (s.withHdRead v).adc = s.adc := rfl
@[simp] theorem State.withHdRead_dpc (s : State) (v : Option (BitVec 16)) : (s.withHdRead v).dpc = s.dpc := rfl
@[simp] theorem State.withHdRead_mod (s : State) (v : Option (BitVec 16)) : (s.withHdRead v).mod = s.mod := rfl
@[simp] theorem State.withHdRead_gdr (s : State) (v : Option (BitVec 16)) : (s.withHdRead v).gdr = s.gdr := rfl
@[simp] theorem State.withHdRead_pins (s : State) (v : Option (BitVec 16)) : (s.withHdRead v).pins = s.pins := rfl
@[simp] theorem State.withHdRead_lpe (s : State) (v : Option (BitVec 16)) : (s.withHdRead v).lpe = s.lpe := rfl
@[simp] theorem State.withHdRead_wrd (s : State) (v : Option (BitVec 16)) : (s.withHdRead v).wrd = s.wrd := rfl
@[simp] theorem State.withHdRead_vlt (s : State) (v : Option (BitVec 16)) : (s.withHdRead v).vlt = s.vlt := rfl
@[simp] theorem State.withHdRead_thm (s : State) (v : Option (BitVec 16)) : (s.withHdRead v).thm = s.thm := rfl
@[simp] theorem State.withHdRead_tim (s : State) (v : Option (BitVec 16)) : (s.withHdRead v).tim = s.tim := rfl
@[simp] theorem State.withHdRead_net (s : State) (v : Option (BitVec 16)) : (s.withHdRead v).net = s.net := rfl
@[simp] theorem State.withHdRead_stm (s : State) (v : Option (BitVec 16)) : (s.withHdRead v).stm = s.stm := rfl
@[simp] theorem State.withHdRead_gal (s : State) (v : Option (BitVec 16)) : (s.withHdRead v).gal = s.gal := rfl
@[simp] theorem State.withHdRead_twn (s : State) (v : Option (BitVec 16)) : (s.withHdRead v).twn = s.twn := rfl
@[simp] theorem State.withHdRead_spr (s : State) (v : Option (BitVec 16)) : (s.withHdRead v).spr = s.spr := rfl
@[simp] theorem State.withHdRead_wear (s : State) (v : Option (BitVec 16)) : (s.withHdRead v).wear = s.wear := rfl
@[simp] theorem State.withHdRead_dripLost (s : State) (v : Option (BitVec 16)) : (s.withHdRead v).dripLost = s.dripLost := rfl
@[simp] theorem State.withHdRead_free (s : State) (v : Option (BitVec 16)) : (s.withHdRead v).free = s.free := rfl
@[simp] theorem State.withHdRead_pending (s : State) (v : Option (BitVec 16)) : (s.withHdRead v).pending = s.pending := rfl
@[simp] theorem State.withHdRead_word (s : State) (v : Option (BitVec 16)) (a : Nat) : (s.withHdRead v).word a = s.word a := rfl
@[simp] theorem State.withHdRead_get (s : State) (v : Option (BitVec 16)) (f : Fld) : (s.withHdRead v).get f = s.get f := rfl
@[simp] theorem State.withHdRead_getS (s : State) (v : Option (BitVec 16)) (f : Fld) : (s.withHdRead v).getS f = s.getS f := rfl
@[simp] theorem State.withHdRead_is (s : State) (v : Option (BitVec 16)) (f : Fld) : (s.withHdRead v).is f = s.is f := rfl
@[simp] theorem State.withHdRead_effWord (s : State) (v : Option (BitVec 16)) (a : Nat) : (s.withHdRead v).effWord a = s.effWord a := rfl
@[simp] theorem State.withHdRead_cf (s : State) (v : Option (BitVec 16)) (f : Fld) : (s.withHdRead v).cf f = s.cf f := rfl
@[simp] theorem State.withHdRead_cfS (s : State) (v : Option (BitVec 16)) (f : Fld) : (s.withHdRead v).cfS f = s.cfS f := rfl
@[simp] theorem State.withHdRead_cfIs (s : State) (v : Option (BitVec 16)) (f : Fld) : (s.withHdRead v).cfIs f = s.cfIs f := rfl
@[simp] theorem State.withHdRead_logged (s : State) (v : Option (BitVec 16)) (n : Nat) : (s.withHdRead v).logged n = s.logged n := rfl
@[simp] theorem State.withHdRead_cfgWord (s : State) (v : Option (BitVec 16)) (a : Nat) : (s.withHdRead v).cfgWord a = s.cfgWord a := rfl
@[simp] theorem State.withHdRead_cfgOf (s : State) (v : Option (BitVec 16)) (f : Fld) : (s.withHdRead v).cfgOf f = s.cfgOf f := rfl
@[simp] theorem State.withHdRead_isOn (s : State) (v : Option (BitVec 16)) (p : Nat) : (s.withHdRead v).isOn p = s.isOn p := rfl
@[simp] theorem State.withHdRead_role (s : State) (v : Option (BitVec 16)) : (s.withHdRead v).role = s.role := rfl
@[simp] theorem State.withHdRead_isStation (s : State) (v : Option (BitVec 16)) : (s.withHdRead v).isStation = s.isStation := rfl
@[simp] theorem State.withHdRead_isCell (s : State) (v : Option (BitVec 16)) : (s.withHdRead v).isCell = s.isCell := rfl
@[simp] theorem State.withHdRead_isPort (s : State) (v : Option (BitVec 16)) : (s.withHdRead v).isPort = s.isPort := rfl
@[simp] theorem State.withHdRead_isTwinB (s : State) (v : Option (BitVec 16)) : (s.withHdRead v).isTwinB = s.isTwinB := rfl
@[simp] theorem State.withHdRead_awake (s : State) (v : Option (BitVec 16)) : (s.withHdRead v).awake = s.awake := rfl
@[simp] theorem State.withHdRead_nowNs (s : State) (v : Option (BitVec 16)) : (s.withHdRead v).nowNs = s.nowNs := rfl
@[simp] theorem State.withHdRead_cport (s : State) (v : Option (BitVec 16)) (n : Nat) : (s.withHdRead v).cport n = s.cport n := rfl

/-! ## Part `bus` replaced -/

@[simp] theorem State.withBus_bus (s : State) (v : PortSt) : (s.withBus v).bus = v := rfl
@[simp] theorem State.withBus_self (s : State) : s.withBus s.bus = s := rfl
@[simp] theorem State.withBus_withBus (s : State) (v w : PortSt) : (s.withBus v).withBus w = s.withBus w := rfl
@[simp] theorem State.withBus_regs (s : State) (v : PortSt) : (s.withBus v).regs = s.regs := rfl
@[simp] theorem State.withBus_cfg (s : State) (v : PortSt) : (s.withBus v).cfg = s.cfg := rfl
@[simp] theorem State.withBus_eff (s : State) (v : PortSt) : (s.withBus v).eff = s.eff := rfl
@[simp] theorem State.withBus_pwr (s : State) (v : PortSt) : (s.withBus v).pwr = s.pwr := rfl
@[simp] theorem State.withBus_clk (s : State) (v : PortSt) : (s.withBus v).clk = s.clk := rfl
@[simp] theorem State.withBus_hdRead (s : State) (v : PortSt) : (s.withBus v).hdRead = s.hdRead := rfl
@[simp] theorem State.withBus_spiPort (s : State) (v : PortSt) : (s.withBus v).spiPort = s.spiPort := rfl
@[simp] theorem State.withBus_spi (s : State) (v : PortSt) : (s.withBus v).spi = s.spi := rfl
@[simp] theorem State.withBus_rve (s : State) (v : PortSt) : (s.withBus v).rve = s.rve := rfl
@[simp] theorem State.withBus_flt (s : State) (v : PortSt) : (s.withBus v).flt = s.flt := rfl
@[simp] theorem State.withBus_int (s : State) (v : PortSt) : (s.withBus v).int = s.int := rfl
@[simp] theorem State.withBus_str (s : State) (v : PortSt) : (s.withBus v).str = s.str := rfl
@[simp] theorem State.withBus_cul (s : State) (v : PortSt) : (s.withBus v).cul = s.cul := rfl
@[simp] theorem State.withBus_adc (s : State) (v : PortSt) : (s.withBus v).adc = s.adc := rfl
@[simp] theorem State.withBus_dpc (s : State) (v : PortSt) : (s.withBus v).dpc = s.dpc := rfl
@[simp] theorem State.withBus_mod (s : State) (v : PortSt) : (s.withBus v).mod = s.mod := rfl
@[simp] theorem State.withBus_gdr (s : State) (v : PortSt) : (s.withBus v).gdr = s.gdr := rfl
@[simp] theorem State.withBus_pins (s : State) (v : PortSt) : (s.withBus v).pins = s.pins := rfl
@[simp] theorem State.withBus_lpe (s : State) (v : PortSt) : (s.withBus v).lpe = s.lpe := rfl
@[simp] theorem State.withBus_wrd (s : State) (v : PortSt) : (s.withBus v).wrd = s.wrd := rfl
@[simp] theorem State.withBus_vlt (s : State) (v : PortSt) : (s.withBus v).vlt = s.vlt := rfl
@[simp] theorem State.withBus_thm (s : State) (v : PortSt) : (s.withBus v).thm = s.thm := rfl
@[simp] theorem State.withBus_tim (s : State) (v : PortSt) : (s.withBus v).tim = s.tim := rfl
@[simp] theorem State.withBus_net (s : State) (v : PortSt) : (s.withBus v).net = s.net := rfl
@[simp] theorem State.withBus_stm (s : State) (v : PortSt) : (s.withBus v).stm = s.stm := rfl
@[simp] theorem State.withBus_gal (s : State) (v : PortSt) : (s.withBus v).gal = s.gal := rfl
@[simp] theorem State.withBus_twn (s : State) (v : PortSt) : (s.withBus v).twn = s.twn := rfl
@[simp] theorem State.withBus_spr (s : State) (v : PortSt) : (s.withBus v).spr = s.spr := rfl
@[simp] theorem State.withBus_wear (s : State) (v : PortSt) : (s.withBus v).wear = s.wear := rfl
@[simp] theorem State.withBus_dripLost (s : State) (v : PortSt) : (s.withBus v).dripLost = s.dripLost := rfl
@[simp] theorem State.withBus_free (s : State) (v : PortSt) : (s.withBus v).free = s.free := rfl
@[simp] theorem State.withBus_pending (s : State) (v : PortSt) : (s.withBus v).pending = s.pending := rfl
@[simp] theorem State.withBus_word (s : State) (v : PortSt) (a : Nat) : (s.withBus v).word a = s.word a := rfl
@[simp] theorem State.withBus_get (s : State) (v : PortSt) (f : Fld) : (s.withBus v).get f = s.get f := rfl
@[simp] theorem State.withBus_getS (s : State) (v : PortSt) (f : Fld) : (s.withBus v).getS f = s.getS f := rfl
@[simp] theorem State.withBus_is (s : State) (v : PortSt) (f : Fld) : (s.withBus v).is f = s.is f := rfl
@[simp] theorem State.withBus_effWord (s : State) (v : PortSt) (a : Nat) : (s.withBus v).effWord a = s.effWord a := rfl
@[simp] theorem State.withBus_cf (s : State) (v : PortSt) (f : Fld) : (s.withBus v).cf f = s.cf f := rfl
@[simp] theorem State.withBus_cfS (s : State) (v : PortSt) (f : Fld) : (s.withBus v).cfS f = s.cfS f := rfl
@[simp] theorem State.withBus_cfIs (s : State) (v : PortSt) (f : Fld) : (s.withBus v).cfIs f = s.cfIs f := rfl
@[simp] theorem State.withBus_logged (s : State) (v : PortSt) (n : Nat) : (s.withBus v).logged n = s.logged n := rfl
@[simp] theorem State.withBus_cfgWord (s : State) (v : PortSt) (a : Nat) : (s.withBus v).cfgWord a = s.cfgWord a := rfl
@[simp] theorem State.withBus_cfgOf (s : State) (v : PortSt) (f : Fld) : (s.withBus v).cfgOf f = s.cfgOf f := rfl
@[simp] theorem State.withBus_isOn (s : State) (v : PortSt) (p : Nat) : (s.withBus v).isOn p = s.isOn p := rfl
@[simp] theorem State.withBus_role (s : State) (v : PortSt) : (s.withBus v).role = s.role := rfl
@[simp] theorem State.withBus_isStation (s : State) (v : PortSt) : (s.withBus v).isStation = s.isStation := rfl
@[simp] theorem State.withBus_isCell (s : State) (v : PortSt) : (s.withBus v).isCell = s.isCell := rfl
@[simp] theorem State.withBus_isPort (s : State) (v : PortSt) : (s.withBus v).isPort = s.isPort := rfl
@[simp] theorem State.withBus_isTwinB (s : State) (v : PortSt) : (s.withBus v).isTwinB = s.isTwinB := rfl
@[simp] theorem State.withBus_awake (s : State) (v : PortSt) : (s.withBus v).awake = s.awake := rfl
@[simp] theorem State.withBus_nowNs (s : State) (v : PortSt) : (s.withBus v).nowNs = s.nowNs := rfl
@[simp] theorem State.withBus_cport (s : State) (v : PortSt) (n : Nat) : (s.withBus v).cport n = s.cport n := rfl

/-! ## Part `spiPort` replaced -/

@[simp] theorem State.withSpiPort_spiPort (s : State) (v : PortSt) : (s.withSpiPort v).spiPort = v := rfl
@[simp] theorem State.withSpiPort_self (s : State) : s.withSpiPort s.spiPort = s := rfl
@[simp] theorem State.withSpiPort_withSpiPort (s : State) (v w : PortSt) : (s.withSpiPort v).withSpiPort w = s.withSpiPort w := rfl
@[simp] theorem State.withSpiPort_regs (s : State) (v : PortSt) : (s.withSpiPort v).regs = s.regs := rfl
@[simp] theorem State.withSpiPort_cfg (s : State) (v : PortSt) : (s.withSpiPort v).cfg = s.cfg := rfl
@[simp] theorem State.withSpiPort_eff (s : State) (v : PortSt) : (s.withSpiPort v).eff = s.eff := rfl
@[simp] theorem State.withSpiPort_pwr (s : State) (v : PortSt) : (s.withSpiPort v).pwr = s.pwr := rfl
@[simp] theorem State.withSpiPort_clk (s : State) (v : PortSt) : (s.withSpiPort v).clk = s.clk := rfl
@[simp] theorem State.withSpiPort_hdRead (s : State) (v : PortSt) : (s.withSpiPort v).hdRead = s.hdRead := rfl
@[simp] theorem State.withSpiPort_bus (s : State) (v : PortSt) : (s.withSpiPort v).bus = s.bus := rfl
@[simp] theorem State.withSpiPort_spi (s : State) (v : PortSt) : (s.withSpiPort v).spi = s.spi := rfl
@[simp] theorem State.withSpiPort_rve (s : State) (v : PortSt) : (s.withSpiPort v).rve = s.rve := rfl
@[simp] theorem State.withSpiPort_flt (s : State) (v : PortSt) : (s.withSpiPort v).flt = s.flt := rfl
@[simp] theorem State.withSpiPort_int (s : State) (v : PortSt) : (s.withSpiPort v).int = s.int := rfl
@[simp] theorem State.withSpiPort_str (s : State) (v : PortSt) : (s.withSpiPort v).str = s.str := rfl
@[simp] theorem State.withSpiPort_cul (s : State) (v : PortSt) : (s.withSpiPort v).cul = s.cul := rfl
@[simp] theorem State.withSpiPort_adc (s : State) (v : PortSt) : (s.withSpiPort v).adc = s.adc := rfl
@[simp] theorem State.withSpiPort_dpc (s : State) (v : PortSt) : (s.withSpiPort v).dpc = s.dpc := rfl
@[simp] theorem State.withSpiPort_mod (s : State) (v : PortSt) : (s.withSpiPort v).mod = s.mod := rfl
@[simp] theorem State.withSpiPort_gdr (s : State) (v : PortSt) : (s.withSpiPort v).gdr = s.gdr := rfl
@[simp] theorem State.withSpiPort_pins (s : State) (v : PortSt) : (s.withSpiPort v).pins = s.pins := rfl
@[simp] theorem State.withSpiPort_lpe (s : State) (v : PortSt) : (s.withSpiPort v).lpe = s.lpe := rfl
@[simp] theorem State.withSpiPort_wrd (s : State) (v : PortSt) : (s.withSpiPort v).wrd = s.wrd := rfl
@[simp] theorem State.withSpiPort_vlt (s : State) (v : PortSt) : (s.withSpiPort v).vlt = s.vlt := rfl
@[simp] theorem State.withSpiPort_thm (s : State) (v : PortSt) : (s.withSpiPort v).thm = s.thm := rfl
@[simp] theorem State.withSpiPort_tim (s : State) (v : PortSt) : (s.withSpiPort v).tim = s.tim := rfl
@[simp] theorem State.withSpiPort_net (s : State) (v : PortSt) : (s.withSpiPort v).net = s.net := rfl
@[simp] theorem State.withSpiPort_stm (s : State) (v : PortSt) : (s.withSpiPort v).stm = s.stm := rfl
@[simp] theorem State.withSpiPort_gal (s : State) (v : PortSt) : (s.withSpiPort v).gal = s.gal := rfl
@[simp] theorem State.withSpiPort_twn (s : State) (v : PortSt) : (s.withSpiPort v).twn = s.twn := rfl
@[simp] theorem State.withSpiPort_spr (s : State) (v : PortSt) : (s.withSpiPort v).spr = s.spr := rfl
@[simp] theorem State.withSpiPort_wear (s : State) (v : PortSt) : (s.withSpiPort v).wear = s.wear := rfl
@[simp] theorem State.withSpiPort_dripLost (s : State) (v : PortSt) : (s.withSpiPort v).dripLost = s.dripLost := rfl
@[simp] theorem State.withSpiPort_free (s : State) (v : PortSt) : (s.withSpiPort v).free = s.free := rfl
@[simp] theorem State.withSpiPort_pending (s : State) (v : PortSt) : (s.withSpiPort v).pending = s.pending := rfl
@[simp] theorem State.withSpiPort_word (s : State) (v : PortSt) (a : Nat) : (s.withSpiPort v).word a = s.word a := rfl
@[simp] theorem State.withSpiPort_get (s : State) (v : PortSt) (f : Fld) : (s.withSpiPort v).get f = s.get f := rfl
@[simp] theorem State.withSpiPort_getS (s : State) (v : PortSt) (f : Fld) : (s.withSpiPort v).getS f = s.getS f := rfl
@[simp] theorem State.withSpiPort_is (s : State) (v : PortSt) (f : Fld) : (s.withSpiPort v).is f = s.is f := rfl
@[simp] theorem State.withSpiPort_effWord (s : State) (v : PortSt) (a : Nat) : (s.withSpiPort v).effWord a = s.effWord a := rfl
@[simp] theorem State.withSpiPort_cf (s : State) (v : PortSt) (f : Fld) : (s.withSpiPort v).cf f = s.cf f := rfl
@[simp] theorem State.withSpiPort_cfS (s : State) (v : PortSt) (f : Fld) : (s.withSpiPort v).cfS f = s.cfS f := rfl
@[simp] theorem State.withSpiPort_cfIs (s : State) (v : PortSt) (f : Fld) : (s.withSpiPort v).cfIs f = s.cfIs f := rfl
@[simp] theorem State.withSpiPort_logged (s : State) (v : PortSt) (n : Nat) : (s.withSpiPort v).logged n = s.logged n := rfl
@[simp] theorem State.withSpiPort_cfgWord (s : State) (v : PortSt) (a : Nat) : (s.withSpiPort v).cfgWord a = s.cfgWord a := rfl
@[simp] theorem State.withSpiPort_cfgOf (s : State) (v : PortSt) (f : Fld) : (s.withSpiPort v).cfgOf f = s.cfgOf f := rfl
@[simp] theorem State.withSpiPort_isOn (s : State) (v : PortSt) (p : Nat) : (s.withSpiPort v).isOn p = s.isOn p := rfl
@[simp] theorem State.withSpiPort_role (s : State) (v : PortSt) : (s.withSpiPort v).role = s.role := rfl
@[simp] theorem State.withSpiPort_isStation (s : State) (v : PortSt) : (s.withSpiPort v).isStation = s.isStation := rfl
@[simp] theorem State.withSpiPort_isCell (s : State) (v : PortSt) : (s.withSpiPort v).isCell = s.isCell := rfl
@[simp] theorem State.withSpiPort_isPort (s : State) (v : PortSt) : (s.withSpiPort v).isPort = s.isPort := rfl
@[simp] theorem State.withSpiPort_isTwinB (s : State) (v : PortSt) : (s.withSpiPort v).isTwinB = s.isTwinB := rfl
@[simp] theorem State.withSpiPort_awake (s : State) (v : PortSt) : (s.withSpiPort v).awake = s.awake := rfl
@[simp] theorem State.withSpiPort_nowNs (s : State) (v : PortSt) : (s.withSpiPort v).nowNs = s.nowNs := rfl
@[simp] theorem State.withSpiPort_cport (s : State) (v : PortSt) (n : Nat) : (s.withSpiPort v).cport n = s.cport n := rfl

/-! ## Part `spi` replaced -/

@[simp] theorem State.withSpi_spi (s : State) (v : SpiSt) : (s.withSpi v).spi = v := rfl
@[simp] theorem State.withSpi_self (s : State) : s.withSpi s.spi = s := rfl
@[simp] theorem State.withSpi_withSpi (s : State) (v w : SpiSt) : (s.withSpi v).withSpi w = s.withSpi w := rfl
@[simp] theorem State.withSpi_regs (s : State) (v : SpiSt) : (s.withSpi v).regs = s.regs := rfl
@[simp] theorem State.withSpi_cfg (s : State) (v : SpiSt) : (s.withSpi v).cfg = s.cfg := rfl
@[simp] theorem State.withSpi_eff (s : State) (v : SpiSt) : (s.withSpi v).eff = s.eff := rfl
@[simp] theorem State.withSpi_pwr (s : State) (v : SpiSt) : (s.withSpi v).pwr = s.pwr := rfl
@[simp] theorem State.withSpi_clk (s : State) (v : SpiSt) : (s.withSpi v).clk = s.clk := rfl
@[simp] theorem State.withSpi_hdRead (s : State) (v : SpiSt) : (s.withSpi v).hdRead = s.hdRead := rfl
@[simp] theorem State.withSpi_bus (s : State) (v : SpiSt) : (s.withSpi v).bus = s.bus := rfl
@[simp] theorem State.withSpi_spiPort (s : State) (v : SpiSt) : (s.withSpi v).spiPort = s.spiPort := rfl
@[simp] theorem State.withSpi_rve (s : State) (v : SpiSt) : (s.withSpi v).rve = s.rve := rfl
@[simp] theorem State.withSpi_flt (s : State) (v : SpiSt) : (s.withSpi v).flt = s.flt := rfl
@[simp] theorem State.withSpi_int (s : State) (v : SpiSt) : (s.withSpi v).int = s.int := rfl
@[simp] theorem State.withSpi_str (s : State) (v : SpiSt) : (s.withSpi v).str = s.str := rfl
@[simp] theorem State.withSpi_cul (s : State) (v : SpiSt) : (s.withSpi v).cul = s.cul := rfl
@[simp] theorem State.withSpi_adc (s : State) (v : SpiSt) : (s.withSpi v).adc = s.adc := rfl
@[simp] theorem State.withSpi_dpc (s : State) (v : SpiSt) : (s.withSpi v).dpc = s.dpc := rfl
@[simp] theorem State.withSpi_mod (s : State) (v : SpiSt) : (s.withSpi v).mod = s.mod := rfl
@[simp] theorem State.withSpi_gdr (s : State) (v : SpiSt) : (s.withSpi v).gdr = s.gdr := rfl
@[simp] theorem State.withSpi_pins (s : State) (v : SpiSt) : (s.withSpi v).pins = s.pins := rfl
@[simp] theorem State.withSpi_lpe (s : State) (v : SpiSt) : (s.withSpi v).lpe = s.lpe := rfl
@[simp] theorem State.withSpi_wrd (s : State) (v : SpiSt) : (s.withSpi v).wrd = s.wrd := rfl
@[simp] theorem State.withSpi_vlt (s : State) (v : SpiSt) : (s.withSpi v).vlt = s.vlt := rfl
@[simp] theorem State.withSpi_thm (s : State) (v : SpiSt) : (s.withSpi v).thm = s.thm := rfl
@[simp] theorem State.withSpi_tim (s : State) (v : SpiSt) : (s.withSpi v).tim = s.tim := rfl
@[simp] theorem State.withSpi_net (s : State) (v : SpiSt) : (s.withSpi v).net = s.net := rfl
@[simp] theorem State.withSpi_stm (s : State) (v : SpiSt) : (s.withSpi v).stm = s.stm := rfl
@[simp] theorem State.withSpi_gal (s : State) (v : SpiSt) : (s.withSpi v).gal = s.gal := rfl
@[simp] theorem State.withSpi_twn (s : State) (v : SpiSt) : (s.withSpi v).twn = s.twn := rfl
@[simp] theorem State.withSpi_spr (s : State) (v : SpiSt) : (s.withSpi v).spr = s.spr := rfl
@[simp] theorem State.withSpi_wear (s : State) (v : SpiSt) : (s.withSpi v).wear = s.wear := rfl
@[simp] theorem State.withSpi_dripLost (s : State) (v : SpiSt) : (s.withSpi v).dripLost = s.dripLost := rfl
@[simp] theorem State.withSpi_free (s : State) (v : SpiSt) : (s.withSpi v).free = s.free := rfl
@[simp] theorem State.withSpi_pending (s : State) (v : SpiSt) : (s.withSpi v).pending = s.pending := rfl
@[simp] theorem State.withSpi_word (s : State) (v : SpiSt) (a : Nat) : (s.withSpi v).word a = s.word a := rfl
@[simp] theorem State.withSpi_get (s : State) (v : SpiSt) (f : Fld) : (s.withSpi v).get f = s.get f := rfl
@[simp] theorem State.withSpi_getS (s : State) (v : SpiSt) (f : Fld) : (s.withSpi v).getS f = s.getS f := rfl
@[simp] theorem State.withSpi_is (s : State) (v : SpiSt) (f : Fld) : (s.withSpi v).is f = s.is f := rfl
@[simp] theorem State.withSpi_effWord (s : State) (v : SpiSt) (a : Nat) : (s.withSpi v).effWord a = s.effWord a := rfl
@[simp] theorem State.withSpi_cf (s : State) (v : SpiSt) (f : Fld) : (s.withSpi v).cf f = s.cf f := rfl
@[simp] theorem State.withSpi_cfS (s : State) (v : SpiSt) (f : Fld) : (s.withSpi v).cfS f = s.cfS f := rfl
@[simp] theorem State.withSpi_cfIs (s : State) (v : SpiSt) (f : Fld) : (s.withSpi v).cfIs f = s.cfIs f := rfl
@[simp] theorem State.withSpi_logged (s : State) (v : SpiSt) (n : Nat) : (s.withSpi v).logged n = s.logged n := rfl
@[simp] theorem State.withSpi_cfgWord (s : State) (v : SpiSt) (a : Nat) : (s.withSpi v).cfgWord a = s.cfgWord a := rfl
@[simp] theorem State.withSpi_cfgOf (s : State) (v : SpiSt) (f : Fld) : (s.withSpi v).cfgOf f = s.cfgOf f := rfl
@[simp] theorem State.withSpi_isOn (s : State) (v : SpiSt) (p : Nat) : (s.withSpi v).isOn p = s.isOn p := rfl
@[simp] theorem State.withSpi_role (s : State) (v : SpiSt) : (s.withSpi v).role = s.role := rfl
@[simp] theorem State.withSpi_isStation (s : State) (v : SpiSt) : (s.withSpi v).isStation = s.isStation := rfl
@[simp] theorem State.withSpi_isCell (s : State) (v : SpiSt) : (s.withSpi v).isCell = s.isCell := rfl
@[simp] theorem State.withSpi_isPort (s : State) (v : SpiSt) : (s.withSpi v).isPort = s.isPort := rfl
@[simp] theorem State.withSpi_isTwinB (s : State) (v : SpiSt) : (s.withSpi v).isTwinB = s.isTwinB := rfl
@[simp] theorem State.withSpi_awake (s : State) (v : SpiSt) : (s.withSpi v).awake = s.awake := rfl
@[simp] theorem State.withSpi_nowNs (s : State) (v : SpiSt) : (s.withSpi v).nowNs = s.nowNs := rfl
@[simp] theorem State.withSpi_cport (s : State) (v : SpiSt) (n : Nat) : (s.withSpi v).cport n = s.cport n := rfl

/-! ## Part `rve` replaced -/

@[simp] theorem State.withRve_rve (s : State) (v : ReeveSt) : (s.withRve v).rve = v := rfl
@[simp] theorem State.withRve_self (s : State) : s.withRve s.rve = s := rfl
@[simp] theorem State.withRve_withRve (s : State) (v w : ReeveSt) : (s.withRve v).withRve w = s.withRve w := rfl
@[simp] theorem State.withRve_regs (s : State) (v : ReeveSt) : (s.withRve v).regs = s.regs := rfl
@[simp] theorem State.withRve_cfg (s : State) (v : ReeveSt) : (s.withRve v).cfg = s.cfg := rfl
@[simp] theorem State.withRve_eff (s : State) (v : ReeveSt) : (s.withRve v).eff = s.eff := rfl
@[simp] theorem State.withRve_pwr (s : State) (v : ReeveSt) : (s.withRve v).pwr = s.pwr := rfl
@[simp] theorem State.withRve_clk (s : State) (v : ReeveSt) : (s.withRve v).clk = s.clk := rfl
@[simp] theorem State.withRve_hdRead (s : State) (v : ReeveSt) : (s.withRve v).hdRead = s.hdRead := rfl
@[simp] theorem State.withRve_bus (s : State) (v : ReeveSt) : (s.withRve v).bus = s.bus := rfl
@[simp] theorem State.withRve_spiPort (s : State) (v : ReeveSt) : (s.withRve v).spiPort = s.spiPort := rfl
@[simp] theorem State.withRve_spi (s : State) (v : ReeveSt) : (s.withRve v).spi = s.spi := rfl
@[simp] theorem State.withRve_flt (s : State) (v : ReeveSt) : (s.withRve v).flt = s.flt := rfl
@[simp] theorem State.withRve_int (s : State) (v : ReeveSt) : (s.withRve v).int = s.int := rfl
@[simp] theorem State.withRve_str (s : State) (v : ReeveSt) : (s.withRve v).str = s.str := rfl
@[simp] theorem State.withRve_cul (s : State) (v : ReeveSt) : (s.withRve v).cul = s.cul := rfl
@[simp] theorem State.withRve_adc (s : State) (v : ReeveSt) : (s.withRve v).adc = s.adc := rfl
@[simp] theorem State.withRve_dpc (s : State) (v : ReeveSt) : (s.withRve v).dpc = s.dpc := rfl
@[simp] theorem State.withRve_mod (s : State) (v : ReeveSt) : (s.withRve v).mod = s.mod := rfl
@[simp] theorem State.withRve_gdr (s : State) (v : ReeveSt) : (s.withRve v).gdr = s.gdr := rfl
@[simp] theorem State.withRve_pins (s : State) (v : ReeveSt) : (s.withRve v).pins = s.pins := rfl
@[simp] theorem State.withRve_lpe (s : State) (v : ReeveSt) : (s.withRve v).lpe = s.lpe := rfl
@[simp] theorem State.withRve_wrd (s : State) (v : ReeveSt) : (s.withRve v).wrd = s.wrd := rfl
@[simp] theorem State.withRve_vlt (s : State) (v : ReeveSt) : (s.withRve v).vlt = s.vlt := rfl
@[simp] theorem State.withRve_thm (s : State) (v : ReeveSt) : (s.withRve v).thm = s.thm := rfl
@[simp] theorem State.withRve_tim (s : State) (v : ReeveSt) : (s.withRve v).tim = s.tim := rfl
@[simp] theorem State.withRve_net (s : State) (v : ReeveSt) : (s.withRve v).net = s.net := rfl
@[simp] theorem State.withRve_stm (s : State) (v : ReeveSt) : (s.withRve v).stm = s.stm := rfl
@[simp] theorem State.withRve_gal (s : State) (v : ReeveSt) : (s.withRve v).gal = s.gal := rfl
@[simp] theorem State.withRve_twn (s : State) (v : ReeveSt) : (s.withRve v).twn = s.twn := rfl
@[simp] theorem State.withRve_spr (s : State) (v : ReeveSt) : (s.withRve v).spr = s.spr := rfl
@[simp] theorem State.withRve_wear (s : State) (v : ReeveSt) : (s.withRve v).wear = s.wear := rfl
@[simp] theorem State.withRve_dripLost (s : State) (v : ReeveSt) : (s.withRve v).dripLost = s.dripLost := rfl
@[simp] theorem State.withRve_free (s : State) (v : ReeveSt) : (s.withRve v).free = s.free := rfl
@[simp] theorem State.withRve_pending (s : State) (v : ReeveSt) : (s.withRve v).pending = s.pending := rfl
@[simp] theorem State.withRve_word (s : State) (v : ReeveSt) (a : Nat) : (s.withRve v).word a = s.word a := rfl
@[simp] theorem State.withRve_get (s : State) (v : ReeveSt) (f : Fld) : (s.withRve v).get f = s.get f := rfl
@[simp] theorem State.withRve_getS (s : State) (v : ReeveSt) (f : Fld) : (s.withRve v).getS f = s.getS f := rfl
@[simp] theorem State.withRve_is (s : State) (v : ReeveSt) (f : Fld) : (s.withRve v).is f = s.is f := rfl
@[simp] theorem State.withRve_effWord (s : State) (v : ReeveSt) (a : Nat) : (s.withRve v).effWord a = s.effWord a := rfl
@[simp] theorem State.withRve_cf (s : State) (v : ReeveSt) (f : Fld) : (s.withRve v).cf f = s.cf f := rfl
@[simp] theorem State.withRve_cfS (s : State) (v : ReeveSt) (f : Fld) : (s.withRve v).cfS f = s.cfS f := rfl
@[simp] theorem State.withRve_cfIs (s : State) (v : ReeveSt) (f : Fld) : (s.withRve v).cfIs f = s.cfIs f := rfl
@[simp] theorem State.withRve_logged (s : State) (v : ReeveSt) (n : Nat) : (s.withRve v).logged n = s.logged n := rfl
@[simp] theorem State.withRve_cfgWord (s : State) (v : ReeveSt) (a : Nat) : (s.withRve v).cfgWord a = s.cfgWord a := rfl
@[simp] theorem State.withRve_cfgOf (s : State) (v : ReeveSt) (f : Fld) : (s.withRve v).cfgOf f = s.cfgOf f := rfl
@[simp] theorem State.withRve_isOn (s : State) (v : ReeveSt) (p : Nat) : (s.withRve v).isOn p = s.isOn p := rfl
@[simp] theorem State.withRve_role (s : State) (v : ReeveSt) : (s.withRve v).role = s.role := rfl
@[simp] theorem State.withRve_isStation (s : State) (v : ReeveSt) : (s.withRve v).isStation = s.isStation := rfl
@[simp] theorem State.withRve_isCell (s : State) (v : ReeveSt) : (s.withRve v).isCell = s.isCell := rfl
@[simp] theorem State.withRve_isPort (s : State) (v : ReeveSt) : (s.withRve v).isPort = s.isPort := rfl
@[simp] theorem State.withRve_isTwinB (s : State) (v : ReeveSt) : (s.withRve v).isTwinB = s.isTwinB := rfl
@[simp] theorem State.withRve_awake (s : State) (v : ReeveSt) : (s.withRve v).awake = s.awake := rfl
@[simp] theorem State.withRve_nowNs (s : State) (v : ReeveSt) : (s.withRve v).nowNs = s.nowNs := rfl
@[simp] theorem State.withRve_cport (s : State) (v : ReeveSt) (n : Nat) : (s.withRve v).cport n = s.cport n := rfl

/-! ## Part `flt` replaced -/

@[simp] theorem State.withFlt_flt (s : State) (v : FaultSt) : (s.withFlt v).flt = v := rfl
@[simp] theorem State.withFlt_self (s : State) : s.withFlt s.flt = s := rfl
@[simp] theorem State.withFlt_withFlt (s : State) (v w : FaultSt) : (s.withFlt v).withFlt w = s.withFlt w := rfl
@[simp] theorem State.withFlt_regs (s : State) (v : FaultSt) : (s.withFlt v).regs = s.regs := rfl
@[simp] theorem State.withFlt_cfg (s : State) (v : FaultSt) : (s.withFlt v).cfg = s.cfg := rfl
@[simp] theorem State.withFlt_eff (s : State) (v : FaultSt) : (s.withFlt v).eff = s.eff := rfl
@[simp] theorem State.withFlt_pwr (s : State) (v : FaultSt) : (s.withFlt v).pwr = s.pwr := rfl
@[simp] theorem State.withFlt_clk (s : State) (v : FaultSt) : (s.withFlt v).clk = s.clk := rfl
@[simp] theorem State.withFlt_hdRead (s : State) (v : FaultSt) : (s.withFlt v).hdRead = s.hdRead := rfl
@[simp] theorem State.withFlt_bus (s : State) (v : FaultSt) : (s.withFlt v).bus = s.bus := rfl
@[simp] theorem State.withFlt_spiPort (s : State) (v : FaultSt) : (s.withFlt v).spiPort = s.spiPort := rfl
@[simp] theorem State.withFlt_spi (s : State) (v : FaultSt) : (s.withFlt v).spi = s.spi := rfl
@[simp] theorem State.withFlt_rve (s : State) (v : FaultSt) : (s.withFlt v).rve = s.rve := rfl
@[simp] theorem State.withFlt_int (s : State) (v : FaultSt) : (s.withFlt v).int = s.int := rfl
@[simp] theorem State.withFlt_str (s : State) (v : FaultSt) : (s.withFlt v).str = s.str := rfl
@[simp] theorem State.withFlt_cul (s : State) (v : FaultSt) : (s.withFlt v).cul = s.cul := rfl
@[simp] theorem State.withFlt_adc (s : State) (v : FaultSt) : (s.withFlt v).adc = s.adc := rfl
@[simp] theorem State.withFlt_dpc (s : State) (v : FaultSt) : (s.withFlt v).dpc = s.dpc := rfl
@[simp] theorem State.withFlt_mod (s : State) (v : FaultSt) : (s.withFlt v).mod = s.mod := rfl
@[simp] theorem State.withFlt_gdr (s : State) (v : FaultSt) : (s.withFlt v).gdr = s.gdr := rfl
@[simp] theorem State.withFlt_pins (s : State) (v : FaultSt) : (s.withFlt v).pins = s.pins := rfl
@[simp] theorem State.withFlt_lpe (s : State) (v : FaultSt) : (s.withFlt v).lpe = s.lpe := rfl
@[simp] theorem State.withFlt_wrd (s : State) (v : FaultSt) : (s.withFlt v).wrd = s.wrd := rfl
@[simp] theorem State.withFlt_vlt (s : State) (v : FaultSt) : (s.withFlt v).vlt = s.vlt := rfl
@[simp] theorem State.withFlt_thm (s : State) (v : FaultSt) : (s.withFlt v).thm = s.thm := rfl
@[simp] theorem State.withFlt_tim (s : State) (v : FaultSt) : (s.withFlt v).tim = s.tim := rfl
@[simp] theorem State.withFlt_net (s : State) (v : FaultSt) : (s.withFlt v).net = s.net := rfl
@[simp] theorem State.withFlt_stm (s : State) (v : FaultSt) : (s.withFlt v).stm = s.stm := rfl
@[simp] theorem State.withFlt_gal (s : State) (v : FaultSt) : (s.withFlt v).gal = s.gal := rfl
@[simp] theorem State.withFlt_twn (s : State) (v : FaultSt) : (s.withFlt v).twn = s.twn := rfl
@[simp] theorem State.withFlt_spr (s : State) (v : FaultSt) : (s.withFlt v).spr = s.spr := rfl
@[simp] theorem State.withFlt_wear (s : State) (v : FaultSt) : (s.withFlt v).wear = s.wear := rfl
@[simp] theorem State.withFlt_dripLost (s : State) (v : FaultSt) : (s.withFlt v).dripLost = s.dripLost := rfl
@[simp] theorem State.withFlt_free (s : State) (v : FaultSt) : (s.withFlt v).free = s.free := rfl
@[simp] theorem State.withFlt_pending (s : State) (v : FaultSt) : (s.withFlt v).pending = s.pending := rfl
@[simp] theorem State.withFlt_word (s : State) (v : FaultSt) (a : Nat) : (s.withFlt v).word a = s.word a := rfl
@[simp] theorem State.withFlt_get (s : State) (v : FaultSt) (f : Fld) : (s.withFlt v).get f = s.get f := rfl
@[simp] theorem State.withFlt_getS (s : State) (v : FaultSt) (f : Fld) : (s.withFlt v).getS f = s.getS f := rfl
@[simp] theorem State.withFlt_is (s : State) (v : FaultSt) (f : Fld) : (s.withFlt v).is f = s.is f := rfl
@[simp] theorem State.withFlt_effWord (s : State) (v : FaultSt) (a : Nat) : (s.withFlt v).effWord a = s.effWord a := rfl
@[simp] theorem State.withFlt_cf (s : State) (v : FaultSt) (f : Fld) : (s.withFlt v).cf f = s.cf f := rfl
@[simp] theorem State.withFlt_cfS (s : State) (v : FaultSt) (f : Fld) : (s.withFlt v).cfS f = s.cfS f := rfl
@[simp] theorem State.withFlt_cfIs (s : State) (v : FaultSt) (f : Fld) : (s.withFlt v).cfIs f = s.cfIs f := rfl
@[simp] theorem State.withFlt_logged (s : State) (v : FaultSt) (n : Nat) : (s.withFlt v).logged n = s.logged n := rfl
@[simp] theorem State.withFlt_cfgWord (s : State) (v : FaultSt) (a : Nat) : (s.withFlt v).cfgWord a = s.cfgWord a := rfl
@[simp] theorem State.withFlt_cfgOf (s : State) (v : FaultSt) (f : Fld) : (s.withFlt v).cfgOf f = s.cfgOf f := rfl
@[simp] theorem State.withFlt_isOn (s : State) (v : FaultSt) (p : Nat) : (s.withFlt v).isOn p = s.isOn p := rfl
@[simp] theorem State.withFlt_role (s : State) (v : FaultSt) : (s.withFlt v).role = s.role := rfl
@[simp] theorem State.withFlt_isStation (s : State) (v : FaultSt) : (s.withFlt v).isStation = s.isStation := rfl
@[simp] theorem State.withFlt_isCell (s : State) (v : FaultSt) : (s.withFlt v).isCell = s.isCell := rfl
@[simp] theorem State.withFlt_isPort (s : State) (v : FaultSt) : (s.withFlt v).isPort = s.isPort := rfl
@[simp] theorem State.withFlt_isTwinB (s : State) (v : FaultSt) : (s.withFlt v).isTwinB = s.isTwinB := rfl
@[simp] theorem State.withFlt_awake (s : State) (v : FaultSt) : (s.withFlt v).awake = s.awake := rfl
@[simp] theorem State.withFlt_nowNs (s : State) (v : FaultSt) : (s.withFlt v).nowNs = s.nowNs := rfl
@[simp] theorem State.withFlt_cport (s : State) (v : FaultSt) (n : Nat) : (s.withFlt v).cport n = s.cport n := rfl

/-! ## Part `int` replaced -/

@[simp] theorem State.withInt_int (s : State) (v : IntSt) : (s.withInt v).int = v := rfl
@[simp] theorem State.withInt_self (s : State) : s.withInt s.int = s := rfl
@[simp] theorem State.withInt_withInt (s : State) (v w : IntSt) : (s.withInt v).withInt w = s.withInt w := rfl
@[simp] theorem State.withInt_regs (s : State) (v : IntSt) : (s.withInt v).regs = s.regs := rfl
@[simp] theorem State.withInt_cfg (s : State) (v : IntSt) : (s.withInt v).cfg = s.cfg := rfl
@[simp] theorem State.withInt_eff (s : State) (v : IntSt) : (s.withInt v).eff = s.eff := rfl
@[simp] theorem State.withInt_pwr (s : State) (v : IntSt) : (s.withInt v).pwr = s.pwr := rfl
@[simp] theorem State.withInt_clk (s : State) (v : IntSt) : (s.withInt v).clk = s.clk := rfl
@[simp] theorem State.withInt_hdRead (s : State) (v : IntSt) : (s.withInt v).hdRead = s.hdRead := rfl
@[simp] theorem State.withInt_bus (s : State) (v : IntSt) : (s.withInt v).bus = s.bus := rfl
@[simp] theorem State.withInt_spiPort (s : State) (v : IntSt) : (s.withInt v).spiPort = s.spiPort := rfl
@[simp] theorem State.withInt_spi (s : State) (v : IntSt) : (s.withInt v).spi = s.spi := rfl
@[simp] theorem State.withInt_rve (s : State) (v : IntSt) : (s.withInt v).rve = s.rve := rfl
@[simp] theorem State.withInt_flt (s : State) (v : IntSt) : (s.withInt v).flt = s.flt := rfl
@[simp] theorem State.withInt_str (s : State) (v : IntSt) : (s.withInt v).str = s.str := rfl
@[simp] theorem State.withInt_cul (s : State) (v : IntSt) : (s.withInt v).cul = s.cul := rfl
@[simp] theorem State.withInt_adc (s : State) (v : IntSt) : (s.withInt v).adc = s.adc := rfl
@[simp] theorem State.withInt_dpc (s : State) (v : IntSt) : (s.withInt v).dpc = s.dpc := rfl
@[simp] theorem State.withInt_mod (s : State) (v : IntSt) : (s.withInt v).mod = s.mod := rfl
@[simp] theorem State.withInt_gdr (s : State) (v : IntSt) : (s.withInt v).gdr = s.gdr := rfl
@[simp] theorem State.withInt_pins (s : State) (v : IntSt) : (s.withInt v).pins = s.pins := rfl
@[simp] theorem State.withInt_lpe (s : State) (v : IntSt) : (s.withInt v).lpe = s.lpe := rfl
@[simp] theorem State.withInt_wrd (s : State) (v : IntSt) : (s.withInt v).wrd = s.wrd := rfl
@[simp] theorem State.withInt_vlt (s : State) (v : IntSt) : (s.withInt v).vlt = s.vlt := rfl
@[simp] theorem State.withInt_thm (s : State) (v : IntSt) : (s.withInt v).thm = s.thm := rfl
@[simp] theorem State.withInt_tim (s : State) (v : IntSt) : (s.withInt v).tim = s.tim := rfl
@[simp] theorem State.withInt_net (s : State) (v : IntSt) : (s.withInt v).net = s.net := rfl
@[simp] theorem State.withInt_stm (s : State) (v : IntSt) : (s.withInt v).stm = s.stm := rfl
@[simp] theorem State.withInt_gal (s : State) (v : IntSt) : (s.withInt v).gal = s.gal := rfl
@[simp] theorem State.withInt_twn (s : State) (v : IntSt) : (s.withInt v).twn = s.twn := rfl
@[simp] theorem State.withInt_spr (s : State) (v : IntSt) : (s.withInt v).spr = s.spr := rfl
@[simp] theorem State.withInt_wear (s : State) (v : IntSt) : (s.withInt v).wear = s.wear := rfl
@[simp] theorem State.withInt_dripLost (s : State) (v : IntSt) : (s.withInt v).dripLost = s.dripLost := rfl
@[simp] theorem State.withInt_free (s : State) (v : IntSt) : (s.withInt v).free = s.free := rfl
@[simp] theorem State.withInt_pending (s : State) (v : IntSt) : (s.withInt v).pending = s.pending := rfl
@[simp] theorem State.withInt_word (s : State) (v : IntSt) (a : Nat) : (s.withInt v).word a = s.word a := rfl
@[simp] theorem State.withInt_get (s : State) (v : IntSt) (f : Fld) : (s.withInt v).get f = s.get f := rfl
@[simp] theorem State.withInt_getS (s : State) (v : IntSt) (f : Fld) : (s.withInt v).getS f = s.getS f := rfl
@[simp] theorem State.withInt_is (s : State) (v : IntSt) (f : Fld) : (s.withInt v).is f = s.is f := rfl
@[simp] theorem State.withInt_effWord (s : State) (v : IntSt) (a : Nat) : (s.withInt v).effWord a = s.effWord a := rfl
@[simp] theorem State.withInt_cf (s : State) (v : IntSt) (f : Fld) : (s.withInt v).cf f = s.cf f := rfl
@[simp] theorem State.withInt_cfS (s : State) (v : IntSt) (f : Fld) : (s.withInt v).cfS f = s.cfS f := rfl
@[simp] theorem State.withInt_cfIs (s : State) (v : IntSt) (f : Fld) : (s.withInt v).cfIs f = s.cfIs f := rfl
@[simp] theorem State.withInt_logged (s : State) (v : IntSt) (n : Nat) : (s.withInt v).logged n = s.logged n := rfl
@[simp] theorem State.withInt_cfgWord (s : State) (v : IntSt) (a : Nat) : (s.withInt v).cfgWord a = s.cfgWord a := rfl
@[simp] theorem State.withInt_cfgOf (s : State) (v : IntSt) (f : Fld) : (s.withInt v).cfgOf f = s.cfgOf f := rfl
@[simp] theorem State.withInt_isOn (s : State) (v : IntSt) (p : Nat) : (s.withInt v).isOn p = s.isOn p := rfl
@[simp] theorem State.withInt_role (s : State) (v : IntSt) : (s.withInt v).role = s.role := rfl
@[simp] theorem State.withInt_isStation (s : State) (v : IntSt) : (s.withInt v).isStation = s.isStation := rfl
@[simp] theorem State.withInt_isCell (s : State) (v : IntSt) : (s.withInt v).isCell = s.isCell := rfl
@[simp] theorem State.withInt_isPort (s : State) (v : IntSt) : (s.withInt v).isPort = s.isPort := rfl
@[simp] theorem State.withInt_isTwinB (s : State) (v : IntSt) : (s.withInt v).isTwinB = s.isTwinB := rfl
@[simp] theorem State.withInt_awake (s : State) (v : IntSt) : (s.withInt v).awake = s.awake := rfl
@[simp] theorem State.withInt_nowNs (s : State) (v : IntSt) : (s.withInt v).nowNs = s.nowNs := rfl
@[simp] theorem State.withInt_cport (s : State) (v : IntSt) (n : Nat) : (s.withInt v).cport n = s.cport n := rfl

/-! ## Part `str` replaced -/

@[simp] theorem State.withStr_str (s : State) (v : StrataSt) : (s.withStr v).str = v := rfl
@[simp] theorem State.withStr_self (s : State) : s.withStr s.str = s := rfl
@[simp] theorem State.withStr_withStr (s : State) (v w : StrataSt) : (s.withStr v).withStr w = s.withStr w := rfl
@[simp] theorem State.withStr_regs (s : State) (v : StrataSt) : (s.withStr v).regs = s.regs := rfl
@[simp] theorem State.withStr_cfg (s : State) (v : StrataSt) : (s.withStr v).cfg = s.cfg := rfl
@[simp] theorem State.withStr_eff (s : State) (v : StrataSt) : (s.withStr v).eff = s.eff := rfl
@[simp] theorem State.withStr_pwr (s : State) (v : StrataSt) : (s.withStr v).pwr = s.pwr := rfl
@[simp] theorem State.withStr_clk (s : State) (v : StrataSt) : (s.withStr v).clk = s.clk := rfl
@[simp] theorem State.withStr_hdRead (s : State) (v : StrataSt) : (s.withStr v).hdRead = s.hdRead := rfl
@[simp] theorem State.withStr_bus (s : State) (v : StrataSt) : (s.withStr v).bus = s.bus := rfl
@[simp] theorem State.withStr_spiPort (s : State) (v : StrataSt) : (s.withStr v).spiPort = s.spiPort := rfl
@[simp] theorem State.withStr_spi (s : State) (v : StrataSt) : (s.withStr v).spi = s.spi := rfl
@[simp] theorem State.withStr_rve (s : State) (v : StrataSt) : (s.withStr v).rve = s.rve := rfl
@[simp] theorem State.withStr_flt (s : State) (v : StrataSt) : (s.withStr v).flt = s.flt := rfl
@[simp] theorem State.withStr_int (s : State) (v : StrataSt) : (s.withStr v).int = s.int := rfl
@[simp] theorem State.withStr_cul (s : State) (v : StrataSt) : (s.withStr v).cul = s.cul := rfl
@[simp] theorem State.withStr_adc (s : State) (v : StrataSt) : (s.withStr v).adc = s.adc := rfl
@[simp] theorem State.withStr_dpc (s : State) (v : StrataSt) : (s.withStr v).dpc = s.dpc := rfl
@[simp] theorem State.withStr_mod (s : State) (v : StrataSt) : (s.withStr v).mod = s.mod := rfl
@[simp] theorem State.withStr_gdr (s : State) (v : StrataSt) : (s.withStr v).gdr = s.gdr := rfl
@[simp] theorem State.withStr_pins (s : State) (v : StrataSt) : (s.withStr v).pins = s.pins := rfl
@[simp] theorem State.withStr_lpe (s : State) (v : StrataSt) : (s.withStr v).lpe = s.lpe := rfl
@[simp] theorem State.withStr_wrd (s : State) (v : StrataSt) : (s.withStr v).wrd = s.wrd := rfl
@[simp] theorem State.withStr_vlt (s : State) (v : StrataSt) : (s.withStr v).vlt = s.vlt := rfl
@[simp] theorem State.withStr_thm (s : State) (v : StrataSt) : (s.withStr v).thm = s.thm := rfl
@[simp] theorem State.withStr_tim (s : State) (v : StrataSt) : (s.withStr v).tim = s.tim := rfl
@[simp] theorem State.withStr_net (s : State) (v : StrataSt) : (s.withStr v).net = s.net := rfl
@[simp] theorem State.withStr_stm (s : State) (v : StrataSt) : (s.withStr v).stm = s.stm := rfl
@[simp] theorem State.withStr_gal (s : State) (v : StrataSt) : (s.withStr v).gal = s.gal := rfl
@[simp] theorem State.withStr_twn (s : State) (v : StrataSt) : (s.withStr v).twn = s.twn := rfl
@[simp] theorem State.withStr_spr (s : State) (v : StrataSt) : (s.withStr v).spr = s.spr := rfl
@[simp] theorem State.withStr_wear (s : State) (v : StrataSt) : (s.withStr v).wear = s.wear := rfl
@[simp] theorem State.withStr_dripLost (s : State) (v : StrataSt) : (s.withStr v).dripLost = s.dripLost := rfl
@[simp] theorem State.withStr_free (s : State) (v : StrataSt) : (s.withStr v).free = s.free := rfl
@[simp] theorem State.withStr_pending (s : State) (v : StrataSt) : (s.withStr v).pending = s.pending := rfl
@[simp] theorem State.withStr_word (s : State) (v : StrataSt) (a : Nat) : (s.withStr v).word a = s.word a := rfl
@[simp] theorem State.withStr_get (s : State) (v : StrataSt) (f : Fld) : (s.withStr v).get f = s.get f := rfl
@[simp] theorem State.withStr_getS (s : State) (v : StrataSt) (f : Fld) : (s.withStr v).getS f = s.getS f := rfl
@[simp] theorem State.withStr_is (s : State) (v : StrataSt) (f : Fld) : (s.withStr v).is f = s.is f := rfl
@[simp] theorem State.withStr_effWord (s : State) (v : StrataSt) (a : Nat) : (s.withStr v).effWord a = s.effWord a := rfl
@[simp] theorem State.withStr_cf (s : State) (v : StrataSt) (f : Fld) : (s.withStr v).cf f = s.cf f := rfl
@[simp] theorem State.withStr_cfS (s : State) (v : StrataSt) (f : Fld) : (s.withStr v).cfS f = s.cfS f := rfl
@[simp] theorem State.withStr_cfIs (s : State) (v : StrataSt) (f : Fld) : (s.withStr v).cfIs f = s.cfIs f := rfl
@[simp] theorem State.withStr_logged (s : State) (v : StrataSt) (n : Nat) : (s.withStr v).logged n = s.logged n := rfl
@[simp] theorem State.withStr_cfgWord (s : State) (v : StrataSt) (a : Nat) : (s.withStr v).cfgWord a = s.cfgWord a := rfl
@[simp] theorem State.withStr_cfgOf (s : State) (v : StrataSt) (f : Fld) : (s.withStr v).cfgOf f = s.cfgOf f := rfl
@[simp] theorem State.withStr_isOn (s : State) (v : StrataSt) (p : Nat) : (s.withStr v).isOn p = s.isOn p := rfl
@[simp] theorem State.withStr_role (s : State) (v : StrataSt) : (s.withStr v).role = s.role := rfl
@[simp] theorem State.withStr_isStation (s : State) (v : StrataSt) : (s.withStr v).isStation = s.isStation := rfl
@[simp] theorem State.withStr_isCell (s : State) (v : StrataSt) : (s.withStr v).isCell = s.isCell := rfl
@[simp] theorem State.withStr_isPort (s : State) (v : StrataSt) : (s.withStr v).isPort = s.isPort := rfl
@[simp] theorem State.withStr_isTwinB (s : State) (v : StrataSt) : (s.withStr v).isTwinB = s.isTwinB := rfl
@[simp] theorem State.withStr_awake (s : State) (v : StrataSt) : (s.withStr v).awake = s.awake := rfl
@[simp] theorem State.withStr_nowNs (s : State) (v : StrataSt) : (s.withStr v).nowNs = s.nowNs := rfl
@[simp] theorem State.withStr_cport (s : State) (v : StrataSt) (n : Nat) : (s.withStr v).cport n = s.cport n := rfl

/-! ## Part `cul` replaced -/

@[simp] theorem State.withCul_cul (s : State) (v : CulvertSt) : (s.withCul v).cul = v := rfl
@[simp] theorem State.withCul_self (s : State) : s.withCul s.cul = s := rfl
@[simp] theorem State.withCul_withCul (s : State) (v w : CulvertSt) : (s.withCul v).withCul w = s.withCul w := rfl
@[simp] theorem State.withCul_regs (s : State) (v : CulvertSt) : (s.withCul v).regs = s.regs := rfl
@[simp] theorem State.withCul_cfg (s : State) (v : CulvertSt) : (s.withCul v).cfg = s.cfg := rfl
@[simp] theorem State.withCul_eff (s : State) (v : CulvertSt) : (s.withCul v).eff = s.eff := rfl
@[simp] theorem State.withCul_pwr (s : State) (v : CulvertSt) : (s.withCul v).pwr = s.pwr := rfl
@[simp] theorem State.withCul_clk (s : State) (v : CulvertSt) : (s.withCul v).clk = s.clk := rfl
@[simp] theorem State.withCul_hdRead (s : State) (v : CulvertSt) : (s.withCul v).hdRead = s.hdRead := rfl
@[simp] theorem State.withCul_bus (s : State) (v : CulvertSt) : (s.withCul v).bus = s.bus := rfl
@[simp] theorem State.withCul_spiPort (s : State) (v : CulvertSt) : (s.withCul v).spiPort = s.spiPort := rfl
@[simp] theorem State.withCul_spi (s : State) (v : CulvertSt) : (s.withCul v).spi = s.spi := rfl
@[simp] theorem State.withCul_rve (s : State) (v : CulvertSt) : (s.withCul v).rve = s.rve := rfl
@[simp] theorem State.withCul_flt (s : State) (v : CulvertSt) : (s.withCul v).flt = s.flt := rfl
@[simp] theorem State.withCul_int (s : State) (v : CulvertSt) : (s.withCul v).int = s.int := rfl
@[simp] theorem State.withCul_str (s : State) (v : CulvertSt) : (s.withCul v).str = s.str := rfl
@[simp] theorem State.withCul_adc (s : State) (v : CulvertSt) : (s.withCul v).adc = s.adc := rfl
@[simp] theorem State.withCul_dpc (s : State) (v : CulvertSt) : (s.withCul v).dpc = s.dpc := rfl
@[simp] theorem State.withCul_mod (s : State) (v : CulvertSt) : (s.withCul v).mod = s.mod := rfl
@[simp] theorem State.withCul_gdr (s : State) (v : CulvertSt) : (s.withCul v).gdr = s.gdr := rfl
@[simp] theorem State.withCul_pins (s : State) (v : CulvertSt) : (s.withCul v).pins = s.pins := rfl
@[simp] theorem State.withCul_lpe (s : State) (v : CulvertSt) : (s.withCul v).lpe = s.lpe := rfl
@[simp] theorem State.withCul_wrd (s : State) (v : CulvertSt) : (s.withCul v).wrd = s.wrd := rfl
@[simp] theorem State.withCul_vlt (s : State) (v : CulvertSt) : (s.withCul v).vlt = s.vlt := rfl
@[simp] theorem State.withCul_thm (s : State) (v : CulvertSt) : (s.withCul v).thm = s.thm := rfl
@[simp] theorem State.withCul_tim (s : State) (v : CulvertSt) : (s.withCul v).tim = s.tim := rfl
@[simp] theorem State.withCul_net (s : State) (v : CulvertSt) : (s.withCul v).net = s.net := rfl
@[simp] theorem State.withCul_stm (s : State) (v : CulvertSt) : (s.withCul v).stm = s.stm := rfl
@[simp] theorem State.withCul_gal (s : State) (v : CulvertSt) : (s.withCul v).gal = s.gal := rfl
@[simp] theorem State.withCul_twn (s : State) (v : CulvertSt) : (s.withCul v).twn = s.twn := rfl
@[simp] theorem State.withCul_spr (s : State) (v : CulvertSt) : (s.withCul v).spr = s.spr := rfl
@[simp] theorem State.withCul_wear (s : State) (v : CulvertSt) : (s.withCul v).wear = s.wear := rfl
@[simp] theorem State.withCul_dripLost (s : State) (v : CulvertSt) : (s.withCul v).dripLost = s.dripLost := rfl
@[simp] theorem State.withCul_free (s : State) (v : CulvertSt) : (s.withCul v).free = s.free := rfl
@[simp] theorem State.withCul_pending (s : State) (v : CulvertSt) : (s.withCul v).pending = s.pending := rfl
@[simp] theorem State.withCul_word (s : State) (v : CulvertSt) (a : Nat) : (s.withCul v).word a = s.word a := rfl
@[simp] theorem State.withCul_get (s : State) (v : CulvertSt) (f : Fld) : (s.withCul v).get f = s.get f := rfl
@[simp] theorem State.withCul_getS (s : State) (v : CulvertSt) (f : Fld) : (s.withCul v).getS f = s.getS f := rfl
@[simp] theorem State.withCul_is (s : State) (v : CulvertSt) (f : Fld) : (s.withCul v).is f = s.is f := rfl
@[simp] theorem State.withCul_effWord (s : State) (v : CulvertSt) (a : Nat) : (s.withCul v).effWord a = s.effWord a := rfl
@[simp] theorem State.withCul_cf (s : State) (v : CulvertSt) (f : Fld) : (s.withCul v).cf f = s.cf f := rfl
@[simp] theorem State.withCul_cfS (s : State) (v : CulvertSt) (f : Fld) : (s.withCul v).cfS f = s.cfS f := rfl
@[simp] theorem State.withCul_cfIs (s : State) (v : CulvertSt) (f : Fld) : (s.withCul v).cfIs f = s.cfIs f := rfl
@[simp] theorem State.withCul_logged (s : State) (v : CulvertSt) (n : Nat) : (s.withCul v).logged n = s.logged n := rfl
@[simp] theorem State.withCul_cfgWord (s : State) (v : CulvertSt) (a : Nat) : (s.withCul v).cfgWord a = s.cfgWord a := rfl
@[simp] theorem State.withCul_cfgOf (s : State) (v : CulvertSt) (f : Fld) : (s.withCul v).cfgOf f = s.cfgOf f := rfl
@[simp] theorem State.withCul_isOn (s : State) (v : CulvertSt) (p : Nat) : (s.withCul v).isOn p = s.isOn p := rfl
@[simp] theorem State.withCul_role (s : State) (v : CulvertSt) : (s.withCul v).role = s.role := rfl
@[simp] theorem State.withCul_isStation (s : State) (v : CulvertSt) : (s.withCul v).isStation = s.isStation := rfl
@[simp] theorem State.withCul_isCell (s : State) (v : CulvertSt) : (s.withCul v).isCell = s.isCell := rfl
@[simp] theorem State.withCul_isPort (s : State) (v : CulvertSt) : (s.withCul v).isPort = s.isPort := rfl
@[simp] theorem State.withCul_isTwinB (s : State) (v : CulvertSt) : (s.withCul v).isTwinB = s.isTwinB := rfl
@[simp] theorem State.withCul_awake (s : State) (v : CulvertSt) : (s.withCul v).awake = s.awake := rfl
@[simp] theorem State.withCul_nowNs (s : State) (v : CulvertSt) : (s.withCul v).nowNs = s.nowNs := rfl

/-! ## Part `adc` replaced -/

@[simp] theorem State.withAdc_adc (s : State) (v : AdcSt) : (s.withAdc v).adc = v := rfl
@[simp] theorem State.withAdc_self (s : State) : s.withAdc s.adc = s := rfl
@[simp] theorem State.withAdc_withAdc (s : State) (v w : AdcSt) : (s.withAdc v).withAdc w = s.withAdc w := rfl
@[simp] theorem State.withAdc_regs (s : State) (v : AdcSt) : (s.withAdc v).regs = s.regs := rfl
@[simp] theorem State.withAdc_cfg (s : State) (v : AdcSt) : (s.withAdc v).cfg = s.cfg := rfl
@[simp] theorem State.withAdc_eff (s : State) (v : AdcSt) : (s.withAdc v).eff = s.eff := rfl
@[simp] theorem State.withAdc_pwr (s : State) (v : AdcSt) : (s.withAdc v).pwr = s.pwr := rfl
@[simp] theorem State.withAdc_clk (s : State) (v : AdcSt) : (s.withAdc v).clk = s.clk := rfl
@[simp] theorem State.withAdc_hdRead (s : State) (v : AdcSt) : (s.withAdc v).hdRead = s.hdRead := rfl
@[simp] theorem State.withAdc_bus (s : State) (v : AdcSt) : (s.withAdc v).bus = s.bus := rfl
@[simp] theorem State.withAdc_spiPort (s : State) (v : AdcSt) : (s.withAdc v).spiPort = s.spiPort := rfl
@[simp] theorem State.withAdc_spi (s : State) (v : AdcSt) : (s.withAdc v).spi = s.spi := rfl
@[simp] theorem State.withAdc_rve (s : State) (v : AdcSt) : (s.withAdc v).rve = s.rve := rfl
@[simp] theorem State.withAdc_flt (s : State) (v : AdcSt) : (s.withAdc v).flt = s.flt := rfl
@[simp] theorem State.withAdc_int (s : State) (v : AdcSt) : (s.withAdc v).int = s.int := rfl
@[simp] theorem State.withAdc_str (s : State) (v : AdcSt) : (s.withAdc v).str = s.str := rfl
@[simp] theorem State.withAdc_cul (s : State) (v : AdcSt) : (s.withAdc v).cul = s.cul := rfl
@[simp] theorem State.withAdc_dpc (s : State) (v : AdcSt) : (s.withAdc v).dpc = s.dpc := rfl
@[simp] theorem State.withAdc_mod (s : State) (v : AdcSt) : (s.withAdc v).mod = s.mod := rfl
@[simp] theorem State.withAdc_gdr (s : State) (v : AdcSt) : (s.withAdc v).gdr = s.gdr := rfl
@[simp] theorem State.withAdc_pins (s : State) (v : AdcSt) : (s.withAdc v).pins = s.pins := rfl
@[simp] theorem State.withAdc_lpe (s : State) (v : AdcSt) : (s.withAdc v).lpe = s.lpe := rfl
@[simp] theorem State.withAdc_wrd (s : State) (v : AdcSt) : (s.withAdc v).wrd = s.wrd := rfl
@[simp] theorem State.withAdc_vlt (s : State) (v : AdcSt) : (s.withAdc v).vlt = s.vlt := rfl
@[simp] theorem State.withAdc_thm (s : State) (v : AdcSt) : (s.withAdc v).thm = s.thm := rfl
@[simp] theorem State.withAdc_tim (s : State) (v : AdcSt) : (s.withAdc v).tim = s.tim := rfl
@[simp] theorem State.withAdc_net (s : State) (v : AdcSt) : (s.withAdc v).net = s.net := rfl
@[simp] theorem State.withAdc_stm (s : State) (v : AdcSt) : (s.withAdc v).stm = s.stm := rfl
@[simp] theorem State.withAdc_gal (s : State) (v : AdcSt) : (s.withAdc v).gal = s.gal := rfl
@[simp] theorem State.withAdc_twn (s : State) (v : AdcSt) : (s.withAdc v).twn = s.twn := rfl
@[simp] theorem State.withAdc_spr (s : State) (v : AdcSt) : (s.withAdc v).spr = s.spr := rfl
@[simp] theorem State.withAdc_wear (s : State) (v : AdcSt) : (s.withAdc v).wear = s.wear := rfl
@[simp] theorem State.withAdc_dripLost (s : State) (v : AdcSt) : (s.withAdc v).dripLost = s.dripLost := rfl
@[simp] theorem State.withAdc_free (s : State) (v : AdcSt) : (s.withAdc v).free = s.free := rfl
@[simp] theorem State.withAdc_pending (s : State) (v : AdcSt) : (s.withAdc v).pending = s.pending := rfl
@[simp] theorem State.withAdc_word (s : State) (v : AdcSt) (a : Nat) : (s.withAdc v).word a = s.word a := rfl
@[simp] theorem State.withAdc_get (s : State) (v : AdcSt) (f : Fld) : (s.withAdc v).get f = s.get f := rfl
@[simp] theorem State.withAdc_getS (s : State) (v : AdcSt) (f : Fld) : (s.withAdc v).getS f = s.getS f := rfl
@[simp] theorem State.withAdc_is (s : State) (v : AdcSt) (f : Fld) : (s.withAdc v).is f = s.is f := rfl
@[simp] theorem State.withAdc_effWord (s : State) (v : AdcSt) (a : Nat) : (s.withAdc v).effWord a = s.effWord a := rfl
@[simp] theorem State.withAdc_cf (s : State) (v : AdcSt) (f : Fld) : (s.withAdc v).cf f = s.cf f := rfl
@[simp] theorem State.withAdc_cfS (s : State) (v : AdcSt) (f : Fld) : (s.withAdc v).cfS f = s.cfS f := rfl
@[simp] theorem State.withAdc_cfIs (s : State) (v : AdcSt) (f : Fld) : (s.withAdc v).cfIs f = s.cfIs f := rfl
@[simp] theorem State.withAdc_logged (s : State) (v : AdcSt) (n : Nat) : (s.withAdc v).logged n = s.logged n := rfl
@[simp] theorem State.withAdc_cfgWord (s : State) (v : AdcSt) (a : Nat) : (s.withAdc v).cfgWord a = s.cfgWord a := rfl
@[simp] theorem State.withAdc_cfgOf (s : State) (v : AdcSt) (f : Fld) : (s.withAdc v).cfgOf f = s.cfgOf f := rfl
@[simp] theorem State.withAdc_isOn (s : State) (v : AdcSt) (p : Nat) : (s.withAdc v).isOn p = s.isOn p := rfl
@[simp] theorem State.withAdc_role (s : State) (v : AdcSt) : (s.withAdc v).role = s.role := rfl
@[simp] theorem State.withAdc_isStation (s : State) (v : AdcSt) : (s.withAdc v).isStation = s.isStation := rfl
@[simp] theorem State.withAdc_isCell (s : State) (v : AdcSt) : (s.withAdc v).isCell = s.isCell := rfl
@[simp] theorem State.withAdc_isPort (s : State) (v : AdcSt) : (s.withAdc v).isPort = s.isPort := rfl
@[simp] theorem State.withAdc_isTwinB (s : State) (v : AdcSt) : (s.withAdc v).isTwinB = s.isTwinB := rfl
@[simp] theorem State.withAdc_awake (s : State) (v : AdcSt) : (s.withAdc v).awake = s.awake := rfl
@[simp] theorem State.withAdc_nowNs (s : State) (v : AdcSt) : (s.withAdc v).nowNs = s.nowNs := rfl
@[simp] theorem State.withAdc_cport (s : State) (v : AdcSt) (n : Nat) : (s.withAdc v).cport n = s.cport n := rfl

/-! ## Part `dpc` replaced -/

@[simp] theorem State.withDpc_dpc (s : State) (v : DpcSt) : (s.withDpc v).dpc = v := rfl
@[simp] theorem State.withDpc_self (s : State) : s.withDpc s.dpc = s := rfl
@[simp] theorem State.withDpc_withDpc (s : State) (v w : DpcSt) : (s.withDpc v).withDpc w = s.withDpc w := rfl
@[simp] theorem State.withDpc_regs (s : State) (v : DpcSt) : (s.withDpc v).regs = s.regs := rfl
@[simp] theorem State.withDpc_cfg (s : State) (v : DpcSt) : (s.withDpc v).cfg = s.cfg := rfl
@[simp] theorem State.withDpc_eff (s : State) (v : DpcSt) : (s.withDpc v).eff = s.eff := rfl
@[simp] theorem State.withDpc_pwr (s : State) (v : DpcSt) : (s.withDpc v).pwr = s.pwr := rfl
@[simp] theorem State.withDpc_clk (s : State) (v : DpcSt) : (s.withDpc v).clk = s.clk := rfl
@[simp] theorem State.withDpc_hdRead (s : State) (v : DpcSt) : (s.withDpc v).hdRead = s.hdRead := rfl
@[simp] theorem State.withDpc_bus (s : State) (v : DpcSt) : (s.withDpc v).bus = s.bus := rfl
@[simp] theorem State.withDpc_spiPort (s : State) (v : DpcSt) : (s.withDpc v).spiPort = s.spiPort := rfl
@[simp] theorem State.withDpc_spi (s : State) (v : DpcSt) : (s.withDpc v).spi = s.spi := rfl
@[simp] theorem State.withDpc_rve (s : State) (v : DpcSt) : (s.withDpc v).rve = s.rve := rfl
@[simp] theorem State.withDpc_flt (s : State) (v : DpcSt) : (s.withDpc v).flt = s.flt := rfl
@[simp] theorem State.withDpc_int (s : State) (v : DpcSt) : (s.withDpc v).int = s.int := rfl
@[simp] theorem State.withDpc_str (s : State) (v : DpcSt) : (s.withDpc v).str = s.str := rfl
@[simp] theorem State.withDpc_cul (s : State) (v : DpcSt) : (s.withDpc v).cul = s.cul := rfl
@[simp] theorem State.withDpc_adc (s : State) (v : DpcSt) : (s.withDpc v).adc = s.adc := rfl
@[simp] theorem State.withDpc_mod (s : State) (v : DpcSt) : (s.withDpc v).mod = s.mod := rfl
@[simp] theorem State.withDpc_gdr (s : State) (v : DpcSt) : (s.withDpc v).gdr = s.gdr := rfl
@[simp] theorem State.withDpc_pins (s : State) (v : DpcSt) : (s.withDpc v).pins = s.pins := rfl
@[simp] theorem State.withDpc_lpe (s : State) (v : DpcSt) : (s.withDpc v).lpe = s.lpe := rfl
@[simp] theorem State.withDpc_wrd (s : State) (v : DpcSt) : (s.withDpc v).wrd = s.wrd := rfl
@[simp] theorem State.withDpc_vlt (s : State) (v : DpcSt) : (s.withDpc v).vlt = s.vlt := rfl
@[simp] theorem State.withDpc_thm (s : State) (v : DpcSt) : (s.withDpc v).thm = s.thm := rfl
@[simp] theorem State.withDpc_tim (s : State) (v : DpcSt) : (s.withDpc v).tim = s.tim := rfl
@[simp] theorem State.withDpc_net (s : State) (v : DpcSt) : (s.withDpc v).net = s.net := rfl
@[simp] theorem State.withDpc_stm (s : State) (v : DpcSt) : (s.withDpc v).stm = s.stm := rfl
@[simp] theorem State.withDpc_gal (s : State) (v : DpcSt) : (s.withDpc v).gal = s.gal := rfl
@[simp] theorem State.withDpc_twn (s : State) (v : DpcSt) : (s.withDpc v).twn = s.twn := rfl
@[simp] theorem State.withDpc_spr (s : State) (v : DpcSt) : (s.withDpc v).spr = s.spr := rfl
@[simp] theorem State.withDpc_wear (s : State) (v : DpcSt) : (s.withDpc v).wear = s.wear := rfl
@[simp] theorem State.withDpc_dripLost (s : State) (v : DpcSt) : (s.withDpc v).dripLost = s.dripLost := rfl
@[simp] theorem State.withDpc_free (s : State) (v : DpcSt) : (s.withDpc v).free = s.free := rfl
@[simp] theorem State.withDpc_pending (s : State) (v : DpcSt) : (s.withDpc v).pending = s.pending := rfl
@[simp] theorem State.withDpc_word (s : State) (v : DpcSt) (a : Nat) : (s.withDpc v).word a = s.word a := rfl
@[simp] theorem State.withDpc_get (s : State) (v : DpcSt) (f : Fld) : (s.withDpc v).get f = s.get f := rfl
@[simp] theorem State.withDpc_getS (s : State) (v : DpcSt) (f : Fld) : (s.withDpc v).getS f = s.getS f := rfl
@[simp] theorem State.withDpc_is (s : State) (v : DpcSt) (f : Fld) : (s.withDpc v).is f = s.is f := rfl
@[simp] theorem State.withDpc_effWord (s : State) (v : DpcSt) (a : Nat) : (s.withDpc v).effWord a = s.effWord a := rfl
@[simp] theorem State.withDpc_cf (s : State) (v : DpcSt) (f : Fld) : (s.withDpc v).cf f = s.cf f := rfl
@[simp] theorem State.withDpc_cfS (s : State) (v : DpcSt) (f : Fld) : (s.withDpc v).cfS f = s.cfS f := rfl
@[simp] theorem State.withDpc_cfIs (s : State) (v : DpcSt) (f : Fld) : (s.withDpc v).cfIs f = s.cfIs f := rfl
@[simp] theorem State.withDpc_logged (s : State) (v : DpcSt) (n : Nat) : (s.withDpc v).logged n = s.logged n := rfl
@[simp] theorem State.withDpc_cfgWord (s : State) (v : DpcSt) (a : Nat) : (s.withDpc v).cfgWord a = s.cfgWord a := rfl
@[simp] theorem State.withDpc_cfgOf (s : State) (v : DpcSt) (f : Fld) : (s.withDpc v).cfgOf f = s.cfgOf f := rfl
@[simp] theorem State.withDpc_isOn (s : State) (v : DpcSt) (p : Nat) : (s.withDpc v).isOn p = s.isOn p := rfl
@[simp] theorem State.withDpc_role (s : State) (v : DpcSt) : (s.withDpc v).role = s.role := rfl
@[simp] theorem State.withDpc_isStation (s : State) (v : DpcSt) : (s.withDpc v).isStation = s.isStation := rfl
@[simp] theorem State.withDpc_isCell (s : State) (v : DpcSt) : (s.withDpc v).isCell = s.isCell := rfl
@[simp] theorem State.withDpc_isPort (s : State) (v : DpcSt) : (s.withDpc v).isPort = s.isPort := rfl
@[simp] theorem State.withDpc_isTwinB (s : State) (v : DpcSt) : (s.withDpc v).isTwinB = s.isTwinB := rfl
@[simp] theorem State.withDpc_awake (s : State) (v : DpcSt) : (s.withDpc v).awake = s.awake := rfl
@[simp] theorem State.withDpc_nowNs (s : State) (v : DpcSt) : (s.withDpc v).nowNs = s.nowNs := rfl
@[simp] theorem State.withDpc_cport (s : State) (v : DpcSt) (n : Nat) : (s.withDpc v).cport n = s.cport n := rfl

/-! ## Part `mod` replaced -/

@[simp] theorem State.withMod_mod (s : State) (v : ModSt) : (s.withMod v).mod = v := rfl
@[simp] theorem State.withMod_self (s : State) : s.withMod s.mod = s := rfl
@[simp] theorem State.withMod_withMod (s : State) (v w : ModSt) : (s.withMod v).withMod w = s.withMod w := rfl
@[simp] theorem State.withMod_regs (s : State) (v : ModSt) : (s.withMod v).regs = s.regs := rfl
@[simp] theorem State.withMod_cfg (s : State) (v : ModSt) : (s.withMod v).cfg = s.cfg := rfl
@[simp] theorem State.withMod_eff (s : State) (v : ModSt) : (s.withMod v).eff = s.eff := rfl
@[simp] theorem State.withMod_pwr (s : State) (v : ModSt) : (s.withMod v).pwr = s.pwr := rfl
@[simp] theorem State.withMod_clk (s : State) (v : ModSt) : (s.withMod v).clk = s.clk := rfl
@[simp] theorem State.withMod_hdRead (s : State) (v : ModSt) : (s.withMod v).hdRead = s.hdRead := rfl
@[simp] theorem State.withMod_bus (s : State) (v : ModSt) : (s.withMod v).bus = s.bus := rfl
@[simp] theorem State.withMod_spiPort (s : State) (v : ModSt) : (s.withMod v).spiPort = s.spiPort := rfl
@[simp] theorem State.withMod_spi (s : State) (v : ModSt) : (s.withMod v).spi = s.spi := rfl
@[simp] theorem State.withMod_rve (s : State) (v : ModSt) : (s.withMod v).rve = s.rve := rfl
@[simp] theorem State.withMod_flt (s : State) (v : ModSt) : (s.withMod v).flt = s.flt := rfl
@[simp] theorem State.withMod_int (s : State) (v : ModSt) : (s.withMod v).int = s.int := rfl
@[simp] theorem State.withMod_str (s : State) (v : ModSt) : (s.withMod v).str = s.str := rfl
@[simp] theorem State.withMod_cul (s : State) (v : ModSt) : (s.withMod v).cul = s.cul := rfl
@[simp] theorem State.withMod_adc (s : State) (v : ModSt) : (s.withMod v).adc = s.adc := rfl
@[simp] theorem State.withMod_dpc (s : State) (v : ModSt) : (s.withMod v).dpc = s.dpc := rfl
@[simp] theorem State.withMod_gdr (s : State) (v : ModSt) : (s.withMod v).gdr = s.gdr := rfl
@[simp] theorem State.withMod_pins (s : State) (v : ModSt) : (s.withMod v).pins = s.pins := rfl
@[simp] theorem State.withMod_lpe (s : State) (v : ModSt) : (s.withMod v).lpe = s.lpe := rfl
@[simp] theorem State.withMod_wrd (s : State) (v : ModSt) : (s.withMod v).wrd = s.wrd := rfl
@[simp] theorem State.withMod_vlt (s : State) (v : ModSt) : (s.withMod v).vlt = s.vlt := rfl
@[simp] theorem State.withMod_thm (s : State) (v : ModSt) : (s.withMod v).thm = s.thm := rfl
@[simp] theorem State.withMod_tim (s : State) (v : ModSt) : (s.withMod v).tim = s.tim := rfl
@[simp] theorem State.withMod_net (s : State) (v : ModSt) : (s.withMod v).net = s.net := rfl
@[simp] theorem State.withMod_stm (s : State) (v : ModSt) : (s.withMod v).stm = s.stm := rfl
@[simp] theorem State.withMod_gal (s : State) (v : ModSt) : (s.withMod v).gal = s.gal := rfl
@[simp] theorem State.withMod_twn (s : State) (v : ModSt) : (s.withMod v).twn = s.twn := rfl
@[simp] theorem State.withMod_spr (s : State) (v : ModSt) : (s.withMod v).spr = s.spr := rfl
@[simp] theorem State.withMod_wear (s : State) (v : ModSt) : (s.withMod v).wear = s.wear := rfl
@[simp] theorem State.withMod_dripLost (s : State) (v : ModSt) : (s.withMod v).dripLost = s.dripLost := rfl
@[simp] theorem State.withMod_free (s : State) (v : ModSt) : (s.withMod v).free = s.free := rfl
@[simp] theorem State.withMod_pending (s : State) (v : ModSt) : (s.withMod v).pending = s.pending := rfl
@[simp] theorem State.withMod_word (s : State) (v : ModSt) (a : Nat) : (s.withMod v).word a = s.word a := rfl
@[simp] theorem State.withMod_get (s : State) (v : ModSt) (f : Fld) : (s.withMod v).get f = s.get f := rfl
@[simp] theorem State.withMod_getS (s : State) (v : ModSt) (f : Fld) : (s.withMod v).getS f = s.getS f := rfl
@[simp] theorem State.withMod_is (s : State) (v : ModSt) (f : Fld) : (s.withMod v).is f = s.is f := rfl
@[simp] theorem State.withMod_effWord (s : State) (v : ModSt) (a : Nat) : (s.withMod v).effWord a = s.effWord a := rfl
@[simp] theorem State.withMod_cf (s : State) (v : ModSt) (f : Fld) : (s.withMod v).cf f = s.cf f := rfl
@[simp] theorem State.withMod_cfS (s : State) (v : ModSt) (f : Fld) : (s.withMod v).cfS f = s.cfS f := rfl
@[simp] theorem State.withMod_cfIs (s : State) (v : ModSt) (f : Fld) : (s.withMod v).cfIs f = s.cfIs f := rfl
@[simp] theorem State.withMod_logged (s : State) (v : ModSt) (n : Nat) : (s.withMod v).logged n = s.logged n := rfl
@[simp] theorem State.withMod_cfgWord (s : State) (v : ModSt) (a : Nat) : (s.withMod v).cfgWord a = s.cfgWord a := rfl
@[simp] theorem State.withMod_cfgOf (s : State) (v : ModSt) (f : Fld) : (s.withMod v).cfgOf f = s.cfgOf f := rfl
@[simp] theorem State.withMod_isOn (s : State) (v : ModSt) (p : Nat) : (s.withMod v).isOn p = s.isOn p := rfl
@[simp] theorem State.withMod_role (s : State) (v : ModSt) : (s.withMod v).role = s.role := rfl
@[simp] theorem State.withMod_isStation (s : State) (v : ModSt) : (s.withMod v).isStation = s.isStation := rfl
@[simp] theorem State.withMod_isCell (s : State) (v : ModSt) : (s.withMod v).isCell = s.isCell := rfl
@[simp] theorem State.withMod_isPort (s : State) (v : ModSt) : (s.withMod v).isPort = s.isPort := rfl
@[simp] theorem State.withMod_isTwinB (s : State) (v : ModSt) : (s.withMod v).isTwinB = s.isTwinB := rfl
@[simp] theorem State.withMod_awake (s : State) (v : ModSt) : (s.withMod v).awake = s.awake := rfl
@[simp] theorem State.withMod_nowNs (s : State) (v : ModSt) : (s.withMod v).nowNs = s.nowNs := rfl
@[simp] theorem State.withMod_cport (s : State) (v : ModSt) (n : Nat) : (s.withMod v).cport n = s.cport n := rfl

/-! ## Part `gdr` replaced -/

@[simp] theorem State.withGdr_gdr (s : State) (v : GdrSt) : (s.withGdr v).gdr = v := rfl
@[simp] theorem State.withGdr_self (s : State) : s.withGdr s.gdr = s := rfl
@[simp] theorem State.withGdr_withGdr (s : State) (v w : GdrSt) : (s.withGdr v).withGdr w = s.withGdr w := rfl
@[simp] theorem State.withGdr_regs (s : State) (v : GdrSt) : (s.withGdr v).regs = s.regs := rfl
@[simp] theorem State.withGdr_cfg (s : State) (v : GdrSt) : (s.withGdr v).cfg = s.cfg := rfl
@[simp] theorem State.withGdr_eff (s : State) (v : GdrSt) : (s.withGdr v).eff = s.eff := rfl
@[simp] theorem State.withGdr_pwr (s : State) (v : GdrSt) : (s.withGdr v).pwr = s.pwr := rfl
@[simp] theorem State.withGdr_clk (s : State) (v : GdrSt) : (s.withGdr v).clk = s.clk := rfl
@[simp] theorem State.withGdr_hdRead (s : State) (v : GdrSt) : (s.withGdr v).hdRead = s.hdRead := rfl
@[simp] theorem State.withGdr_bus (s : State) (v : GdrSt) : (s.withGdr v).bus = s.bus := rfl
@[simp] theorem State.withGdr_spiPort (s : State) (v : GdrSt) : (s.withGdr v).spiPort = s.spiPort := rfl
@[simp] theorem State.withGdr_spi (s : State) (v : GdrSt) : (s.withGdr v).spi = s.spi := rfl
@[simp] theorem State.withGdr_rve (s : State) (v : GdrSt) : (s.withGdr v).rve = s.rve := rfl
@[simp] theorem State.withGdr_flt (s : State) (v : GdrSt) : (s.withGdr v).flt = s.flt := rfl
@[simp] theorem State.withGdr_int (s : State) (v : GdrSt) : (s.withGdr v).int = s.int := rfl
@[simp] theorem State.withGdr_str (s : State) (v : GdrSt) : (s.withGdr v).str = s.str := rfl
@[simp] theorem State.withGdr_cul (s : State) (v : GdrSt) : (s.withGdr v).cul = s.cul := rfl
@[simp] theorem State.withGdr_adc (s : State) (v : GdrSt) : (s.withGdr v).adc = s.adc := rfl
@[simp] theorem State.withGdr_dpc (s : State) (v : GdrSt) : (s.withGdr v).dpc = s.dpc := rfl
@[simp] theorem State.withGdr_mod (s : State) (v : GdrSt) : (s.withGdr v).mod = s.mod := rfl
@[simp] theorem State.withGdr_pins (s : State) (v : GdrSt) : (s.withGdr v).pins = s.pins := rfl
@[simp] theorem State.withGdr_lpe (s : State) (v : GdrSt) : (s.withGdr v).lpe = s.lpe := rfl
@[simp] theorem State.withGdr_wrd (s : State) (v : GdrSt) : (s.withGdr v).wrd = s.wrd := rfl
@[simp] theorem State.withGdr_vlt (s : State) (v : GdrSt) : (s.withGdr v).vlt = s.vlt := rfl
@[simp] theorem State.withGdr_thm (s : State) (v : GdrSt) : (s.withGdr v).thm = s.thm := rfl
@[simp] theorem State.withGdr_tim (s : State) (v : GdrSt) : (s.withGdr v).tim = s.tim := rfl
@[simp] theorem State.withGdr_net (s : State) (v : GdrSt) : (s.withGdr v).net = s.net := rfl
@[simp] theorem State.withGdr_stm (s : State) (v : GdrSt) : (s.withGdr v).stm = s.stm := rfl
@[simp] theorem State.withGdr_gal (s : State) (v : GdrSt) : (s.withGdr v).gal = s.gal := rfl
@[simp] theorem State.withGdr_twn (s : State) (v : GdrSt) : (s.withGdr v).twn = s.twn := rfl
@[simp] theorem State.withGdr_spr (s : State) (v : GdrSt) : (s.withGdr v).spr = s.spr := rfl
@[simp] theorem State.withGdr_wear (s : State) (v : GdrSt) : (s.withGdr v).wear = s.wear := rfl
@[simp] theorem State.withGdr_dripLost (s : State) (v : GdrSt) : (s.withGdr v).dripLost = s.dripLost := rfl
@[simp] theorem State.withGdr_free (s : State) (v : GdrSt) : (s.withGdr v).free = s.free := rfl
@[simp] theorem State.withGdr_pending (s : State) (v : GdrSt) : (s.withGdr v).pending = s.pending := rfl
@[simp] theorem State.withGdr_word (s : State) (v : GdrSt) (a : Nat) : (s.withGdr v).word a = s.word a := rfl
@[simp] theorem State.withGdr_get (s : State) (v : GdrSt) (f : Fld) : (s.withGdr v).get f = s.get f := rfl
@[simp] theorem State.withGdr_getS (s : State) (v : GdrSt) (f : Fld) : (s.withGdr v).getS f = s.getS f := rfl
@[simp] theorem State.withGdr_is (s : State) (v : GdrSt) (f : Fld) : (s.withGdr v).is f = s.is f := rfl
@[simp] theorem State.withGdr_effWord (s : State) (v : GdrSt) (a : Nat) : (s.withGdr v).effWord a = s.effWord a := rfl
@[simp] theorem State.withGdr_cf (s : State) (v : GdrSt) (f : Fld) : (s.withGdr v).cf f = s.cf f := rfl
@[simp] theorem State.withGdr_cfS (s : State) (v : GdrSt) (f : Fld) : (s.withGdr v).cfS f = s.cfS f := rfl
@[simp] theorem State.withGdr_cfIs (s : State) (v : GdrSt) (f : Fld) : (s.withGdr v).cfIs f = s.cfIs f := rfl
@[simp] theorem State.withGdr_logged (s : State) (v : GdrSt) (n : Nat) : (s.withGdr v).logged n = s.logged n := rfl
@[simp] theorem State.withGdr_cfgWord (s : State) (v : GdrSt) (a : Nat) : (s.withGdr v).cfgWord a = s.cfgWord a := rfl
@[simp] theorem State.withGdr_cfgOf (s : State) (v : GdrSt) (f : Fld) : (s.withGdr v).cfgOf f = s.cfgOf f := rfl
@[simp] theorem State.withGdr_isOn (s : State) (v : GdrSt) (p : Nat) : (s.withGdr v).isOn p = s.isOn p := rfl
@[simp] theorem State.withGdr_role (s : State) (v : GdrSt) : (s.withGdr v).role = s.role := rfl
@[simp] theorem State.withGdr_isStation (s : State) (v : GdrSt) : (s.withGdr v).isStation = s.isStation := rfl
@[simp] theorem State.withGdr_isCell (s : State) (v : GdrSt) : (s.withGdr v).isCell = s.isCell := rfl
@[simp] theorem State.withGdr_isPort (s : State) (v : GdrSt) : (s.withGdr v).isPort = s.isPort := rfl
@[simp] theorem State.withGdr_isTwinB (s : State) (v : GdrSt) : (s.withGdr v).isTwinB = s.isTwinB := rfl
@[simp] theorem State.withGdr_awake (s : State) (v : GdrSt) : (s.withGdr v).awake = s.awake := rfl
@[simp] theorem State.withGdr_nowNs (s : State) (v : GdrSt) : (s.withGdr v).nowNs = s.nowNs := rfl
@[simp] theorem State.withGdr_cport (s : State) (v : GdrSt) (n : Nat) : (s.withGdr v).cport n = s.cport n := rfl

/-! ## Part `pins` replaced -/

@[simp] theorem State.withPins_pins (s : State) (v : PinSt) : (s.withPins v).pins = v := rfl
@[simp] theorem State.withPins_self (s : State) : s.withPins s.pins = s := rfl
@[simp] theorem State.withPins_withPins (s : State) (v w : PinSt) : (s.withPins v).withPins w = s.withPins w := rfl
@[simp] theorem State.withPins_regs (s : State) (v : PinSt) : (s.withPins v).regs = s.regs := rfl
@[simp] theorem State.withPins_cfg (s : State) (v : PinSt) : (s.withPins v).cfg = s.cfg := rfl
@[simp] theorem State.withPins_eff (s : State) (v : PinSt) : (s.withPins v).eff = s.eff := rfl
@[simp] theorem State.withPins_pwr (s : State) (v : PinSt) : (s.withPins v).pwr = s.pwr := rfl
@[simp] theorem State.withPins_clk (s : State) (v : PinSt) : (s.withPins v).clk = s.clk := rfl
@[simp] theorem State.withPins_hdRead (s : State) (v : PinSt) : (s.withPins v).hdRead = s.hdRead := rfl
@[simp] theorem State.withPins_bus (s : State) (v : PinSt) : (s.withPins v).bus = s.bus := rfl
@[simp] theorem State.withPins_spiPort (s : State) (v : PinSt) : (s.withPins v).spiPort = s.spiPort := rfl
@[simp] theorem State.withPins_spi (s : State) (v : PinSt) : (s.withPins v).spi = s.spi := rfl
@[simp] theorem State.withPins_rve (s : State) (v : PinSt) : (s.withPins v).rve = s.rve := rfl
@[simp] theorem State.withPins_flt (s : State) (v : PinSt) : (s.withPins v).flt = s.flt := rfl
@[simp] theorem State.withPins_int (s : State) (v : PinSt) : (s.withPins v).int = s.int := rfl
@[simp] theorem State.withPins_str (s : State) (v : PinSt) : (s.withPins v).str = s.str := rfl
@[simp] theorem State.withPins_cul (s : State) (v : PinSt) : (s.withPins v).cul = s.cul := rfl
@[simp] theorem State.withPins_adc (s : State) (v : PinSt) : (s.withPins v).adc = s.adc := rfl
@[simp] theorem State.withPins_dpc (s : State) (v : PinSt) : (s.withPins v).dpc = s.dpc := rfl
@[simp] theorem State.withPins_mod (s : State) (v : PinSt) : (s.withPins v).mod = s.mod := rfl
@[simp] theorem State.withPins_gdr (s : State) (v : PinSt) : (s.withPins v).gdr = s.gdr := rfl
@[simp] theorem State.withPins_lpe (s : State) (v : PinSt) : (s.withPins v).lpe = s.lpe := rfl
@[simp] theorem State.withPins_wrd (s : State) (v : PinSt) : (s.withPins v).wrd = s.wrd := rfl
@[simp] theorem State.withPins_vlt (s : State) (v : PinSt) : (s.withPins v).vlt = s.vlt := rfl
@[simp] theorem State.withPins_thm (s : State) (v : PinSt) : (s.withPins v).thm = s.thm := rfl
@[simp] theorem State.withPins_tim (s : State) (v : PinSt) : (s.withPins v).tim = s.tim := rfl
@[simp] theorem State.withPins_net (s : State) (v : PinSt) : (s.withPins v).net = s.net := rfl
@[simp] theorem State.withPins_stm (s : State) (v : PinSt) : (s.withPins v).stm = s.stm := rfl
@[simp] theorem State.withPins_gal (s : State) (v : PinSt) : (s.withPins v).gal = s.gal := rfl
@[simp] theorem State.withPins_twn (s : State) (v : PinSt) : (s.withPins v).twn = s.twn := rfl
@[simp] theorem State.withPins_spr (s : State) (v : PinSt) : (s.withPins v).spr = s.spr := rfl
@[simp] theorem State.withPins_wear (s : State) (v : PinSt) : (s.withPins v).wear = s.wear := rfl
@[simp] theorem State.withPins_dripLost (s : State) (v : PinSt) : (s.withPins v).dripLost = s.dripLost := rfl
@[simp] theorem State.withPins_free (s : State) (v : PinSt) : (s.withPins v).free = s.free := rfl
@[simp] theorem State.withPins_pending (s : State) (v : PinSt) : (s.withPins v).pending = s.pending := rfl
@[simp] theorem State.withPins_word (s : State) (v : PinSt) (a : Nat) : (s.withPins v).word a = s.word a := rfl
@[simp] theorem State.withPins_get (s : State) (v : PinSt) (f : Fld) : (s.withPins v).get f = s.get f := rfl
@[simp] theorem State.withPins_getS (s : State) (v : PinSt) (f : Fld) : (s.withPins v).getS f = s.getS f := rfl
@[simp] theorem State.withPins_is (s : State) (v : PinSt) (f : Fld) : (s.withPins v).is f = s.is f := rfl
@[simp] theorem State.withPins_effWord (s : State) (v : PinSt) (a : Nat) : (s.withPins v).effWord a = s.effWord a := rfl
@[simp] theorem State.withPins_cf (s : State) (v : PinSt) (f : Fld) : (s.withPins v).cf f = s.cf f := rfl
@[simp] theorem State.withPins_cfS (s : State) (v : PinSt) (f : Fld) : (s.withPins v).cfS f = s.cfS f := rfl
@[simp] theorem State.withPins_cfIs (s : State) (v : PinSt) (f : Fld) : (s.withPins v).cfIs f = s.cfIs f := rfl
@[simp] theorem State.withPins_logged (s : State) (v : PinSt) (n : Nat) : (s.withPins v).logged n = s.logged n := rfl
@[simp] theorem State.withPins_cfgWord (s : State) (v : PinSt) (a : Nat) : (s.withPins v).cfgWord a = s.cfgWord a := rfl
@[simp] theorem State.withPins_cfgOf (s : State) (v : PinSt) (f : Fld) : (s.withPins v).cfgOf f = s.cfgOf f := rfl
@[simp] theorem State.withPins_isOn (s : State) (v : PinSt) (p : Nat) : (s.withPins v).isOn p = s.isOn p := rfl
@[simp] theorem State.withPins_role (s : State) (v : PinSt) : (s.withPins v).role = s.role := rfl
@[simp] theorem State.withPins_isStation (s : State) (v : PinSt) : (s.withPins v).isStation = s.isStation := rfl
@[simp] theorem State.withPins_isCell (s : State) (v : PinSt) : (s.withPins v).isCell = s.isCell := rfl
@[simp] theorem State.withPins_isPort (s : State) (v : PinSt) : (s.withPins v).isPort = s.isPort := rfl
@[simp] theorem State.withPins_isTwinB (s : State) (v : PinSt) : (s.withPins v).isTwinB = s.isTwinB := rfl
@[simp] theorem State.withPins_awake (s : State) (v : PinSt) : (s.withPins v).awake = s.awake := rfl
@[simp] theorem State.withPins_nowNs (s : State) (v : PinSt) : (s.withPins v).nowNs = s.nowNs := rfl
@[simp] theorem State.withPins_cport (s : State) (v : PinSt) (n : Nat) : (s.withPins v).cport n = s.cport n := rfl

/-! ## Part `lpe` replaced -/

@[simp] theorem State.withLpe_lpe (s : State) (v : LpeSt) : (s.withLpe v).lpe = v := rfl
@[simp] theorem State.withLpe_self (s : State) : s.withLpe s.lpe = s := rfl
@[simp] theorem State.withLpe_withLpe (s : State) (v w : LpeSt) : (s.withLpe v).withLpe w = s.withLpe w := rfl
@[simp] theorem State.withLpe_regs (s : State) (v : LpeSt) : (s.withLpe v).regs = s.regs := rfl
@[simp] theorem State.withLpe_cfg (s : State) (v : LpeSt) : (s.withLpe v).cfg = s.cfg := rfl
@[simp] theorem State.withLpe_eff (s : State) (v : LpeSt) : (s.withLpe v).eff = s.eff := rfl
@[simp] theorem State.withLpe_pwr (s : State) (v : LpeSt) : (s.withLpe v).pwr = s.pwr := rfl
@[simp] theorem State.withLpe_clk (s : State) (v : LpeSt) : (s.withLpe v).clk = s.clk := rfl
@[simp] theorem State.withLpe_hdRead (s : State) (v : LpeSt) : (s.withLpe v).hdRead = s.hdRead := rfl
@[simp] theorem State.withLpe_bus (s : State) (v : LpeSt) : (s.withLpe v).bus = s.bus := rfl
@[simp] theorem State.withLpe_spiPort (s : State) (v : LpeSt) : (s.withLpe v).spiPort = s.spiPort := rfl
@[simp] theorem State.withLpe_spi (s : State) (v : LpeSt) : (s.withLpe v).spi = s.spi := rfl
@[simp] theorem State.withLpe_rve (s : State) (v : LpeSt) : (s.withLpe v).rve = s.rve := rfl
@[simp] theorem State.withLpe_flt (s : State) (v : LpeSt) : (s.withLpe v).flt = s.flt := rfl
@[simp] theorem State.withLpe_int (s : State) (v : LpeSt) : (s.withLpe v).int = s.int := rfl
@[simp] theorem State.withLpe_str (s : State) (v : LpeSt) : (s.withLpe v).str = s.str := rfl
@[simp] theorem State.withLpe_cul (s : State) (v : LpeSt) : (s.withLpe v).cul = s.cul := rfl
@[simp] theorem State.withLpe_adc (s : State) (v : LpeSt) : (s.withLpe v).adc = s.adc := rfl
@[simp] theorem State.withLpe_dpc (s : State) (v : LpeSt) : (s.withLpe v).dpc = s.dpc := rfl
@[simp] theorem State.withLpe_mod (s : State) (v : LpeSt) : (s.withLpe v).mod = s.mod := rfl
@[simp] theorem State.withLpe_gdr (s : State) (v : LpeSt) : (s.withLpe v).gdr = s.gdr := rfl
@[simp] theorem State.withLpe_pins (s : State) (v : LpeSt) : (s.withLpe v).pins = s.pins := rfl
@[simp] theorem State.withLpe_wrd (s : State) (v : LpeSt) : (s.withLpe v).wrd = s.wrd := rfl
@[simp] theorem State.withLpe_vlt (s : State) (v : LpeSt) : (s.withLpe v).vlt = s.vlt := rfl
@[simp] theorem State.withLpe_thm (s : State) (v : LpeSt) : (s.withLpe v).thm = s.thm := rfl
@[simp] theorem State.withLpe_tim (s : State) (v : LpeSt) : (s.withLpe v).tim = s.tim := rfl
@[simp] theorem State.withLpe_net (s : State) (v : LpeSt) : (s.withLpe v).net = s.net := rfl
@[simp] theorem State.withLpe_stm (s : State) (v : LpeSt) : (s.withLpe v).stm = s.stm := rfl
@[simp] theorem State.withLpe_gal (s : State) (v : LpeSt) : (s.withLpe v).gal = s.gal := rfl
@[simp] theorem State.withLpe_twn (s : State) (v : LpeSt) : (s.withLpe v).twn = s.twn := rfl
@[simp] theorem State.withLpe_spr (s : State) (v : LpeSt) : (s.withLpe v).spr = s.spr := rfl
@[simp] theorem State.withLpe_wear (s : State) (v : LpeSt) : (s.withLpe v).wear = s.wear := rfl
@[simp] theorem State.withLpe_dripLost (s : State) (v : LpeSt) : (s.withLpe v).dripLost = s.dripLost := rfl
@[simp] theorem State.withLpe_free (s : State) (v : LpeSt) : (s.withLpe v).free = s.free := rfl
@[simp] theorem State.withLpe_pending (s : State) (v : LpeSt) : (s.withLpe v).pending = s.pending := rfl
@[simp] theorem State.withLpe_word (s : State) (v : LpeSt) (a : Nat) : (s.withLpe v).word a = s.word a := rfl
@[simp] theorem State.withLpe_get (s : State) (v : LpeSt) (f : Fld) : (s.withLpe v).get f = s.get f := rfl
@[simp] theorem State.withLpe_getS (s : State) (v : LpeSt) (f : Fld) : (s.withLpe v).getS f = s.getS f := rfl
@[simp] theorem State.withLpe_is (s : State) (v : LpeSt) (f : Fld) : (s.withLpe v).is f = s.is f := rfl
@[simp] theorem State.withLpe_effWord (s : State) (v : LpeSt) (a : Nat) : (s.withLpe v).effWord a = s.effWord a := rfl
@[simp] theorem State.withLpe_cf (s : State) (v : LpeSt) (f : Fld) : (s.withLpe v).cf f = s.cf f := rfl
@[simp] theorem State.withLpe_cfS (s : State) (v : LpeSt) (f : Fld) : (s.withLpe v).cfS f = s.cfS f := rfl
@[simp] theorem State.withLpe_cfIs (s : State) (v : LpeSt) (f : Fld) : (s.withLpe v).cfIs f = s.cfIs f := rfl
@[simp] theorem State.withLpe_logged (s : State) (v : LpeSt) (n : Nat) : (s.withLpe v).logged n = s.logged n := rfl
@[simp] theorem State.withLpe_cfgWord (s : State) (v : LpeSt) (a : Nat) : (s.withLpe v).cfgWord a = s.cfgWord a := rfl
@[simp] theorem State.withLpe_cfgOf (s : State) (v : LpeSt) (f : Fld) : (s.withLpe v).cfgOf f = s.cfgOf f := rfl
@[simp] theorem State.withLpe_isOn (s : State) (v : LpeSt) (p : Nat) : (s.withLpe v).isOn p = s.isOn p := rfl
@[simp] theorem State.withLpe_role (s : State) (v : LpeSt) : (s.withLpe v).role = s.role := rfl
@[simp] theorem State.withLpe_isStation (s : State) (v : LpeSt) : (s.withLpe v).isStation = s.isStation := rfl
@[simp] theorem State.withLpe_isCell (s : State) (v : LpeSt) : (s.withLpe v).isCell = s.isCell := rfl
@[simp] theorem State.withLpe_isPort (s : State) (v : LpeSt) : (s.withLpe v).isPort = s.isPort := rfl
@[simp] theorem State.withLpe_isTwinB (s : State) (v : LpeSt) : (s.withLpe v).isTwinB = s.isTwinB := rfl
@[simp] theorem State.withLpe_awake (s : State) (v : LpeSt) : (s.withLpe v).awake = s.awake := rfl
@[simp] theorem State.withLpe_nowNs (s : State) (v : LpeSt) : (s.withLpe v).nowNs = s.nowNs := rfl
@[simp] theorem State.withLpe_cport (s : State) (v : LpeSt) (n : Nat) : (s.withLpe v).cport n = s.cport n := rfl

/-! ## Part `wrd` replaced -/

@[simp] theorem State.withWrd_wrd (s : State) (v : WrdSt) : (s.withWrd v).wrd = v := rfl
@[simp] theorem State.withWrd_self (s : State) : s.withWrd s.wrd = s := rfl
@[simp] theorem State.withWrd_withWrd (s : State) (v w : WrdSt) : (s.withWrd v).withWrd w = s.withWrd w := rfl
@[simp] theorem State.withWrd_regs (s : State) (v : WrdSt) : (s.withWrd v).regs = s.regs := rfl
@[simp] theorem State.withWrd_cfg (s : State) (v : WrdSt) : (s.withWrd v).cfg = s.cfg := rfl
@[simp] theorem State.withWrd_eff (s : State) (v : WrdSt) : (s.withWrd v).eff = s.eff := rfl
@[simp] theorem State.withWrd_pwr (s : State) (v : WrdSt) : (s.withWrd v).pwr = s.pwr := rfl
@[simp] theorem State.withWrd_clk (s : State) (v : WrdSt) : (s.withWrd v).clk = s.clk := rfl
@[simp] theorem State.withWrd_hdRead (s : State) (v : WrdSt) : (s.withWrd v).hdRead = s.hdRead := rfl
@[simp] theorem State.withWrd_bus (s : State) (v : WrdSt) : (s.withWrd v).bus = s.bus := rfl
@[simp] theorem State.withWrd_spiPort (s : State) (v : WrdSt) : (s.withWrd v).spiPort = s.spiPort := rfl
@[simp] theorem State.withWrd_spi (s : State) (v : WrdSt) : (s.withWrd v).spi = s.spi := rfl
@[simp] theorem State.withWrd_rve (s : State) (v : WrdSt) : (s.withWrd v).rve = s.rve := rfl
@[simp] theorem State.withWrd_flt (s : State) (v : WrdSt) : (s.withWrd v).flt = s.flt := rfl
@[simp] theorem State.withWrd_int (s : State) (v : WrdSt) : (s.withWrd v).int = s.int := rfl
@[simp] theorem State.withWrd_str (s : State) (v : WrdSt) : (s.withWrd v).str = s.str := rfl
@[simp] theorem State.withWrd_cul (s : State) (v : WrdSt) : (s.withWrd v).cul = s.cul := rfl
@[simp] theorem State.withWrd_adc (s : State) (v : WrdSt) : (s.withWrd v).adc = s.adc := rfl
@[simp] theorem State.withWrd_dpc (s : State) (v : WrdSt) : (s.withWrd v).dpc = s.dpc := rfl
@[simp] theorem State.withWrd_mod (s : State) (v : WrdSt) : (s.withWrd v).mod = s.mod := rfl
@[simp] theorem State.withWrd_gdr (s : State) (v : WrdSt) : (s.withWrd v).gdr = s.gdr := rfl
@[simp] theorem State.withWrd_pins (s : State) (v : WrdSt) : (s.withWrd v).pins = s.pins := rfl
@[simp] theorem State.withWrd_lpe (s : State) (v : WrdSt) : (s.withWrd v).lpe = s.lpe := rfl
@[simp] theorem State.withWrd_vlt (s : State) (v : WrdSt) : (s.withWrd v).vlt = s.vlt := rfl
@[simp] theorem State.withWrd_thm (s : State) (v : WrdSt) : (s.withWrd v).thm = s.thm := rfl
@[simp] theorem State.withWrd_tim (s : State) (v : WrdSt) : (s.withWrd v).tim = s.tim := rfl
@[simp] theorem State.withWrd_net (s : State) (v : WrdSt) : (s.withWrd v).net = s.net := rfl
@[simp] theorem State.withWrd_stm (s : State) (v : WrdSt) : (s.withWrd v).stm = s.stm := rfl
@[simp] theorem State.withWrd_gal (s : State) (v : WrdSt) : (s.withWrd v).gal = s.gal := rfl
@[simp] theorem State.withWrd_twn (s : State) (v : WrdSt) : (s.withWrd v).twn = s.twn := rfl
@[simp] theorem State.withWrd_spr (s : State) (v : WrdSt) : (s.withWrd v).spr = s.spr := rfl
@[simp] theorem State.withWrd_wear (s : State) (v : WrdSt) : (s.withWrd v).wear = s.wear := rfl
@[simp] theorem State.withWrd_dripLost (s : State) (v : WrdSt) : (s.withWrd v).dripLost = s.dripLost := rfl
@[simp] theorem State.withWrd_free (s : State) (v : WrdSt) : (s.withWrd v).free = s.free := rfl
@[simp] theorem State.withWrd_pending (s : State) (v : WrdSt) : (s.withWrd v).pending = s.pending := rfl
@[simp] theorem State.withWrd_word (s : State) (v : WrdSt) (a : Nat) : (s.withWrd v).word a = s.word a := rfl
@[simp] theorem State.withWrd_get (s : State) (v : WrdSt) (f : Fld) : (s.withWrd v).get f = s.get f := rfl
@[simp] theorem State.withWrd_getS (s : State) (v : WrdSt) (f : Fld) : (s.withWrd v).getS f = s.getS f := rfl
@[simp] theorem State.withWrd_is (s : State) (v : WrdSt) (f : Fld) : (s.withWrd v).is f = s.is f := rfl
@[simp] theorem State.withWrd_effWord (s : State) (v : WrdSt) (a : Nat) : (s.withWrd v).effWord a = s.effWord a := rfl
@[simp] theorem State.withWrd_cf (s : State) (v : WrdSt) (f : Fld) : (s.withWrd v).cf f = s.cf f := rfl
@[simp] theorem State.withWrd_cfS (s : State) (v : WrdSt) (f : Fld) : (s.withWrd v).cfS f = s.cfS f := rfl
@[simp] theorem State.withWrd_cfIs (s : State) (v : WrdSt) (f : Fld) : (s.withWrd v).cfIs f = s.cfIs f := rfl
@[simp] theorem State.withWrd_logged (s : State) (v : WrdSt) (n : Nat) : (s.withWrd v).logged n = s.logged n := rfl
@[simp] theorem State.withWrd_cfgWord (s : State) (v : WrdSt) (a : Nat) : (s.withWrd v).cfgWord a = s.cfgWord a := rfl
@[simp] theorem State.withWrd_cfgOf (s : State) (v : WrdSt) (f : Fld) : (s.withWrd v).cfgOf f = s.cfgOf f := rfl
@[simp] theorem State.withWrd_isOn (s : State) (v : WrdSt) (p : Nat) : (s.withWrd v).isOn p = s.isOn p := rfl
@[simp] theorem State.withWrd_role (s : State) (v : WrdSt) : (s.withWrd v).role = s.role := rfl
@[simp] theorem State.withWrd_isStation (s : State) (v : WrdSt) : (s.withWrd v).isStation = s.isStation := rfl
@[simp] theorem State.withWrd_isCell (s : State) (v : WrdSt) : (s.withWrd v).isCell = s.isCell := rfl
@[simp] theorem State.withWrd_isPort (s : State) (v : WrdSt) : (s.withWrd v).isPort = s.isPort := rfl
@[simp] theorem State.withWrd_isTwinB (s : State) (v : WrdSt) : (s.withWrd v).isTwinB = s.isTwinB := rfl
@[simp] theorem State.withWrd_awake (s : State) (v : WrdSt) : (s.withWrd v).awake = s.awake := rfl
@[simp] theorem State.withWrd_nowNs (s : State) (v : WrdSt) : (s.withWrd v).nowNs = s.nowNs := rfl
@[simp] theorem State.withWrd_cport (s : State) (v : WrdSt) (n : Nat) : (s.withWrd v).cport n = s.cport n := rfl

/-! ## Part `vlt` replaced -/

@[simp] theorem State.withVlt_vlt (s : State) (v : VltSt) : (s.withVlt v).vlt = v := rfl
@[simp] theorem State.withVlt_self (s : State) : s.withVlt s.vlt = s := rfl
@[simp] theorem State.withVlt_withVlt (s : State) (v w : VltSt) : (s.withVlt v).withVlt w = s.withVlt w := rfl
@[simp] theorem State.withVlt_regs (s : State) (v : VltSt) : (s.withVlt v).regs = s.regs := rfl
@[simp] theorem State.withVlt_cfg (s : State) (v : VltSt) : (s.withVlt v).cfg = s.cfg := rfl
@[simp] theorem State.withVlt_eff (s : State) (v : VltSt) : (s.withVlt v).eff = s.eff := rfl
@[simp] theorem State.withVlt_pwr (s : State) (v : VltSt) : (s.withVlt v).pwr = s.pwr := rfl
@[simp] theorem State.withVlt_clk (s : State) (v : VltSt) : (s.withVlt v).clk = s.clk := rfl
@[simp] theorem State.withVlt_hdRead (s : State) (v : VltSt) : (s.withVlt v).hdRead = s.hdRead := rfl
@[simp] theorem State.withVlt_bus (s : State) (v : VltSt) : (s.withVlt v).bus = s.bus := rfl
@[simp] theorem State.withVlt_spiPort (s : State) (v : VltSt) : (s.withVlt v).spiPort = s.spiPort := rfl
@[simp] theorem State.withVlt_spi (s : State) (v : VltSt) : (s.withVlt v).spi = s.spi := rfl
@[simp] theorem State.withVlt_rve (s : State) (v : VltSt) : (s.withVlt v).rve = s.rve := rfl
@[simp] theorem State.withVlt_flt (s : State) (v : VltSt) : (s.withVlt v).flt = s.flt := rfl
@[simp] theorem State.withVlt_int (s : State) (v : VltSt) : (s.withVlt v).int = s.int := rfl
@[simp] theorem State.withVlt_str (s : State) (v : VltSt) : (s.withVlt v).str = s.str := rfl
@[simp] theorem State.withVlt_cul (s : State) (v : VltSt) : (s.withVlt v).cul = s.cul := rfl
@[simp] theorem State.withVlt_adc (s : State) (v : VltSt) : (s.withVlt v).adc = s.adc := rfl
@[simp] theorem State.withVlt_dpc (s : State) (v : VltSt) : (s.withVlt v).dpc = s.dpc := rfl
@[simp] theorem State.withVlt_mod (s : State) (v : VltSt) : (s.withVlt v).mod = s.mod := rfl
@[simp] theorem State.withVlt_gdr (s : State) (v : VltSt) : (s.withVlt v).gdr = s.gdr := rfl
@[simp] theorem State.withVlt_pins (s : State) (v : VltSt) : (s.withVlt v).pins = s.pins := rfl
@[simp] theorem State.withVlt_lpe (s : State) (v : VltSt) : (s.withVlt v).lpe = s.lpe := rfl
@[simp] theorem State.withVlt_wrd (s : State) (v : VltSt) : (s.withVlt v).wrd = s.wrd := rfl
@[simp] theorem State.withVlt_thm (s : State) (v : VltSt) : (s.withVlt v).thm = s.thm := rfl
@[simp] theorem State.withVlt_tim (s : State) (v : VltSt) : (s.withVlt v).tim = s.tim := rfl
@[simp] theorem State.withVlt_net (s : State) (v : VltSt) : (s.withVlt v).net = s.net := rfl
@[simp] theorem State.withVlt_stm (s : State) (v : VltSt) : (s.withVlt v).stm = s.stm := rfl
@[simp] theorem State.withVlt_gal (s : State) (v : VltSt) : (s.withVlt v).gal = s.gal := rfl
@[simp] theorem State.withVlt_twn (s : State) (v : VltSt) : (s.withVlt v).twn = s.twn := rfl
@[simp] theorem State.withVlt_spr (s : State) (v : VltSt) : (s.withVlt v).spr = s.spr := rfl
@[simp] theorem State.withVlt_wear (s : State) (v : VltSt) : (s.withVlt v).wear = s.wear := rfl
@[simp] theorem State.withVlt_dripLost (s : State) (v : VltSt) : (s.withVlt v).dripLost = s.dripLost := rfl
@[simp] theorem State.withVlt_free (s : State) (v : VltSt) : (s.withVlt v).free = s.free := rfl
@[simp] theorem State.withVlt_pending (s : State) (v : VltSt) : (s.withVlt v).pending = s.pending := rfl
@[simp] theorem State.withVlt_word (s : State) (v : VltSt) (a : Nat) : (s.withVlt v).word a = s.word a := rfl
@[simp] theorem State.withVlt_get (s : State) (v : VltSt) (f : Fld) : (s.withVlt v).get f = s.get f := rfl
@[simp] theorem State.withVlt_getS (s : State) (v : VltSt) (f : Fld) : (s.withVlt v).getS f = s.getS f := rfl
@[simp] theorem State.withVlt_is (s : State) (v : VltSt) (f : Fld) : (s.withVlt v).is f = s.is f := rfl
@[simp] theorem State.withVlt_effWord (s : State) (v : VltSt) (a : Nat) : (s.withVlt v).effWord a = s.effWord a := rfl
@[simp] theorem State.withVlt_cf (s : State) (v : VltSt) (f : Fld) : (s.withVlt v).cf f = s.cf f := rfl
@[simp] theorem State.withVlt_cfS (s : State) (v : VltSt) (f : Fld) : (s.withVlt v).cfS f = s.cfS f := rfl
@[simp] theorem State.withVlt_cfIs (s : State) (v : VltSt) (f : Fld) : (s.withVlt v).cfIs f = s.cfIs f := rfl
@[simp] theorem State.withVlt_logged (s : State) (v : VltSt) (n : Nat) : (s.withVlt v).logged n = s.logged n := rfl
@[simp] theorem State.withVlt_cfgWord (s : State) (v : VltSt) (a : Nat) : (s.withVlt v).cfgWord a = s.cfgWord a := rfl
@[simp] theorem State.withVlt_cfgOf (s : State) (v : VltSt) (f : Fld) : (s.withVlt v).cfgOf f = s.cfgOf f := rfl
@[simp] theorem State.withVlt_isOn (s : State) (v : VltSt) (p : Nat) : (s.withVlt v).isOn p = s.isOn p := rfl
@[simp] theorem State.withVlt_role (s : State) (v : VltSt) : (s.withVlt v).role = s.role := rfl
@[simp] theorem State.withVlt_isStation (s : State) (v : VltSt) : (s.withVlt v).isStation = s.isStation := rfl
@[simp] theorem State.withVlt_isCell (s : State) (v : VltSt) : (s.withVlt v).isCell = s.isCell := rfl
@[simp] theorem State.withVlt_isPort (s : State) (v : VltSt) : (s.withVlt v).isPort = s.isPort := rfl
@[simp] theorem State.withVlt_isTwinB (s : State) (v : VltSt) : (s.withVlt v).isTwinB = s.isTwinB := rfl
@[simp] theorem State.withVlt_awake (s : State) (v : VltSt) : (s.withVlt v).awake = s.awake := rfl
@[simp] theorem State.withVlt_nowNs (s : State) (v : VltSt) : (s.withVlt v).nowNs = s.nowNs := rfl
@[simp] theorem State.withVlt_cport (s : State) (v : VltSt) (n : Nat) : (s.withVlt v).cport n = s.cport n := rfl

/-! ## Part `thm` replaced -/

@[simp] theorem State.withThm_thm (s : State) (v : ThmSt) : (s.withThm v).thm = v := rfl
@[simp] theorem State.withThm_self (s : State) : s.withThm s.thm = s := rfl
@[simp] theorem State.withThm_withThm (s : State) (v w : ThmSt) : (s.withThm v).withThm w = s.withThm w := rfl
@[simp] theorem State.withThm_regs (s : State) (v : ThmSt) : (s.withThm v).regs = s.regs := rfl
@[simp] theorem State.withThm_cfg (s : State) (v : ThmSt) : (s.withThm v).cfg = s.cfg := rfl
@[simp] theorem State.withThm_eff (s : State) (v : ThmSt) : (s.withThm v).eff = s.eff := rfl
@[simp] theorem State.withThm_pwr (s : State) (v : ThmSt) : (s.withThm v).pwr = s.pwr := rfl
@[simp] theorem State.withThm_clk (s : State) (v : ThmSt) : (s.withThm v).clk = s.clk := rfl
@[simp] theorem State.withThm_hdRead (s : State) (v : ThmSt) : (s.withThm v).hdRead = s.hdRead := rfl
@[simp] theorem State.withThm_bus (s : State) (v : ThmSt) : (s.withThm v).bus = s.bus := rfl
@[simp] theorem State.withThm_spiPort (s : State) (v : ThmSt) : (s.withThm v).spiPort = s.spiPort := rfl
@[simp] theorem State.withThm_spi (s : State) (v : ThmSt) : (s.withThm v).spi = s.spi := rfl
@[simp] theorem State.withThm_rve (s : State) (v : ThmSt) : (s.withThm v).rve = s.rve := rfl
@[simp] theorem State.withThm_flt (s : State) (v : ThmSt) : (s.withThm v).flt = s.flt := rfl
@[simp] theorem State.withThm_int (s : State) (v : ThmSt) : (s.withThm v).int = s.int := rfl
@[simp] theorem State.withThm_str (s : State) (v : ThmSt) : (s.withThm v).str = s.str := rfl
@[simp] theorem State.withThm_cul (s : State) (v : ThmSt) : (s.withThm v).cul = s.cul := rfl
@[simp] theorem State.withThm_adc (s : State) (v : ThmSt) : (s.withThm v).adc = s.adc := rfl
@[simp] theorem State.withThm_dpc (s : State) (v : ThmSt) : (s.withThm v).dpc = s.dpc := rfl
@[simp] theorem State.withThm_mod (s : State) (v : ThmSt) : (s.withThm v).mod = s.mod := rfl
@[simp] theorem State.withThm_gdr (s : State) (v : ThmSt) : (s.withThm v).gdr = s.gdr := rfl
@[simp] theorem State.withThm_pins (s : State) (v : ThmSt) : (s.withThm v).pins = s.pins := rfl
@[simp] theorem State.withThm_lpe (s : State) (v : ThmSt) : (s.withThm v).lpe = s.lpe := rfl
@[simp] theorem State.withThm_wrd (s : State) (v : ThmSt) : (s.withThm v).wrd = s.wrd := rfl
@[simp] theorem State.withThm_vlt (s : State) (v : ThmSt) : (s.withThm v).vlt = s.vlt := rfl
@[simp] theorem State.withThm_tim (s : State) (v : ThmSt) : (s.withThm v).tim = s.tim := rfl
@[simp] theorem State.withThm_net (s : State) (v : ThmSt) : (s.withThm v).net = s.net := rfl
@[simp] theorem State.withThm_stm (s : State) (v : ThmSt) : (s.withThm v).stm = s.stm := rfl
@[simp] theorem State.withThm_gal (s : State) (v : ThmSt) : (s.withThm v).gal = s.gal := rfl
@[simp] theorem State.withThm_twn (s : State) (v : ThmSt) : (s.withThm v).twn = s.twn := rfl
@[simp] theorem State.withThm_spr (s : State) (v : ThmSt) : (s.withThm v).spr = s.spr := rfl
@[simp] theorem State.withThm_wear (s : State) (v : ThmSt) : (s.withThm v).wear = s.wear := rfl
@[simp] theorem State.withThm_dripLost (s : State) (v : ThmSt) : (s.withThm v).dripLost = s.dripLost := rfl
@[simp] theorem State.withThm_free (s : State) (v : ThmSt) : (s.withThm v).free = s.free := rfl
@[simp] theorem State.withThm_pending (s : State) (v : ThmSt) : (s.withThm v).pending = s.pending := rfl
@[simp] theorem State.withThm_word (s : State) (v : ThmSt) (a : Nat) : (s.withThm v).word a = s.word a := rfl
@[simp] theorem State.withThm_get (s : State) (v : ThmSt) (f : Fld) : (s.withThm v).get f = s.get f := rfl
@[simp] theorem State.withThm_getS (s : State) (v : ThmSt) (f : Fld) : (s.withThm v).getS f = s.getS f := rfl
@[simp] theorem State.withThm_is (s : State) (v : ThmSt) (f : Fld) : (s.withThm v).is f = s.is f := rfl
@[simp] theorem State.withThm_effWord (s : State) (v : ThmSt) (a : Nat) : (s.withThm v).effWord a = s.effWord a := rfl
@[simp] theorem State.withThm_cf (s : State) (v : ThmSt) (f : Fld) : (s.withThm v).cf f = s.cf f := rfl
@[simp] theorem State.withThm_cfS (s : State) (v : ThmSt) (f : Fld) : (s.withThm v).cfS f = s.cfS f := rfl
@[simp] theorem State.withThm_cfIs (s : State) (v : ThmSt) (f : Fld) : (s.withThm v).cfIs f = s.cfIs f := rfl
@[simp] theorem State.withThm_logged (s : State) (v : ThmSt) (n : Nat) : (s.withThm v).logged n = s.logged n := rfl
@[simp] theorem State.withThm_cfgWord (s : State) (v : ThmSt) (a : Nat) : (s.withThm v).cfgWord a = s.cfgWord a := rfl
@[simp] theorem State.withThm_cfgOf (s : State) (v : ThmSt) (f : Fld) : (s.withThm v).cfgOf f = s.cfgOf f := rfl
@[simp] theorem State.withThm_isOn (s : State) (v : ThmSt) (p : Nat) : (s.withThm v).isOn p = s.isOn p := rfl
@[simp] theorem State.withThm_role (s : State) (v : ThmSt) : (s.withThm v).role = s.role := rfl
@[simp] theorem State.withThm_isStation (s : State) (v : ThmSt) : (s.withThm v).isStation = s.isStation := rfl
@[simp] theorem State.withThm_isCell (s : State) (v : ThmSt) : (s.withThm v).isCell = s.isCell := rfl
@[simp] theorem State.withThm_isPort (s : State) (v : ThmSt) : (s.withThm v).isPort = s.isPort := rfl
@[simp] theorem State.withThm_isTwinB (s : State) (v : ThmSt) : (s.withThm v).isTwinB = s.isTwinB := rfl
@[simp] theorem State.withThm_awake (s : State) (v : ThmSt) : (s.withThm v).awake = s.awake := rfl
@[simp] theorem State.withThm_nowNs (s : State) (v : ThmSt) : (s.withThm v).nowNs = s.nowNs := rfl
@[simp] theorem State.withThm_cport (s : State) (v : ThmSt) (n : Nat) : (s.withThm v).cport n = s.cport n := rfl

/-! ## Part `tim` replaced -/

@[simp] theorem State.withTim_tim (s : State) (v : TimeSt) : (s.withTim v).tim = v := rfl
@[simp] theorem State.withTim_self (s : State) : s.withTim s.tim = s := rfl
@[simp] theorem State.withTim_withTim (s : State) (v w : TimeSt) : (s.withTim v).withTim w = s.withTim w := rfl
@[simp] theorem State.withTim_regs (s : State) (v : TimeSt) : (s.withTim v).regs = s.regs := rfl
@[simp] theorem State.withTim_cfg (s : State) (v : TimeSt) : (s.withTim v).cfg = s.cfg := rfl
@[simp] theorem State.withTim_eff (s : State) (v : TimeSt) : (s.withTim v).eff = s.eff := rfl
@[simp] theorem State.withTim_pwr (s : State) (v : TimeSt) : (s.withTim v).pwr = s.pwr := rfl
@[simp] theorem State.withTim_clk (s : State) (v : TimeSt) : (s.withTim v).clk = s.clk := rfl
@[simp] theorem State.withTim_hdRead (s : State) (v : TimeSt) : (s.withTim v).hdRead = s.hdRead := rfl
@[simp] theorem State.withTim_bus (s : State) (v : TimeSt) : (s.withTim v).bus = s.bus := rfl
@[simp] theorem State.withTim_spiPort (s : State) (v : TimeSt) : (s.withTim v).spiPort = s.spiPort := rfl
@[simp] theorem State.withTim_spi (s : State) (v : TimeSt) : (s.withTim v).spi = s.spi := rfl
@[simp] theorem State.withTim_rve (s : State) (v : TimeSt) : (s.withTim v).rve = s.rve := rfl
@[simp] theorem State.withTim_flt (s : State) (v : TimeSt) : (s.withTim v).flt = s.flt := rfl
@[simp] theorem State.withTim_int (s : State) (v : TimeSt) : (s.withTim v).int = s.int := rfl
@[simp] theorem State.withTim_str (s : State) (v : TimeSt) : (s.withTim v).str = s.str := rfl
@[simp] theorem State.withTim_cul (s : State) (v : TimeSt) : (s.withTim v).cul = s.cul := rfl
@[simp] theorem State.withTim_adc (s : State) (v : TimeSt) : (s.withTim v).adc = s.adc := rfl
@[simp] theorem State.withTim_dpc (s : State) (v : TimeSt) : (s.withTim v).dpc = s.dpc := rfl
@[simp] theorem State.withTim_mod (s : State) (v : TimeSt) : (s.withTim v).mod = s.mod := rfl
@[simp] theorem State.withTim_gdr (s : State) (v : TimeSt) : (s.withTim v).gdr = s.gdr := rfl
@[simp] theorem State.withTim_pins (s : State) (v : TimeSt) : (s.withTim v).pins = s.pins := rfl
@[simp] theorem State.withTim_lpe (s : State) (v : TimeSt) : (s.withTim v).lpe = s.lpe := rfl
@[simp] theorem State.withTim_wrd (s : State) (v : TimeSt) : (s.withTim v).wrd = s.wrd := rfl
@[simp] theorem State.withTim_vlt (s : State) (v : TimeSt) : (s.withTim v).vlt = s.vlt := rfl
@[simp] theorem State.withTim_thm (s : State) (v : TimeSt) : (s.withTim v).thm = s.thm := rfl
@[simp] theorem State.withTim_net (s : State) (v : TimeSt) : (s.withTim v).net = s.net := rfl
@[simp] theorem State.withTim_stm (s : State) (v : TimeSt) : (s.withTim v).stm = s.stm := rfl
@[simp] theorem State.withTim_gal (s : State) (v : TimeSt) : (s.withTim v).gal = s.gal := rfl
@[simp] theorem State.withTim_twn (s : State) (v : TimeSt) : (s.withTim v).twn = s.twn := rfl
@[simp] theorem State.withTim_spr (s : State) (v : TimeSt) : (s.withTim v).spr = s.spr := rfl
@[simp] theorem State.withTim_wear (s : State) (v : TimeSt) : (s.withTim v).wear = s.wear := rfl
@[simp] theorem State.withTim_dripLost (s : State) (v : TimeSt) : (s.withTim v).dripLost = s.dripLost := rfl
@[simp] theorem State.withTim_free (s : State) (v : TimeSt) : (s.withTim v).free = s.free := rfl
@[simp] theorem State.withTim_pending (s : State) (v : TimeSt) : (s.withTim v).pending = s.pending := rfl
@[simp] theorem State.withTim_word (s : State) (v : TimeSt) (a : Nat) : (s.withTim v).word a = s.word a := rfl
@[simp] theorem State.withTim_get (s : State) (v : TimeSt) (f : Fld) : (s.withTim v).get f = s.get f := rfl
@[simp] theorem State.withTim_getS (s : State) (v : TimeSt) (f : Fld) : (s.withTim v).getS f = s.getS f := rfl
@[simp] theorem State.withTim_is (s : State) (v : TimeSt) (f : Fld) : (s.withTim v).is f = s.is f := rfl
@[simp] theorem State.withTim_effWord (s : State) (v : TimeSt) (a : Nat) : (s.withTim v).effWord a = s.effWord a := rfl
@[simp] theorem State.withTim_cf (s : State) (v : TimeSt) (f : Fld) : (s.withTim v).cf f = s.cf f := rfl
@[simp] theorem State.withTim_cfS (s : State) (v : TimeSt) (f : Fld) : (s.withTim v).cfS f = s.cfS f := rfl
@[simp] theorem State.withTim_cfIs (s : State) (v : TimeSt) (f : Fld) : (s.withTim v).cfIs f = s.cfIs f := rfl
@[simp] theorem State.withTim_logged (s : State) (v : TimeSt) (n : Nat) : (s.withTim v).logged n = s.logged n := rfl
@[simp] theorem State.withTim_cfgWord (s : State) (v : TimeSt) (a : Nat) : (s.withTim v).cfgWord a = s.cfgWord a := rfl
@[simp] theorem State.withTim_cfgOf (s : State) (v : TimeSt) (f : Fld) : (s.withTim v).cfgOf f = s.cfgOf f := rfl
@[simp] theorem State.withTim_isOn (s : State) (v : TimeSt) (p : Nat) : (s.withTim v).isOn p = s.isOn p := rfl
@[simp] theorem State.withTim_role (s : State) (v : TimeSt) : (s.withTim v).role = s.role := rfl
@[simp] theorem State.withTim_isStation (s : State) (v : TimeSt) : (s.withTim v).isStation = s.isStation := rfl
@[simp] theorem State.withTim_isCell (s : State) (v : TimeSt) : (s.withTim v).isCell = s.isCell := rfl
@[simp] theorem State.withTim_isPort (s : State) (v : TimeSt) : (s.withTim v).isPort = s.isPort := rfl
@[simp] theorem State.withTim_isTwinB (s : State) (v : TimeSt) : (s.withTim v).isTwinB = s.isTwinB := rfl
@[simp] theorem State.withTim_awake (s : State) (v : TimeSt) : (s.withTim v).awake = s.awake := rfl
@[simp] theorem State.withTim_cport (s : State) (v : TimeSt) (n : Nat) : (s.withTim v).cport n = s.cport n := rfl

/-! ## Part `net` replaced -/

@[simp] theorem State.withNet_net (s : State) (v : NetSt) : (s.withNet v).net = v := rfl
@[simp] theorem State.withNet_self (s : State) : s.withNet s.net = s := rfl
@[simp] theorem State.withNet_withNet (s : State) (v w : NetSt) : (s.withNet v).withNet w = s.withNet w := rfl
@[simp] theorem State.withNet_regs (s : State) (v : NetSt) : (s.withNet v).regs = s.regs := rfl
@[simp] theorem State.withNet_cfg (s : State) (v : NetSt) : (s.withNet v).cfg = s.cfg := rfl
@[simp] theorem State.withNet_eff (s : State) (v : NetSt) : (s.withNet v).eff = s.eff := rfl
@[simp] theorem State.withNet_pwr (s : State) (v : NetSt) : (s.withNet v).pwr = s.pwr := rfl
@[simp] theorem State.withNet_clk (s : State) (v : NetSt) : (s.withNet v).clk = s.clk := rfl
@[simp] theorem State.withNet_hdRead (s : State) (v : NetSt) : (s.withNet v).hdRead = s.hdRead := rfl
@[simp] theorem State.withNet_bus (s : State) (v : NetSt) : (s.withNet v).bus = s.bus := rfl
@[simp] theorem State.withNet_spiPort (s : State) (v : NetSt) : (s.withNet v).spiPort = s.spiPort := rfl
@[simp] theorem State.withNet_spi (s : State) (v : NetSt) : (s.withNet v).spi = s.spi := rfl
@[simp] theorem State.withNet_rve (s : State) (v : NetSt) : (s.withNet v).rve = s.rve := rfl
@[simp] theorem State.withNet_flt (s : State) (v : NetSt) : (s.withNet v).flt = s.flt := rfl
@[simp] theorem State.withNet_int (s : State) (v : NetSt) : (s.withNet v).int = s.int := rfl
@[simp] theorem State.withNet_str (s : State) (v : NetSt) : (s.withNet v).str = s.str := rfl
@[simp] theorem State.withNet_cul (s : State) (v : NetSt) : (s.withNet v).cul = s.cul := rfl
@[simp] theorem State.withNet_adc (s : State) (v : NetSt) : (s.withNet v).adc = s.adc := rfl
@[simp] theorem State.withNet_dpc (s : State) (v : NetSt) : (s.withNet v).dpc = s.dpc := rfl
@[simp] theorem State.withNet_mod (s : State) (v : NetSt) : (s.withNet v).mod = s.mod := rfl
@[simp] theorem State.withNet_gdr (s : State) (v : NetSt) : (s.withNet v).gdr = s.gdr := rfl
@[simp] theorem State.withNet_pins (s : State) (v : NetSt) : (s.withNet v).pins = s.pins := rfl
@[simp] theorem State.withNet_lpe (s : State) (v : NetSt) : (s.withNet v).lpe = s.lpe := rfl
@[simp] theorem State.withNet_wrd (s : State) (v : NetSt) : (s.withNet v).wrd = s.wrd := rfl
@[simp] theorem State.withNet_vlt (s : State) (v : NetSt) : (s.withNet v).vlt = s.vlt := rfl
@[simp] theorem State.withNet_thm (s : State) (v : NetSt) : (s.withNet v).thm = s.thm := rfl
@[simp] theorem State.withNet_tim (s : State) (v : NetSt) : (s.withNet v).tim = s.tim := rfl
@[simp] theorem State.withNet_stm (s : State) (v : NetSt) : (s.withNet v).stm = s.stm := rfl
@[simp] theorem State.withNet_gal (s : State) (v : NetSt) : (s.withNet v).gal = s.gal := rfl
@[simp] theorem State.withNet_twn (s : State) (v : NetSt) : (s.withNet v).twn = s.twn := rfl
@[simp] theorem State.withNet_spr (s : State) (v : NetSt) : (s.withNet v).spr = s.spr := rfl
@[simp] theorem State.withNet_wear (s : State) (v : NetSt) : (s.withNet v).wear = s.wear := rfl
@[simp] theorem State.withNet_dripLost (s : State) (v : NetSt) : (s.withNet v).dripLost = s.dripLost := rfl
@[simp] theorem State.withNet_free (s : State) (v : NetSt) : (s.withNet v).free = s.free := rfl
@[simp] theorem State.withNet_pending (s : State) (v : NetSt) : (s.withNet v).pending = s.pending := rfl
@[simp] theorem State.withNet_word (s : State) (v : NetSt) (a : Nat) : (s.withNet v).word a = s.word a := rfl
@[simp] theorem State.withNet_get (s : State) (v : NetSt) (f : Fld) : (s.withNet v).get f = s.get f := rfl
@[simp] theorem State.withNet_getS (s : State) (v : NetSt) (f : Fld) : (s.withNet v).getS f = s.getS f := rfl
@[simp] theorem State.withNet_is (s : State) (v : NetSt) (f : Fld) : (s.withNet v).is f = s.is f := rfl
@[simp] theorem State.withNet_effWord (s : State) (v : NetSt) (a : Nat) : (s.withNet v).effWord a = s.effWord a := rfl
@[simp] theorem State.withNet_cf (s : State) (v : NetSt) (f : Fld) : (s.withNet v).cf f = s.cf f := rfl
@[simp] theorem State.withNet_cfS (s : State) (v : NetSt) (f : Fld) : (s.withNet v).cfS f = s.cfS f := rfl
@[simp] theorem State.withNet_cfIs (s : State) (v : NetSt) (f : Fld) : (s.withNet v).cfIs f = s.cfIs f := rfl
@[simp] theorem State.withNet_logged (s : State) (v : NetSt) (n : Nat) : (s.withNet v).logged n = s.logged n := rfl
@[simp] theorem State.withNet_cfgWord (s : State) (v : NetSt) (a : Nat) : (s.withNet v).cfgWord a = s.cfgWord a := rfl
@[simp] theorem State.withNet_cfgOf (s : State) (v : NetSt) (f : Fld) : (s.withNet v).cfgOf f = s.cfgOf f := rfl
@[simp] theorem State.withNet_isOn (s : State) (v : NetSt) (p : Nat) : (s.withNet v).isOn p = s.isOn p := rfl
@[simp] theorem State.withNet_role (s : State) (v : NetSt) : (s.withNet v).role = s.role := rfl
@[simp] theorem State.withNet_isStation (s : State) (v : NetSt) : (s.withNet v).isStation = s.isStation := rfl
@[simp] theorem State.withNet_isCell (s : State) (v : NetSt) : (s.withNet v).isCell = s.isCell := rfl
@[simp] theorem State.withNet_isPort (s : State) (v : NetSt) : (s.withNet v).isPort = s.isPort := rfl
@[simp] theorem State.withNet_isTwinB (s : State) (v : NetSt) : (s.withNet v).isTwinB = s.isTwinB := rfl
@[simp] theorem State.withNet_awake (s : State) (v : NetSt) : (s.withNet v).awake = s.awake := rfl
@[simp] theorem State.withNet_nowNs (s : State) (v : NetSt) : (s.withNet v).nowNs = s.nowNs := rfl
@[simp] theorem State.withNet_cport (s : State) (v : NetSt) (n : Nat) : (s.withNet v).cport n = s.cport n := rfl

/-! ## Part `stm` replaced -/

@[simp] theorem State.withStm_stm (s : State) (v : StmSt) : (s.withStm v).stm = v := rfl
@[simp] theorem State.withStm_self (s : State) : s.withStm s.stm = s := rfl
@[simp] theorem State.withStm_withStm (s : State) (v w : StmSt) : (s.withStm v).withStm w = s.withStm w := rfl
@[simp] theorem State.withStm_regs (s : State) (v : StmSt) : (s.withStm v).regs = s.regs := rfl
@[simp] theorem State.withStm_cfg (s : State) (v : StmSt) : (s.withStm v).cfg = s.cfg := rfl
@[simp] theorem State.withStm_eff (s : State) (v : StmSt) : (s.withStm v).eff = s.eff := rfl
@[simp] theorem State.withStm_pwr (s : State) (v : StmSt) : (s.withStm v).pwr = s.pwr := rfl
@[simp] theorem State.withStm_clk (s : State) (v : StmSt) : (s.withStm v).clk = s.clk := rfl
@[simp] theorem State.withStm_hdRead (s : State) (v : StmSt) : (s.withStm v).hdRead = s.hdRead := rfl
@[simp] theorem State.withStm_bus (s : State) (v : StmSt) : (s.withStm v).bus = s.bus := rfl
@[simp] theorem State.withStm_spiPort (s : State) (v : StmSt) : (s.withStm v).spiPort = s.spiPort := rfl
@[simp] theorem State.withStm_spi (s : State) (v : StmSt) : (s.withStm v).spi = s.spi := rfl
@[simp] theorem State.withStm_rve (s : State) (v : StmSt) : (s.withStm v).rve = s.rve := rfl
@[simp] theorem State.withStm_flt (s : State) (v : StmSt) : (s.withStm v).flt = s.flt := rfl
@[simp] theorem State.withStm_int (s : State) (v : StmSt) : (s.withStm v).int = s.int := rfl
@[simp] theorem State.withStm_str (s : State) (v : StmSt) : (s.withStm v).str = s.str := rfl
@[simp] theorem State.withStm_cul (s : State) (v : StmSt) : (s.withStm v).cul = s.cul := rfl
@[simp] theorem State.withStm_adc (s : State) (v : StmSt) : (s.withStm v).adc = s.adc := rfl
@[simp] theorem State.withStm_dpc (s : State) (v : StmSt) : (s.withStm v).dpc = s.dpc := rfl
@[simp] theorem State.withStm_mod (s : State) (v : StmSt) : (s.withStm v).mod = s.mod := rfl
@[simp] theorem State.withStm_gdr (s : State) (v : StmSt) : (s.withStm v).gdr = s.gdr := rfl
@[simp] theorem State.withStm_pins (s : State) (v : StmSt) : (s.withStm v).pins = s.pins := rfl
@[simp] theorem State.withStm_lpe (s : State) (v : StmSt) : (s.withStm v).lpe = s.lpe := rfl
@[simp] theorem State.withStm_wrd (s : State) (v : StmSt) : (s.withStm v).wrd = s.wrd := rfl
@[simp] theorem State.withStm_vlt (s : State) (v : StmSt) : (s.withStm v).vlt = s.vlt := rfl
@[simp] theorem State.withStm_thm (s : State) (v : StmSt) : (s.withStm v).thm = s.thm := rfl
@[simp] theorem State.withStm_tim (s : State) (v : StmSt) : (s.withStm v).tim = s.tim := rfl
@[simp] theorem State.withStm_net (s : State) (v : StmSt) : (s.withStm v).net = s.net := rfl
@[simp] theorem State.withStm_gal (s : State) (v : StmSt) : (s.withStm v).gal = s.gal := rfl
@[simp] theorem State.withStm_twn (s : State) (v : StmSt) : (s.withStm v).twn = s.twn := rfl
@[simp] theorem State.withStm_spr (s : State) (v : StmSt) : (s.withStm v).spr = s.spr := rfl
@[simp] theorem State.withStm_wear (s : State) (v : StmSt) : (s.withStm v).wear = s.wear := rfl
@[simp] theorem State.withStm_dripLost (s : State) (v : StmSt) : (s.withStm v).dripLost = s.dripLost := rfl
@[simp] theorem State.withStm_free (s : State) (v : StmSt) : (s.withStm v).free = s.free := rfl
@[simp] theorem State.withStm_pending (s : State) (v : StmSt) : (s.withStm v).pending = s.pending := rfl
@[simp] theorem State.withStm_word (s : State) (v : StmSt) (a : Nat) : (s.withStm v).word a = s.word a := rfl
@[simp] theorem State.withStm_get (s : State) (v : StmSt) (f : Fld) : (s.withStm v).get f = s.get f := rfl
@[simp] theorem State.withStm_getS (s : State) (v : StmSt) (f : Fld) : (s.withStm v).getS f = s.getS f := rfl
@[simp] theorem State.withStm_is (s : State) (v : StmSt) (f : Fld) : (s.withStm v).is f = s.is f := rfl
@[simp] theorem State.withStm_effWord (s : State) (v : StmSt) (a : Nat) : (s.withStm v).effWord a = s.effWord a := rfl
@[simp] theorem State.withStm_cf (s : State) (v : StmSt) (f : Fld) : (s.withStm v).cf f = s.cf f := rfl
@[simp] theorem State.withStm_cfS (s : State) (v : StmSt) (f : Fld) : (s.withStm v).cfS f = s.cfS f := rfl
@[simp] theorem State.withStm_cfIs (s : State) (v : StmSt) (f : Fld) : (s.withStm v).cfIs f = s.cfIs f := rfl
@[simp] theorem State.withStm_logged (s : State) (v : StmSt) (n : Nat) : (s.withStm v).logged n = s.logged n := rfl
@[simp] theorem State.withStm_cfgWord (s : State) (v : StmSt) (a : Nat) : (s.withStm v).cfgWord a = s.cfgWord a := rfl
@[simp] theorem State.withStm_cfgOf (s : State) (v : StmSt) (f : Fld) : (s.withStm v).cfgOf f = s.cfgOf f := rfl
@[simp] theorem State.withStm_isOn (s : State) (v : StmSt) (p : Nat) : (s.withStm v).isOn p = s.isOn p := rfl
@[simp] theorem State.withStm_role (s : State) (v : StmSt) : (s.withStm v).role = s.role := rfl
@[simp] theorem State.withStm_isStation (s : State) (v : StmSt) : (s.withStm v).isStation = s.isStation := rfl
@[simp] theorem State.withStm_isCell (s : State) (v : StmSt) : (s.withStm v).isCell = s.isCell := rfl
@[simp] theorem State.withStm_isPort (s : State) (v : StmSt) : (s.withStm v).isPort = s.isPort := rfl
@[simp] theorem State.withStm_isTwinB (s : State) (v : StmSt) : (s.withStm v).isTwinB = s.isTwinB := rfl
@[simp] theorem State.withStm_awake (s : State) (v : StmSt) : (s.withStm v).awake = s.awake := rfl
@[simp] theorem State.withStm_nowNs (s : State) (v : StmSt) : (s.withStm v).nowNs = s.nowNs := rfl
@[simp] theorem State.withStm_cport (s : State) (v : StmSt) (n : Nat) : (s.withStm v).cport n = s.cport n := rfl

/-! ## Part `gal` replaced -/

@[simp] theorem State.withGal_gal (s : State) (v : GallerySt) : (s.withGal v).gal = v := rfl
@[simp] theorem State.withGal_self (s : State) : s.withGal s.gal = s := rfl
@[simp] theorem State.withGal_withGal (s : State) (v w : GallerySt) : (s.withGal v).withGal w = s.withGal w := rfl
@[simp] theorem State.withGal_regs (s : State) (v : GallerySt) : (s.withGal v).regs = s.regs := rfl
@[simp] theorem State.withGal_cfg (s : State) (v : GallerySt) : (s.withGal v).cfg = s.cfg := rfl
@[simp] theorem State.withGal_eff (s : State) (v : GallerySt) : (s.withGal v).eff = s.eff := rfl
@[simp] theorem State.withGal_pwr (s : State) (v : GallerySt) : (s.withGal v).pwr = s.pwr := rfl
@[simp] theorem State.withGal_clk (s : State) (v : GallerySt) : (s.withGal v).clk = s.clk := rfl
@[simp] theorem State.withGal_hdRead (s : State) (v : GallerySt) : (s.withGal v).hdRead = s.hdRead := rfl
@[simp] theorem State.withGal_bus (s : State) (v : GallerySt) : (s.withGal v).bus = s.bus := rfl
@[simp] theorem State.withGal_spiPort (s : State) (v : GallerySt) : (s.withGal v).spiPort = s.spiPort := rfl
@[simp] theorem State.withGal_spi (s : State) (v : GallerySt) : (s.withGal v).spi = s.spi := rfl
@[simp] theorem State.withGal_rve (s : State) (v : GallerySt) : (s.withGal v).rve = s.rve := rfl
@[simp] theorem State.withGal_flt (s : State) (v : GallerySt) : (s.withGal v).flt = s.flt := rfl
@[simp] theorem State.withGal_int (s : State) (v : GallerySt) : (s.withGal v).int = s.int := rfl
@[simp] theorem State.withGal_str (s : State) (v : GallerySt) : (s.withGal v).str = s.str := rfl
@[simp] theorem State.withGal_cul (s : State) (v : GallerySt) : (s.withGal v).cul = s.cul := rfl
@[simp] theorem State.withGal_adc (s : State) (v : GallerySt) : (s.withGal v).adc = s.adc := rfl
@[simp] theorem State.withGal_dpc (s : State) (v : GallerySt) : (s.withGal v).dpc = s.dpc := rfl
@[simp] theorem State.withGal_mod (s : State) (v : GallerySt) : (s.withGal v).mod = s.mod := rfl
@[simp] theorem State.withGal_gdr (s : State) (v : GallerySt) : (s.withGal v).gdr = s.gdr := rfl
@[simp] theorem State.withGal_pins (s : State) (v : GallerySt) : (s.withGal v).pins = s.pins := rfl
@[simp] theorem State.withGal_lpe (s : State) (v : GallerySt) : (s.withGal v).lpe = s.lpe := rfl
@[simp] theorem State.withGal_wrd (s : State) (v : GallerySt) : (s.withGal v).wrd = s.wrd := rfl
@[simp] theorem State.withGal_vlt (s : State) (v : GallerySt) : (s.withGal v).vlt = s.vlt := rfl
@[simp] theorem State.withGal_thm (s : State) (v : GallerySt) : (s.withGal v).thm = s.thm := rfl
@[simp] theorem State.withGal_tim (s : State) (v : GallerySt) : (s.withGal v).tim = s.tim := rfl
@[simp] theorem State.withGal_net (s : State) (v : GallerySt) : (s.withGal v).net = s.net := rfl
@[simp] theorem State.withGal_stm (s : State) (v : GallerySt) : (s.withGal v).stm = s.stm := rfl
@[simp] theorem State.withGal_twn (s : State) (v : GallerySt) : (s.withGal v).twn = s.twn := rfl
@[simp] theorem State.withGal_spr (s : State) (v : GallerySt) : (s.withGal v).spr = s.spr := rfl
@[simp] theorem State.withGal_wear (s : State) (v : GallerySt) : (s.withGal v).wear = s.wear := rfl
@[simp] theorem State.withGal_dripLost (s : State) (v : GallerySt) : (s.withGal v).dripLost = s.dripLost := rfl
@[simp] theorem State.withGal_free (s : State) (v : GallerySt) : (s.withGal v).free = s.free := rfl
@[simp] theorem State.withGal_pending (s : State) (v : GallerySt) : (s.withGal v).pending = s.pending := rfl
@[simp] theorem State.withGal_word (s : State) (v : GallerySt) (a : Nat) : (s.withGal v).word a = s.word a := rfl
@[simp] theorem State.withGal_get (s : State) (v : GallerySt) (f : Fld) : (s.withGal v).get f = s.get f := rfl
@[simp] theorem State.withGal_getS (s : State) (v : GallerySt) (f : Fld) : (s.withGal v).getS f = s.getS f := rfl
@[simp] theorem State.withGal_is (s : State) (v : GallerySt) (f : Fld) : (s.withGal v).is f = s.is f := rfl
@[simp] theorem State.withGal_effWord (s : State) (v : GallerySt) (a : Nat) : (s.withGal v).effWord a = s.effWord a := rfl
@[simp] theorem State.withGal_cf (s : State) (v : GallerySt) (f : Fld) : (s.withGal v).cf f = s.cf f := rfl
@[simp] theorem State.withGal_cfS (s : State) (v : GallerySt) (f : Fld) : (s.withGal v).cfS f = s.cfS f := rfl
@[simp] theorem State.withGal_cfIs (s : State) (v : GallerySt) (f : Fld) : (s.withGal v).cfIs f = s.cfIs f := rfl
@[simp] theorem State.withGal_logged (s : State) (v : GallerySt) (n : Nat) : (s.withGal v).logged n = s.logged n := rfl
@[simp] theorem State.withGal_cfgWord (s : State) (v : GallerySt) (a : Nat) : (s.withGal v).cfgWord a = s.cfgWord a := rfl
@[simp] theorem State.withGal_cfgOf (s : State) (v : GallerySt) (f : Fld) : (s.withGal v).cfgOf f = s.cfgOf f := rfl
@[simp] theorem State.withGal_isOn (s : State) (v : GallerySt) (p : Nat) : (s.withGal v).isOn p = s.isOn p := rfl
@[simp] theorem State.withGal_role (s : State) (v : GallerySt) : (s.withGal v).role = s.role := rfl
@[simp] theorem State.withGal_isStation (s : State) (v : GallerySt) : (s.withGal v).isStation = s.isStation := rfl
@[simp] theorem State.withGal_isCell (s : State) (v : GallerySt) : (s.withGal v).isCell = s.isCell := rfl
@[simp] theorem State.withGal_isPort (s : State) (v : GallerySt) : (s.withGal v).isPort = s.isPort := rfl
@[simp] theorem State.withGal_isTwinB (s : State) (v : GallerySt) : (s.withGal v).isTwinB = s.isTwinB := rfl
@[simp] theorem State.withGal_awake (s : State) (v : GallerySt) : (s.withGal v).awake = s.awake := rfl
@[simp] theorem State.withGal_nowNs (s : State) (v : GallerySt) : (s.withGal v).nowNs = s.nowNs := rfl
@[simp] theorem State.withGal_cport (s : State) (v : GallerySt) (n : Nat) : (s.withGal v).cport n = s.cport n := rfl

/-! ## Part `twn` replaced -/

@[simp] theorem State.withTwn_twn (s : State) (v : TwinSt) : (s.withTwn v).twn = v := rfl
@[simp] theorem State.withTwn_self (s : State) : s.withTwn s.twn = s := rfl
@[simp] theorem State.withTwn_withTwn (s : State) (v w : TwinSt) : (s.withTwn v).withTwn w = s.withTwn w := rfl
@[simp] theorem State.withTwn_regs (s : State) (v : TwinSt) : (s.withTwn v).regs = s.regs := rfl
@[simp] theorem State.withTwn_cfg (s : State) (v : TwinSt) : (s.withTwn v).cfg = s.cfg := rfl
@[simp] theorem State.withTwn_eff (s : State) (v : TwinSt) : (s.withTwn v).eff = s.eff := rfl
@[simp] theorem State.withTwn_pwr (s : State) (v : TwinSt) : (s.withTwn v).pwr = s.pwr := rfl
@[simp] theorem State.withTwn_clk (s : State) (v : TwinSt) : (s.withTwn v).clk = s.clk := rfl
@[simp] theorem State.withTwn_hdRead (s : State) (v : TwinSt) : (s.withTwn v).hdRead = s.hdRead := rfl
@[simp] theorem State.withTwn_bus (s : State) (v : TwinSt) : (s.withTwn v).bus = s.bus := rfl
@[simp] theorem State.withTwn_spiPort (s : State) (v : TwinSt) : (s.withTwn v).spiPort = s.spiPort := rfl
@[simp] theorem State.withTwn_spi (s : State) (v : TwinSt) : (s.withTwn v).spi = s.spi := rfl
@[simp] theorem State.withTwn_rve (s : State) (v : TwinSt) : (s.withTwn v).rve = s.rve := rfl
@[simp] theorem State.withTwn_flt (s : State) (v : TwinSt) : (s.withTwn v).flt = s.flt := rfl
@[simp] theorem State.withTwn_int (s : State) (v : TwinSt) : (s.withTwn v).int = s.int := rfl
@[simp] theorem State.withTwn_str (s : State) (v : TwinSt) : (s.withTwn v).str = s.str := rfl
@[simp] theorem State.withTwn_cul (s : State) (v : TwinSt) : (s.withTwn v).cul = s.cul := rfl
@[simp] theorem State.withTwn_adc (s : State) (v : TwinSt) : (s.withTwn v).adc = s.adc := rfl
@[simp] theorem State.withTwn_dpc (s : State) (v : TwinSt) : (s.withTwn v).dpc = s.dpc := rfl
@[simp] theorem State.withTwn_mod (s : State) (v : TwinSt) : (s.withTwn v).mod = s.mod := rfl
@[simp] theorem State.withTwn_gdr (s : State) (v : TwinSt) : (s.withTwn v).gdr = s.gdr := rfl
@[simp] theorem State.withTwn_pins (s : State) (v : TwinSt) : (s.withTwn v).pins = s.pins := rfl
@[simp] theorem State.withTwn_lpe (s : State) (v : TwinSt) : (s.withTwn v).lpe = s.lpe := rfl
@[simp] theorem State.withTwn_wrd (s : State) (v : TwinSt) : (s.withTwn v).wrd = s.wrd := rfl
@[simp] theorem State.withTwn_vlt (s : State) (v : TwinSt) : (s.withTwn v).vlt = s.vlt := rfl
@[simp] theorem State.withTwn_thm (s : State) (v : TwinSt) : (s.withTwn v).thm = s.thm := rfl
@[simp] theorem State.withTwn_tim (s : State) (v : TwinSt) : (s.withTwn v).tim = s.tim := rfl
@[simp] theorem State.withTwn_net (s : State) (v : TwinSt) : (s.withTwn v).net = s.net := rfl
@[simp] theorem State.withTwn_stm (s : State) (v : TwinSt) : (s.withTwn v).stm = s.stm := rfl
@[simp] theorem State.withTwn_gal (s : State) (v : TwinSt) : (s.withTwn v).gal = s.gal := rfl
@[simp] theorem State.withTwn_spr (s : State) (v : TwinSt) : (s.withTwn v).spr = s.spr := rfl
@[simp] theorem State.withTwn_wear (s : State) (v : TwinSt) : (s.withTwn v).wear = s.wear := rfl
@[simp] theorem State.withTwn_dripLost (s : State) (v : TwinSt) : (s.withTwn v).dripLost = s.dripLost := rfl
@[simp] theorem State.withTwn_free (s : State) (v : TwinSt) : (s.withTwn v).free = s.free := rfl
@[simp] theorem State.withTwn_pending (s : State) (v : TwinSt) : (s.withTwn v).pending = s.pending := rfl
@[simp] theorem State.withTwn_word (s : State) (v : TwinSt) (a : Nat) : (s.withTwn v).word a = s.word a := rfl
@[simp] theorem State.withTwn_get (s : State) (v : TwinSt) (f : Fld) : (s.withTwn v).get f = s.get f := rfl
@[simp] theorem State.withTwn_getS (s : State) (v : TwinSt) (f : Fld) : (s.withTwn v).getS f = s.getS f := rfl
@[simp] theorem State.withTwn_is (s : State) (v : TwinSt) (f : Fld) : (s.withTwn v).is f = s.is f := rfl
@[simp] theorem State.withTwn_effWord (s : State) (v : TwinSt) (a : Nat) : (s.withTwn v).effWord a = s.effWord a := rfl
@[simp] theorem State.withTwn_cf (s : State) (v : TwinSt) (f : Fld) : (s.withTwn v).cf f = s.cf f := rfl
@[simp] theorem State.withTwn_cfS (s : State) (v : TwinSt) (f : Fld) : (s.withTwn v).cfS f = s.cfS f := rfl
@[simp] theorem State.withTwn_cfIs (s : State) (v : TwinSt) (f : Fld) : (s.withTwn v).cfIs f = s.cfIs f := rfl
@[simp] theorem State.withTwn_logged (s : State) (v : TwinSt) (n : Nat) : (s.withTwn v).logged n = s.logged n := rfl
@[simp] theorem State.withTwn_cfgWord (s : State) (v : TwinSt) (a : Nat) : (s.withTwn v).cfgWord a = s.cfgWord a := rfl
@[simp] theorem State.withTwn_cfgOf (s : State) (v : TwinSt) (f : Fld) : (s.withTwn v).cfgOf f = s.cfgOf f := rfl
@[simp] theorem State.withTwn_isOn (s : State) (v : TwinSt) (p : Nat) : (s.withTwn v).isOn p = s.isOn p := rfl
@[simp] theorem State.withTwn_role (s : State) (v : TwinSt) : (s.withTwn v).role = s.role := rfl
@[simp] theorem State.withTwn_isStation (s : State) (v : TwinSt) : (s.withTwn v).isStation = s.isStation := rfl
@[simp] theorem State.withTwn_isCell (s : State) (v : TwinSt) : (s.withTwn v).isCell = s.isCell := rfl
@[simp] theorem State.withTwn_isPort (s : State) (v : TwinSt) : (s.withTwn v).isPort = s.isPort := rfl
@[simp] theorem State.withTwn_isTwinB (s : State) (v : TwinSt) : (s.withTwn v).isTwinB = s.isTwinB := rfl
@[simp] theorem State.withTwn_awake (s : State) (v : TwinSt) : (s.withTwn v).awake = s.awake := rfl
@[simp] theorem State.withTwn_nowNs (s : State) (v : TwinSt) : (s.withTwn v).nowNs = s.nowNs := rfl
@[simp] theorem State.withTwn_cport (s : State) (v : TwinSt) (n : Nat) : (s.withTwn v).cport n = s.cport n := rfl

/-! ## Part `spr` replaced -/

@[simp] theorem State.withSpr_spr (s : State) (v : SpareSt) : (s.withSpr v).spr = v := rfl
@[simp] theorem State.withSpr_self (s : State) : s.withSpr s.spr = s := rfl
@[simp] theorem State.withSpr_withSpr (s : State) (v w : SpareSt) : (s.withSpr v).withSpr w = s.withSpr w := rfl
@[simp] theorem State.withSpr_regs (s : State) (v : SpareSt) : (s.withSpr v).regs = s.regs := rfl
@[simp] theorem State.withSpr_cfg (s : State) (v : SpareSt) : (s.withSpr v).cfg = s.cfg := rfl
@[simp] theorem State.withSpr_eff (s : State) (v : SpareSt) : (s.withSpr v).eff = s.eff := rfl
@[simp] theorem State.withSpr_pwr (s : State) (v : SpareSt) : (s.withSpr v).pwr = s.pwr := rfl
@[simp] theorem State.withSpr_clk (s : State) (v : SpareSt) : (s.withSpr v).clk = s.clk := rfl
@[simp] theorem State.withSpr_hdRead (s : State) (v : SpareSt) : (s.withSpr v).hdRead = s.hdRead := rfl
@[simp] theorem State.withSpr_bus (s : State) (v : SpareSt) : (s.withSpr v).bus = s.bus := rfl
@[simp] theorem State.withSpr_spiPort (s : State) (v : SpareSt) : (s.withSpr v).spiPort = s.spiPort := rfl
@[simp] theorem State.withSpr_spi (s : State) (v : SpareSt) : (s.withSpr v).spi = s.spi := rfl
@[simp] theorem State.withSpr_rve (s : State) (v : SpareSt) : (s.withSpr v).rve = s.rve := rfl
@[simp] theorem State.withSpr_flt (s : State) (v : SpareSt) : (s.withSpr v).flt = s.flt := rfl
@[simp] theorem State.withSpr_int (s : State) (v : SpareSt) : (s.withSpr v).int = s.int := rfl
@[simp] theorem State.withSpr_str (s : State) (v : SpareSt) : (s.withSpr v).str = s.str := rfl
@[simp] theorem State.withSpr_cul (s : State) (v : SpareSt) : (s.withSpr v).cul = s.cul := rfl
@[simp] theorem State.withSpr_adc (s : State) (v : SpareSt) : (s.withSpr v).adc = s.adc := rfl
@[simp] theorem State.withSpr_dpc (s : State) (v : SpareSt) : (s.withSpr v).dpc = s.dpc := rfl
@[simp] theorem State.withSpr_mod (s : State) (v : SpareSt) : (s.withSpr v).mod = s.mod := rfl
@[simp] theorem State.withSpr_gdr (s : State) (v : SpareSt) : (s.withSpr v).gdr = s.gdr := rfl
@[simp] theorem State.withSpr_pins (s : State) (v : SpareSt) : (s.withSpr v).pins = s.pins := rfl
@[simp] theorem State.withSpr_lpe (s : State) (v : SpareSt) : (s.withSpr v).lpe = s.lpe := rfl
@[simp] theorem State.withSpr_wrd (s : State) (v : SpareSt) : (s.withSpr v).wrd = s.wrd := rfl
@[simp] theorem State.withSpr_vlt (s : State) (v : SpareSt) : (s.withSpr v).vlt = s.vlt := rfl
@[simp] theorem State.withSpr_thm (s : State) (v : SpareSt) : (s.withSpr v).thm = s.thm := rfl
@[simp] theorem State.withSpr_tim (s : State) (v : SpareSt) : (s.withSpr v).tim = s.tim := rfl
@[simp] theorem State.withSpr_net (s : State) (v : SpareSt) : (s.withSpr v).net = s.net := rfl
@[simp] theorem State.withSpr_stm (s : State) (v : SpareSt) : (s.withSpr v).stm = s.stm := rfl
@[simp] theorem State.withSpr_gal (s : State) (v : SpareSt) : (s.withSpr v).gal = s.gal := rfl
@[simp] theorem State.withSpr_twn (s : State) (v : SpareSt) : (s.withSpr v).twn = s.twn := rfl
@[simp] theorem State.withSpr_wear (s : State) (v : SpareSt) : (s.withSpr v).wear = s.wear := rfl
@[simp] theorem State.withSpr_dripLost (s : State) (v : SpareSt) : (s.withSpr v).dripLost = s.dripLost := rfl
@[simp] theorem State.withSpr_free (s : State) (v : SpareSt) : (s.withSpr v).free = s.free := rfl
@[simp] theorem State.withSpr_pending (s : State) (v : SpareSt) : (s.withSpr v).pending = s.pending := rfl
@[simp] theorem State.withSpr_word (s : State) (v : SpareSt) (a : Nat) : (s.withSpr v).word a = s.word a := rfl
@[simp] theorem State.withSpr_get (s : State) (v : SpareSt) (f : Fld) : (s.withSpr v).get f = s.get f := rfl
@[simp] theorem State.withSpr_getS (s : State) (v : SpareSt) (f : Fld) : (s.withSpr v).getS f = s.getS f := rfl
@[simp] theorem State.withSpr_is (s : State) (v : SpareSt) (f : Fld) : (s.withSpr v).is f = s.is f := rfl
@[simp] theorem State.withSpr_effWord (s : State) (v : SpareSt) (a : Nat) : (s.withSpr v).effWord a = s.effWord a := rfl
@[simp] theorem State.withSpr_cf (s : State) (v : SpareSt) (f : Fld) : (s.withSpr v).cf f = s.cf f := rfl
@[simp] theorem State.withSpr_cfS (s : State) (v : SpareSt) (f : Fld) : (s.withSpr v).cfS f = s.cfS f := rfl
@[simp] theorem State.withSpr_cfIs (s : State) (v : SpareSt) (f : Fld) : (s.withSpr v).cfIs f = s.cfIs f := rfl
@[simp] theorem State.withSpr_logged (s : State) (v : SpareSt) (n : Nat) : (s.withSpr v).logged n = s.logged n := rfl
@[simp] theorem State.withSpr_cfgWord (s : State) (v : SpareSt) (a : Nat) : (s.withSpr v).cfgWord a = s.cfgWord a := rfl
@[simp] theorem State.withSpr_cfgOf (s : State) (v : SpareSt) (f : Fld) : (s.withSpr v).cfgOf f = s.cfgOf f := rfl
@[simp] theorem State.withSpr_isOn (s : State) (v : SpareSt) (p : Nat) : (s.withSpr v).isOn p = s.isOn p := rfl
@[simp] theorem State.withSpr_role (s : State) (v : SpareSt) : (s.withSpr v).role = s.role := rfl
@[simp] theorem State.withSpr_isStation (s : State) (v : SpareSt) : (s.withSpr v).isStation = s.isStation := rfl
@[simp] theorem State.withSpr_isCell (s : State) (v : SpareSt) : (s.withSpr v).isCell = s.isCell := rfl
@[simp] theorem State.withSpr_isPort (s : State) (v : SpareSt) : (s.withSpr v).isPort = s.isPort := rfl
@[simp] theorem State.withSpr_isTwinB (s : State) (v : SpareSt) : (s.withSpr v).isTwinB = s.isTwinB := rfl
@[simp] theorem State.withSpr_awake (s : State) (v : SpareSt) : (s.withSpr v).awake = s.awake := rfl
@[simp] theorem State.withSpr_nowNs (s : State) (v : SpareSt) : (s.withSpr v).nowNs = s.nowNs := rfl
@[simp] theorem State.withSpr_cport (s : State) (v : SpareSt) (n : Nat) : (s.withSpr v).cport n = s.cport n := rfl

/-! ## Part `wear` replaced -/

@[simp] theorem State.withWear_wear (s : State) (v : WearSt) : (s.withWear v).wear = v := rfl
@[simp] theorem State.withWear_self (s : State) : s.withWear s.wear = s := rfl
@[simp] theorem State.withWear_withWear (s : State) (v w : WearSt) : (s.withWear v).withWear w = s.withWear w := rfl
@[simp] theorem State.withWear_regs (s : State) (v : WearSt) : (s.withWear v).regs = s.regs := rfl
@[simp] theorem State.withWear_cfg (s : State) (v : WearSt) : (s.withWear v).cfg = s.cfg := rfl
@[simp] theorem State.withWear_eff (s : State) (v : WearSt) : (s.withWear v).eff = s.eff := rfl
@[simp] theorem State.withWear_pwr (s : State) (v : WearSt) : (s.withWear v).pwr = s.pwr := rfl
@[simp] theorem State.withWear_clk (s : State) (v : WearSt) : (s.withWear v).clk = s.clk := rfl
@[simp] theorem State.withWear_hdRead (s : State) (v : WearSt) : (s.withWear v).hdRead = s.hdRead := rfl
@[simp] theorem State.withWear_bus (s : State) (v : WearSt) : (s.withWear v).bus = s.bus := rfl
@[simp] theorem State.withWear_spiPort (s : State) (v : WearSt) : (s.withWear v).spiPort = s.spiPort := rfl
@[simp] theorem State.withWear_spi (s : State) (v : WearSt) : (s.withWear v).spi = s.spi := rfl
@[simp] theorem State.withWear_rve (s : State) (v : WearSt) : (s.withWear v).rve = s.rve := rfl
@[simp] theorem State.withWear_flt (s : State) (v : WearSt) : (s.withWear v).flt = s.flt := rfl
@[simp] theorem State.withWear_int (s : State) (v : WearSt) : (s.withWear v).int = s.int := rfl
@[simp] theorem State.withWear_str (s : State) (v : WearSt) : (s.withWear v).str = s.str := rfl
@[simp] theorem State.withWear_cul (s : State) (v : WearSt) : (s.withWear v).cul = s.cul := rfl
@[simp] theorem State.withWear_adc (s : State) (v : WearSt) : (s.withWear v).adc = s.adc := rfl
@[simp] theorem State.withWear_dpc (s : State) (v : WearSt) : (s.withWear v).dpc = s.dpc := rfl
@[simp] theorem State.withWear_mod (s : State) (v : WearSt) : (s.withWear v).mod = s.mod := rfl
@[simp] theorem State.withWear_gdr (s : State) (v : WearSt) : (s.withWear v).gdr = s.gdr := rfl
@[simp] theorem State.withWear_pins (s : State) (v : WearSt) : (s.withWear v).pins = s.pins := rfl
@[simp] theorem State.withWear_lpe (s : State) (v : WearSt) : (s.withWear v).lpe = s.lpe := rfl
@[simp] theorem State.withWear_wrd (s : State) (v : WearSt) : (s.withWear v).wrd = s.wrd := rfl
@[simp] theorem State.withWear_vlt (s : State) (v : WearSt) : (s.withWear v).vlt = s.vlt := rfl
@[simp] theorem State.withWear_thm (s : State) (v : WearSt) : (s.withWear v).thm = s.thm := rfl
@[simp] theorem State.withWear_tim (s : State) (v : WearSt) : (s.withWear v).tim = s.tim := rfl
@[simp] theorem State.withWear_net (s : State) (v : WearSt) : (s.withWear v).net = s.net := rfl
@[simp] theorem State.withWear_stm (s : State) (v : WearSt) : (s.withWear v).stm = s.stm := rfl
@[simp] theorem State.withWear_gal (s : State) (v : WearSt) : (s.withWear v).gal = s.gal := rfl
@[simp] theorem State.withWear_twn (s : State) (v : WearSt) : (s.withWear v).twn = s.twn := rfl
@[simp] theorem State.withWear_spr (s : State) (v : WearSt) : (s.withWear v).spr = s.spr := rfl
@[simp] theorem State.withWear_dripLost (s : State) (v : WearSt) : (s.withWear v).dripLost = s.dripLost := rfl
@[simp] theorem State.withWear_free (s : State) (v : WearSt) : (s.withWear v).free = s.free := rfl
@[simp] theorem State.withWear_pending (s : State) (v : WearSt) : (s.withWear v).pending = s.pending := rfl
@[simp] theorem State.withWear_word (s : State) (v : WearSt) (a : Nat) : (s.withWear v).word a = s.word a := rfl
@[simp] theorem State.withWear_get (s : State) (v : WearSt) (f : Fld) : (s.withWear v).get f = s.get f := rfl
@[simp] theorem State.withWear_getS (s : State) (v : WearSt) (f : Fld) : (s.withWear v).getS f = s.getS f := rfl
@[simp] theorem State.withWear_is (s : State) (v : WearSt) (f : Fld) : (s.withWear v).is f = s.is f := rfl
@[simp] theorem State.withWear_effWord (s : State) (v : WearSt) (a : Nat) : (s.withWear v).effWord a = s.effWord a := rfl
@[simp] theorem State.withWear_cf (s : State) (v : WearSt) (f : Fld) : (s.withWear v).cf f = s.cf f := rfl
@[simp] theorem State.withWear_cfS (s : State) (v : WearSt) (f : Fld) : (s.withWear v).cfS f = s.cfS f := rfl
@[simp] theorem State.withWear_cfIs (s : State) (v : WearSt) (f : Fld) : (s.withWear v).cfIs f = s.cfIs f := rfl
@[simp] theorem State.withWear_logged (s : State) (v : WearSt) (n : Nat) : (s.withWear v).logged n = s.logged n := rfl
@[simp] theorem State.withWear_cfgWord (s : State) (v : WearSt) (a : Nat) : (s.withWear v).cfgWord a = s.cfgWord a := rfl
@[simp] theorem State.withWear_cfgOf (s : State) (v : WearSt) (f : Fld) : (s.withWear v).cfgOf f = s.cfgOf f := rfl
@[simp] theorem State.withWear_isOn (s : State) (v : WearSt) (p : Nat) : (s.withWear v).isOn p = s.isOn p := rfl
@[simp] theorem State.withWear_role (s : State) (v : WearSt) : (s.withWear v).role = s.role := rfl
@[simp] theorem State.withWear_isStation (s : State) (v : WearSt) : (s.withWear v).isStation = s.isStation := rfl
@[simp] theorem State.withWear_isCell (s : State) (v : WearSt) : (s.withWear v).isCell = s.isCell := rfl
@[simp] theorem State.withWear_isPort (s : State) (v : WearSt) : (s.withWear v).isPort = s.isPort := rfl
@[simp] theorem State.withWear_isTwinB (s : State) (v : WearSt) : (s.withWear v).isTwinB = s.isTwinB := rfl
@[simp] theorem State.withWear_awake (s : State) (v : WearSt) : (s.withWear v).awake = s.awake := rfl
@[simp] theorem State.withWear_nowNs (s : State) (v : WearSt) : (s.withWear v).nowNs = s.nowNs := rfl
@[simp] theorem State.withWear_cport (s : State) (v : WearSt) (n : Nat) : (s.withWear v).cport n = s.cport n := rfl

/-! ## Part `dripLost` replaced -/

@[simp] theorem State.withDripLost_dripLost (s : State) (v : Bool) : (s.withDripLost v).dripLost = v := rfl
@[simp] theorem State.withDripLost_self (s : State) : s.withDripLost s.dripLost = s := rfl
@[simp] theorem State.withDripLost_withDripLost (s : State) (v w : Bool) : (s.withDripLost v).withDripLost w = s.withDripLost w := rfl
@[simp] theorem State.withDripLost_regs (s : State) (v : Bool) : (s.withDripLost v).regs = s.regs := rfl
@[simp] theorem State.withDripLost_cfg (s : State) (v : Bool) : (s.withDripLost v).cfg = s.cfg := rfl
@[simp] theorem State.withDripLost_eff (s : State) (v : Bool) : (s.withDripLost v).eff = s.eff := rfl
@[simp] theorem State.withDripLost_pwr (s : State) (v : Bool) : (s.withDripLost v).pwr = s.pwr := rfl
@[simp] theorem State.withDripLost_clk (s : State) (v : Bool) : (s.withDripLost v).clk = s.clk := rfl
@[simp] theorem State.withDripLost_hdRead (s : State) (v : Bool) : (s.withDripLost v).hdRead = s.hdRead := rfl
@[simp] theorem State.withDripLost_bus (s : State) (v : Bool) : (s.withDripLost v).bus = s.bus := rfl
@[simp] theorem State.withDripLost_spiPort (s : State) (v : Bool) : (s.withDripLost v).spiPort = s.spiPort := rfl
@[simp] theorem State.withDripLost_spi (s : State) (v : Bool) : (s.withDripLost v).spi = s.spi := rfl
@[simp] theorem State.withDripLost_rve (s : State) (v : Bool) : (s.withDripLost v).rve = s.rve := rfl
@[simp] theorem State.withDripLost_flt (s : State) (v : Bool) : (s.withDripLost v).flt = s.flt := rfl
@[simp] theorem State.withDripLost_int (s : State) (v : Bool) : (s.withDripLost v).int = s.int := rfl
@[simp] theorem State.withDripLost_str (s : State) (v : Bool) : (s.withDripLost v).str = s.str := rfl
@[simp] theorem State.withDripLost_cul (s : State) (v : Bool) : (s.withDripLost v).cul = s.cul := rfl
@[simp] theorem State.withDripLost_adc (s : State) (v : Bool) : (s.withDripLost v).adc = s.adc := rfl
@[simp] theorem State.withDripLost_dpc (s : State) (v : Bool) : (s.withDripLost v).dpc = s.dpc := rfl
@[simp] theorem State.withDripLost_mod (s : State) (v : Bool) : (s.withDripLost v).mod = s.mod := rfl
@[simp] theorem State.withDripLost_gdr (s : State) (v : Bool) : (s.withDripLost v).gdr = s.gdr := rfl
@[simp] theorem State.withDripLost_pins (s : State) (v : Bool) : (s.withDripLost v).pins = s.pins := rfl
@[simp] theorem State.withDripLost_lpe (s : State) (v : Bool) : (s.withDripLost v).lpe = s.lpe := rfl
@[simp] theorem State.withDripLost_wrd (s : State) (v : Bool) : (s.withDripLost v).wrd = s.wrd := rfl
@[simp] theorem State.withDripLost_vlt (s : State) (v : Bool) : (s.withDripLost v).vlt = s.vlt := rfl
@[simp] theorem State.withDripLost_thm (s : State) (v : Bool) : (s.withDripLost v).thm = s.thm := rfl
@[simp] theorem State.withDripLost_tim (s : State) (v : Bool) : (s.withDripLost v).tim = s.tim := rfl
@[simp] theorem State.withDripLost_net (s : State) (v : Bool) : (s.withDripLost v).net = s.net := rfl
@[simp] theorem State.withDripLost_stm (s : State) (v : Bool) : (s.withDripLost v).stm = s.stm := rfl
@[simp] theorem State.withDripLost_gal (s : State) (v : Bool) : (s.withDripLost v).gal = s.gal := rfl
@[simp] theorem State.withDripLost_twn (s : State) (v : Bool) : (s.withDripLost v).twn = s.twn := rfl
@[simp] theorem State.withDripLost_spr (s : State) (v : Bool) : (s.withDripLost v).spr = s.spr := rfl
@[simp] theorem State.withDripLost_wear (s : State) (v : Bool) : (s.withDripLost v).wear = s.wear := rfl
@[simp] theorem State.withDripLost_free (s : State) (v : Bool) : (s.withDripLost v).free = s.free := rfl
@[simp] theorem State.withDripLost_pending (s : State) (v : Bool) : (s.withDripLost v).pending = s.pending := rfl
@[simp] theorem State.withDripLost_word (s : State) (v : Bool) (a : Nat) : (s.withDripLost v).word a = s.word a := rfl
@[simp] theorem State.withDripLost_get (s : State) (v : Bool) (f : Fld) : (s.withDripLost v).get f = s.get f := rfl
@[simp] theorem State.withDripLost_getS (s : State) (v : Bool) (f : Fld) : (s.withDripLost v).getS f = s.getS f := rfl
@[simp] theorem State.withDripLost_is (s : State) (v : Bool) (f : Fld) : (s.withDripLost v).is f = s.is f := rfl
@[simp] theorem State.withDripLost_effWord (s : State) (v : Bool) (a : Nat) : (s.withDripLost v).effWord a = s.effWord a := rfl
@[simp] theorem State.withDripLost_cf (s : State) (v : Bool) (f : Fld) : (s.withDripLost v).cf f = s.cf f := rfl
@[simp] theorem State.withDripLost_cfS (s : State) (v : Bool) (f : Fld) : (s.withDripLost v).cfS f = s.cfS f := rfl
@[simp] theorem State.withDripLost_cfIs (s : State) (v : Bool) (f : Fld) : (s.withDripLost v).cfIs f = s.cfIs f := rfl
@[simp] theorem State.withDripLost_logged (s : State) (v : Bool) (n : Nat) : (s.withDripLost v).logged n = s.logged n := rfl
@[simp] theorem State.withDripLost_cfgWord (s : State) (v : Bool) (a : Nat) : (s.withDripLost v).cfgWord a = s.cfgWord a := rfl
@[simp] theorem State.withDripLost_cfgOf (s : State) (v : Bool) (f : Fld) : (s.withDripLost v).cfgOf f = s.cfgOf f := rfl
@[simp] theorem State.withDripLost_isOn (s : State) (v : Bool) (p : Nat) : (s.withDripLost v).isOn p = s.isOn p := rfl
@[simp] theorem State.withDripLost_role (s : State) (v : Bool) : (s.withDripLost v).role = s.role := rfl
@[simp] theorem State.withDripLost_isStation (s : State) (v : Bool) : (s.withDripLost v).isStation = s.isStation := rfl
@[simp] theorem State.withDripLost_isCell (s : State) (v : Bool) : (s.withDripLost v).isCell = s.isCell := rfl
@[simp] theorem State.withDripLost_isPort (s : State) (v : Bool) : (s.withDripLost v).isPort = s.isPort := rfl
@[simp] theorem State.withDripLost_isTwinB (s : State) (v : Bool) : (s.withDripLost v).isTwinB = s.isTwinB := rfl
@[simp] theorem State.withDripLost_awake (s : State) (v : Bool) : (s.withDripLost v).awake = s.awake := rfl
@[simp] theorem State.withDripLost_nowNs (s : State) (v : Bool) : (s.withDripLost v).nowNs = s.nowNs := rfl
@[simp] theorem State.withDripLost_cport (s : State) (v : Bool) (n : Nat) : (s.withDripLost v).cport n = s.cport n := rfl

/-! ## Part `free` replaced -/

@[simp] theorem State.withFree_free (s : State) (v : Nat) : (s.withFree v).free = v := rfl
@[simp] theorem State.withFree_self (s : State) : s.withFree s.free = s := rfl
@[simp] theorem State.withFree_withFree (s : State) (v w : Nat) : (s.withFree v).withFree w = s.withFree w := rfl
@[simp] theorem State.withFree_regs (s : State) (v : Nat) : (s.withFree v).regs = s.regs := rfl
@[simp] theorem State.withFree_cfg (s : State) (v : Nat) : (s.withFree v).cfg = s.cfg := rfl
@[simp] theorem State.withFree_eff (s : State) (v : Nat) : (s.withFree v).eff = s.eff := rfl
@[simp] theorem State.withFree_pwr (s : State) (v : Nat) : (s.withFree v).pwr = s.pwr := rfl
@[simp] theorem State.withFree_clk (s : State) (v : Nat) : (s.withFree v).clk = s.clk := rfl
@[simp] theorem State.withFree_hdRead (s : State) (v : Nat) : (s.withFree v).hdRead = s.hdRead := rfl
@[simp] theorem State.withFree_bus (s : State) (v : Nat) : (s.withFree v).bus = s.bus := rfl
@[simp] theorem State.withFree_spiPort (s : State) (v : Nat) : (s.withFree v).spiPort = s.spiPort := rfl
@[simp] theorem State.withFree_spi (s : State) (v : Nat) : (s.withFree v).spi = s.spi := rfl
@[simp] theorem State.withFree_rve (s : State) (v : Nat) : (s.withFree v).rve = s.rve := rfl
@[simp] theorem State.withFree_flt (s : State) (v : Nat) : (s.withFree v).flt = s.flt := rfl
@[simp] theorem State.withFree_int (s : State) (v : Nat) : (s.withFree v).int = s.int := rfl
@[simp] theorem State.withFree_str (s : State) (v : Nat) : (s.withFree v).str = s.str := rfl
@[simp] theorem State.withFree_cul (s : State) (v : Nat) : (s.withFree v).cul = s.cul := rfl
@[simp] theorem State.withFree_adc (s : State) (v : Nat) : (s.withFree v).adc = s.adc := rfl
@[simp] theorem State.withFree_dpc (s : State) (v : Nat) : (s.withFree v).dpc = s.dpc := rfl
@[simp] theorem State.withFree_mod (s : State) (v : Nat) : (s.withFree v).mod = s.mod := rfl
@[simp] theorem State.withFree_gdr (s : State) (v : Nat) : (s.withFree v).gdr = s.gdr := rfl
@[simp] theorem State.withFree_pins (s : State) (v : Nat) : (s.withFree v).pins = s.pins := rfl
@[simp] theorem State.withFree_lpe (s : State) (v : Nat) : (s.withFree v).lpe = s.lpe := rfl
@[simp] theorem State.withFree_wrd (s : State) (v : Nat) : (s.withFree v).wrd = s.wrd := rfl
@[simp] theorem State.withFree_vlt (s : State) (v : Nat) : (s.withFree v).vlt = s.vlt := rfl
@[simp] theorem State.withFree_thm (s : State) (v : Nat) : (s.withFree v).thm = s.thm := rfl
@[simp] theorem State.withFree_tim (s : State) (v : Nat) : (s.withFree v).tim = s.tim := rfl
@[simp] theorem State.withFree_net (s : State) (v : Nat) : (s.withFree v).net = s.net := rfl
@[simp] theorem State.withFree_stm (s : State) (v : Nat) : (s.withFree v).stm = s.stm := rfl
@[simp] theorem State.withFree_gal (s : State) (v : Nat) : (s.withFree v).gal = s.gal := rfl
@[simp] theorem State.withFree_twn (s : State) (v : Nat) : (s.withFree v).twn = s.twn := rfl
@[simp] theorem State.withFree_spr (s : State) (v : Nat) : (s.withFree v).spr = s.spr := rfl
@[simp] theorem State.withFree_wear (s : State) (v : Nat) : (s.withFree v).wear = s.wear := rfl
@[simp] theorem State.withFree_dripLost (s : State) (v : Nat) : (s.withFree v).dripLost = s.dripLost := rfl
@[simp] theorem State.withFree_pending (s : State) (v : Nat) : (s.withFree v).pending = s.pending := rfl
@[simp] theorem State.withFree_word (s : State) (v : Nat) (a : Nat) : (s.withFree v).word a = s.word a := rfl
@[simp] theorem State.withFree_get (s : State) (v : Nat) (f : Fld) : (s.withFree v).get f = s.get f := rfl
@[simp] theorem State.withFree_getS (s : State) (v : Nat) (f : Fld) : (s.withFree v).getS f = s.getS f := rfl
@[simp] theorem State.withFree_is (s : State) (v : Nat) (f : Fld) : (s.withFree v).is f = s.is f := rfl
@[simp] theorem State.withFree_effWord (s : State) (v : Nat) (a : Nat) : (s.withFree v).effWord a = s.effWord a := rfl
@[simp] theorem State.withFree_cf (s : State) (v : Nat) (f : Fld) : (s.withFree v).cf f = s.cf f := rfl
@[simp] theorem State.withFree_cfS (s : State) (v : Nat) (f : Fld) : (s.withFree v).cfS f = s.cfS f := rfl
@[simp] theorem State.withFree_cfIs (s : State) (v : Nat) (f : Fld) : (s.withFree v).cfIs f = s.cfIs f := rfl
@[simp] theorem State.withFree_logged (s : State) (v : Nat) (n : Nat) : (s.withFree v).logged n = s.logged n := rfl
@[simp] theorem State.withFree_cfgWord (s : State) (v : Nat) (a : Nat) : (s.withFree v).cfgWord a = s.cfgWord a := rfl
@[simp] theorem State.withFree_cfgOf (s : State) (v : Nat) (f : Fld) : (s.withFree v).cfgOf f = s.cfgOf f := rfl
@[simp] theorem State.withFree_isOn (s : State) (v : Nat) (p : Nat) : (s.withFree v).isOn p = s.isOn p := rfl
@[simp] theorem State.withFree_role (s : State) (v : Nat) : (s.withFree v).role = s.role := rfl
@[simp] theorem State.withFree_isStation (s : State) (v : Nat) : (s.withFree v).isStation = s.isStation := rfl
@[simp] theorem State.withFree_isCell (s : State) (v : Nat) : (s.withFree v).isCell = s.isCell := rfl
@[simp] theorem State.withFree_isPort (s : State) (v : Nat) : (s.withFree v).isPort = s.isPort := rfl
@[simp] theorem State.withFree_isTwinB (s : State) (v : Nat) : (s.withFree v).isTwinB = s.isTwinB := rfl
@[simp] theorem State.withFree_awake (s : State) (v : Nat) : (s.withFree v).awake = s.awake := rfl
@[simp] theorem State.withFree_nowNs (s : State) (v : Nat) : (s.withFree v).nowNs = s.nowNs := rfl
@[simp] theorem State.withFree_cport (s : State) (v : Nat) (n : Nat) : (s.withFree v).cport n = s.cport n := rfl

/-! ## The queue -/

@[simp] theorem State.withQueue_pending (s : State) (v : List Instr) : (s.withQueue v).pending = v := rfl
@[simp] theorem State.withQueue_regs (s : State) (v : List Instr) : (s.withQueue v).regs = s.regs := rfl
@[simp] theorem State.withQueue_cfg (s : State) (v : List Instr) : (s.withQueue v).cfg = s.cfg := rfl
@[simp] theorem State.withQueue_eff (s : State) (v : List Instr) : (s.withQueue v).eff = s.eff := rfl
@[simp] theorem State.withQueue_pwr (s : State) (v : List Instr) : (s.withQueue v).pwr = s.pwr := rfl
@[simp] theorem State.withQueue_clk (s : State) (v : List Instr) : (s.withQueue v).clk = s.clk := rfl
@[simp] theorem State.withQueue_hdRead (s : State) (v : List Instr) : (s.withQueue v).hdRead = s.hdRead := rfl
@[simp] theorem State.withQueue_bus (s : State) (v : List Instr) : (s.withQueue v).bus = s.bus := rfl
@[simp] theorem State.withQueue_spiPort (s : State) (v : List Instr) : (s.withQueue v).spiPort = s.spiPort := rfl
@[simp] theorem State.withQueue_spi (s : State) (v : List Instr) : (s.withQueue v).spi = s.spi := rfl
@[simp] theorem State.withQueue_rve (s : State) (v : List Instr) : (s.withQueue v).rve = s.rve := rfl
@[simp] theorem State.withQueue_flt (s : State) (v : List Instr) : (s.withQueue v).flt = s.flt := rfl
@[simp] theorem State.withQueue_int (s : State) (v : List Instr) : (s.withQueue v).int = s.int := rfl
@[simp] theorem State.withQueue_str (s : State) (v : List Instr) : (s.withQueue v).str = s.str := rfl
@[simp] theorem State.withQueue_cul (s : State) (v : List Instr) : (s.withQueue v).cul = s.cul := rfl
@[simp] theorem State.withQueue_adc (s : State) (v : List Instr) : (s.withQueue v).adc = s.adc := rfl
@[simp] theorem State.withQueue_dpc (s : State) (v : List Instr) : (s.withQueue v).dpc = s.dpc := rfl
@[simp] theorem State.withQueue_mod (s : State) (v : List Instr) : (s.withQueue v).mod = s.mod := rfl
@[simp] theorem State.withQueue_gdr (s : State) (v : List Instr) : (s.withQueue v).gdr = s.gdr := rfl
@[simp] theorem State.withQueue_pins (s : State) (v : List Instr) : (s.withQueue v).pins = s.pins := rfl
@[simp] theorem State.withQueue_lpe (s : State) (v : List Instr) : (s.withQueue v).lpe = s.lpe := rfl
@[simp] theorem State.withQueue_wrd (s : State) (v : List Instr) : (s.withQueue v).wrd = s.wrd := rfl
@[simp] theorem State.withQueue_vlt (s : State) (v : List Instr) : (s.withQueue v).vlt = s.vlt := rfl
@[simp] theorem State.withQueue_thm (s : State) (v : List Instr) : (s.withQueue v).thm = s.thm := rfl
@[simp] theorem State.withQueue_tim (s : State) (v : List Instr) : (s.withQueue v).tim = s.tim := rfl
@[simp] theorem State.withQueue_net (s : State) (v : List Instr) : (s.withQueue v).net = s.net := rfl
@[simp] theorem State.withQueue_stm (s : State) (v : List Instr) : (s.withQueue v).stm = s.stm := rfl
@[simp] theorem State.withQueue_gal (s : State) (v : List Instr) : (s.withQueue v).gal = s.gal := rfl
@[simp] theorem State.withQueue_twn (s : State) (v : List Instr) : (s.withQueue v).twn = s.twn := rfl
@[simp] theorem State.withQueue_spr (s : State) (v : List Instr) : (s.withQueue v).spr = s.spr := rfl
@[simp] theorem State.withQueue_wear (s : State) (v : List Instr) : (s.withQueue v).wear = s.wear := rfl
@[simp] theorem State.withQueue_dripLost (s : State) (v : List Instr) : (s.withQueue v).dripLost = s.dripLost := rfl
@[simp] theorem State.withQueue_free (s : State) (v : List Instr) : (s.withQueue v).free = s.free := rfl
@[simp] theorem State.withQueue_word (s : State) (v : List Instr) (a : Nat) : (s.withQueue v).word a = s.word a := rfl
@[simp] theorem State.withQueue_get (s : State) (v : List Instr) (f : Fld) : (s.withQueue v).get f = s.get f := rfl
@[simp] theorem State.withQueue_getS (s : State) (v : List Instr) (f : Fld) : (s.withQueue v).getS f = s.getS f := rfl
@[simp] theorem State.withQueue_is (s : State) (v : List Instr) (f : Fld) : (s.withQueue v).is f = s.is f := rfl
@[simp] theorem State.withQueue_effWord (s : State) (v : List Instr) (a : Nat) : (s.withQueue v).effWord a = s.effWord a := rfl
@[simp] theorem State.withQueue_cf (s : State) (v : List Instr) (f : Fld) : (s.withQueue v).cf f = s.cf f := rfl
@[simp] theorem State.withQueue_cfS (s : State) (v : List Instr) (f : Fld) : (s.withQueue v).cfS f = s.cfS f := rfl
@[simp] theorem State.withQueue_cfIs (s : State) (v : List Instr) (f : Fld) : (s.withQueue v).cfIs f = s.cfIs f := rfl
@[simp] theorem State.withQueue_logged (s : State) (v : List Instr) (n : Nat) : (s.withQueue v).logged n = s.logged n := rfl
@[simp] theorem State.withQueue_cfgWord (s : State) (v : List Instr) (a : Nat) : (s.withQueue v).cfgWord a = s.cfgWord a := rfl
@[simp] theorem State.withQueue_cfgOf (s : State) (v : List Instr) (f : Fld) : (s.withQueue v).cfgOf f = s.cfgOf f := rfl
@[simp] theorem State.withQueue_isOn (s : State) (v : List Instr) (p : Nat) : (s.withQueue v).isOn p = s.isOn p := rfl
@[simp] theorem State.withQueue_role (s : State) (v : List Instr) : (s.withQueue v).role = s.role := rfl
@[simp] theorem State.withQueue_isStation (s : State) (v : List Instr) : (s.withQueue v).isStation = s.isStation := rfl
@[simp] theorem State.withQueue_isCell (s : State) (v : List Instr) : (s.withQueue v).isCell = s.isCell := rfl
@[simp] theorem State.withQueue_isPort (s : State) (v : List Instr) : (s.withQueue v).isPort = s.isPort := rfl
@[simp] theorem State.withQueue_isTwinB (s : State) (v : List Instr) : (s.withQueue v).isTwinB = s.isTwinB := rfl
@[simp] theorem State.withQueue_awake (s : State) (v : List Instr) : (s.withQueue v).awake = s.awake := rfl
@[simp] theorem State.withQueue_nowNs (s : State) (v : List Instr) : (s.withQueue v).nowNs = s.nowNs := rfl
@[simp] theorem State.withQueue_cport (s : State) (v : List Instr) (n : Nat) : (s.withQueue v).cport n = s.cport n := rfl

/-! ## A register written -/

@[simp] theorem State.setWord_cfg (s : State) (a : Nat) (v : Word) : (s.setWord a v).cfg = s.cfg := rfl
@[simp] theorem State.setWord_eff (s : State) (a : Nat) (v : Word) : (s.setWord a v).eff = s.eff := rfl
@[simp] theorem State.setWord_pwr (s : State) (a : Nat) (v : Word) : (s.setWord a v).pwr = s.pwr := rfl
@[simp] theorem State.setWord_clk (s : State) (a : Nat) (v : Word) : (s.setWord a v).clk = s.clk := rfl
@[simp] theorem State.setWord_hdRead (s : State) (a : Nat) (v : Word) : (s.setWord a v).hdRead = s.hdRead := rfl
@[simp] theorem State.setWord_bus (s : State) (a : Nat) (v : Word) : (s.setWord a v).bus = s.bus := rfl
@[simp] theorem State.setWord_spiPort (s : State) (a : Nat) (v : Word) : (s.setWord a v).spiPort = s.spiPort := rfl
@[simp] theorem State.setWord_spi (s : State) (a : Nat) (v : Word) : (s.setWord a v).spi = s.spi := rfl
@[simp] theorem State.setWord_rve (s : State) (a : Nat) (v : Word) : (s.setWord a v).rve = s.rve := rfl
@[simp] theorem State.setWord_flt (s : State) (a : Nat) (v : Word) : (s.setWord a v).flt = s.flt := rfl
@[simp] theorem State.setWord_int (s : State) (a : Nat) (v : Word) : (s.setWord a v).int = s.int := rfl
@[simp] theorem State.setWord_str (s : State) (a : Nat) (v : Word) : (s.setWord a v).str = s.str := rfl
@[simp] theorem State.setWord_cul (s : State) (a : Nat) (v : Word) : (s.setWord a v).cul = s.cul := rfl
@[simp] theorem State.setWord_adc (s : State) (a : Nat) (v : Word) : (s.setWord a v).adc = s.adc := rfl
@[simp] theorem State.setWord_dpc (s : State) (a : Nat) (v : Word) : (s.setWord a v).dpc = s.dpc := rfl
@[simp] theorem State.setWord_mod (s : State) (a : Nat) (v : Word) : (s.setWord a v).mod = s.mod := rfl
@[simp] theorem State.setWord_gdr (s : State) (a : Nat) (v : Word) : (s.setWord a v).gdr = s.gdr := rfl
@[simp] theorem State.setWord_pins (s : State) (a : Nat) (v : Word) : (s.setWord a v).pins = s.pins := rfl
@[simp] theorem State.setWord_lpe (s : State) (a : Nat) (v : Word) : (s.setWord a v).lpe = s.lpe := rfl
@[simp] theorem State.setWord_wrd (s : State) (a : Nat) (v : Word) : (s.setWord a v).wrd = s.wrd := rfl
@[simp] theorem State.setWord_vlt (s : State) (a : Nat) (v : Word) : (s.setWord a v).vlt = s.vlt := rfl
@[simp] theorem State.setWord_thm (s : State) (a : Nat) (v : Word) : (s.setWord a v).thm = s.thm := rfl
@[simp] theorem State.setWord_tim (s : State) (a : Nat) (v : Word) : (s.setWord a v).tim = s.tim := rfl
@[simp] theorem State.setWord_net (s : State) (a : Nat) (v : Word) : (s.setWord a v).net = s.net := rfl
@[simp] theorem State.setWord_stm (s : State) (a : Nat) (v : Word) : (s.setWord a v).stm = s.stm := rfl
@[simp] theorem State.setWord_gal (s : State) (a : Nat) (v : Word) : (s.setWord a v).gal = s.gal := rfl
@[simp] theorem State.setWord_twn (s : State) (a : Nat) (v : Word) : (s.setWord a v).twn = s.twn := rfl
@[simp] theorem State.setWord_spr (s : State) (a : Nat) (v : Word) : (s.setWord a v).spr = s.spr := rfl
@[simp] theorem State.setWord_wear (s : State) (a : Nat) (v : Word) : (s.setWord a v).wear = s.wear := rfl
@[simp] theorem State.setWord_dripLost (s : State) (a : Nat) (v : Word) : (s.setWord a v).dripLost = s.dripLost := rfl
@[simp] theorem State.setWord_free (s : State) (a : Nat) (v : Word) : (s.setWord a v).free = s.free := rfl
@[simp] theorem State.setWord_pending (s : State) (a : Nat) (v : Word) : (s.setWord a v).pending = s.pending := rfl
@[simp] theorem State.setWord_effWord (s : State) (a : Nat) (v : Word) (x : Nat) : (s.setWord a v).effWord x = s.effWord x := rfl
@[simp] theorem State.setWord_cf (s : State) (a : Nat) (v : Word) (f : Fld) : (s.setWord a v).cf f = s.cf f := rfl
@[simp] theorem State.setWord_cfS (s : State) (a : Nat) (v : Word) (f : Fld) : (s.setWord a v).cfS f = s.cfS f := rfl
@[simp] theorem State.setWord_cfIs (s : State) (a : Nat) (v : Word) (f : Fld) : (s.setWord a v).cfIs f = s.cfIs f := rfl
@[simp] theorem State.setWord_logged (s : State) (a : Nat) (v : Word) (n : Nat) : (s.setWord a v).logged n = s.logged n := rfl
@[simp] theorem State.setWord_cfgWord (s : State) (a : Nat) (v : Word) (x : Nat) : (s.setWord a v).cfgWord x = s.cfgWord x := rfl
@[simp] theorem State.setWord_cfgOf (s : State) (a : Nat) (v : Word) (f : Fld) : (s.setWord a v).cfgOf f = s.cfgOf f := rfl
@[simp] theorem State.setWord_isOn (s : State) (a : Nat) (v : Word) (p : Nat) : (s.setWord a v).isOn p = s.isOn p := rfl
@[simp] theorem State.setWord_role (s : State) (a : Nat) (v : Word) : (s.setWord a v).role = s.role := rfl
@[simp] theorem State.setWord_isStation (s : State) (a : Nat) (v : Word) : (s.setWord a v).isStation = s.isStation := rfl
@[simp] theorem State.setWord_isCell (s : State) (a : Nat) (v : Word) : (s.setWord a v).isCell = s.isCell := rfl
@[simp] theorem State.setWord_isPort (s : State) (a : Nat) (v : Word) : (s.setWord a v).isPort = s.isPort := rfl
@[simp] theorem State.setWord_isTwinB (s : State) (a : Nat) (v : Word) : (s.setWord a v).isTwinB = s.isTwinB := rfl
@[simp] theorem State.setWord_awake (s : State) (a : Nat) (v : Word) : (s.setWord a v).awake = s.awake := rfl
@[simp] theorem State.setWord_nowNs (s : State) (a : Nat) (v : Word) : (s.setWord a v).nowNs = s.nowNs := rfl
@[simp] theorem State.setWord_cport (s : State) (a : Nat) (v : Word) (n : Nat) : (s.setWord a v).cport n = s.cport n := rfl

@[simp] theorem State.put_cfg (s : State) (f : Fld) (v : Nat) : (s.put f v).cfg = s.cfg := rfl
@[simp] theorem State.put_eff (s : State) (f : Fld) (v : Nat) : (s.put f v).eff = s.eff := rfl
@[simp] theorem State.put_pwr (s : State) (f : Fld) (v : Nat) : (s.put f v).pwr = s.pwr := rfl
@[simp] theorem State.put_clk (s : State) (f : Fld) (v : Nat) : (s.put f v).clk = s.clk := rfl
@[simp] theorem State.put_hdRead (s : State) (f : Fld) (v : Nat) : (s.put f v).hdRead = s.hdRead := rfl
@[simp] theorem State.put_bus (s : State) (f : Fld) (v : Nat) : (s.put f v).bus = s.bus := rfl
@[simp] theorem State.put_spiPort (s : State) (f : Fld) (v : Nat) : (s.put f v).spiPort = s.spiPort := rfl
@[simp] theorem State.put_spi (s : State) (f : Fld) (v : Nat) : (s.put f v).spi = s.spi := rfl
@[simp] theorem State.put_rve (s : State) (f : Fld) (v : Nat) : (s.put f v).rve = s.rve := rfl
@[simp] theorem State.put_flt (s : State) (f : Fld) (v : Nat) : (s.put f v).flt = s.flt := rfl
@[simp] theorem State.put_int (s : State) (f : Fld) (v : Nat) : (s.put f v).int = s.int := rfl
@[simp] theorem State.put_str (s : State) (f : Fld) (v : Nat) : (s.put f v).str = s.str := rfl
@[simp] theorem State.put_cul (s : State) (f : Fld) (v : Nat) : (s.put f v).cul = s.cul := rfl
@[simp] theorem State.put_adc (s : State) (f : Fld) (v : Nat) : (s.put f v).adc = s.adc := rfl
@[simp] theorem State.put_dpc (s : State) (f : Fld) (v : Nat) : (s.put f v).dpc = s.dpc := rfl
@[simp] theorem State.put_mod (s : State) (f : Fld) (v : Nat) : (s.put f v).mod = s.mod := rfl
@[simp] theorem State.put_gdr (s : State) (f : Fld) (v : Nat) : (s.put f v).gdr = s.gdr := rfl
@[simp] theorem State.put_pins (s : State) (f : Fld) (v : Nat) : (s.put f v).pins = s.pins := rfl
@[simp] theorem State.put_lpe (s : State) (f : Fld) (v : Nat) : (s.put f v).lpe = s.lpe := rfl
@[simp] theorem State.put_wrd (s : State) (f : Fld) (v : Nat) : (s.put f v).wrd = s.wrd := rfl
@[simp] theorem State.put_vlt (s : State) (f : Fld) (v : Nat) : (s.put f v).vlt = s.vlt := rfl
@[simp] theorem State.put_thm (s : State) (f : Fld) (v : Nat) : (s.put f v).thm = s.thm := rfl
@[simp] theorem State.put_tim (s : State) (f : Fld) (v : Nat) : (s.put f v).tim = s.tim := rfl
@[simp] theorem State.put_net (s : State) (f : Fld) (v : Nat) : (s.put f v).net = s.net := rfl
@[simp] theorem State.put_stm (s : State) (f : Fld) (v : Nat) : (s.put f v).stm = s.stm := rfl
@[simp] theorem State.put_gal (s : State) (f : Fld) (v : Nat) : (s.put f v).gal = s.gal := rfl
@[simp] theorem State.put_twn (s : State) (f : Fld) (v : Nat) : (s.put f v).twn = s.twn := rfl
@[simp] theorem State.put_spr (s : State) (f : Fld) (v : Nat) : (s.put f v).spr = s.spr := rfl
@[simp] theorem State.put_wear (s : State) (f : Fld) (v : Nat) : (s.put f v).wear = s.wear := rfl
@[simp] theorem State.put_dripLost (s : State) (f : Fld) (v : Nat) : (s.put f v).dripLost = s.dripLost := rfl
@[simp] theorem State.put_free (s : State) (f : Fld) (v : Nat) : (s.put f v).free = s.free := rfl
@[simp] theorem State.put_pending (s : State) (f : Fld) (v : Nat) : (s.put f v).pending = s.pending := rfl
@[simp] theorem State.put_effWord (s : State) (f : Fld) (v : Nat) (a : Nat) : (s.put f v).effWord a = s.effWord a := rfl
@[simp] theorem State.put_cf (s : State) (f : Fld) (v : Nat) (x : Fld) : (s.put f v).cf x = s.cf x := rfl
@[simp] theorem State.put_cfS (s : State) (f : Fld) (v : Nat) (x : Fld) : (s.put f v).cfS x = s.cfS x := rfl
@[simp] theorem State.put_cfIs (s : State) (f : Fld) (v : Nat) (x : Fld) : (s.put f v).cfIs x = s.cfIs x := rfl
@[simp] theorem State.put_logged (s : State) (f : Fld) (v : Nat) (n : Nat) : (s.put f v).logged n = s.logged n := rfl
@[simp] theorem State.put_cfgWord (s : State) (f : Fld) (v : Nat) (a : Nat) : (s.put f v).cfgWord a = s.cfgWord a := rfl
@[simp] theorem State.put_cfgOf (s : State) (f : Fld) (v : Nat) (x : Fld) : (s.put f v).cfgOf x = s.cfgOf x := rfl
@[simp] theorem State.put_isOn (s : State) (f : Fld) (v : Nat) (p : Nat) : (s.put f v).isOn p = s.isOn p := rfl
@[simp] theorem State.put_role (s : State) (f : Fld) (v : Nat) : (s.put f v).role = s.role := rfl
@[simp] theorem State.put_isStation (s : State) (f : Fld) (v : Nat) : (s.put f v).isStation = s.isStation := rfl
@[simp] theorem State.put_isCell (s : State) (f : Fld) (v : Nat) : (s.put f v).isCell = s.isCell := rfl
@[simp] theorem State.put_isPort (s : State) (f : Fld) (v : Nat) : (s.put f v).isPort = s.isPort := rfl
@[simp] theorem State.put_isTwinB (s : State) (f : Fld) (v : Nat) : (s.put f v).isTwinB = s.isTwinB := rfl
@[simp] theorem State.put_awake (s : State) (f : Fld) (v : Nat) : (s.put f v).awake = s.awake := rfl
@[simp] theorem State.put_nowNs (s : State) (f : Fld) (v : Nat) : (s.put f v).nowNs = s.nowNs := rfl
@[simp] theorem State.put_cport (s : State) (f : Fld) (v : Nat) (n : Nat) : (s.put f v).cport n = s.cport n := rfl

end Sys2Proof.Machine
end

