-- ==== Sys2Proof/Laws/Regs.lean ====
section
/-! SUPPORT. Laws of register reads and writes: what a field reads after a write. -/
namespace Sys2Proof.Machine

/-! ## Every field write is a `put` -/

theorem State.flag_eq (s : State) (f : Fld) (b : Bool) : s.flag f b = s.put f (b2n b) := rfl
theorem State.putS_eq (s : State) (f : Fld) (i : Int) : s.putS f i = s.put f (ofSigned f.w i) := rfl
theorem State.bump_eq (s : State) (f : Fld) : s.bump f = s.put f (satInc f.w (s.get f)) := rfl
theorem State.bumpWrap_eq (s : State) (f : Fld) : s.bumpWrap f = s.put f (s.get f + 1) := rfl

/-! ## What a register write reads back as -/

@[simp] theorem State.word_setWord (s : State) (a b : Nat) (v : Word) :
    (s.setWord a v).word b = if b = a then v else s.word b := by
  simp only [State.word, State.setWord, State.withRegs_regs, SMap.find_set]
  split <;> rfl

theorem State.word_put (s : State) (f : Fld) (v b : Nat) :
    (s.put f v).word b = if b = f.addr then setBits (s.word f.addr) f.lo f.w v else s.word b := by
  simp [State.put]

@[simp] theorem State.word_put_ne (s : State) (f : Fld) (v b : Nat) (h : b ≠ f.addr) : (s.put f v).word b = s.word b := by
  simp [State.word_put, h]

/-- A bit of a word with a field replaced. -/
theorem setBits_getLsbD (x : Word) (lo w v i : Nat) (hi : i < 32) :
    (setBits x lo w v).getLsbD i = if lo ≤ i ∧ i < lo + w then natBit v (i - lo) else x.getLsbD i := by
  have hm : ((2 ^ w - 1) * 2 ^ lo).testBit i = (decide (lo ≤ i) && decide (i < lo + w)) := by
    rw [Nat.testBit_mul_two_pow, Nat.testBit_two_pow_sub_one]
    by_cases h1 : lo ≤ i
    · simp only [h1, decide_true, Bool.true_and]
      apply decide_eq_decide.mpr
      omega
    · simp [h1]
  have hv : (v % 2 ^ w * 2 ^ lo).testBit i = (decide (lo ≤ i) && (decide (i < lo + w) && natBit v (i - lo))) := by
    rw [Nat.testBit_mul_two_pow, Nat.testBit_mod_two_pow]
    by_cases h1 : lo ≤ i
    · have : (decide (i - lo < w)) = decide (i < lo + w) := by
        apply decide_eq_decide.mpr
        omega
      simp [h1, this, natBit, Nat.testBit_eq_decide_div_mod_eq, Bool.beq_eq_decide_eq]
    · simp [h1]
  simp only [setBits, BitVec.getLsbD_or, BitVec.getLsbD_and, BitVec.getLsbD_not, BitVec.getLsbD_ofNat, hm, hv, hi,
    decide_true, Bool.true_and]
  by_cases h1 : lo ≤ i <;> by_cases h2 : i < lo + w <;> simp [h1, h2]

/-- A field of a word, bit by bit. -/
theorem bitsOf_testBit (x : Word) (lo w i : Nat) : (bitsOf x lo w).testBit i = (decide (i < w) && x.getLsbD (lo + i)) := by
  simp [bitsOf, Nat.testBit_mod_two_pow, Nat.testBit_div_two_pow, BitVec.getLsbD, Nat.add_comm]

/-- A field reads as it was written. -/
theorem bitsOf_setBits (x : Word) (lo w v : Nat) (h : lo + w ≤ 32) : bitsOf (setBits x lo w v) lo w = v % 2 ^ w := by
  apply Nat.eq_of_testBit_eq
  intro i
  rw [bitsOf_testBit, Nat.testBit_mod_two_pow]
  by_cases hi : i < w
  · rw [setBits_getLsbD _ _ _ _ _ (by omega)]
    have : lo ≤ lo + i ∧ lo + i < lo + w := by omega
    simp [hi, natBit, Nat.testBit_eq_decide_div_mod_eq, Bool.beq_eq_decide_eq]
  · simp [hi]

/-- A field keeps its value when bits outside it are written. -/
theorem bitsOf_setBits_ne (x : Word) (lo w lo' w' v : Nat) (h : lo + w ≤ lo' ∨ lo' + w' ≤ lo) (hb : lo + w ≤ 32) :
    bitsOf (setBits x lo' w' v) lo w = bitsOf x lo w := by
  apply Nat.eq_of_testBit_eq
  intro i
  rw [bitsOf_testBit, bitsOf_testBit]
  by_cases hi : i < w
  · rw [setBits_getLsbD _ _ _ _ _ (by omega), if_neg (by omega)]
  · simp [hi]

/-- A field of a register reads as it was written. -/
theorem State.get_put_self (s : State) (f : Fld) (v : Nat) (h : f.lo + f.w ≤ 32) : (s.put f v).get f = v % 2 ^ f.w := by
  simp [State.get, State.word_put, bitsOf_setBits _ _ _ _ h]

/-- A field of another register is as before. -/
theorem State.get_put_addr (s : State) (f g : Fld) (v : Nat) (h : g.addr ≠ f.addr) : (s.put f v).get g = s.get g := by
  simp [State.get, State.word_put, h]

/-- Another field of the same register is as before. -/
theorem State.get_put_bits (s : State) (f g : Fld) (v : Nat) (h : g.lo + g.w ≤ f.lo ∨ f.lo + f.w ≤ g.lo)
    (hb : g.lo + g.w ≤ 32) : (s.put f v).get g = s.get g := by
  simp only [State.get, State.word_put]
  split
  · rename_i e
    rw [bitsOf_setBits_ne _ _ _ _ _ _ h hb, e]
  · rfl

end Sys2Proof.Machine
end

