-- ==== Sys2Proof/Laws/Ints.lean ====
section
/-! SUPPORT. Laws of interrupts and fault pulses. -/
namespace Sys2Proof.Machine

/-! ## Interrupts and fault pulses: everything they can change -/

theorem offerCore_cases (t : StrataSt) (q : Nat) (e : StrataOffer) :
    ((t.queues.getD q []).length < 16 ∧ offerCore t q e = ({ t with queues := t.queues.set q (t.queues.getD q [] ++ [e]) }, false))
    ∨ (¬(t.queues.getD q []).length < 16 ∧ offerCore t q e = ({ t with drop := satInc 16 t.drop }, true)) := by
  unfold offerCore
  by_cases h : (t.queues.getD q []).length < 16
  · exact Or.inl ⟨h, by simp only [h, if_true]⟩
  · exact Or.inr ⟨h, by simp only [h, if_false]⟩

/-- A raise of source 167 changes the interrupt controller and the Strata queues alone. -/
theorem State.raise167_only (s : State) : ∃ i t, s.raise167 = (s.withInt i).withStr t := by
  unfold State.raise167 State.setPend
  split
  · dsimp only
    split
    · exact ⟨_, _, rfl⟩
    · exact ⟨_, _, (State.withStr_self _).symm⟩
  · exact ⟨s.int, s.str, rfl⟩

/-- An offer changes the Strata queues and, with a drop, source 167 alone. -/
theorem State.offer_only (s : State) (q : Nat) (e : StrataOffer) : ∃ i t, s.offer q e = (s.withInt i).withStr t := by
  unfold State.offer
  split
  · dsimp only
    split
    · obtain ⟨i, t, h⟩ := State.raise167_only (s.withStr (offerCore s.str q e).1)
      exact ⟨i, t, by rw [h]; rfl⟩
    · exact ⟨s.int, _, rfl⟩
  · exact ⟨s.int, s.str, rfl⟩

/-- The offer of a raise changes the Strata queues and, with a drop, source 167 alone. -/
theorem State.offerRaise_only (s : State) (n : Nat) : ∃ i t, s.offerRaise n = (s.withInt i).withStr t := by
  unfold State.offerRaise
  dsimp only
  split
  · obtain ⟨i, t, h⟩ := State.raise167_only (s.withStr (Machine.offerRaise s.str n).1)
    exact ⟨i, t, by rw [h]; rfl⟩
  · exact ⟨s.int, _, rfl⟩

/-- A raise changes the interrupt controller and the Strata queues alone. -/
theorem State.raiseInt_only (s : State) (n : Nat) : ∃ i t, s.raiseInt n = (s.withInt i).withStr t := by
  unfold State.raiseInt
  split
  · dsimp only
    split
    · obtain ⟨i, t, h⟩ := State.offerRaise_only (s.setPend n) n
      exact ⟨i, t, by rw [h]; rfl⟩
    · exact ⟨_, _, (State.withStr_self _).symm⟩
  · exact ⟨s.int, s.str, rfl⟩

/-- A raise under R471 changes the interrupt controller and the Strata queues alone. -/
theorem State.raiseFirst_only (s : State) (n : Nat) : ∃ i t, s.raiseFirst n = (s.withInt i).withStr t := by
  unfold State.raiseFirst
  split
  · obtain ⟨i, t, h⟩ := State.raiseInt_only (s.withInt { s.int with arm := s.int.arm &&& ~~~(1#256 <<< n) }) n
    exact ⟨i, t, by rw [h]; rfl⟩
  · exact ⟨s.int, s.str, rfl⟩

/-- A fault pulse changes the collector's pulses alone. -/
theorem State.fault_only (s : State) (n : Nat) : ∃ f, s.fault n = s.withFlt f := by
  unfold State.fault
  split
  · exact ⟨_, rfl⟩
  · exact ⟨s.flt, rfl⟩

@[simp] theorem State.raiseInt_regs (s : State) (n : Nat) : (s.raiseInt n).regs = s.regs := by
  obtain ⟨i, t, h⟩ := s.raiseInt_only n
  rw [h]; rfl
@[simp] theorem State.raiseInt_cfg (s : State) (n : Nat) : (s.raiseInt n).cfg = s.cfg := by
  obtain ⟨i, t, h⟩ := s.raiseInt_only n
  rw [h]; rfl
@[simp] theorem State.raiseInt_eff (s : State) (n : Nat) : (s.raiseInt n).eff = s.eff := by
  obtain ⟨i, t, h⟩ := s.raiseInt_only n
  rw [h]; rfl
@[simp] theorem State.raiseInt_pwr (s : State) (n : Nat) : (s.raiseInt n).pwr = s.pwr := by
  obtain ⟨i, t, h⟩ := s.raiseInt_only n
  rw [h]; rfl
@[simp] theorem State.raiseInt_clk (s : State) (n : Nat) : (s.raiseInt n).clk = s.clk := by
  obtain ⟨i, t, h⟩ := s.raiseInt_only n
  rw [h]; rfl
@[simp] theorem State.raiseInt_hdRead (s : State) (n : Nat) : (s.raiseInt n).hdRead = s.hdRead := by
  obtain ⟨i, t, h⟩ := s.raiseInt_only n
  rw [h]; rfl
@[simp] theorem State.raiseInt_bus (s : State) (n : Nat) : (s.raiseInt n).bus = s.bus := by
  obtain ⟨i, t, h⟩ := s.raiseInt_only n
  rw [h]; rfl
@[simp] theorem State.raiseInt_spiPort (s : State) (n : Nat) : (s.raiseInt n).spiPort = s.spiPort := by
  obtain ⟨i, t, h⟩ := s.raiseInt_only n
  rw [h]; rfl
@[simp] theorem State.raiseInt_spi (s : State) (n : Nat) : (s.raiseInt n).spi = s.spi := by
  obtain ⟨i, t, h⟩ := s.raiseInt_only n
  rw [h]; rfl
@[simp] theorem State.raiseInt_rve (s : State) (n : Nat) : (s.raiseInt n).rve = s.rve := by
  obtain ⟨i, t, h⟩ := s.raiseInt_only n
  rw [h]; rfl
@[simp] theorem State.raiseInt_flt (s : State) (n : Nat) : (s.raiseInt n).flt = s.flt := by
  obtain ⟨i, t, h⟩ := s.raiseInt_only n
  rw [h]; rfl
@[simp] theorem State.raiseInt_cul (s : State) (n : Nat) : (s.raiseInt n).cul = s.cul := by
  obtain ⟨i, t, h⟩ := s.raiseInt_only n
  rw [h]; rfl
@[simp] theorem State.raiseInt_adc (s : State) (n : Nat) : (s.raiseInt n).adc = s.adc := by
  obtain ⟨i, t, h⟩ := s.raiseInt_only n
  rw [h]; rfl
@[simp] theorem State.raiseInt_dpc (s : State) (n : Nat) : (s.raiseInt n).dpc = s.dpc := by
  obtain ⟨i, t, h⟩ := s.raiseInt_only n
  rw [h]; rfl
@[simp] theorem State.raiseInt_mod (s : State) (n : Nat) : (s.raiseInt n).mod = s.mod := by
  obtain ⟨i, t, h⟩ := s.raiseInt_only n
  rw [h]; rfl
@[simp] theorem State.raiseInt_gdr (s : State) (n : Nat) : (s.raiseInt n).gdr = s.gdr := by
  obtain ⟨i, t, h⟩ := s.raiseInt_only n
  rw [h]; rfl
@[simp] theorem State.raiseInt_pins (s : State) (n : Nat) : (s.raiseInt n).pins = s.pins := by
  obtain ⟨i, t, h⟩ := s.raiseInt_only n
  rw [h]; rfl
@[simp] theorem State.raiseInt_lpe (s : State) (n : Nat) : (s.raiseInt n).lpe = s.lpe := by
  obtain ⟨i, t, h⟩ := s.raiseInt_only n
  rw [h]; rfl
@[simp] theorem State.raiseInt_wrd (s : State) (n : Nat) : (s.raiseInt n).wrd = s.wrd := by
  obtain ⟨i, t, h⟩ := s.raiseInt_only n
  rw [h]; rfl
@[simp] theorem State.raiseInt_vlt (s : State) (n : Nat) : (s.raiseInt n).vlt = s.vlt := by
  obtain ⟨i, t, h⟩ := s.raiseInt_only n
  rw [h]; rfl
@[simp] theorem State.raiseInt_thm (s : State) (n : Nat) : (s.raiseInt n).thm = s.thm := by
  obtain ⟨i, t, h⟩ := s.raiseInt_only n
  rw [h]; rfl
@[simp] theorem State.raiseInt_tim (s : State) (n : Nat) : (s.raiseInt n).tim = s.tim := by
  obtain ⟨i, t, h⟩ := s.raiseInt_only n
  rw [h]; rfl
@[simp] theorem State.raiseInt_net (s : State) (n : Nat) : (s.raiseInt n).net = s.net := by
  obtain ⟨i, t, h⟩ := s.raiseInt_only n
  rw [h]; rfl
@[simp] theorem State.raiseInt_stm (s : State) (n : Nat) : (s.raiseInt n).stm = s.stm := by
  obtain ⟨i, t, h⟩ := s.raiseInt_only n
  rw [h]; rfl
@[simp] theorem State.raiseInt_gal (s : State) (n : Nat) : (s.raiseInt n).gal = s.gal := by
  obtain ⟨i, t, h⟩ := s.raiseInt_only n
  rw [h]; rfl
@[simp] theorem State.raiseInt_twn (s : State) (n : Nat) : (s.raiseInt n).twn = s.twn := by
  obtain ⟨i, t, h⟩ := s.raiseInt_only n
  rw [h]; rfl
@[simp] theorem State.raiseInt_spr (s : State) (n : Nat) : (s.raiseInt n).spr = s.spr := by
  obtain ⟨i, t, h⟩ := s.raiseInt_only n
  rw [h]; rfl
@[simp] theorem State.raiseInt_wear (s : State) (n : Nat) : (s.raiseInt n).wear = s.wear := by
  obtain ⟨i, t, h⟩ := s.raiseInt_only n
  rw [h]; rfl
@[simp] theorem State.raiseInt_dripLost (s : State) (n : Nat) : (s.raiseInt n).dripLost = s.dripLost := by
  obtain ⟨i, t, h⟩ := s.raiseInt_only n
  rw [h]; rfl
@[simp] theorem State.raiseInt_free (s : State) (n : Nat) : (s.raiseInt n).free = s.free := by
  obtain ⟨i, t, h⟩ := s.raiseInt_only n
  rw [h]; rfl
@[simp] theorem State.raiseInt_pending (s : State) (n : Nat) : (s.raiseInt n).pending = s.pending := by
  obtain ⟨i, t, h⟩ := s.raiseInt_only n
  rw [h]; rfl
@[simp] theorem State.raiseFirst_regs (s : State) (n : Nat) : (s.raiseFirst n).regs = s.regs := by
  obtain ⟨i, t, h⟩ := s.raiseFirst_only n
  rw [h]; rfl
@[simp] theorem State.raiseFirst_cfg (s : State) (n : Nat) : (s.raiseFirst n).cfg = s.cfg := by
  obtain ⟨i, t, h⟩ := s.raiseFirst_only n
  rw [h]; rfl
@[simp] theorem State.raiseFirst_eff (s : State) (n : Nat) : (s.raiseFirst n).eff = s.eff := by
  obtain ⟨i, t, h⟩ := s.raiseFirst_only n
  rw [h]; rfl
@[simp] theorem State.raiseFirst_pwr (s : State) (n : Nat) : (s.raiseFirst n).pwr = s.pwr := by
  obtain ⟨i, t, h⟩ := s.raiseFirst_only n
  rw [h]; rfl
@[simp] theorem State.raiseFirst_clk (s : State) (n : Nat) : (s.raiseFirst n).clk = s.clk := by
  obtain ⟨i, t, h⟩ := s.raiseFirst_only n
  rw [h]; rfl
@[simp] theorem State.raiseFirst_hdRead (s : State) (n : Nat) : (s.raiseFirst n).hdRead = s.hdRead := by
  obtain ⟨i, t, h⟩ := s.raiseFirst_only n
  rw [h]; rfl
@[simp] theorem State.raiseFirst_bus (s : State) (n : Nat) : (s.raiseFirst n).bus = s.bus := by
  obtain ⟨i, t, h⟩ := s.raiseFirst_only n
  rw [h]; rfl
@[simp] theorem State.raiseFirst_spiPort (s : State) (n : Nat) : (s.raiseFirst n).spiPort = s.spiPort := by
  obtain ⟨i, t, h⟩ := s.raiseFirst_only n
  rw [h]; rfl
@[simp] theorem State.raiseFirst_spi (s : State) (n : Nat) : (s.raiseFirst n).spi = s.spi := by
  obtain ⟨i, t, h⟩ := s.raiseFirst_only n
  rw [h]; rfl
@[simp] theorem State.raiseFirst_rve (s : State) (n : Nat) : (s.raiseFirst n).rve = s.rve := by
  obtain ⟨i, t, h⟩ := s.raiseFirst_only n
  rw [h]; rfl
@[simp] theorem State.raiseFirst_flt (s : State) (n : Nat) : (s.raiseFirst n).flt = s.flt := by
  obtain ⟨i, t, h⟩ := s.raiseFirst_only n
  rw [h]; rfl
@[simp] theorem State.raiseFirst_cul (s : State) (n : Nat) : (s.raiseFirst n).cul = s.cul := by
  obtain ⟨i, t, h⟩ := s.raiseFirst_only n
  rw [h]; rfl
@[simp] theorem State.raiseFirst_adc (s : State) (n : Nat) : (s.raiseFirst n).adc = s.adc := by
  obtain ⟨i, t, h⟩ := s.raiseFirst_only n
  rw [h]; rfl
@[simp] theorem State.raiseFirst_dpc (s : State) (n : Nat) : (s.raiseFirst n).dpc = s.dpc := by
  obtain ⟨i, t, h⟩ := s.raiseFirst_only n
  rw [h]; rfl
@[simp] theorem State.raiseFirst_mod (s : State) (n : Nat) : (s.raiseFirst n).mod = s.mod := by
  obtain ⟨i, t, h⟩ := s.raiseFirst_only n
  rw [h]; rfl
@[simp] theorem State.raiseFirst_gdr (s : State) (n : Nat) : (s.raiseFirst n).gdr = s.gdr := by
  obtain ⟨i, t, h⟩ := s.raiseFirst_only n
  rw [h]; rfl
@[simp] theorem State.raiseFirst_pins (s : State) (n : Nat) : (s.raiseFirst n).pins = s.pins := by
  obtain ⟨i, t, h⟩ := s.raiseFirst_only n
  rw [h]; rfl
@[simp] theorem State.raiseFirst_lpe (s : State) (n : Nat) : (s.raiseFirst n).lpe = s.lpe := by
  obtain ⟨i, t, h⟩ := s.raiseFirst_only n
  rw [h]; rfl
@[simp] theorem State.raiseFirst_wrd (s : State) (n : Nat) : (s.raiseFirst n).wrd = s.wrd := by
  obtain ⟨i, t, h⟩ := s.raiseFirst_only n
  rw [h]; rfl
@[simp] theorem State.raiseFirst_vlt (s : State) (n : Nat) : (s.raiseFirst n).vlt = s.vlt := by
  obtain ⟨i, t, h⟩ := s.raiseFirst_only n
  rw [h]; rfl
@[simp] theorem State.raiseFirst_thm (s : State) (n : Nat) : (s.raiseFirst n).thm = s.thm := by
  obtain ⟨i, t, h⟩ := s.raiseFirst_only n
  rw [h]; rfl
@[simp] theorem State.raiseFirst_tim (s : State) (n : Nat) : (s.raiseFirst n).tim = s.tim := by
  obtain ⟨i, t, h⟩ := s.raiseFirst_only n
  rw [h]; rfl
@[simp] theorem State.raiseFirst_net (s : State) (n : Nat) : (s.raiseFirst n).net = s.net := by
  obtain ⟨i, t, h⟩ := s.raiseFirst_only n
  rw [h]; rfl
@[simp] theorem State.raiseFirst_stm (s : State) (n : Nat) : (s.raiseFirst n).stm = s.stm := by
  obtain ⟨i, t, h⟩ := s.raiseFirst_only n
  rw [h]; rfl
@[simp] theorem State.raiseFirst_gal (s : State) (n : Nat) : (s.raiseFirst n).gal = s.gal := by
  obtain ⟨i, t, h⟩ := s.raiseFirst_only n
  rw [h]; rfl
@[simp] theorem State.raiseFirst_twn (s : State) (n : Nat) : (s.raiseFirst n).twn = s.twn := by
  obtain ⟨i, t, h⟩ := s.raiseFirst_only n
  rw [h]; rfl
@[simp] theorem State.raiseFirst_spr (s : State) (n : Nat) : (s.raiseFirst n).spr = s.spr := by
  obtain ⟨i, t, h⟩ := s.raiseFirst_only n
  rw [h]; rfl
@[simp] theorem State.raiseFirst_wear (s : State) (n : Nat) : (s.raiseFirst n).wear = s.wear := by
  obtain ⟨i, t, h⟩ := s.raiseFirst_only n
  rw [h]; rfl
@[simp] theorem State.raiseFirst_dripLost (s : State) (n : Nat) : (s.raiseFirst n).dripLost = s.dripLost := by
  obtain ⟨i, t, h⟩ := s.raiseFirst_only n
  rw [h]; rfl
@[simp] theorem State.raiseFirst_free (s : State) (n : Nat) : (s.raiseFirst n).free = s.free := by
  obtain ⟨i, t, h⟩ := s.raiseFirst_only n
  rw [h]; rfl
@[simp] theorem State.raiseFirst_pending (s : State) (n : Nat) : (s.raiseFirst n).pending = s.pending := by
  obtain ⟨i, t, h⟩ := s.raiseFirst_only n
  rw [h]; rfl
@[simp] theorem State.fault_regs (s : State) (n : Nat) : (s.fault n).regs = s.regs := by
  obtain ⟨i, h⟩ := s.fault_only n
  rw [h]; rfl
@[simp] theorem State.fault_cfg (s : State) (n : Nat) : (s.fault n).cfg = s.cfg := by
  obtain ⟨i, h⟩ := s.fault_only n
  rw [h]; rfl
@[simp] theorem State.fault_eff (s : State) (n : Nat) : (s.fault n).eff = s.eff := by
  obtain ⟨i, h⟩ := s.fault_only n
  rw [h]; rfl
@[simp] theorem State.fault_pwr (s : State) (n : Nat) : (s.fault n).pwr = s.pwr := by
  obtain ⟨i, h⟩ := s.fault_only n
  rw [h]; rfl
@[simp] theorem State.fault_clk (s : State) (n : Nat) : (s.fault n).clk = s.clk := by
  obtain ⟨i, h⟩ := s.fault_only n
  rw [h]; rfl
@[simp] theorem State.fault_hdRead (s : State) (n : Nat) : (s.fault n).hdRead = s.hdRead := by
  obtain ⟨i, h⟩ := s.fault_only n
  rw [h]; rfl
@[simp] theorem State.fault_bus (s : State) (n : Nat) : (s.fault n).bus = s.bus := by
  obtain ⟨i, h⟩ := s.fault_only n
  rw [h]; rfl
@[simp] theorem State.fault_spiPort (s : State) (n : Nat) : (s.fault n).spiPort = s.spiPort := by
  obtain ⟨i, h⟩ := s.fault_only n
  rw [h]; rfl
@[simp] theorem State.fault_spi (s : State) (n : Nat) : (s.fault n).spi = s.spi := by
  obtain ⟨i, h⟩ := s.fault_only n
  rw [h]; rfl
@[simp] theorem State.fault_rve (s : State) (n : Nat) : (s.fault n).rve = s.rve := by
  obtain ⟨i, h⟩ := s.fault_only n
  rw [h]; rfl
@[simp] theorem State.fault_int (s : State) (n : Nat) : (s.fault n).int = s.int := by
  obtain ⟨i, h⟩ := s.fault_only n
  rw [h]; rfl
@[simp] theorem State.fault_str (s : State) (n : Nat) : (s.fault n).str = s.str := by
  obtain ⟨i, h⟩ := s.fault_only n
  rw [h]; rfl
@[simp] theorem State.fault_cul (s : State) (n : Nat) : (s.fault n).cul = s.cul := by
  obtain ⟨i, h⟩ := s.fault_only n
  rw [h]; rfl
@[simp] theorem State.fault_adc (s : State) (n : Nat) : (s.fault n).adc = s.adc := by
  obtain ⟨i, h⟩ := s.fault_only n
  rw [h]; rfl
@[simp] theorem State.fault_dpc (s : State) (n : Nat) : (s.fault n).dpc = s.dpc := by
  obtain ⟨i, h⟩ := s.fault_only n
  rw [h]; rfl
@[simp] theorem State.fault_mod (s : State) (n : Nat) : (s.fault n).mod = s.mod := by
  obtain ⟨i, h⟩ := s.fault_only n
  rw [h]; rfl
@[simp] theorem State.fault_gdr (s : State) (n : Nat) : (s.fault n).gdr = s.gdr := by
  obtain ⟨i, h⟩ := s.fault_only n
  rw [h]; rfl
@[simp] theorem State.fault_pins (s : State) (n : Nat) : (s.fault n).pins = s.pins := by
  obtain ⟨i, h⟩ := s.fault_only n
  rw [h]; rfl
@[simp] theorem State.fault_lpe (s : State) (n : Nat) : (s.fault n).lpe = s.lpe := by
  obtain ⟨i, h⟩ := s.fault_only n
  rw [h]; rfl
@[simp] theorem State.fault_wrd (s : State) (n : Nat) : (s.fault n).wrd = s.wrd := by
  obtain ⟨i, h⟩ := s.fault_only n
  rw [h]; rfl
@[simp] theorem State.fault_vlt (s : State) (n : Nat) : (s.fault n).vlt = s.vlt := by
  obtain ⟨i, h⟩ := s.fault_only n
  rw [h]; rfl
@[simp] theorem State.fault_thm (s : State) (n : Nat) : (s.fault n).thm = s.thm := by
  obtain ⟨i, h⟩ := s.fault_only n
  rw [h]; rfl
@[simp] theorem State.fault_tim (s : State) (n : Nat) : (s.fault n).tim = s.tim := by
  obtain ⟨i, h⟩ := s.fault_only n
  rw [h]; rfl
@[simp] theorem State.fault_net (s : State) (n : Nat) : (s.fault n).net = s.net := by
  obtain ⟨i, h⟩ := s.fault_only n
  rw [h]; rfl
@[simp] theorem State.fault_stm (s : State) (n : Nat) : (s.fault n).stm = s.stm := by
  obtain ⟨i, h⟩ := s.fault_only n
  rw [h]; rfl
@[simp] theorem State.fault_gal (s : State) (n : Nat) : (s.fault n).gal = s.gal := by
  obtain ⟨i, h⟩ := s.fault_only n
  rw [h]; rfl
@[simp] theorem State.fault_twn (s : State) (n : Nat) : (s.fault n).twn = s.twn := by
  obtain ⟨i, h⟩ := s.fault_only n
  rw [h]; rfl
@[simp] theorem State.fault_spr (s : State) (n : Nat) : (s.fault n).spr = s.spr := by
  obtain ⟨i, h⟩ := s.fault_only n
  rw [h]; rfl
@[simp] theorem State.fault_wear (s : State) (n : Nat) : (s.fault n).wear = s.wear := by
  obtain ⟨i, h⟩ := s.fault_only n
  rw [h]; rfl
@[simp] theorem State.fault_dripLost (s : State) (n : Nat) : (s.fault n).dripLost = s.dripLost := by
  obtain ⟨i, h⟩ := s.fault_only n
  rw [h]; rfl
@[simp] theorem State.fault_free (s : State) (n : Nat) : (s.fault n).free = s.free := by
  obtain ⟨i, h⟩ := s.fault_only n
  rw [h]; rfl
@[simp] theorem State.fault_pending (s : State) (n : Nat) : (s.fault n).pending = s.pending := by
  obtain ⟨i, h⟩ := s.fault_only n
  rw [h]; rfl
@[simp] theorem State.raiseInt_word (s : State) (n : Nat) (a : Nat) : (s.raiseInt n).word a = s.word a := by
  obtain ⟨i, t, h⟩ := s.raiseInt_only n
  rw [h]; rfl
@[simp] theorem State.raiseInt_get (s : State) (n : Nat) (f : Fld) : (s.raiseInt n).get f = s.get f := by
  obtain ⟨i, t, h⟩ := s.raiseInt_only n
  rw [h]; rfl
@[simp] theorem State.raiseInt_getS (s : State) (n : Nat) (f : Fld) : (s.raiseInt n).getS f = s.getS f := by
  obtain ⟨i, t, h⟩ := s.raiseInt_only n
  rw [h]; rfl
@[simp] theorem State.raiseInt_is (s : State) (n : Nat) (f : Fld) : (s.raiseInt n).is f = s.is f := by
  obtain ⟨i, t, h⟩ := s.raiseInt_only n
  rw [h]; rfl
@[simp] theorem State.raiseInt_effWord (s : State) (n : Nat) (a : Nat) : (s.raiseInt n).effWord a = s.effWord a := by
  obtain ⟨i, t, h⟩ := s.raiseInt_only n
  rw [h]; rfl
@[simp] theorem State.raiseInt_cf (s : State) (n : Nat) (f : Fld) : (s.raiseInt n).cf f = s.cf f := by
  obtain ⟨i, t, h⟩ := s.raiseInt_only n
  rw [h]; rfl
@[simp] theorem State.raiseInt_cfS (s : State) (n : Nat) (f : Fld) : (s.raiseInt n).cfS f = s.cfS f := by
  obtain ⟨i, t, h⟩ := s.raiseInt_only n
  rw [h]; rfl
@[simp] theorem State.raiseInt_cfIs (s : State) (n : Nat) (f : Fld) : (s.raiseInt n).cfIs f = s.cfIs f := by
  obtain ⟨i, t, h⟩ := s.raiseInt_only n
  rw [h]; rfl
@[simp] theorem State.raiseInt_logged (s : State) (n : Nat) (x : Nat) : (s.raiseInt n).logged x = s.logged x := by
  obtain ⟨i, t, h⟩ := s.raiseInt_only n
  rw [h]; rfl
@[simp] theorem State.raiseInt_cfgWord (s : State) (n : Nat) (a : Nat) : (s.raiseInt n).cfgWord a = s.cfgWord a := by
  obtain ⟨i, t, h⟩ := s.raiseInt_only n
  rw [h]; rfl
@[simp] theorem State.raiseInt_cfgOf (s : State) (n : Nat) (f : Fld) : (s.raiseInt n).cfgOf f = s.cfgOf f := by
  obtain ⟨i, t, h⟩ := s.raiseInt_only n
  rw [h]; rfl
@[simp] theorem State.raiseInt_isOn (s : State) (n : Nat) (p : Nat) : (s.raiseInt n).isOn p = s.isOn p := by
  obtain ⟨i, t, h⟩ := s.raiseInt_only n
  rw [h]; rfl
@[simp] theorem State.raiseInt_role (s : State) (n : Nat) : (s.raiseInt n).role = s.role := by
  obtain ⟨i, t, h⟩ := s.raiseInt_only n
  rw [h]; rfl
@[simp] theorem State.raiseInt_isStation (s : State) (n : Nat) : (s.raiseInt n).isStation = s.isStation := by
  obtain ⟨i, t, h⟩ := s.raiseInt_only n
  rw [h]; rfl
@[simp] theorem State.raiseInt_isCell (s : State) (n : Nat) : (s.raiseInt n).isCell = s.isCell := by
  obtain ⟨i, t, h⟩ := s.raiseInt_only n
  rw [h]; rfl
@[simp] theorem State.raiseInt_isPort (s : State) (n : Nat) : (s.raiseInt n).isPort = s.isPort := by
  obtain ⟨i, t, h⟩ := s.raiseInt_only n
  rw [h]; rfl
@[simp] theorem State.raiseInt_isTwinB (s : State) (n : Nat) : (s.raiseInt n).isTwinB = s.isTwinB := by
  obtain ⟨i, t, h⟩ := s.raiseInt_only n
  rw [h]; rfl
@[simp] theorem State.raiseInt_awake (s : State) (n : Nat) : (s.raiseInt n).awake = s.awake := by
  obtain ⟨i, t, h⟩ := s.raiseInt_only n
  rw [h]; rfl
@[simp] theorem State.raiseInt_nowNs (s : State) (n : Nat) : (s.raiseInt n).nowNs = s.nowNs := by
  obtain ⟨i, t, h⟩ := s.raiseInt_only n
  rw [h]; rfl
@[simp] theorem State.raiseInt_cport (s : State) (n : Nat) (x : Nat) : (s.raiseInt n).cport x = s.cport x := by
  obtain ⟨i, t, h⟩ := s.raiseInt_only n
  rw [h]; rfl
@[simp] theorem State.raiseFirst_word (s : State) (n : Nat) (a : Nat) : (s.raiseFirst n).word a = s.word a := by
  obtain ⟨i, t, h⟩ := s.raiseFirst_only n
  rw [h]; rfl
@[simp] theorem State.raiseFirst_get (s : State) (n : Nat) (f : Fld) : (s.raiseFirst n).get f = s.get f := by
  obtain ⟨i, t, h⟩ := s.raiseFirst_only n
  rw [h]; rfl
@[simp] theorem State.raiseFirst_getS (s : State) (n : Nat) (f : Fld) : (s.raiseFirst n).getS f = s.getS f := by
  obtain ⟨i, t, h⟩ := s.raiseFirst_only n
  rw [h]; rfl
@[simp] theorem State.raiseFirst_is (s : State) (n : Nat) (f : Fld) : (s.raiseFirst n).is f = s.is f := by
  obtain ⟨i, t, h⟩ := s.raiseFirst_only n
  rw [h]; rfl
@[simp] theorem State.raiseFirst_effWord (s : State) (n : Nat) (a : Nat) : (s.raiseFirst n).effWord a = s.effWord a := by
  obtain ⟨i, t, h⟩ := s.raiseFirst_only n
  rw [h]; rfl
@[simp] theorem State.raiseFirst_cf (s : State) (n : Nat) (f : Fld) : (s.raiseFirst n).cf f = s.cf f := by
  obtain ⟨i, t, h⟩ := s.raiseFirst_only n
  rw [h]; rfl
@[simp] theorem State.raiseFirst_cfS (s : State) (n : Nat) (f : Fld) : (s.raiseFirst n).cfS f = s.cfS f := by
  obtain ⟨i, t, h⟩ := s.raiseFirst_only n
  rw [h]; rfl
@[simp] theorem State.raiseFirst_cfIs (s : State) (n : Nat) (f : Fld) : (s.raiseFirst n).cfIs f = s.cfIs f := by
  obtain ⟨i, t, h⟩ := s.raiseFirst_only n
  rw [h]; rfl
@[simp] theorem State.raiseFirst_logged (s : State) (n : Nat) (x : Nat) : (s.raiseFirst n).logged x = s.logged x := by
  obtain ⟨i, t, h⟩ := s.raiseFirst_only n
  rw [h]; rfl
@[simp] theorem State.raiseFirst_cfgWord (s : State) (n : Nat) (a : Nat) : (s.raiseFirst n).cfgWord a = s.cfgWord a := by
  obtain ⟨i, t, h⟩ := s.raiseFirst_only n
  rw [h]; rfl
@[simp] theorem State.raiseFirst_cfgOf (s : State) (n : Nat) (f : Fld) : (s.raiseFirst n).cfgOf f = s.cfgOf f := by
  obtain ⟨i, t, h⟩ := s.raiseFirst_only n
  rw [h]; rfl
@[simp] theorem State.raiseFirst_isOn (s : State) (n : Nat) (p : Nat) : (s.raiseFirst n).isOn p = s.isOn p := by
  obtain ⟨i, t, h⟩ := s.raiseFirst_only n
  rw [h]; rfl
@[simp] theorem State.raiseFirst_role (s : State) (n : Nat) : (s.raiseFirst n).role = s.role := by
  obtain ⟨i, t, h⟩ := s.raiseFirst_only n
  rw [h]; rfl
@[simp] theorem State.raiseFirst_isStation (s : State) (n : Nat) : (s.raiseFirst n).isStation = s.isStation := by
  obtain ⟨i, t, h⟩ := s.raiseFirst_only n
  rw [h]; rfl
@[simp] theorem State.raiseFirst_isCell (s : State) (n : Nat) : (s.raiseFirst n).isCell = s.isCell := by
  obtain ⟨i, t, h⟩ := s.raiseFirst_only n
  rw [h]; rfl
@[simp] theorem State.raiseFirst_isPort (s : State) (n : Nat) : (s.raiseFirst n).isPort = s.isPort := by
  obtain ⟨i, t, h⟩ := s.raiseFirst_only n
  rw [h]; rfl
@[simp] theorem State.raiseFirst_isTwinB (s : State) (n : Nat) : (s.raiseFirst n).isTwinB = s.isTwinB := by
  obtain ⟨i, t, h⟩ := s.raiseFirst_only n
  rw [h]; rfl
@[simp] theorem State.raiseFirst_awake (s : State) (n : Nat) : (s.raiseFirst n).awake = s.awake := by
  obtain ⟨i, t, h⟩ := s.raiseFirst_only n
  rw [h]; rfl
@[simp] theorem State.raiseFirst_nowNs (s : State) (n : Nat) : (s.raiseFirst n).nowNs = s.nowNs := by
  obtain ⟨i, t, h⟩ := s.raiseFirst_only n
  rw [h]; rfl
@[simp] theorem State.raiseFirst_cport (s : State) (n : Nat) (x : Nat) : (s.raiseFirst n).cport x = s.cport x := by
  obtain ⟨i, t, h⟩ := s.raiseFirst_only n
  rw [h]; rfl
@[simp] theorem State.fault_word (s : State) (n : Nat) (a : Nat) : (s.fault n).word a = s.word a := by
  obtain ⟨i, h⟩ := s.fault_only n
  rw [h]; rfl
@[simp] theorem State.fault_get (s : State) (n : Nat) (f : Fld) : (s.fault n).get f = s.get f := by
  obtain ⟨i, h⟩ := s.fault_only n
  rw [h]; rfl
@[simp] theorem State.fault_getS (s : State) (n : Nat) (f : Fld) : (s.fault n).getS f = s.getS f := by
  obtain ⟨i, h⟩ := s.fault_only n
  rw [h]; rfl
@[simp] theorem State.fault_is (s : State) (n : Nat) (f : Fld) : (s.fault n).is f = s.is f := by
  obtain ⟨i, h⟩ := s.fault_only n
  rw [h]; rfl
@[simp] theorem State.fault_effWord (s : State) (n : Nat) (a : Nat) : (s.fault n).effWord a = s.effWord a := by
  obtain ⟨i, h⟩ := s.fault_only n
  rw [h]; rfl
@[simp] theorem State.fault_cf (s : State) (n : Nat) (f : Fld) : (s.fault n).cf f = s.cf f := by
  obtain ⟨i, h⟩ := s.fault_only n
  rw [h]; rfl
@[simp] theorem State.fault_cfS (s : State) (n : Nat) (f : Fld) : (s.fault n).cfS f = s.cfS f := by
  obtain ⟨i, h⟩ := s.fault_only n
  rw [h]; rfl
@[simp] theorem State.fault_cfIs (s : State) (n : Nat) (f : Fld) : (s.fault n).cfIs f = s.cfIs f := by
  obtain ⟨i, h⟩ := s.fault_only n
  rw [h]; rfl
@[simp] theorem State.fault_logged (s : State) (n : Nat) (x : Nat) : (s.fault n).logged x = s.logged x := by
  obtain ⟨i, h⟩ := s.fault_only n
  rw [h]; rfl
@[simp] theorem State.fault_cfgWord (s : State) (n : Nat) (a : Nat) : (s.fault n).cfgWord a = s.cfgWord a := by
  obtain ⟨i, h⟩ := s.fault_only n
  rw [h]; rfl
@[simp] theorem State.fault_cfgOf (s : State) (n : Nat) (f : Fld) : (s.fault n).cfgOf f = s.cfgOf f := by
  obtain ⟨i, h⟩ := s.fault_only n
  rw [h]; rfl
@[simp] theorem State.fault_isOn (s : State) (n : Nat) (p : Nat) : (s.fault n).isOn p = s.isOn p := by
  obtain ⟨i, h⟩ := s.fault_only n
  rw [h]; rfl
@[simp] theorem State.fault_role (s : State) (n : Nat) : (s.fault n).role = s.role := by
  obtain ⟨i, h⟩ := s.fault_only n
  rw [h]; rfl
@[simp] theorem State.fault_isStation (s : State) (n : Nat) : (s.fault n).isStation = s.isStation := by
  obtain ⟨i, h⟩ := s.fault_only n
  rw [h]; rfl
@[simp] theorem State.fault_isCell (s : State) (n : Nat) : (s.fault n).isCell = s.isCell := by
  obtain ⟨i, h⟩ := s.fault_only n
  rw [h]; rfl
@[simp] theorem State.fault_isPort (s : State) (n : Nat) : (s.fault n).isPort = s.isPort := by
  obtain ⟨i, h⟩ := s.fault_only n
  rw [h]; rfl
@[simp] theorem State.fault_isTwinB (s : State) (n : Nat) : (s.fault n).isTwinB = s.isTwinB := by
  obtain ⟨i, h⟩ := s.fault_only n
  rw [h]; rfl
@[simp] theorem State.fault_awake (s : State) (n : Nat) : (s.fault n).awake = s.awake := by
  obtain ⟨i, h⟩ := s.fault_only n
  rw [h]; rfl
@[simp] theorem State.fault_nowNs (s : State) (n : Nat) : (s.fault n).nowNs = s.nowNs := by
  obtain ⟨i, h⟩ := s.fault_only n
  rw [h]; rfl
@[simp] theorem State.fault_cport (s : State) (n : Nat) (x : Nat) : (s.fault n).cport x = s.cport x := by
  obtain ⟨i, h⟩ := s.fault_only n
  rw [h]; rfl

end Sys2Proof.Machine
end

