-- ==== Sys2Proof/Laws/Frame.lean ====
section
/-! SUPPORT. Laws of what stays as it is: register bits outside the fields written. -/
namespace Sys2Proof.Machine

theorem State.sameBits_refl (s : State) (l : List Fld) : s.sameBits s l := fun _ _ _ _ => rfl

theorem inFields_mono {l k : List Fld} (h : ∀ f ∈ l, f ∈ k) {a i : Nat} : inFields l a i → inFields k a i := by
  rintro ⟨f, hf, r⟩
  exact ⟨f, h f hf, r⟩

theorem State.sameBits_mono {s t : State} {l k : List Fld} (h : s.sameBits t l) (hk : ∀ f ∈ l, f ∈ k) : s.sameBits t k :=
  fun a i hi hn => h a i hi (fun hl => hn (inFields_mono hk hl))

theorem State.sameBits_trans {s t u : State} {l : List Fld} (h : s.sameBits t l) (h' : t.sameBits u l) : s.sameBits u l :=
  fun a i hi hn => (h' a i hi hn).trans (h a i hi hn)

/-- A write of a listed field leaves every bit outside the list. -/
theorem State.sameBits_put {s t : State} {l : List Fld} (h : s.sameBits t l) (f : Fld) (v : Nat) (hf : f ∈ l) :
    s.sameBits (t.put f v) l := by
  refine State.sameBits_trans h (fun a i hi hn => ?_)
  rw [State.word_put]
  split
  · rename_i e
    rw [setBits_getLsbD _ _ _ _ _ hi, if_neg, e]
    exact fun hb => hn ⟨f, hf, e.symm, hb⟩
  · rfl

/-- A state with the same registers has the same bits. -/
theorem State.sameBits_of_regs {s t u : State} {l : List Fld} (h : s.sameBits t l) (e : u.regs = t.regs) : s.sameBits u l := by
  intro a i hi hn
  have := h a i hi hn
  simpa [State.word, e] using this

/-- A field apart from every field of the list is as before. -/
theorem State.get_of_sameBits {s t : State} {l : List Fld} (h : s.sameBits t l) (g : Fld) (hg : g.lo + g.w ≤ 32)
    (ha : ∀ f ∈ l, f.addr ≠ g.addr ∨ f.lo + f.w ≤ g.lo ∨ g.lo + g.w ≤ f.lo) : t.get g = s.get g := by
  apply Nat.eq_of_testBit_eq
  intro i
  simp only [State.get, bitsOf_testBit]
  by_cases hi : i < g.w
  · rw [h g.addr (g.lo + i) (by omega)]
    rintro ⟨f, hf, e, h1, h2⟩
    rcases ha f hf with h3 | h3 | h3
    · exact h3 e
    · omega
    · omega
  · simp [hi]

theorem State.onlyFields_refl (s : State) (l : List Fld) : s.onlyFields s l := ⟨rfl, s.sameBits_refl l⟩

theorem State.onlyFields_put {s t : State} {l : List Fld} (h : s.onlyFields t l) (f : Fld) (v : Nat) (hf : f ∈ l) :
    s.onlyFields (t.put f v) l := by
  refine ⟨?_, State.sameBits_put h.2 f v hf⟩
  have := h.1
  rw [this]
  rfl

theorem State.onlyFields_mono {s t : State} {l k : List Fld} (h : s.onlyFields t l) (hk : ∀ f ∈ l, f ∈ k) : s.onlyFields t k :=
  ⟨h.1, State.sameBits_mono h.2 hk⟩

end Sys2Proof.Machine
end

