-- ==== Sys2Proof/Laws/Inv.lean ====
section
/-! SUPPORT. `State.Inv` as a test that evaluates. -/
namespace Sys2Proof.Machine

/-- The conditions of `State.Inv`, evaluated. -/
def State.invB (s : State) : Bool :=
  Memory.wf s.gal.mem && SMap.wf s.regs && SMap.wf s.cfg && SMap.wf s.eff
    && s.vlt.slots.all (fun x => match x with | some y => SMap.wf y.cfg | none => true)
    && decide (s.str.log.length ≤ 4096) && s.str.queues.all (fun q => decide (q.length ≤ 16))
    && decide (s.gal.records.length ≤ 64) && decide (s.net.count ≤ 8)
    && s.str.queues.length == 4 && s.rve.mb.length == 11 && s.cul.ports.length == 10 && s.adc.conv.length == 4
    && s.gal.prof.length == 4 && s.gdr.cause.length == 4 && s.flt.events.length == 4 && s.flt.escalated.length == 4 && s.mod.func.length == 4
    && s.net.waiting.length == 2 && s.net.sending.length == 2 && s.net.rx.length == 8 && s.net.tx.length == 4
    && s.net.tx.all (fun x => x.stamps.length == 2 && x.fracs.length == 2)
    && s.stm.pub.length == 8 && s.stm.sub.length == 16 && s.stm.gpub.length == 16 && s.stm.gsub.length == 64

/-- A state that passes the test is well formed. -/
theorem State.inv_of_invB {s : State} (h : s.invB = true) : s.Inv := by
  simp only [State.invB, Bool.and_eq_true, List.all_eq_true, decide_eq_true_eq, beq_iff_eq, and_assoc] at h
  obtain ⟨h1, h2, h3, h4, h5, h6, h7, h8, h9, h10, h11, h12, h13, h14, h15, h16, h17, h18, h19, h20, h21, h22, h23, h24, h25, h26, h27⟩ := h
  refine ⟨h1, h2, h3, h4, ?_, h6, h7, h8, h9, h10, h11, h12, h13, h14, h15, h16, h17, h18, h19, h20, h21, h22, h23, h24, h25, h26, h27⟩
  intro x hx y hy
  subst hy
  exact h5 _ hx

end Sys2Proof.Machine
end

