-- ==== Sys2Proof/WellFormed.lean ====
section
/-! DEFINITION. Well-formed commands: operands within the ranges that the part has. -/
namespace Sys2Proof

/-- A port, ring, converter or mailbox number in range. -/
def portNo (n : Nat) : Bool := decide (n < 10)
def ringNo (n : Nat) : Bool := decide (n < 4)
def converterNo (n : Nat) : Bool := decide (n < 4)

/-- A mailbox whose commands are taken: M0 to M3, and 4, the partner's copy (04_host_reeve.md R124, 16_spares_twins.md R447). -/
def mailboxNo (n : Nat) : Bool := decide (n < 5)

/-- A tide frame has 16 header bytes and a body of 32 to 472 bytes (05_culvert.md R153, R154). -/
def frameForm (f : Machine.TideFrame) : Bool := f.header.length == 16 && decide (32 ≤ f.body.length) && decide (f.body.length ≤ 472)

/-- The operands of a command are within the ranges of the spec. -/
def Instr.wf (i : Instr) : Bool :=
  match i with
  | .laneWakeLatch p | .rxClockDetect p | .rxWordLock p | .rxDeskewSet p _ | .rxUp p _ | .rxDown p _ | .rxRealign p _
  | .portReady p | .portStatusReceived p _ _ | .laneActivity p => portNo p
  | .tideFrameReceived p f _ => portNo p && frameForm f
  | .twinLinkFrameReceived f _ _ => frameForm f
  | .guardChangeAccepted l _ => decide (l < 4)
  | .wakeDuringAwake src => match src with
    | .lane n => portNo n
    | _ => true
  | .polderPowerGood p _ | .polderStartFailure p => decide (1 ≤ p) && decide (p ≤ 15)
  | .culvertPolderIdleStop p => p == 5 || p == 6
  | .doorbell _ n _ => decide (n < 4)
  | .responseComplete n | .identify n _ | .status n | .sleep n | .wakeRemote n _ _ | .configWrite n | .configRead n
  | .vaultCommit n | .journalRead n _ | .vaultExport n _ | .adcCalibrate n | .thermalMeasure n | .clockRelock n
  | .ringDiscover n _ | .ringAlign n _ _ _ | .laneSleep n | .laneWake n | .cellBringIn n _ _ | .cellRetire n | .twinSwap n
  | .twinResync n | .captureArm n | .captureRead n | .captureDisarm n | .faultAck n | .faultInject n _ | .remote n =>
    mailboxNo n
  | .remoteTimeout r | .periodicUnwrap r | .messageAckTimeout r | .messageBusyRetry r => ringNo r
  | .triggerTokenRaise l o => decide (l < 32) && decide (o < 6400)
  | .adcRoundStart c | .adcResult c _ => converterNo c
  | .modulatorAdcStart c _ h => converterNo c && decide (h < 4)
  | .dabHalfCycleEdge b | .dabQuarterPoint b _ => decide (b < 2)
  | .tripActive t | .tripInactive t => decide (t < 4)
  | .desaturation c | .channelUndervoltage c _ | .dieRefreshLoss c => decide (c < 9)
  | .bothOnRefused h | .halfBridgeHoldEnd h | .bootstrapWarn h | .bootstrapMaxReached h _ | .dieBootstrapLimit h =>
    decide (h < 4)
  | .ovComparatorChange k _ => decide (1 ≤ k) && decide (k ≤ 3)
  | .faultEvent n | .brokenErrorWire n | .errorWireRestored n => decide (n < 128)
  | .intPendWrite k _ | .intEnWrite k _ => decide (k < 8)
  | .intTgtWrite j _ => decide (j < 16)
  | .hsleepChange t _ => decide (t < 4)
  | .wardenInputFiltered _ k _ => decide (k < 3)
  | .substitutionEnd _ r q m => ringNo r && decide (q ≤ 96) && decide (m < 5)
  | .ethFrameReceived p _ _ _ _ | .ethFrameSent p _ _ | .timedLaunch p | .linkChange p _ _ => decide (p < 2)
  | .hostTxGo j _ => decide (j < 4)
  | .svSubscriptionTimeout j | .gooseNewState j | .gooseRepeat j => decide (j < 16)
  | .gooseDeadlinePassed j => decide (j < 64)
  | .gallerySample k => decide (k < 5)
  | .holdoffEnd p => decide (p < 4)
  | _ => true

end Sys2Proof
end

