-- ==== Sys2Proof/Tests/Slice0.lean ====
section
/-! SUPPORT. Own tests: ill-formed operands are refused; one step on small states; states and operands that meet the
hypotheses of the statements. Expected values are hand-computed from the rules named. -/
namespace Sys2Proof.Tests
open Machine

/-! ## Small states -/

/-- A station, a cell and a port device in READY with every polder of the role on. -/
def station : State := { State.reset with pwr := { State.reset.pwr with phase := .ready, on := 0xFFFF, startCause := false } }
def cell : State := station.withPwr { station.pwr with on := 0xFE3F, latch := some ⟨false, true, false, false⟩ }
def port : State := station.withPwr { station.pwr with on := 0xFE3F, latch := some ⟨true, false, false, false⟩ }
/-- A station in twin operation, in state `v` of Table 16-1. -/
def twinned (v : Nat) : State := (station.withTwn { station.twn with operating := true }).put F.TWN_STATUS_STATE v

/-- A key committed and in force. -/
def key (s : State) (f : Fld) (v : Nat) : State :=
  let w := setBits (s.cfgWord f.addr) f.lo f.w v
  (s.withCfg (SMap.set s.cfg f.addr w)).withEff (SMap.set s.eff f.addr w)
/-- Mailbox `n` executes a request. -/
def ask (s : State) (n : Nat) (req : List Byte) : State :=
  (s.setMb n { s.mb n with req := padTo 64 req }).put (F.RVE_Mn_STATE_STATE n) mbExecuting
/-- Mailbox `n` in a state. -/
def mbox (s : State) (n v : Nat) : State := s.put (F.RVE_Mn_STATE_STATE n) v
/-- Resources held by the device itself. -/
def holds (s : State) (r : BitVec 10) : State := s.withRve { s.rve with autoHeld := r }
/-- Without polder `p`. -/
def off (s : State) (p : Nat) : State := s.withPwr { s.pwr with on := s.pwr.on &&& ~~~(1#16 <<< p) }
def inPhase (s : State) (p : Phase) : State := s.withPwr { s.pwr with phase := p }
def dark : State := State.reset.withPwr { State.reset.pwr with vcrest := false, on := 0, latch := none }
/-- Both Warden enables present. -/
def released (s : State) : State :=
  (((s.put F.WRD_A_STATUS_ENABLE 1).put F.WRD_B_STATUS_ENABLE 1).put F.WRD_A_STATUS_STATE 3).put
    (wrdFld true F.WRD_A_STATUS_STATE) 3

/-! ## Hypotheses of the statements are met -/

theorem test_hyps_step : ({ station with pending := [.netRxPop] } : State).pending = .netRxPop :: [] ∧ station.pending = [] := by
  decide
theorem test_step_next : step station = .next station.idle := rfl
theorem test_step_rest : step { station with pending := [.netRxPop, .modEnWrite false] } =
    .next (station.withQueue [.modEnWrite false]) := rfl
theorem test_inv_station : station.Inv := State.inv_of_invB (by decide)
theorem test_capture_kept : exec .netRxPop station = .next station.rxPop ∧ station.rxPop.isOn 9 = true := ⟨rfl, by decide⟩
theorem test_capture_lost : (station.polderOff 9).isOn 9 = false ∧ (station.polderOff 9).gal.mem = [] := by decide
theorem test_hyps_winner : station.int.race.getD 0 none = none ∧
    (({ station.int with pend := 1 <<< 255, en := 1 <<< 255 } : IntSt).presented 255 0 = true) ∧ station.isOn 1 = true := by
  decide +kernel
theorem test_hyps_settle : SMap.wf (key station F.PWR_WAKE_EN_LANE_EN 1).eff = true := by decide

/-! Power (R54, R55, R79 to R81, R84, R85, R102). -/

theorem test_hyps_supply : station.pwr.vcrest = true ∧ dark.pwr.vcrest = false ∧ station.pwr.phase ≠ .crest ∧
    State.reset.pwr.phase = .crest := by decide
def alarm : State := (key station F.PWR_WAKE_EN_ALARM_EN 1).put F.PWR_STATE_DRIP_OK 1
theorem test_hyps_wake : alarm.word R.PWR_DRIP_COUNT = alarm.word R.PWR_DRIP_ALARM ∧ alarm.cfIs F.PWR_WAKE_EN_ALARM_EN = true ∧
    alarm.is F.PWR_STATE_DRIP_OK = true ∧ station.cfIs F.PWR_WAKE_EN_ALARM_EN = false ∧
    station.pwr.guardAccepted.getLsbD 3 ≠ true ∧ (key station F.PWR_WAKE_EN_GUARD_EN 1).cfIs F.PWR_WAKE_EN_GUARD_EN = true := by
  decide
def lost : State := State.reset.withPwr { State.reset.pwr with suppliesGood := false }
def lostAwake : State := station.withPwr { station.pwr with suppliesGood := false }
theorem test_hyps_supply_return : lost.pwr.suppliesGood = false ∧ lost.pwr.phase = .crest ∧ lostAwake.pwr.suppliesGood = false ∧
    lostAwake.pwr.phase ≠ .crest := by decide
def lane9 : State := off (key station F.PWR_WAKE_EN_LANE_EN 0x200) 6
theorem test_hyps_lane_wake : natBit (lane9.cf F.PWR_WAKE_EN_LANE_EN) 9 = true ∧ lane9.awake = true ∧
    (rolePolders lane9.role).contains (portPolder 9) = true ∧ lane9.servicePlan = false ∧ lane9.isOn (portPolder 9) = false ∧
    lane9.isOn 4 = true ∧ lane9.isOn 1 = true ∧ lane9.pwr.blocked = false ∧ lane9.pwr.starting = [] ∧ lane9.pwr.queue = [] := by
  decide
theorem test_hyps_wake_awake : alarm.armed .drip = true ∧ alarm.armed .waken = true ∧ alarm.armed (.lane 3) = false ∧
    alarm.awake = true := by decide
theorem test_hyps_startup : State.reset.requested = true ∧ State.reset.role ≠ .none ∧ State.reset.isOn 4 = false ∧
    State.reset.pwr.phase = .crest ∧ station.pwr.phase ≠ .crest := by decide
def loading : State := inPhase (off (off station 6) 7) .starting
def locked (s : State) : State := s.put F.CLK_STATUS_LOCKED 1
def milestone : State := locked (State.reset.withPwr { State.reset.pwr with
  phase := .starting, on := 0x801F, thermalDone := true, configDone := true })
def milestoneCell : State := milestone.withPwr { milestone.pwr with latch := some ⟨false, true, false, false⟩ }
def almost : State := locked (station.withPwr { station.pwr with phase := .starting, calDone := true })
theorem test_hyps_startup_steps : loading.isOn 2 = true ∧ loading.pwr.configDone = false ∧ loading.pwr.phase = .starting ∧
    milestone.is F.CLK_STATUS_LOCKED = true ∧ milestone.pwr.calStarted = false ∧ milestone.role = .station ∧
    milestoneCell.role = .cell ∧ milestone.invB = true ∧
    ((rolePolders almost.role).all (fun p => p == 5 || p == 6 || almost.isOn p)) = true ∧
    almost.is F.CLK_STATUS_LOCKED = true ∧ almost.clk.relock = none ∧ almost.invB = true := by decide
def waitsP0 : State := cell.withClk { cell.clk with waitP0 := true }
theorem test_hyps_p0 : waitsP0.clk.waitP0 = true ∧ waitsP0.isOn 2 = true := by decide
def starting (p : Nat) : State := (off station p).withPwr { (off station p).pwr with starting := [p] }
theorem test_hyps_polders : (starting 1).pwr.starting.contains 1 = true ∧ (starting 15).pwr.starting.contains 15 = true ∧
    station.portsAsleep 5 = true ∧ station.portsAsleep 6 = true ∧ station.isOn 5 = true := by decide
def living : State := (station.put F.PWR_STATE_DRIP_OK 1).withFlt { station.flt with readyOnce := true }
def alive : State := living.withFlt { living.flt with aliveRun := true }
theorem test_hyps_alive : alive.aliveMayRun = true ∧ alive.flt.aliveRun = true ∧ living.aliveMayRun = true ∧
    living.flt.aliveRun = false ∧ station.aliveMayRun = false := by decide
def attempt (s : State) (a : Attempt) : State := s.withClk { s.clk with attempt := a }
def retrying : State := station.withClk { station.clk with retry := true }
def held : State := station.put F.CLK_STATUS_HOLDOVER 1
def syncing : State := key station F.CLK_CONFIG_CLK_SYNC_EN 1
def synced : State := ((locked syncing).put F.CLK_STATUS_GATED 0).withClk { station.clk with everLocked := true }
theorem test_hyps_clock : (attempt station .stored).clk.attempt = .stored ∧ (attempt station .full).clk.relock = none ∧
    retrying.clk.retry = true ∧ (locked station).is F.CLK_STATUS_LOCKED = true ∧ held.is F.CLK_STATUS_HOLDOVER = true ∧
    held.clk.stay = false ∧ syncing.cfIs F.CLK_CONFIG_CLK_SYNC_EN = true ∧ syncing.clk.everLocked = false ∧
    synced.is F.CLK_STATUS_GATED = false ∧ synced.clk.everLocked = true ∧
    synced.cfIs F.CLK_CONFIG_CLK_SYNC_EDGE = false := by decide
def relock (a : Byte) : State := ask station 0 [0x28, 7, 4, 0, a]
theorem test_hyps_relock : (relock 0).takes 0 0x28 = true ∧ ((relock 0).mb 0).arg 1 3 = 0 ∧ ((relock 4).mb 0).arg 0 1 = b2n true * 4 ∧
    (relock 0).held &&& resClock = 0 ∧ (holds (relock 0) resClock).held &&& resClock ≠ 0 ∧ (relock 0).anyTxAwake = false ∧
    (relock 0).pulseBlocked = true ∧ (released (relock 0)).pulseBlocked = false ∧ (relock 1).servicePlan = false ∧
    ((relock 1).mb 0).arg 0 1 = 1 ∧ (relock 0).invB = true ∧ (ask cell 0 [0x28, 7, 4, 0, 5]).isStation = false ∧
    ((relock 8).mb 0).arg 0 1 / 8 ≠ 0 ∧ ((relock 2).mb 0).arg 0 1 % 4 = 2 := by decide

/-! Thermal, host accesses, mailboxes, Vault (R65 to R68, R112 to R130, R374 to R387). -/

def reading (s : State) : State := (s.put F.THM_DIE_BUSY 1).withPwr { s.pwr with thermalDone := true }
def firstReading : State := inPhase station .starting
theorem test_hyps_thermal : (key station F.THM_CONFIG_THM_DEMAND_PERIOD 5).cf F.THM_CONFIG_THM_DEMAND_PERIOD ≠ 0 ∧ (ask station 3 [0x21, 1]).takes 3 0x21 = true ∧
    (reading station).is F.THM_DIE_BUSY = true ∧ (reading station).vlt.op = none ∧ (reading station).pwr.phase = .ready ∧
    toSigned 16 (0#16).toNat < thermalShutdown ∧ thermalShutdown ≤ toSigned 16 (0x7FFF#16).toNat ∧
    firstReading.pwr.thermalDone = false ∧ firstReading.isOn 2 = true ∧ (reading station).invB = true := by decide
def snapped : State := station.withBus { snap := some (0x20, [0x89ABCDEF], 1) }
def half : State := station.withBus { wbuf := some (0x20, [(0, 0xCDEF)]) }
theorem test_hyps_bus : (0x20#24).toNat % 4 = 0 ∧ itemAt 0x20 = (0x20, 1) ∧ (0x22#24).toNat % 4 = 2 ∧
    snapped.bus.snap = some (0x20, [0x89ABCDEF#32], 1) ∧ half.bus.wbuf = some (0x20, [(0, 0xCDEF)]) ∧
    (off station 1).isOn 1 = false := by decide
def spi (s : State) (p : SpiPhase) : State := s.withSpi { s.spi with phase := p, addr := 0x20, captured := [(0x20, [7], 7, true)] }
theorem test_hyps_spi : bitsOf 0x40000020#32 24 6 = 0 ∧ bitsOf 0x40000020#32 0 24 % 4 = 0 ∧ (0x40000020#32).getLsbD 31 = false ∧
    bitsOf 0x01000020#32 24 6 ≠ 0 ∧ station.spi.phase = .idle ∧ (spi station .writing).spi.phase = .writing ∧
    (spi station .reading).spi.phase = .reading ∧ (spi station .reading).spi.captured = (0x20, [7#32], 7#32, true) :: [] := by
  decide
theorem test_hyps_writes : station.role ≠ .none ∧ station.isOn 12 = true ∧ (0x20#24).toNat = 0x000020 ∧
    (findReg 0x60108).isSome = true ∧ (0x60108 : Nat) < 0xD0000 ∧ 0x60108 % 4 = 0 ∧
    (findReg 0x60108).all (fun r => r.words == 1 && !cell.hostHas r) = true := by decide
theorem test_hyps_doorbell : (1#32).getLsbD 0 = true ∧ station.mbState Port.bus.mailbox = mbIdle ∧
    (mbox station 1 mbDone).mbState Port.spi.mailbox = mbDone ∧ (mbox station 0 mbQueued).mbState Port.bus.mailbox = mbQueued ∧
    (mbox station 1 mbExecuting).mbState Port.spi.mailbox = mbExecuting := by decide
def queued : State := mbox (mbox ((station.setMb 2 { station.mb 2 with req := padTo 64 [2, 9] })) 2 mbQueued) 3 mbQueued
theorem test_hyps_take : queued.mbState ((queued.rve.last + 1 + 2) % 4) = mbQueued ∧
    queued.mbState ((queued.rve.last + 1 + 0) % 4) ≠ mbQueued ∧ queued.mbState ((queued.rve.last + 1 + 1) % 4) ≠ mbQueued ∧
    queued.unnamed 2 (queued.mb 2).code = false ∧ malformed (queued.mb 2).req = false ∧ queued.earlyAnswer 2 = none ∧
    (inPhase queued .stopping).earlyAnswer 2 = some .busy ∧ queued.invB = true := by decide
def badQueued : State := mbox (cell.setMb 0 { cell.mb 0 with req := padTo 64 [2, 9, 1] }) 0 mbQueued
def stationQueued : State := mbox (cell.setMb 0 { cell.mb 0 with req := padTo 64 [0x42, 9] }) 0 mbQueued
theorem test_hyps_take_early : malformed (badQueued.mb 0).req = true ∧ badQueued.mbState ((badQueued.rve.last + 1) % 4) = mbQueued ∧
    malformed (stationQueued.mb 0).req = false ∧ stationOnly (stationQueued.mb 0).code = true ∧
    stationQueued.isStation = false ∧ stationQueued.unnamed 0 (stationQueued.mb 0).code = false := by decide
def unanswered (s : State) : State := s.withCul { s.cul with msg := { s.cul.msg with silent := true } }
def answered (s : State) (n : Nat) : State := (ask s n [2, 9]).respond n .ok [1, 2, 3]
theorem test_hyps_response : ((answered station 0).mb 0).ready = true ∧ (answered cell 3).mbState 3 = mbExecuting ∧
    ((answered cell 3).mb 3).ready = true ∧ ((answered cell 3).mb 3).copied = false ∧ (unanswered (answered cell 3)).cul.msg.silent = true ∧ (answered cell 3).cul.msg.silent = false ∧
    (unanswered (answered cell 3)).invB = true ∧ (answered station 1).invB = true := by decide
theorem test_hyps_immediate : (ask station 0 [1]).takes 0 0x01 = true ∧ (ask station 1 [2]).takes 1 0x02 = true ∧
    (ask station 2 [0x11, 0, 4, 0, 0xC, 0, 0]).takes 2 0x11 = true ∧ ((ask station 2 [0x11]).mb 2).flags = 0 ∧
    isCfgReg .station R.HST_PLACE = true ∧ isCfgReg .station 0x20 = false ∧ station.foreignBlock 0xE0000 = false ∧
    cell.foreignBlock 0xE0000 = true ∧ ((ask cell 0 [0x11, 0, 4, 0, 0, 0, 0xE]).mb 0).arg 0 4 = 0xE0000 ∧
    (ask cell 0 [0x11, 0, 4, 0, 0, 0, 0xE]).takes 0 0x11 = true ∧ (ask station 3 [0x13, 0, 4, 0, 1]).takes 3 0x13 = true ∧
    (ask station 3 [0x13, 0, 4, 0, 1]).vlt.first ≤ ((ask station 3 [0x13, 0, 4, 0, 1]).mb 3).arg 0 4 ∧
    ((ask station 3 [0x13]).mb 3).arg 0 4 < station.vlt.first ∧ (holds (ask station 3 [0x13]) resVault).held &&& resVault ≠ 0 := by
  decide
/-- CONFIG_WRITE of one entry: register, mask, value (Table 4-11). -/
def writes (s : State) (a : Nat) (m v : Nat) : State := ask s 0 ([0x10, 5, 12, 0] ++ leBytes 4 a ++ leBytes 4 m ++ leBytes 4 v)
def staged (s : State) : State := s.withRve { s.rve with staged := [⟨R.HST_PLACE, 0, 8, 5, 0, 0, 0⟩] }
theorem test_hyps_config : (writes station R.HST_PLACE 0xFF 5).takes 0 0x10 = true ∧
    ((writes station R.HST_PLACE 0xFF 5).mb 0).len = 12 ∧
    (writes station 0x20 0xFF 5).held &&& resVault = 0 ∧ (holds (writes station 0x20 0xFF 5) resVault).held &&& resVault ≠ 0 ∧
    (writes station 0x20 0xFF 5).invB = true := by decide
/-- The sector of the next generation's slot is marked bad, with a key staged. -/
def badVault (s : State) : State := (staged (ask s 0 [0x12])).withVlt { s.vlt with bad := [0] }
theorem test_hyps_commit : (staged (ask station 0 [0x12])).takes 0 0x12 = true ∧ (ask station 0 [0x12]).isCell = false ∧
    (ask station 0 [0x12]).changes (ask station 0 [0x12]).rve.staged = [] ∧
    (staged (ask station 0 [0x12])).changes (staged (ask station 0 [0x12])).rve.staged ≠ [] ∧ station.vlt.bad = [] ∧
    (staged (ask station 0 [0x12])).ownRecords.length + 257 ≤ station.vlt.free ∧ station.vlt.next + 2 ^ 20 ≤ 2 ^ 32 ∧
    station.vlt.isBad station.vlt.target = false ∧ station.vlt.journalBad 1 = false ∧ (station.makeRoom 257).vlt.free ≥ 257 ∧
    (badVault station).vlt.isBad (badVault station).vlt.target = true ∧ (badVault station).takes 0 0x12 = true ∧
    (holds (ask station 0 [0x12]) resVault).held &&& resVault ≠ 0 := by decide
def committing (st : VaultStage) : State := station.withVlt { station.vlt with
  op := some { for_ := .host 0, keys := [⟨R.HST_PLACE, 0, 8, 5, 0, 0, 0⟩], internal := false, own := [], seconds := 0, stage := st, busy := true } }
theorem test_hyps_vault : (committing .erase).vlt.op.isSome = true ∧ (committing (.page 1)).vlt.op.isSome = true ∧
    (committing .record).twn.operating = false ∧ (committing .record).vlt.slots.length = 4 ∧ (committing .record).vlt.slot < 4 ∧
    (committing .journal).vlt.spares < 8 := by decide
def exporting (k : Byte) : State :=
  (ask station 0 [0x14, 1, 4, 0, k]).withVlt { station.vlt with image := some (List.replicate 60 0xA5) }
theorem test_hyps_export : (exporting 52).takes 0 0x14 = true ∧ ((exporting 52).mb 0).arg 0 4 % 52 = 0 ∧
    ((exporting 52).mb 0).arg 0 4 ≠ 0 ∧ (exporting 52).vlt.image = some (List.replicate 60 0xA5) ∧
    ((exporting 51).mb 0).arg 0 4 % 52 ≠ 0 ∧ station.vlt.image = none ∧ (exporting 52).invB = true := by decide

/-! Stopping and measurement (R106 to R108, R187 to R209). -/

theorem test_hyps_sleep : (ask station 1 [8]).takes 1 0x08 = true ∧ (mbox (ask station 1 [8]) 0 mbExecuting).mbState 0 = mbExecuting ∧
    (ask station 1 [8]).mbState 0 ≠ mbExecuting ∧ (ask station 1 [8]).pulseBlocked = true ∧
    (released (ask station 1 [8])).pulseBlocked = false ∧ (ask station 1 [8]).held &&& resVault = 0 ∧
    (ask cell 0 [8]).bridgesOff = true ∧ (ask (twinned 2) 0 [8]).twin = 2 ∧ (ask station 1 [8]).invB = true ∧
    (ask station 1 [8]).held &&& resClock = 0 ∧ (holds (ask station 1 [8]) resMeasure).held &&& ~~~(resVault ||| resClock) ≠ 0 ∧
    (ask station 1 [8]).held &&& ~~~(resVault ||| resClock) = 0 := by decide
def stopping : State := inPhase station .stopping
def stoppingAgain : State := stopping.withPwr { stopping.pwr with reqWaken := true }
theorem test_hyps_standby : stopping.requested = false ∧ stoppingAgain.requested = true ∧ stoppingAgain.pwr.vcrest = true ∧
    stoppingAgain.pwr.suppliesGood = true ∧ stoppingAgain.role ≠ .none := by decide
def calibrate (m : Byte) : State := ask station 0 [0x20, 1, 1, 0, m]
def hot : State := (calibrate 5).putS F.THM_DIE_TEMP 2401
def calibrating : State := station.put F.ADC_CAL_STATUS_RUNNING 5
def drifting : State := (key station F.ADC_CONFIG_ADC_AUTO_CAL 1).put F.ADC_CAL_STATUS_DRIFT 1
theorem test_hyps_calibrate : (calibrate 5).takes 0 0x20 = true ∧ ((calibrate 16).mb 0).arg 0 1 = 16 ∧ 2400 < hot.dieTemp ∧
    (holds (calibrate 5) resMeasure).held &&& resMeasure ≠ 0 ∧ (off (calibrate 5) 12).isOn 12 = false ∧
    (calibrate 5).dieTemp ≤ 2400 ∧ -880 ≤ (calibrate 5).dieTemp ∧ calibrating.get F.ADC_CAL_STATUS_RUNNING ≠ 0 ∧
    trimsPass [0x14001000, 0x60606060, 0, 0, 0] = true ∧ trimsPass [0x1001, 0, 0, 0, 0] = false ∧
    drifting.is F.ADC_CAL_STATUS_DRIFT = true ∧ drifting.cfIs F.ADC_CONFIG_ADC_AUTO_CAL = true ∧ drifting.pulseBlocked = true ∧
    drifting.held &&& resMeasure = 0 := by decide
def sampling (n : Nat) : State := key station (F.ADC_SEQn_CTRL_EN n) 1
def onTide (n : Nat) : State := (key (key (sampling n) (F.ADC_SEQn_CTRL_SOURCE n) 1) (F.ADC_SEQn_TIDE_DIV n) 3).put F.CUL_TIDE_TIDE 1
def onEdge (n : Nat) : State := key (sampling n) (F.ADC_SEQn_CTRL_SOURCE n) 3
/-- Converter `n` waits for a start time. -/
def due (s : State) (n : Nat) : State :=
  s.withAdc { s.adc with conv := s.adc.conv.set n { s.adc.conv.getD n {} with due := some (900 * 2 ^ 32) } }
theorem test_hyps_round : ((due (onTide 0) 0).adc.conv.getD 0 {}).due = some (900 * 2 ^ 32) ∧
    ((sampling 3).adc.conv.getD 3 {}).due = none ∧ ((sampling 3).adc.conv.getD 3 {}).began = none ∧
    (sampling 3).is (F.ADC_SEQn_STATUS_CAL 3) = false ∧
    (sampling 3).cfgOf (F.ADC_SEQn_CTRL_EN 3) = 1 ∧ (due (onTide 0) 0).is (F.ADC_SEQn_STATUS_BUSY 0) = false ∧
    (onEdge 2).cfgOf (F.ADC_SEQn_EVENT_HB 2) = 0 ∧ ((onEdge 2).applyKeys (adcSeq 2)).lastHold 2 < 100000 ∧
    0 ≤ ((onEdge 2).applyKeys (adcSeq 2)).lastHold 2 ∧ (due (onTide 0) 0).invB = true ∧
    ((sampling 3).put (F.ADC_SEQn_STATUS_BUSY 3) 1).is (F.ADC_SEQn_STATUS_BUSY 3) = true ∧
    ((sampling 3).put (F.ADC_SEQn_STATUS_CAL 3) 1).is (F.ADC_SEQn_STATUS_CAL 3) = true ∧
    (onEdge 2).cfgOf (F.ADC_SEQn_CTRL_SOURCE 2) = 3 ∧ (onEdge 2).cfgOf (F.ADC_SEQn_CTRL_LAST 2) = 0 ∧
    (sampling 3).invB = true ∧ (onTide 0).invB = true := by decide
def converting : State := (sampling 1).put (F.ADC_SEQn_STATUS_BUSY 1) 1
theorem test_hyps_result : converting.is (F.ADC_SEQn_STATUS_BUSY 1) = true ∧ (converting.adc.conv.getD 1 {}).next < 16 ∧
    converting.cf (F.ADC_SEQn_CTRL_LAST 1) ≤ 0 ∧ 0 < (key converting (F.ADC_SEQn_CTRL_LAST 1) 15).cf (F.ADC_SEQn_CTRL_LAST 1) := by
  decide

/-! Culvert (R133 to R184, R29, R30). -/

def ports (s : State) : State := s.withCul { s.cul with running := true }
def rx (s : State) (p v : Nat) : State := s.put (F.CUL_Pn_STATUS_RX_STATE p) v
/-- Port `p` is UP at both ends and sends. -/
def up (s : State) (p : Nat) : State :=
  (((rx s p 5).put (F.CUL_Pn_STATUS_PEER_RX_UP p) 1).put (F.CUL_Pn_STATUS_TX_AWAKE p) 1).put (F.CUL_Pn_STATUS_RX_AWAKE p) 1
def leaving (s : State) (p : Nat) : State := s.put (F.CUL_Pn_STATUS_LEAVING_SEEN p) 1
theorem test_hyps_ports : (rx station 0 1).portOn 0 = true ∧ (rx station 9 1).get (F.CUL_Pn_STATUS_RX_STATE 9) = 1 ∧
    (rx cell 0 2).get (F.CUL_Pn_STATUS_RX_STATE 0) = 2 ∧ (rx cell 1 3).get (F.CUL_Pn_STATUS_RX_STATE 1) = 3 ∧
    (rx station 4 4).get (F.CUL_Pn_STATUS_RX_STATE 4) = 4 ∧ (up station 3).usable 3 = true ∧ (up cell 1).usable 1 = true ∧
    (leaving (up cell 1) 1).is (F.CUL_Pn_STATUS_LEAVING_SEEN 1) = true ∧ (up station 7).usedPorts.contains 7 = true ∧
    ((rx station 3 4).put (F.CUL_Pn_STATUS_PEER_RX_UP 3) 1).is (F.CUL_Pn_STATUS_PEER_RX_UP 3) = true := by decide
def lane (s : State) (c p d : Byte) : State := ask s 0 [c, 3, 2, 0, p, d]
def wrapped (s : State) (p : Nat) : State := s.put (F.CUL_Pn_STATUS_WRAPPED p) 1
def laneActive (s : State) (n : Nat) : State := key s F.PWR_WAKE_EN_LANE_EN (2 ^ n)
theorem test_hyps_lanes : (lane station 0x32 10 3).takes 0 0x32 = true ∧ (lane station 0x33 9 4).takes 0 0x33 = true ∧
    (lane cell 0x32 5 1).isStation = false ∧ ((up (lane station 0x32 7 3) 7).mb 0).arg 0 1 = 7 ∧ (up (lane station 0x32 7 3) 7).usable 7 = true ∧
    (wrapped (up (lane cell 0x32 1 3) 1) 1).is (F.CUL_Pn_STATUS_WRAPPED 1) = true ∧
    (up (lane station 0x32 9 2) 9).usedPorts.contains 9 = false ∧ ((up (lane station 0x32 2 0) 2).mb 0).arg 1 1 = 0 ∧
    ((lane station 0x33 3 1).put F.CLK_STATUS_PLAN 1).servicePlan = true ∧ (lane cell 0x33 4 2).isStation = false ∧
    (lane station 0x33 3 2).portOn 3 = true ∧ (off (lane station 0x33 3 3) 5).portOn 3 = false ∧ (lane cell 0x33 1 3).portOn 1 = true ∧
    (laneActive station 9).awake = true ∧ (laneActive station 9).portOn 9 = true ∧
    (laneActive cell 0).is (F.CUL_Pn_STATUS_RX_AWAKE 0) = false ∧ (lane station 0x32 7 3).invB = true := by decide
/-- A cell whose ring has a loop delay of 200 tides' units, in an alignment state. -/
def aligned (st : Nat) : State := ((cell.put F.CUL_ALIGN_LOOP_VALID 1).put F.CUL_ALIGN_STATE st).put (F.CUL_RINGr_LOOP_L 0) 12800
def onPlace (s : State) (p : Int) : State := s.withCul { s.cul with place := p }
def unrooted : State := (rx (locked cell) 1 5).put (F.CUL_Pn_STATUS_PEER_ROOTED 1) 1
def rootLost : State := unrooted.withCul { unrooted.cul with ports := unrooted.cul.ports.set 0 { unrooted.cport 0 with notRooted := 8 } }
theorem test_hyps_align : cell.is F.CUL_ALIGN_LOOP_VALID = false ∧ (aligned 3).get F.CUL_ALIGN_STATE = 3 ∧
    (aligned 0).is F.CUL_ALIGN_LOOP_VALID = true ∧ (aligned 0).get F.CUL_ALIGN_STATE = 0 ∧
    (onPlace (aligned 1) 500).get F.CUL_ALIGN_STATE = 1 ∧ (onPlace (aligned 1) 5000).isOn 5 = true ∧
    (aligned 1).isStation = false ∧ (aligned 1).role ≠ .none ∧ 8 ≤ (rootLost.cport rootLost.cul.refPort).notRooted ∧
    rootLost.is (F.CUL_Pn_STATUS_PEER_ROOTED (1 - rootLost.cul.refPort)) = true ∧
    rootLost.get (F.CUL_Pn_STATUS_RX_STATE (1 - rootLost.cul.refPort)) = 5 ∧ rootLost.isOn 4 = true ∧
    rootLost.is F.CLK_STATUS_LOCKED = true ∧ rootLost.clk.attempt = .none := by decide
/-- REMOTE of a STATUS to ring `r`, slot `q`. -/
def remote (s : State) (r q : Byte) (enc : List Byte) : State := ask s 0 ([0x70, 9, 16, 0, r, q, 0, 0, 0, 0, 0, 0] ++ enc)
def present (s : State) (r q : Nat) : State := s.put (F.CUL_POS_r_s_PRESENT r q) 1
def flight (s : State) (p : MsgPhase) (tries : Nat) : State :=
  s.withCul { s.cul with remote := s.cul.remote.set 2 (some ⟨0, 7, List.replicate 64 1, p, tries, [], 100⟩) }
def replying (tries : Nat) : State := cell.withCul { cell.cul with msg := { phase := .waitAck, tries := tries, out := [1] } }
theorem test_hyps_messages : (remote station 2 0 [2, 1, 0, 0]).takes 0 0x70 = true ∧ (remote station 2 97 [2, 1, 0, 0]).cul.remote.length = 4 ∧
    malformed (bytesAt ((remote station 2 7 [2, 1, 0, 0]).mb 0).req 12 52) = false ∧
    leAt (bytesAt ((remote station 2 7 [0x70, 1, 0, 0]).mb 0).req 12 52) 0 1 = 0x70 ∧
    12 + leAt (bytesAt ((remote station 2 7 [2, 1, 0, 0]).mb 0).req 12 52) 2 1 ≤ ((remote station 2 7 [2, 1, 0, 0]).mb 0).len ∧
    (present (remote station 2 7 [2, 1, 0, 0]) 2 7).is (F.CUL_POS_r_s_PRESENT 2 7) = true ∧
    ((remote station 3 96 [2, 1, 0, 0]).mb 0).arg 1 1 = 96 ∧ ((remote station 3 1 [2, 1, 0, 0]).mb 0).arg 0 1 = 3 ∧
    (holds (remote station 2 7 [2, 1, 0, 0]) (resRing 2)).held &&& resRing 2 ≠ 0 ∧ (flight station .busyWait 1).remoteOn 2 ≠ none ∧
    (flight station .waitAck 2).remoteOn 2 ≠ none ∧ (flight station .waitAck 3).invB = true ∧
    (replying 0).cul.msg.phase = .waitAck ∧ 3 ≤ (replying 3).cul.msg.tries ∧ (replying 2).cul.msg.tries < 3 ∧
    (key (station.put (F.CUL_RINGr_STATE_WRAP_SEEN 1) 1) F.CUL_CONFIG_CUL_AUTO_UNWRAP 1).is (F.CUL_RINGr_STATE_WRAP_SEEN 1) = true := by
  decide
def rings (s : State) (c m : Byte) : State := ask s 0 [c, 3, 2, 0, m, 5]
def mine (s : State) : State := key s F.HST_DEVICE_ID_DEVICE_ID 0x77
def found (s : State) (l : List (List Nat)) : State :=
  (List.range 4).foldl (fun s r => s.put (F.CUL_RINGr_STATE_FOUND r) (l.getD r []).length) (s.withCul { s.cul with ids := l })
def aligning (m : Byte) : State := found (rings station 0x31 m) [[7, 8], [], [9], []]
def asleep (s : State) (r q : Nat) : State := key (key s (F.CUL_RINGr_SLEEP_FIRST_ASLEEP r) q) (F.CUL_RINGr_FORMAT_POSITIONS r) 8
theorem test_hyps_rings : (rings station 0x30 16).takes 0 0x30 = true ∧ (rings station 0x31 15).takes 0 0x31 = true ∧
    (holds (rings station 0x30 15) (resRing 3)).held &&& resRings 15 ≠ 0 ∧ (mine (rings station 0x30 1)).held &&& resRings 1 = 0 ∧
    (mine (rings station 0x30 15)).ringDriving 3 = false ∧ (mine station).cf F.HST_DEVICE_ID_DEVICE_ID ≠ 0 ∧
    ((0x77 : Nat) :: ([[1, 2], [], [], [3]] : List (List Nat)).flatMap id).Nodup ∧
    (mine (rings station 0x30 9)).cul.ids.getD 1 [] = [] ∧ (aligning 2).get (F.CUL_RINGr_STATE_FOUND 1) = 0 ∧
    (aligning 5).get (F.CUL_RINGr_STATE_FOUND 2) = 1 ∧ (aligning 5).is (F.CUL_RINGr_STATE_UNPLANNED_WRAP 0) = false ∧
    (rings station 0x09 4).takes 0 0x09 = true ∧ ((rings station 0x09 3).mb 0).arg 1 1 = 5 ∧
    (asleep (rings station 0x09 3) 3 5).cf (F.CUL_RINGr_SLEEP_FIRST_ASLEEP 3) = 5 ∧
    (asleep (rings station 0x09 3) 3 5).relayFull 3 5 = false ∧ (asleep (rings station 0x09 2) 2 6).invB = true := by decide
def tiding (s : State) : State := s.withCul { s.cul with running := true }
/-- A frame with a right, a wrong and a stomped CRC. -/
def frame (h b : List Byte) (bad : Nat) : TideFrame :=
  let h := padTo 16 h
  let b := b ++ List.replicate (32 - b.length) 0
  let c := crc32 (h ++ b)
  ⟨h, b, if bad = 0 then c else if bad = 1 then c ^^^ 1 else ~~~c⟩
theorem frame_intact (h b : List Byte) : (frame h b 0).intact = true := by
  simp [frame, TideFrame.intact, TideFrame.goodCrc, padTo]
theorem test_hyps_tide : station.isOn 5 = true ∧ (off station 5).isOn 5 = false ∧ cell.cul.running = false ∧
    (tiding cell).cul.running = true ∧ (tiding port).isPort = true ∧ station.originPort 3 1 = some 7 ∧
    (7 : Nat) < station.cul.ports.length ∧ (up station 7).txAwake 7 = true ∧ (up (twinned 2) 1).originPort 1 0 = some 1 := by decide
def inFrame : TideFrame := frame [0, 0x11, 0, 0, 3, 0x98, 2, 5] [1, 2, 3] 0
theorem test_hyps_frames : (locked (up station 6)).pllRuns = true ∧ (locked (up station 6)).usedPorts.contains 6 = true ∧
    (frame [1] [2] 1).intact = false ∧ (frame [1] [2] 1).stomped = false ∧ (frame [1] [2] 2).stomped = true ∧
    (frame [1] [2] 0).intact = true ∧ (frame [1] [2] 0).header.length = 16 ∧ 32 ≤ (frame [1] [2] 0).body.length ∧
    (wrapped (locked (up cell 0)) 0).is (F.CUL_Pn_STATUS_WRAPPED 0) = true ∧ (up (locked (up cell 0)) 1).usable 1 = true ∧
    (up (locked (up cell 0)) 1).txAwake 1 = true ∧ (locked (up station 6)).portRing 6 = some 3 ∧
    (locked (up station 6)).invB = true := by decide +kernel

/-! Modulators and gate drive (R253 to R324). -/

/-- A device whose pulses are released and whose modulators run under entry `e`. -/
def running (s : State) (e : Nat) : State :=
  let t := (released s).put F.MOD_CTRL_EN 1
  t.withMod { t.mod with en := true, entry := e }
/-- Channel dies and inputs on: the high switch of half-bridge 0 and the low one of 2. -/
def lit (s : State) : State :=
  (s.withMod { s.mod with func := [.high, .off, .low, .off], inp := [.high, .off, .low, .off] }).withPins { s.pins with gates := 0x21#9 }
def litCell : State := lit (running (key cell F.HST_PLACE_SLOT 3) 1)
def frozen (s : State) : State := s.withMod { s.mod with frozen := true }
theorem test_hyps_gates : litCell.drive.gateOn 0 = true ∧ litCell.drive.gateOn 5 = true ∧ litCell.mod.func.getD 2 .off ≠ .both ∧
    (off litCell 10).isOn 10 = false ∧ cell.mod.en = false ∧ cell.get F.MOD_TRIP_STATUS_LATCHED = 0 ∧ cell.mod.releasing = 0 ∧
    litCell.chopHb 3 = false := by decide
def breached (s : State) : State := s.withPwr { s.pwr with breach := true }
theorem test_hyps_enable : cell.is F.MOD_CTRL_EN = false ∧ cell.pwr.breach = false ∧ (breached cell).pwr.breach = true ∧
    (frozen litCell).mod.frozen = true ∧ litCell.is F.MOD_CTRL_EN = true ∧ litCell.isOn 10 = true := by decide
/-- Trip 0 is enabled with safe levels OFF, LOW, HIGH, none for half-bridges 0 to 3. -/
def guarded (s : State) (t : Nat) : State := key (key s (F.MOD_TRIPt_CFG_EN t) 1) (F.MOD_TRIPt_CFG_SAFE_HB t) 0xE4
def tripped (s : State) (t : Nat) (active : Nat) : State :=
  ((guarded s t).put F.MOD_TRIP_STATUS_LATCHED (2 ^ t)).put F.MOD_TRIP_STATUS_ACTIVE (active * 2 ^ t)
theorem test_hyps_trips : (guarded litCell 0).tripSeen 0 = true ∧ (guarded litCell 3).tripSeen 3 = true ∧
    natBit ((guarded litCell 0).get F.MOD_TRIP_STATUS_LATCHED) 0 = false ∧ (tripped litCell 0 0).tripLevel 1 = some .low ∧
    (tripped litCell 0 0).tripLevel 2 = some .high ∧ (tripped litCell 0 0).tripLevel 0 = some .off ∧ (tripped litCell 0 0).tripLevel 3 = none ∧
    natBit ((tripped litCell 3 1).get F.MOD_TRIP_STATUS_ACTIVE) 3 = true ∧ litCell.placed = true ∧
    natBit ((tripped litCell 1 0).get F.MOD_TRIP_STATUS_LATCHED) 1 = true := by decide
def missing (s : State) (n : Nat) : State := s.withMod { s.mod with missing := n, afeOn := true }
theorem test_hyps_loss : litCell.modRuns = true ∧ (key litCell F.MOD_AFE_CFG_MOD_CMD_LOSS 3).cf F.MOD_AFE_CFG_MOD_CMD_LOSS ≤
    (missing (key litCell F.MOD_AFE_CFG_MOD_CMD_LOSS 3) 3).mod.missing ∧ litCell.is F.MOD_STATUS_CMD_LOST = false ∧
    (missing litCell 3).invB = true ∧ (running port 1).isPort = true ∧
    (missing (key litCell F.MOD_AFE_CFG_MOD_CMD_LOSS 3) 2).mod.missing < (key litCell F.MOD_AFE_CFG_MOD_CMD_LOSS 3).cf F.MOD_AFE_CFG_MOD_CMD_LOSS := by
  decide
def bridge (s : State) (b : Nat) (x : BridgeSt) : State := s.withMod { s.mod with bridges := s.mod.bridges.set b x }
def wave : BridgeSt := { run := .running, psi := 65536000, psiNext := 70000000, nextAt := 4000, edges := 2 }
def inverter : State := key (running port 1) F.MOD_CONFIG_MOD_PORT_MODE 1
theorem test_hyps_bridges : (bridge (running cell 0x10) 0 wave).dabBridges.contains 0 = true ∧
    ((bridge (running port 1) 1 wave).bridge 1).run = .running ∧ (bridge (running port 1) 1 wave).dabBridges.contains 1 = true ∧
    (running port 0).dabMode = 0 ∧ (running cell 0x10).dabMode = 1 ∧ (running cell 0x20).dabMode = 2 ∧
    ((running port 1).bridge 0).run ≠ .running ∧ (running port 1).modRuns = true ∧ inverter.isInverter = true ∧
    (bridge (running port 0) 0 wave).invB = true ∧ (1 : Nat) < (running port 0).mod.bridges.length ∧
    natBit (running inverter 2).mod.entry 1 = true ∧ natBit inverter.mod.entry 1 = false := by decide
def desat (s : State) : State := key s F.GDR_CHAN_CFG_DESAT_EN 0x1FF
def hold (s : State) (n : Nat) : State := (s.put F.GDR_STATUS_HB_HOLD (2 ^ n)).withGdr { s.gdr with cause := s.gdr.cause.set n 2 }
def chopping (s : State) : State :=
  let t := key (key (desat s) F.GDR_CHOP_CFG_EN 1) F.GDR_CHOP_CFG_CHOP_HB 1
  t.withPins { t.pins with gates := 0x103 }
theorem test_hyps_half_bridges : natBit ((desat litCell).cf F.GDR_CHAN_CFG_DESAT_EN) 0 = true ∧ (desat litCell).gateOn 0 = true ∧
    (desat litCell).gateOn 5 = true ∧ (desat litCell).chopHb 2 = false ∧ litCell.gateOn (2 * 0) = true ∧ litCell.invB = true ∧
    (chopping (running station 0)).chopChannel 8 = true ∧ (chopping (running station 0)).chopChannel 1 = true ∧
    (chopping (running station 0)).gateOn 8 = true ∧ (hold litCell 3).hbHeld 3 = true ∧ (hold litCell 0).get F.GDR_CH_STATUS_UVLO = 0 ∧
    (hold litCell 0).invB = true := by decide
def boot (s : State) (r : Nat) : State := key (key s F.GDR_CHAN_CFG_BS_EN 1) F.GDR_CHAN_CFG_REFRESH_EN r
theorem test_hyps_bootstrap : natBit ((boot litCell 0).cf F.GDR_CHAN_CFG_BS_EN) 0 = true ∧ (boot litCell 0).gateOn 0 = true ∧
    (boot litCell 0).chopHb 0 = false ∧ (boot litCell 0).invB = true ∧ (boot litCell 0).bootstrapped 0 = true ∧ (boot litCell 1).unheld 0 = true ∧
    natBit ((boot litCell 0).cf F.GDR_CHAN_CFG_REFRESH_EN) 0 = false ∧ (boot litCell 1).noNotch 0 (some 1) = true ∧
    (boot litCell 1).noNotch 0 none = false := by decide
def monitor (s : State) : State := (List.range 4).foldl (fun s k => key s (F.GDR_OVk_CFG_EN k) 1) s
def withAbove (s : State) (b : BitVec 3) : State := s.withGdr { s.gdr with above := b }
def checking (s : State) : State := (s.put F.GDR_BUS_V_ON 3000).withGdr { s.gdr with above := 1, chop := true, check := true }
theorem test_hyps_chopper : (monitor station).cfIs (F.GDR_OVk_CFG_EN 1) = true ∧ (monitor litCell).cfIs (F.GDR_OVk_CFG_EN 3) = true ∧
    (monitor litCell).gdr.above.getLsbD 2 ≠ true ∧ (withAbove (chopping station) 1).cfIs F.GDR_CHOP_CFG_EN = true ∧
    (withAbove (chopping station) 1).gdr.above.getLsbD 0 = true ∧ (withAbove (checking (chopping station)) 0).gdr.chop = true ∧
    (checking (chopping station)).gdr.check = true ∧ station.is F.GDR_SLUICE_CMD ≠ true ∧ station.isOn 13 = true := by decide

/-! Faults, interrupts, Strata, Wardens (R327 to R368). -/

def stuck (s : State) (n c : Nat) : State :=
  let t := s.withFlt { s.flt with sticky := s.flt.sticky ||| (1#128 <<< n) }
  t.setClass n c
theorem test_hyps_classes : (stuck station 0 2).baseClass 0 ≠ none ∧ (stuck station 0 2).stickyAt 2 = true ∧
    station.baseClass 127 = none ∧ station.flt.wiring = false ∧ station.flt.prev.getLsbD 0 = false ∧
    (station.fault 0).flt.pulses.getLsbD 0 = true ∧ (station.withFlt { station.flt with wire := 1 }).levelSignals.getLsbD 6 = true := by
  decide
def ack (s : State) : State := ask s 1 ([0x60, 3, 16, 0] ++ List.replicate 16 0xFF)
def ackOne (s : State) : State := ask s 1 ([0x60, 3, 16, 0] ++ [0, 0, 1] ++ List.replicate 13 0)
theorem test_hyps_ack_one : (ackOne (stuck station 16 1)).takes 1 0x60 = true ∧ ((ackOne (stuck station 16 1)).mb 1).arg 0 16 = 2 ^ 16 ∧
    (ackOne (stuck station 16 1)).pwr.phase ≠ .starting ∧ (ackOne (stuck station 16 1)).levelSignals.getLsbD 16 = false ∧
    (ackOne (stuck station 16 1)).effClass 16 ≠ 3 ∧ (ackOne (stuck station 16 1)).invB = true ∧ reservedSource 16 = false := by decide
def inject (s : State) (k : Byte) : State := (ask s 0 [0x61, 3, 1, 0, k]).withPwr { s.pwr with latch := some ⟨false, false, false, true⟩ }
theorem test_hyps_fault_commands : (ack (stuck station 3 1)).takes 1 0x60 = true ∧ (inPhase (ack station) .starting).pwr.phase = .starting ∧
    (stuck (stuck station 3 1) 9 3).effClass 9 = 3 ∧ (ack (stuck (stuck station 3 1) 9 3)).invB = true ∧ (inject station 16).takes 0 0x61 = true ∧
    reservedSource 127 = true ∧ ((inject station 127).mb 0).arg 0 1 = 127 ∧ reservedSource 16 = false ∧
    (inject station 16).pwr.latch ≠ none ∧ station.flt.wire.getLsbD 5 = false := by decide
def offer (n : Nat) : StrataOffer := ⟨3, 0, false, false, n⟩
def waiting (q : Nat) : State := station.withStr { station.str with queues := station.str.queues.set q [offer 1, offer 2] }
def fullLog : State := (waiting 2).withStr { (waiting 2).str with log := List.replicate 4096 5 }
def fullQueue : State := station.withInt { station.int with arm := 0 }
def fullMarks : State := fullQueue.withStr { station.str with queues := station.str.queues.set 3 (List.replicate 16 (offer 1)) }
theorem test_hyps_strata : (waiting 3).str.queues.getD 3 [] = offer 1 :: [offer 2] ∧ (waiting 3).str.queues.getD 2 [] = [] ∧
    (waiting 3).str.log.length < 4096 ∧ (fullMarks.str.queues.getD 3 []).length = 16 ∧ fullMarks.int.arm.getLsbD 167 = false ∧
    station.role ≠ .none ∧ (waiting 3).invB = true := by decide
theorem test_hyps_full_log : fullLog.str.log.length = 4096 := List.length_replicate
def warden (s : State) (a b : Nat) : State := (s.put F.WRD_A_STATUS_STATE a).put (wrdFld true F.WRD_A_STATUS_STATE) b
def wkeys (s : State) : State :=
  let t := key (key s F.WRD_CFG_ESTOP_EN 1) F.WRD_CFG_GUARD_EN 1
  t.setWord R.WRD_CFG_B (t.effWord R.WRD_CFG)
def wchan (s : State) (b : Bool) (f : WrdChan → WrdChan) : State := s.withWrd (if b then { s.wrd with b := f s.wrd.b } else { s.wrd with a := f s.wrd.a })
def contacts (s : State) (b : Bool) : State := wchan (wkeys s) b (fun c => { c with guard1 := some true, guard2 := some false })
def differing (s : State) (b : Bool) : State := wchan s b (fun c => { c with cross := true, config := true })
def exchanged (s : State) (b : Bool) : State := wchan s b (fun c => { c with sent := some (s.wardExchange b) })
theorem test_hyps_wardens : (warden (wkeys station) 3 3).wkey true F.WRD_CFG_ESTOP_EN = true ∧ (warden (wkeys station) 3 2).wstate true = wArmed ∧
    (warden (wkeys station) 3 2).wkey false F.WRD_CFG_GUARD_EN = true ∧ (contacts station true).contactDiff true = true ∧
    (contacts station false).contactDiff false = true ∧ (contacts station false).wstate false ≠ wLockout ∧
    (differing station true).comparing = true ∧ ((differing station true).wch true).cross = true ∧
    (exchanged (exchanged (warden station 4 2) false) true).isOn (wrdPolder true) = true ∧
    ((exchanged station false).wch (!true)).sent = some (station.wardExchange false) ∧
    station.wis false F.WRD_A_STATUS_SAFE_OUT ≠ true := by decide
def high (s : State) : State := (s.put F.WRD_A_STATUS_SAFE_OUT 1).put (wrdFld true F.WRD_A_STATUS_SAFE_OUT) 1
def pulsing (s : State) (b : Bool) : State := wchan s b (fun c => { c with pulse := true })
theorem test_hyps_release : (warden station 2 2).wstate false = wArmed ∧ (warden station 2 2).wstate true = wArmed ∧
    (warden station 2 1).wstate true ≠ wArmed ∧ (off (warden station 2 2) 15).isOn 15 = false ∧ (off station 14).isOn 14 = false ∧
    (high (warden station 2 2)).wis true F.WRD_A_STATUS_SAFE_OUT = true ∧ ((pulsing (warden station 3 3) true).wch true).pulse = true ∧
    ((station.put (wrdFld true F.WRD_A_STATUS_PARTNER_OK) 1).wis true F.WRD_A_STATUS_PARTNER_OK) = true := by decide

/-! Station network and time (R393 to R422). -/

def servo (s : State) : State := ((key (key s F.TIM_SERVO_KP 65536) F.TIM_SERVO_KI 8192).put F.TIM_CTRL_SERVO_EN 1)
def timed (s : State) (ns : Nat) : State := s.withTim { s.tim with now := ns * 2 ^ 32 }
def onGrid (n : Nat) : State := key (key (sampling n) (F.ADC_SEQn_CTRL_SOURCE n) 2) (F.ADC_SEQn_GRID_RATE n) 4800
def publishing (p m : Nat) : State := key (key station (F.SV_PUBp_CFG_EN p) 1) (F.SV_PUBp_CFG_NOASDU p) m
theorem test_hyps_time : (servo station).is F.TIM_CTRL_SERVO_EN = true ∧ station.is F.TIM_CTRL_SERVO_EN = false ∧
    (5#32).toInt.natAbs ≤ (key station F.TIM_CONFIG_TIM_STEP_LIMIT 10).cf F.TIM_CONFIG_TIM_STEP_LIMIT ∧
    station.cf F.TIM_CONFIG_TIM_STEP_LIMIT < (0x7FFFFFFF#32).toInt.natAbs ∧ station.isOn 1 = true ∧ station.invB = true := by decide
theorem test_hyps_grid : (onGrid 3).cfgOf (F.ADC_SEQn_CTRL_SOURCE 3) = 2 ∧ (onGrid 3).cfgOf (F.ADC_SEQn_GRID_RATE 3) = 4800 ∧
    (onGrid 3).is (F.ADC_SEQn_STATUS_CAL 3) = false ∧ (onGrid 3).is (F.ADC_SEQn_STATUS_BUSY 3) = false ∧
    (onGrid 3).cfgOf (F.ADC_SEQn_CTRL_EN 3) = 1 ∧ (4799 : Nat) < 4800 ∧ (publishing 7 1).cfIs (F.SV_PUBp_CFG_EN 7) = true ∧
    svRate ((publishing 7 2).cfIs (F.SV_PUBp_CFG_RATE 7)) = 4800 ∧ (0 + 1) % max 1 ((publishing 7 2).cf (F.SV_PUBp_CFG_NOASDU 7)) ≠ 0 ∧
    (publishing 7 2).stm.pub.getD 7 [] = [] ∧ (publishing 0 1).isOn 8 = true ∧ (onGrid 3).invB = true := by decide
def addressed (s : State) : State := key s (F.NET_CONFIG_MODE) 1
def hostType (s : State) : State := key s F.NET_HOST_ETYPE_ETYPE0 0x1234
def ptp : EthFrame := ⟨[1, 0x1B, 0x19, 0, 0, 0], [2, 0, 0, 0, 0, 1], none, none, 0x88F7, .raw [1, 2]⟩
def plain (d : Byte) : EthFrame := ⟨[d, 0, 0, 0, 0, 7], [2, 0, 0, 0, 0, 1], none, none, 0x1234, .raw [3]⟩
def fullSlots : State := station.withNet { station.net with count := 8, rx := List.replicate 8 (some ⟨0, 1, 2, [3]⟩) }
theorem test_hyps_frames_received : station.ethOn 0 = true ∧ (addressed station).ethOn 1 = true ∧ isGroup ptp.dst = true ∧
    ptp.body = .raw [1, 2] ∧ (plain 1).etype = (hostType station).cf F.NET_HOST_ETYPE_ETYPE0 ∧ isGroup (plain 1).dst = true ∧
    (plain 1).seq = none ∧ (plain 2).dst ≠ station.mac ∧ isGroup (plain 2).dst = false ∧ station.cf F.NET_CONFIG_MODE ≠ 2 ∧
    (plain 1).dst ≠ station.mac ∧ 8 ≤ fullSlots.net.count ∧ fullSlots.invB = true ∧ station.net.count < 8 := by decide
def slot (s : State) (j : Nat) (x : TxSlot) : State := s.withNet { s.net with tx := s.net.tx.set j x }
def sendingSlot (c l : Nat) : State :=
  let s := slot station 2 { ctrl := 0x8000103C#32, left := l }
  s.withNet { s.net with sending := [some ⟨c, none, .slot 2 (plain 1)⟩, none] }
def launching : State := (addressed station).withNet { station.net with waiting := [[], [⟨2, some 77, .slot 3 (plain 1)⟩]] }
theorem test_hyps_transmit : (slot station 3 { mem := [(4, 5000#32)] }).net.waiting.getD 1 [] = [] ∧
    (0x0000203C#32).getLsbD 31 = false ∧ ((0x0000103C#32).extractLsb' 12 2).toNat = 1 ∧ ((0x0000003C#32).extractLsb' 12 2).toNat = 0 ∧
    launching.ethOn 1 = true ∧ station.ethOn 1 = false ∧ (slot (addressed station) 3 {}).ethOn 1 = true ∧ (0x0000403C#32).getLsbD 14 = true ∧
    laterThan 5000 station.nowNs = true ∧ laterThan 5000 (timed station 6000).nowNs = false ∧
    launching.net.waiting.getD 1 [] = [⟨2, some 77, .slot 3 (plain 1)⟩] ∧ launching.net.sending.getD 1 none = none ∧
    (sendingSlot 3 1).net.sending.getD 0 none = some ⟨3, none, .slot 2 (plain 1)⟩ ∧ (sendingSlot 3 3).net.waiting.getD 0 [] = [] ∧
    (sendingSlot 3 3).invB = true ∧ (slot station 3 { ctrl := 0x80000000#32 }).invB = true ∧ station.isOn 7 = true := by decide
theorem test_hyps_links : (addressed station).redundant = true ∧ (addressed station).net.waiting = [[], []] ∧
    station.redundant = false ∧ (addressed station).is (F.NET_Pp_STATUS_LINK 1) ≠ true ∧
    (station.put (F.NET_Pp_STATUS_LINK 0) 1).is (F.NET_Pp_STATUS_LINK 0) ≠ false := by decide
def subscribed (i : Nat) : State := station.withStm { station.stm with sub := station.stm.sub.set i { valid := true } }
def listening (i : Nat) : State :=
  let s := key (key (key station (F.GSE_TRIPk_EN 2) 1) (F.GSE_TRIPk_SUB 2) i) (F.GSE_TRIPk_INVALID_TRIP 2) 1
  s.withStm { s.stm with gsub := s.stm.gsub.set i { valid := true, deadline := 4000 } }
theorem test_hyps_subscriptions : ((subscribed 15).svSub 15).valid = true ∧ ((subscribed 15).svSub 3).valid = false ∧
    ((listening 63).gseSub 63).valid = true ∧ (listening 63).cf (F.GSE_TRIPk_SUB 2) = 63 ∧
    (listening 63).cfIs (F.GSE_TRIPk_EN 2) = true ∧ (listening 63).isOn 8 = true ∧ (listening 0).invB = true := by decide
/-- Publisher `g` with one member of the host's value, which has changed. -/
def goose (g : Nat) : State :=
  let s := key (key (key station (F.GSE_PUBg_CFG_EN g) 1) (F.GSE_PUBg_CFG_NMEM g) 1) (F.GSE_PUBg_TIMES_MIN_US g) 400
  let s := s.withStm { s.stm with gpub := s.stm.gpub.set g { stNum := 2 ^ 32 - 1, interval := 400, last := [0] } }
  s.setWord (R.GSE_PUBg_HVm g 0) 1
theorem test_hyps_goose : (goose 15).gseChanged 15 = true ∧ (goose 15).cfIs (F.GSE_PUBg_CFG_EN 15) = true ∧
    ((goose 15).setWord (R.GSE_PUBg_HVm 15 0) 0).gseChanged 15 = false ∧ ((goose 0).gsePub 0).interval ≠ 0 ∧
    natBit (0x8000#16).toNat 15 = true ∧ (goose 15).net.waiting.getD 0 [] = [] ∧ (goose 15).invB = true := by decide

/-! Gallery, wear, substitution (R379, R424 to R435, R456). -/

/-- Profile `p` records channels 0 and 3 on every instant, two samples before and after a trigger, in state `st`. -/
def profile (p st stored : Nat) : State :=
  let s := tiding station
  let s := key (key (key (key s (F.GAL_PROFp_CFG_EN p) 1) (F.GAL_PROFp_CFG_DIV p) 1) (F.GAL_PROFp_PRE_PRE p) 2) (F.GAL_PROFp_POST_POST p) 2
  let s := key (key s (F.GAL_PROFp_CHMASK_VALUE p) 9) (F.GAL_PROFp_REGION_SIZE p) 1
  (s.withGal { s.gal with prof := s.gal.prof.set p { state := st, stored := stored, record := 5 } }).put F.GAL_STATUS_NEXT_INDEX 0
def record (p post : Nat) : GalRecord :=
  ⟨5, p, false, false, false, false, false, 35, 0, 8, 0, 1, 0, 0, 0, 0, 2, post, 0, 0, 64, 9, 0⟩
def capturing (p post : Nat) : State :=
  let s := profile p 3 5
  s.withGal { s.gal with records := [record p post], next := 6, held := [(5, p, 0, 32)] }
theorem test_hyps_samples : (off (profile 1 1 0) 9).isOn 9 = false ∧ (profile 1 1 0).cul.running = true ∧
    (profile 3 1 1).cfIs (F.GAL_PROFp_CFG_EN 3) = true ∧ (profile 3 1 1).cf (F.GAL_PROFp_CFG_DIV 3) = 1 ∧
    ((profile 3 2 2).gp 3).state = 2 ∧ ((capturing 3 1).gp 3).state = 3 ∧
    (capturing 3 1).gal.records.find? (fun r => r.index == 5 && r.profile == 3) = some (record 3 1) ∧
    ((profile 0 0 0).gp 0).state = 0 ∧ (profile 0 0 0).cfIs (F.GAL_PROFp_CONDi_EN 0 1) = false ∧ (capturing 3 0).invB = true := by decide
theorem test_hyps_triggers : ((profile 2 2 2).gp 2).state = 2 ∧ (profile 2 2 2).cf (F.GAL_PROFp_PRE_PRE 2) ≤ ((profile 2 2 2).gp 2).stored ∧
    ((profile 2 2 1).gp 2).stored < (profile 2 2 1).cf (F.GAL_PROFp_PRE_PRE 2) ∧ ((profile 2 5 1).gp 2).state = 5 ∧
    (key (profile 2 2 2) (F.GAL_PROFp_CFG_OUT_EN 2) 1).cfIs (F.GAL_PROFp_CFG_OUT_EN 2) = true ∧ station.cfIs (F.GAL_PROFp_CFG_EN 0) = false ∧
    (profile 2 2 2).cfIs (F.GAL_PROFp_CFG_OUT_EN 2) = false ∧ (0x0004#16) = 1#16 <<< 2 := by decide
def asks (s : State) (req : List Byte) : State := (s.setMb 0 { s.mb 0 with req := padTo 64 req }).put (F.RVE_Mn_STATE_STATE 0) mbExecuting
def taken (p st : Nat) : State :=
  let s := profile p st 0
  s.withGal { s.gal with held := (List.range 2048).map (fun i => (i + 9, p, 32 * i, 32 * i + 32)) }
def narrow (p st : Nat) : State :=
  let s := key (key (profile p st 0) (F.GAL_PROFp_PRE_PRE p) 4000) (F.GAL_PROFp_POST_POST p) 4096
  s.withGal { s.gal with held := [(9, p, 0, 64768)] }
theorem test_hyps_slots : ((profile 1 4 0).gp 1).state = 4 ∧ (profile 1 4 0).cf (F.GAL_PROFp_CFG_HOLD_MODE 1) ≠ 2 ∧
    (profile 1 4 0).nextSlot 1 = some 0 ∧ (narrow 1 4).nextSlot 1 = none ∧ ((narrow 1 5).gp 1).state = 5 ∧ ((narrow 1 5).gp 2).state ≠ 5 ∧
    (asks (profile 1 0 0) [0x50, 0, 1, 0, 1]).takes 0 0x50 = true ∧ ((asks (profile 1 0 0) [0x50, 0, 1, 0, 4]).mb 0).arg 0 1 = 4 ∧
    (asks (profile 1 0 0) [0x50, 0, 1, 0, 1]).nextSlot 1 = some 0 ∧ (asks (narrow 1 0) [0x50, 0, 1, 0, 1]).nextSlot 1 = none ∧
    (asks (profile 1 2 2) [0x52, 0, 1, 0, 1]).takes 0 0x52 = true ∧ (asks (profile 1 2 2) [0x52, 0, 1, 0, 9]).takes 0 0x52 = true ∧
    (asks (capturing 1 1) [0x51, 0, 2, 0, 5, 0]).takes 0 0x51 = true ∧ ((asks (capturing 1 1) [0x51, 0, 2, 0, 5, 0]).mb 0).arg 0 2 = 5 ∧
    (asks station [0x51, 0, 2, 0, 5, 0]).gal.records = [] ∧
    (narrow 1 5).withGal { (narrow 1 5).gal with held := [] } ≠ narrow 1 5 ∧ (profile 1 4 0).invB = true := by decide +kernel
/-- A cell whose hottest NTC reads `t` sixteenths of a degree. -/
def warm (t : Nat) : State :=
  ((key cell (F.ADC_NTCm_SRC_EN 0) 1).put (F.ADC_NTCm_VALUE_VALID 0) 1).put (F.ADC_NTCm_VALUE_TEMP 0) t
def worn (s : State) (r : Option Int) (p : Int) (up : Bool) (hot : Nat) : State := s.withWear { s.wear with turn := r, peak := p, rising := up, hot := hot }
def substituted (k : Nat) (ok : Bool) (run : Nat) : State := station.withThm { station.thm with sensors := [(k, ⟨400, ok, some 900, run⟩)] }
theorem test_hyps_wear : (warm 1600).hottestNtc = some 1600 ∧ (warm 1600).isOn 1 = true ∧ cell.hottestNtc ≠ some 1 ∧ station.isCell = false ∧
    (worn (warm 1600) none 0 true 99).wear.turn = none ∧ (worn (warm 1599) (some 1000) 1500 true 0).wear.rising = true ∧
    (worn (warm 1600) (some 1000) 1760 true 0).wear.peak = 1760 ∧ (160 : Nat) ≤ ((1760 : Int) - 1000).natAbs ∧
    (worn (warm 1600) (some 1700) 1500 false 0).wear.rising = false ∧ (substituted 3 true 1000000).thm.sensors ≠ [] ∧
    SMap.find (substituted (sensorKey 1 5 2) true 1000000).thm.sensors (sensorKey 1 5 2) = some ⟨400, true, some 900, 1000000⟩ ∧
    SMap.find (substituted (sensorKey 1 5 2) true 999999).thm.sensors (sensorKey 1 5 2) = some ⟨400, true, some 900, 999999⟩ ∧
    SMap.find station.thm.sensors 3 = none ∧ (warm 1600).invB = true := by decide

/-! Grid control, loops, spares, twins (R217 to R301, R441 to R464). -/

/-- A tracker in control state DPC that a sample has reached; its conditions fail with `bad`. -/
def tracked (v : Nat) (bad : Bool) : State :=
  let s := ((key station F.OBS_TRK_SRC_EN 1).put F.OBS_TRK_STATUS_VALID v).put F.DPC_STATE_STATE 1
  s.withDpc { s.dpc with trkAt := some 5, trkV := if bad then 0 else 2 ^ 24, trkW := 2 ^ 24, trkVq := 0 }
def tracking (v : Nat) : State := tracked v false
theorem test_hyps_tracker : station.gridRuns = true ∧ (off station 10).gridRuns = false ∧ (tracking 0).trkConditions = true ∧
    (tracking 0).trkValid = false ∧ (tracking 1).trkValid = true ∧ (tracking 1).ctl = 1 ∧
    (tracked 1 true).trkConditions = false := by decide
def latchedLoop (n : Nat) : State := station.setLoop n { latched := true, count := 3, out := 700, d := 100, f := 50, e := 9 }
theorem test_hyps_run_time : (twinned 2).twn.operating = true ∧ (twinned 2).twin = 2 ∧ (twinned 3).twin ≠ 2 ∧ station.ctl = 0 ∧
    (tracking 1).ctl ≠ 0 ∧ ((latchedLoop 31).loop 31).latched = true ∧ (31 : Nat) < (latchedLoop 31).lpe.loops.length ∧
    station.isOn 11 = true ∧ station.twn.operating = false := by decide
def passing : State := (latchedLoop 3).withLpe { (latchedLoop 3).lpe with pass := some 77 }
theorem test_hyps_pass : passing.lpe.pass = some 77 ∧ passing.isOn 11 = true := by decide
/-- CELL_BRING_IN or CELL_RETIRE of stack `x`, position `q`. -/
def spare (c x q : Byte) : State := ask station 0 [c, 4, 2, 0, x, q]
/-- Position 5 of ring 1 is present with an identity. -/
def standing (s : State) : State :=
  (s.withCul { s.cul with ids := [[], [1, 2, 3, 4, 5], [], []] }).put (F.CUL_POS_r_s_PRESENT 1 5) 1
def asleepAt (s : State) : State := s.put (F.CUL_POS_r_s_ASLEEP 1 5) 1
def unadmitted (s : State) : State := key s (F.SEL_ADMITx_LO_ADMIT 1) 0
theorem test_hyps_spares : (spare 0x40 3 5).takes 0 0x40 = true ∧ (spare 0x40 2 49).takes 0 0x40 = true ∧
    (holds (spare 0x40 1 5) (resRing 1)).held &&& resRing 1 ≠ 0 ∧ (spare 0x40 1 0).bestSpare 1 = none ∧
    (spare 0x40 1 6).takable 1 6 = false ∧ (standing (spare 0x40 1 5)).takable 1 5 = true ∧ (standing (spare 0x40 1 0)).bestSpare 1 = some 5 ∧
    (standing (spare 0x40 1 5)).sleepsAt 1 5 = false ∧ (standing (spare 0x40 1 5)).loneB = false ∧ (standing (spare 0x40 1 5)).spr.ops = [] ∧ (spare 0x41 1 0).takes 0 0x41 = true ∧
    (spare 0x41 1 48).is (F.CUL_POS_r_s_PRESENT 1 48) = false ∧ (standing (spare 0x41 1 5)).is (F.CUL_POS_r_s_PRESENT 1 5) = true ∧
    (asleepAt (standing (spare 0x41 1 5))).sleepsAt 1 5 = true ∧ (standing (spare 0x41 1 5)).invB = true ∧
    (((standing (spare 0x41 1 5)).put (F.CUL_POS_r_s_LIMIT 1 5) 1).is (F.CUL_POS_r_s_LIMIT 1 5)) = true := by decide
def echoing (s : State) : State := (s.put F.TWN_STATUS_LINK_ECHO 1).put F.TWN_STATUS_RING_ECHO 1
def matched (s : State) : State := (echoing s).put F.TWN_STATUS_MATCHED 1
def twinAsk (v : Nat) (c : Byte) : State := ask (twinned v) 0 [c, 5, 0, 0]
def autoSwap (s : State) : State := key s F.TWN_CFG_AUTO_SWAP 1
def partner (s : State) (v : Nat) : State := s.withTwn { s.twn with partner := v }
theorem test_hyps_swap : (twinAsk 2 0x42).takes 0 0x42 = true ∧ (echoing (twinAsk 2 0x42)).is F.TWN_STATUS_LINK_ECHO = true ∧
    (echoing (twinAsk 2 0x42)).is F.TWN_STATUS_RESYNC = false ∧ (echoing (twinAsk 2 0x42)).twn.partner ≠ 3 ∧ (echoing (twinAsk 2 0x42)).held &&& resRings 15 = 0 ∧
    (holds (twinAsk 2 0x42) resTwin).held &&& resTwin ≠ 0 ∧ (echoing (twinAsk 3 0x42)).twin = 3 ∧ (twinAsk 4 0x42).twin = 4 ∧
    (partner (twinAsk 2 0x42) 3).twn.partner = 3 ∧ (twinAsk 1 0x42).twin = 1 ∧ (ask station 0 [0x42, 5, 0, 0]).twin = 0 ∧
    (autoSwap (twinned 2)).cfIs F.TWN_CFG_AUTO_SWAP = true ∧ (autoSwap (echoing (twinned 2))).held &&& resTwin = 0 ∧
    (twinAsk 4 0x43).takes 0 0x43 = true ∧ (matched (twinAsk 4 0x43)).is F.TWN_STATUS_MATCHED = true ∧
    (holds (matched (twinAsk 2 0x43)) resTwin).held &&& resTwin ≠ 0 ∧ (matched (twinAsk 2 0x43)).invB = true := by decide
def silent (s : State) (n : Nat) : State := s.withTwn { s.twn with linkSilent := n, ringSilent := n, silentBoth := n }
theorem test_hyps_silence : (echoing (silent (twinned 3) 255)).echoSilent true = true ∧ (echoing (silent (twinned 3) 255)).is F.TWN_STATUS_RING_ECHO = true ∧
    (twinned 3).echoSilent false = false ∧ (silent (twinned 4) 255).echoSilent false = true ∧ (silent (twinned 1) 1000).twin = 1 ∧
    1000 ≤ (silent (twinned 1) 1000).twn.silentBoth ∧ (silent (twinned 1) 999).twn.silentBoth < 1000 ∧
    ((silent (twinned 4) 255).put F.DPC_STATE_STATE 2).ctl = 2 ∧ ((silent (twinned 2) 255)).twin ≠ 3 := by decide
def linked (v : Nat) : State := ((rx (twinned v) 8 5).put F.CUL_TIDE_TIDE 4).withTwn { (twinned v).twn with areas := [(4, [[1], [2]])] }
/-- A twin-link frame of twin B for tide 4: ECHO_STATE 1, ECHO_COUNT 9. -/
def linkFrame (bad : Nat) : TideFrame := frame [4, 0, 0, 0, 0x29, 1, 0, 0] (padTo 472 [1]) bad
theorem test_hyps_link : (linked 3).get (F.CUL_Pn_STATUS_RX_STATE 8) = 5 ∧ (linked 3).isOn 6 = true ∧ (linked 3).twn.operating = true ∧
    (linkFrame 0).body.length = 472 ∧ (linkFrame 0).tide = (linked 3).tide ∧
    natBit (leAt (linkFrame 0).header 5 1) 0 = (!(linked 3).isTwinB) ∧ (linked 3).twn.areas.find? (fun a => a.1 == 4) = some (4, [[1], [2]]) ∧
    (linked 3).tide % 8 = 4 ∧ (linked 3).twn.linkCount ≠ some 9 ∧ leAt (linkFrame 0).header 4 1 / 32 = 1 := by decide +kernel
theorem test_hyps_link_frames : (linkFrame 0).intact = true := frame_intact _ _
def resyncing (v : Nat) : State := ((twinned v).put F.TWN_STATUS_RESYNC 1).withTwn { (twinned v).twn with resyncBy := some 0 }
theorem test_hyps_resync : (resyncing 4).is F.TWN_STATUS_RESYNC = true ∧ (resyncing 4).twin = 4 ∧ (resyncing 4).twn.resyncBy = some 0 ∧
    (resyncing 3).twin ≠ 4 ∧ (resyncing 3).twin ≠ 2 ∧ (resyncing 4).invB = true := by decide

/-! Further witnesses, of clauses the states above do not reach. -/

def presenting (n t : Nat) : State :=
  station.withInt { station.int with pend := 1#256 <<< n, en := 1#256 <<< n, tgt := BitVec.ofNat 512 t <<< (2 * n) }
def armed (s : State) : State := off (key (key (key s F.PWR_WAKE_EN_LANE_EN 0x3FF) F.PWR_WAKE_EN_GUARD_EN 1) F.PWR_WAKE_EN_ALARM_EN 1) 5
def generations : State := loading.withVlt { loading.vlt with
  slots := [some (SlotSt.written .station 4 []), some (SlotSt.header .station 9 []), some (SlotSt.written .station 7 [(R.HST_PLACE, 5)]), none] }
theorem test_hyps_more : (presenting 255 3).int.presented 255 3 = true ∧ (presenting 0 0).int.presented 0 0 = true ∧
    (presenting 96 1).int.race.getD 1 none = none ∧ (armed station).armed .guard = true ∧ natBit ((armed cell).cf F.PWR_WAKE_EN_LANE_EN) 9 = true ∧
    natBit ((armed cell).cf F.PWR_WAKE_EN_LANE_EN) 0 = true ∧ (armed State.reset).awake = false ∧
    generations.invB = true ∧
    (cell.withClk { cell.clk with retry := true }).isStation = false := by decide +kernel
/-- A generation without its commit record is not valid; one with it is. -/
theorem test_hyps_generations : ∃ x y, generations.vlt.slots.getD 2 none = some x ∧ x.valid = true ∧
    generations.vlt.slots.getD 1 none = some y ∧ y.valid = false := ⟨_, _, rfl, SlotSt.written_valid .station 7 _, rfl, rfl⟩
def converted : State := calibrating.withPwr { calibrating.pwr with calStarted := true }
def near (p : Int) : State := onPlace (aligned 1) p
theorem test_hyps_more_measure : converted.pwr.calStarted = true ∧ converted.get F.ADC_CAL_STATUS_RUNNING ≠ 0 ∧
    (near 537).isOn 5 = true ∧ (near 537).get F.CUL_ALIGN_STATE = 1 ∧
    (10 * 537 - halfRound ((12800 : Int) - 2048 - 0)).natAbs ≤ 256 ∧ 256 < (10 * 500 - halfRound ((12800 : Int) - 2048 - 0)).natAbs ∧
    (holds (rings station 0x09 3) (resRing 3)).held &&& resRing 3 ≠ 0 ∧ (missing (running port 1) 300).isPort = true ∧
    (holds (spare 0x41 1 5) (resRing 1)).held &&& resRing 1 ≠ 0 := by decide
def single (p a m : Nat) : State := key (key (key (capturing p 1) (F.GAL_PROFp_CFG_SINGLE p) a) (F.GAL_PROFp_CFG_HOLD_MODE p) m) (F.GAL_PROFp_HOLD_VALUE p) 5
def freeing : State := (narrow 1 5).withGal { (narrow 1 5).gal with held := [(5, 1, 0, 64768)] }
theorem test_hyps_more_gallery : (single 3 1 0).cfIs (F.GAL_PROFp_CFG_SINGLE 3) = true ∧ (single 2 0 1).cf (F.GAL_PROFp_CFG_HOLD_MODE 2) ≠ 0 ∧
    (single 2 0 1).cf (F.GAL_PROFp_HOLD_VALUE 2) ≠ 0 ∧ (single 2 0 1).cf (F.GAL_PROFp_POST_POST 2) ≤ 1 + 1 ∧
    (freeing.withGal { freeing.gal with held := freeing.gal.held.filter (fun h => h.1 != (5#16).toNat) }).nextSlot 1 ≠ none ∧
    (freeing.gp 1).state = 5 := by decide +kernel
def falling (v c : Nat) : State := ((echoing (silent (twinned 4) 255)).put F.OBS_TRK_STATUS_VALID v).put F.DPC_STATE_STATE c
/-- A twin-link frame of the partner whose CMD_CRC is that of the own command areas. -/
def agreeing : TideFrame := frame ([4, 0, 0, 0, 0x29, 1, 0, 0] ++ leBytes 4 (crc32 [1, 2]).toNat) (padTo 472 [1]) 0
def ending : State := (resyncing 4).withTwn { (resyncing 4).twn with resyncBy := none }
theorem test_hyps_more_twins : (falling 1 1).trkValid = true ∧ (falling 0 2).ctl = 2 ∧ (falling 1 1).gridRuns = true ∧
    (crc32 ([[1], [2]] : List (List Byte)).flatten).toNat = leAt agreeing.header 8 4 ∧ ending.twn.resyncBy = none ∧
    ending.is F.TWN_STATUS_RESYNC = true ∧ snapReg R.DPC_STATE = true ∧ snapReg 0x20 = false := by decide +kernel
theorem test_hyps_more_frames : agreeing.intact = true := frame_intact _ _

/-! ## Ill-formed operands are refused -/

theorem test_wf_ports : (Instr.laneWakeLatch 10).wf = false ∧ (Instr.rxDeskewSet 10 0).wf = false ∧ (Instr.rxRealign 10 1).wf = false ∧
    (Instr.portStatusReceived 10 0 0).wf = false ∧ (Instr.laneActivity 10).wf = false ∧ (Instr.laneActivity 9).wf = true ∧
    (Instr.wakeDuringAwake (.lane 10)).wf = false ∧ (Instr.wakeDuringAwake .drip).wf = true := by decide
theorem test_wf_frames : (Instr.tideFrameReceived 10 inFrame 0).wf = false ∧ (Instr.tideFrameReceived 0 ⟨[], [], 0⟩ 0).wf = false ∧
    (Instr.tideFrameReceived 9 inFrame 0).wf = true ∧ (Instr.twinLinkFrameReceived ⟨List.replicate 16 0, List.replicate 31 0, 0⟩ 0 0).wf = false := by
  decide
theorem test_wf_power : (Instr.guardChangeAccepted 4 true).wf = false ∧ (Instr.polderPowerGood 0 true).wf = false ∧
    (Instr.polderStartFailure 16).wf = false ∧ (Instr.culvertPolderIdleStop 7).wf = false ∧ (Instr.culvertPolderIdleStop 6).wf = true := by decide
theorem test_wf_mailboxes : (Instr.doorbell .bus 4 1).wf = false ∧ (Instr.sleep 5).wf = false ∧ (Instr.remote 4).wf = true ∧
    (Instr.ringAlign 5 [] true 0).wf = false ∧ (Instr.remoteTimeout 4).wf = false ∧ (Instr.messageBusyRetry 4).wf = false := by decide
theorem test_wf_numbers : (Instr.triggerTokenRaise 32 0).wf = false ∧ (Instr.triggerTokenRaise 0 6400).wf = false ∧
    (Instr.adcResult 4 0).wf = false ∧ (Instr.dabHalfCycleEdge 2).wf = false ∧ (Instr.tripActive 4).wf = false ∧
    (Instr.desaturation 9).wf = false ∧ (Instr.bootstrapWarn 4).wf = false ∧ (Instr.ovComparatorChange 0 true).wf = false ∧ (Instr.ovComparatorChange 3 true).wf = true ∧
    (Instr.modulatorAdcStart 0 0 4).wf = false := by decide
theorem test_wf_faults : (Instr.faultEvent 128).wf = false ∧ (Instr.intPendWrite 8 0).wf = false ∧ (Instr.intTgtWrite 16 0).wf = false ∧
    (Instr.hsleepChange 4 true).wf = false ∧ (Instr.wardenInputFiltered true 3 true).wf = false ∧
    (Instr.substitutionEnd false 4 1 0).wf = false ∧ (Instr.substitutionEnd true 0 97 0).wf = false ∧ (Instr.substitutionEnd true 0 0 5).wf = false := by
  decide
theorem test_wf_network : (Instr.ethFrameSent 2 0 0).wf = false ∧ (Instr.hostTxGo 4 0).wf = false ∧ (Instr.svSubscriptionTimeout 16).wf = false ∧
    (Instr.gooseRepeat 16).wf = false ∧ (Instr.gooseDeadlinePassed 64).wf = false ∧ (Instr.gooseDeadlinePassed 63).wf = true ∧
    (Instr.gallerySample 5).wf = false ∧ (Instr.holdoffEnd 4).wf = false := by decide

/-! ## One step -/

/-- R54, Table 3-1: the straps 0b01 of a cell are latched and POWER_ON (bit 0) is recorded. -/
theorem test_vcrest_rise : ∃ t, exec (.vcrestRise ⟨false, true, false, false⟩ true true 3) dark = .next t ∧ t.role = .cell ∧
    t.word R.PWR_WAKE_CAUSE = 1 := ⟨_, rfl, by decide, by decide⟩
/-- R55: gates off, standby, SUPPLY_LOST. -/
theorem test_supply_lost : (match exec (.supplyLost true 3 true 0) litCell with
    | .next t => t.pins.gates == 0 && t.pwr.phase == .crest | _ => false) = true := by decide +kernel
/-- R84: a lane's latch is its own bit. -/
theorem test_lane_latch : (match exec (.laneWakeLatch 9) (armed cell) with | .next t => t.pwr.reqLane == 0x200 | _ => false) = true := by decide +kernel
/-- R125: a doorbell of M1 on SPI queues mailbox 1. -/
theorem test_doorbell : ∃ t, exec (.doorbell .spi 1 1) station = .next t ∧ t.mbState 1 = mbQueued ∧ t.mbState 0 = mbIdle :=
  ⟨_, rfl, by decide, by decide⟩
/-- R187: 1.6 V at gain 0 is code 34,953, limited to 32,767 with SAT. -/
theorem test_result_limited : ∃ u, exec (.adcResult 1 1600000000000) converting = .next (State.settle u) ∧ u.getS (F.ADC_RESn_k_VALUE 1 0) = 32767 ∧
    u.is (F.ADC_RESn_k_SAT 1 0) = true := ⟨_, rfl, by decide +kernel, by decide +kernel⟩
/-- R340: source 255 wins over 96. -/
theorem test_winner : (({ (presenting 255 0) with int := { (presenting 255 0).int with
    pend := 1#256 <<< 255 ||| 1#256 <<< 96, en := BitVec.allOnes 256 } } : State).readWinner 0).1 = 255 := by decide +kernel
/-- R405: a step of 5 ns moves the ns time by 5. -/
theorem test_tim_step : ∃ u, exec (.timStepWrite 5) (timed (key station F.TIM_CONFIG_TIM_STEP_LIMIT 10) 100) = .next (State.settle u) ∧ u.nowNs = 105 :=
  ⟨_, rfl, by decide⟩
/-- R398: NET_RX_POP frees the oldest of eight slots. -/
theorem test_rx_pop : ∃ t, exec .netRxPop fullSlots = .next t ∧ t.net.count = 7 ∧ t.net.head = 1 := ⟨_, rfl, by decide, by decide⟩
/-- R456: a swing of 760 sixteenths (47.5 °C) falls in bin 2 (40 to 60 °C). -/
theorem test_wear_bin : ∃ t, exec .wearSample (worn (warm 1600) (some 1000) 1760 true 0) = .next t ∧ t.get (F.SPR_BINk_VALUE 2) = 1 :=
  ⟨_, rfl, by decide⟩
/-- R314 to R320: the chopper turns off once the bus has fallen below the first threshold. -/
theorem test_chopper_off : ∃ u, exec .chopperTurnOff (withAbove (checking (chopping station)) 0) = .next (State.settle u) ∧ u.gdr.chop = false :=
  ⟨_, rfl, by decide⟩
/-- R424, R434: two channels stored at the base of the slot, then the next position. -/
theorem test_gallery_sample : ∃ u, exec (.gallerySample 0) (profile 3 1 1) = .next (State.settle u) ∧ (u.gp 3).state = 2 ∧ (u.gp 3).pos = 1 :=
  ⟨_, rfl, by decide, by decide⟩
/-! Demands of polders that are off (R86, R88), waits and second attempts. -/

def serving (s : State) : State := s.put F.CLK_STATUS_PLAN 1
def blocked (s : State) : State := s.withPwr { s.pwr with blocked := true }
theorem test_hyps_demands : (serving (off (calibrate 5) 12)).servicePlan = true ∧ (off (calibrate 5) 12).servicePlan = false ∧
    (blocked (off (calibrate 5) 12)).pwr.blocked = true ∧ (off (calibrate 5) 12).pwr.blocked = false ∧
    (off (rings station 0x30 4) 6).isOn 6 = false ∧ (serving (off (rings station 0x31 1) 5)).isOn 5 = false ∧
    (station.ringPolders 3).contains 6 = true ∧ (off (rings station 0x09 2) 5).takes 0 0x09 = true ∧
    (off (present (remote station 2 7 [2, 1, 0, 0]) 2 7) 5).takes 0 0x70 = true ∧
    (serving (off (present (remote station 2 7 [2, 1, 0, 0]) 2 7) 5)).servicePlan = true ∧
    (off (spare 0x40 1 5) 5).takes 0 0x40 = true ∧ (off (spare 0x41 1 5) 5).takes 0 0x41 = true ∧
    (off (asks station [0x50, 0, 1, 0, 1]) 9).takes 0 0x50 = true ∧ (off (asks station [0x51, 0, 2, 0, 5, 0]) 9).isOn 9 = false ∧
    (off (asks station [0x52, 0, 1, 0, 1]) 9).takes 0 0x52 = true := by decide
def waitingRelock (a : Byte) : State := ask waitsP0 0 [0x28, 7, 4, 0, a]
theorem test_hyps_relock_waiting : (waitingRelock 4).takes 0 0x28 = true ∧ (waitingRelock 4).clk.waitP0 = true ∧
    ((waitingRelock 4).mb 0).arg 0 1 = b2n true * 4 ∧ ((waitingRelock 0).mb 0).arg 0 1 = b2n false * 4 ∧
    (waitingRelock 4).clk.attempt = .none ∧ (waitingRelock 4).held &&& resClock = 0 ∧ (waitingRelock 4).anyTxAwake = false ∧
    (waitingRelock 4).pulseBlocked = true ∧ (waitingRelock 4).invB = true := by decide
def startCal : State := calibrating.withPwr { calibrating.pwr with calRun := true, calStarted := true }
theorem test_hyps_start_up_calibration : startCal.pwr.calRun = true ∧ startCal.get F.ADC_CAL_STATUS_RUNNING ≠ 0 ∧
    startCal.isOn 12 = true := by decide
theorem test_hyps_spi_data : (spi station .turnaround).spi.phase = .turnaround ∧ (spi station .ignored).spi.phase = .ignored ∧
    itemAt (spi station .writing).spi.addr = ((spi station .writing).spi.addr, 1) ∧ (spi station .writing).spi.addr % 4 = 0 := by
  decide
def ended (n cause edge uvlo : Nat) : State :=
  let s := ((litCell.put F.GDR_STATUS_HB_HOLD (2 ^ n)).put F.GDR_CH_STATUS_UVLO uvlo)
  s.withGdr { s.gdr with cause := s.gdr.cause.set n (2 ^ cause), edges := BitVec.ofNat 8 (2 ^ edge) }
theorem test_hyps_hold_end : (ended 2 1 4 0).hbHeld 2 = true ∧ (ended 2 1 4 0).holdClears 2 = true ∧ (ended 2 1 4 0).namedEdge 2 = true ∧
    (ended 2 2 4 0).namedEdge 2 = false ∧ (ended 0 4 1 2).holdClears 0 = false ∧ (ended 3 6 6 0).namedEdge 3 = true ∧
    (ended 2 1 4 0x20).get F.GDR_CH_STATUS_UVLO ≠ 0 ∧ (ended 2 1 4 0).invB = true := by decide
/-- A capture whose next sample is the last one. -/
def lastSample (single hold : Nat) : State :=
  let s := key (key (key (capturing 3 1) (F.GAL_PROFp_CFG_SINGLE 3) single) (F.GAL_PROFp_CFG_HOLD_MODE 3) hold) (F.GAL_PROFp_HOLD_VALUE 3) 5
  s.withGal { s.gal with prof := s.gal.prof.set 3 { s.gp 3 with got := 1 } }
theorem test_hyps_last_sample : (lastSample 1 0).cf (F.GAL_PROFp_POST_POST 3) ≤ ((lastSample 1 0).gp 3).got + 1 ∧
    (lastSample 1 0).cfIs (F.GAL_PROFp_CFG_SINGLE 3) = true ∧ (lastSample 0 1).cf (F.GAL_PROFp_CFG_HOLD_MODE 3) ≠ 0 ∧
    (lastSample 0 1).cf (F.GAL_PROFp_HOLD_VALUE 3) ≠ 0 ∧ (lastSample 0 1).cfIs (F.GAL_PROFp_CFG_SINGLE 3) = false ∧
    (lastSample 0 1).invB = true := by decide
def twoHeld : State := (narrow 1 5).withGal { (narrow 1 5).gal with held := [(5, 1, 0, 64768), (3, 2, 70000, 70032)] }
theorem test_hyps_two_held : (twoHeld.gp 1).state = 5 ∧ twoHeld.isOn 9 = true ∧
    ({ twoHeld with gal := { twoHeld.gal with held := twoHeld.gal.held.filter (fun h => h.1 != (5#16).toNat) } } : State).nextSlot 1 = some 0 := by
  decide +kernel
def gridded : State := station.withTim { station.tim with grid := [(4800, 1000000000, 7)] }
theorem test_hyps_grid_taken : gridded.gridTaken 4800 7 = true ∧ gridded.gridTaken 4800 8 = false ∧ gridded.gridTaken 14400 0 = false ∧
    gridded.get F.TIM_SECOND_VALUE = 1000000000 := by decide
def swapTime (s : State) : State := (autoSwap s).withTwn { s.twn with retryAt := some 5, hourTides := 5 }
theorem test_hyps_swap_time : (swapTime (echoing (twinned 2))).swapDue ≤ (swapTime (echoing (twinned 2))).twn.hourTides ∧
    (swapTime (twinned 2)).is F.TWN_STATUS_LINK_ECHO = false ∧ (swapTime (echoing (twinned 2))).twn.swapIn.isNone = true ∧
    (swapTime (echoing (twinned 2))).held &&& resRings 15 = 0 ∧ (autoSwap (twinned 2)).twn.hourTides < (autoSwap (twinned 2)).swapDue ∧
    (swapTime (echoing (twinned 2))).invB = true := by decide
def counted (v : Nat) : State := (linked v).withTwn { (linked v).twn with linkCount := some 8 }
theorem test_hyps_link_count : advanced (counted 3).twn.linkCount 9 = true ∧ advanced (linked 3).twn.linkCount 9 = false ∧
    (counted 3).twn.operating = true := by decide
def resyncActive : State := partner (resyncing 2) 2
theorem test_hyps_resync_active : resyncActive.twin = 2 ∧ resyncActive.twn.partner = 2 ∧ resyncActive.is F.TWN_STATUS_RESYNC = true ∧
    resyncActive.invB = true := by decide
/-- Position 5 of ring 1 sleeps, the first of its block, and is a spare. -/
def sleepingSpare : State := asleepAt (standing (asleep (spare 0x40 1 5) 1 5))
theorem test_hyps_sleeping_spare : sleepingSpare.takable 1 5 = true ∧ sleepingSpare.sleepsAt 1 5 = true ∧
    sleepingSpare.relayFull 1 5 = false ∧ sleepingSpare.loneB = false ∧ sleepingSpare.invB = true := by decide
def unheard (b : Bool) : State := wchan (warden (wkeys station) 2 2) b (fun c => { c with silent := true })
theorem test_hyps_unheard : (unheard true).comparing = true ∧ ((unheard true).wch true).silent = true ∧
    (unheard false).wstate false ≠ wLockout := by decide
theorem test_hyps_moves : (laneActive station 9).isOn (portPolder 9) = true ∧ (laneActive station 9).isStation = true ∧
    (station.withPwr { station.pwr with vio3 := false }).pwr.vio3 = false ∧ (almost.put (F.CUL_Pn_STATUS_TX_AWAKE 0) 1).invB = true ∧
    station.gridRates = [] ∧ (onGrid 3).gridRates = [4800] := by decide
def busyAt (s : State) (n : Nat) : State := s.put (F.ADC_SEQn_STATUS_BUSY n) 1
def calAt (s : State) (n : Nat) : State := s.put (F.ADC_SEQn_STATUS_CAL n) 1
theorem test_hyps_overruns : (busyAt (due (onTide 0) 0) 0).is (F.ADC_SEQn_STATUS_BUSY 0) = true ∧
    (calAt (due (onTide 1) 1) 1).is (F.ADC_SEQn_STATUS_CAL 1) = true ∧ (calAt (due (onTide 1) 1) 1).cfgOf (F.ADC_SEQn_CTRL_EN 1) = 1 ∧
    (busyAt (onEdge 2) 2).is (F.ADC_SEQn_STATUS_CAL 2) = false ∧ (calAt (onEdge 3) 3).cfgOf (F.ADC_SEQn_CTRL_SOURCE 3) = 3 ∧
    ((busyAt (due (onTide 0) 0) 0).adc.conv.getD 0 {}).began = none ∧ (busyAt (onEdge 2) 2).invB = true := by decide
def relocking (a : Attempt) (plan : Nat) : State :=
  let s := (ask station 1 [0x28, 7, 4, 0, 0]).put F.CLK_STATUS_GATED 1
  s.withClk { s.clk with attempt := a, relock := some (1, plan) }
theorem test_hyps_relock_ends : (relocking .full 1).clk.relock = some (1, 1) ∧ (relocking .stored 0).clk.attempt = .stored ∧
    (relocking .full 0).pwr.calStarted = false ∧ (relocking .full 0).invB = true ∧ (attempt held .reengage).clk.attempt = .reengage ∧
    (aligned 2).get F.CUL_ALIGN_STATE = 2 ∧ (aligned 2).is F.CUL_ALIGN_LOOP_VALID = true := by decide
def openExport (o : Byte) : State := ask station 0 [0x14, 1, 4, 0, o]
theorem test_hyps_open_export : ((openExport 0).mb 0).arg 0 4 = 0 ∧ (openExport 0).held &&& resVault = 0 ∧ (openExport 0).takes 0 0x14 = true ∧
    (openExport 52).vlt.image = none ∧ ((openExport 52).mb 0).arg 0 4 ≠ 0 ∧ (openExport 0).uhlop ⟨false, false, false, false⟩ ≠ [] ∧
    (holds (openExport 0) resVault).held &&& resVault ≠ 0 := by decide +kernel
def hostCal : State := calibrating.withPwr { calibrating.pwr with calStarted := true, phase := .starting }
theorem test_hyps_host_calibration : hostCal.pwr.calRun = false ∧ hostCal.pwr.calStarted = true ∧ hostCal.pwr.calDone = false ∧
    hostCal.get F.ADC_CAL_STATUS_RUNNING ≠ 0 := by decide
/-! Witnesses of the further clauses: supplies and banks, SPI ends, writes, staging and commits, start-up. -/

def banks (s : State) (v : BitVec 2) : State := s.withPwr { s.pwr with vio := v }
theorem test_hyps_banks : station.bank 1 = true ∧ station.bank 2 = true ∧ (banks station 2).bank 1 = false ∧
    (banks station 1).bank 2 = false ∧ station.pwr.suppliesGood = true ∧ (spi (banks station 2) .writing).bank 2 = true ∧
    (banks half 1).bank 1 = true ∧ (banks snapped 2).isOn 1 = true ∧ (banks station 2).invB = true := by decide
theorem test_hyps_spi_end : (spi station .turnaround).spi.phase = .turnaround ∧ (spi station .reading).bank 2 = true ∧
    station.sdoLand = none := by decide
def drips (s : State) (b : Bool) : State := s.withPwr { s.pwr with dripRuns := b }
theorem test_hyps_drip_runs : (drips station true).pwr.dripRuns = true ∧ (drips station false).pwr.dripRuns = false ∧
    station.pwr.vio3 = true ∧ (drips (station.withPwr { station.pwr with vio3 := false }) true).pwr.vio3 = false ∧
    station.pwr.vcrest = true := by decide
/-- A first lock that failed waits in SERVICE; a search runs. -/
def waitsLock : State := (attempt station .full).withPwr { station.pwr with phase := .service, calStarted := true }
def waitsFirst : State := waitsLock.withClk { waitsLock.clk with startWait := true }
theorem test_hyps_start_wait : waitsFirst.clk.startWait = true ∧ waitsFirst.pwr.phase = .service ∧ waitsFirst.clk.relock = none ∧
    waitsFirst.clk.attempt = .full ∧ waitsLock.pwr.calStarted = true ∧ (attempt almost .full).pwr.phase = .starting ∧
    waitsFirst.invB = true := by decide
/-- HST_SPI_STATUS, the mailbox LOST bits and a plain RW register are rows without an action of their own; 0x000024 is none. -/
theorem test_hyps_plain : (findReg R.HST_SPI_STATUS).isSome = true ∧ (findReg (R.RVE_Mn_STATE 1)).isSome = true ∧
    (findReg R.HST_SPI_STATUS).all (fun r => r.words == 1 && station.hostHas r) = true ∧
    (findReg (R.RVE_Mn_STATE 1)).all (fun r => r.words == 1 && station.hostHas r && r.accMask .w1c != 0 && r.accMask .rw == 0) = true ∧
    (findReg 0x20).all (fun r => r.accMask .rw == 0xFFFFFFFF#32) = true ∧ findReg 0x17FFC = none ∧ R.HST_SPI_STATUS % 4 = 0 ∧
    station.mod.frozen = false ∧ station.twn.operating = false ∧ (findReg R.MOD_STATUS).isSome = true := by decide +kernel
def badMask (s : State) : State := writes s R.HST_PLACE 0x3 3
/-- A request that DISCARD precedes (flag bit 0). -/
def discards (s : State) : State := ask s 0 ([0x10, 5, 12, 1] ++ leBytes 4 R.HST_PLACE ++ leBytes 4 0x7F ++ leBytes 4 5)
def refuses {α : Type} (x : Except Status α) (e : Status) : Bool := match x with | .error y => y == e | .ok _ => false
theorem test_hyps_requests : refuses ((badMask station).requestKeys [((badMask station).mb 0).entry 0]) .badArg = true ∧
    ((writes station R.HST_PLACE 0x7F 5).requestKeys [((writes station R.HST_PLACE 0x7F 5).mb 0).entry 0]).toOption = some [(⟨R.HST_PLACE, 0, 7⟩, 5)] ∧
    (List.range (((writes station R.HST_PLACE 0x7F 5).mb 0).len / 12)).length = 1 ∧ (badMask station).takes 0 0x10 = true ∧
    (discards (staged station)).takes 0 0x10 = true ∧ natBit ((discards (staged station)).mb 0).flags 0 = true ∧
    ((writes station R.HST_PLACE 0x7F 5).stageRequest 0 false [(⟨R.HST_PLACE, 0, 7⟩, 5)]).toOption = some [⟨R.HST_PLACE, 0, 7, 5, 0, 0, 0⟩] := by
  decide +kernel
/-- A key whose rule refuses the request: an enabled profile without a DIV. -/
def ruleBroken : State := writes station (R.GAL_PROFp_CFG 1) (2 ^ (F.GAL_PROFp_CFG_EN 1).lo) (2 ^ (F.GAL_PROFp_CFG_EN 1).lo)
theorem test_hyps_request_refused : refuses (ruleBroken.stageRequest 0 false [(F.GAL_PROFp_CFG_EN 1, 1)]) .badArg = true ∧
    (ruleBroken.requestKeys [(ruleBroken.mb 0).entry 0]).toOption = some [(F.GAL_PROFp_CFG_EN 1, 1)] ∧ ruleBroken.takes 0 0x10 = true := by
  decide +kernel
def cellCommit : State := (key (staged (ask cell 0 [0x12])) F.HST_PLACE_SLOT 3).put (F.SPR_BINk_VALUE 1) 7
theorem test_hyps_cell_commit : cellCommit.takes 0 0x12 = true ∧ cellCommit.isCell = true ∧ cellCommit.held &&& resVault = 0 ∧
    (cellCommit.stageWear 0).rve.staged.length = 10 ∧ cellCommit.changes (cellCommit.stageWear 0).rve.staged ≠ [] ∧
    cellCommit.vlt.bad = [] ∧ cellCommit.pwr.vcrest = true ∧ cellCommit.invB = true := by decide +kernel
def lastSpare : State := (committing (.page 1)).withVlt { (committing (.page 1)).vlt with spares := 8 }
theorem test_hyps_last_spare : 8 ≤ lastSpare.vlt.spares ∧ lastSpare.invB = true ∧ (0 : Nat) < lastSpare.rve.mb.length ∧
    (committing (.page 2)).vlt.spares < 8 := by decide

/-! Lanes, ring commands, tide boundaries, gates. -/

def toWake (s : State) (p : Nat) : State := s.withPwr { s.pwr with laneTx := s.pwr.laneTx ||| (1#10 <<< p), laneRx := s.pwr.laneRx ||| (1#10 <<< p) }
/-- The P0 clock is absent and the PLL stands still: no transmit direction wakes. -/
def silentPort (s : State) : State := ((s.put F.CLK_STATUS_LOCKED 0).put F.CLK_STATUS_HOLDOVER 0).withClk { s.clk with waitP0 := true }
theorem test_hyps_lane_polder_off : (toWake (off (lane station 0x32 8 3) 6) 8).portOn 8 = false ∧
    (toWake (off (lane station 0x32 8 3) 6) 8).usable 8 = false ∧ (toWake (off (lane station 0x32 8 3) 6) 8).pwr.laneTx.getLsbD 8 = true ∧
    (silentPort (lane cell 0x33 1 3)).noTransmit = true ∧ (locked (lane cell 0x33 1 3)).noTransmit = false ∧
    (silentPort (lane cell 0x33 1 3)).portOn 1 = true ∧ (wrapped (aligned 1) 1).wraps = true ∧ (aligned 1).wraps = false ∧
    ((wrapped (aligned 1) 0).is (F.CUL_Pn_STATUS_WRAPPED 0)) = true := by decide
/-- A ring command of mailbox 0 runs on, in a stage and tides of it. -/
def runsOn (s : State) (mask stage n : Nat) : State :=
  s.setMb 0 { s.mb 0 with running := true, held := resRings mask, stage := stage, tides := n, inStage := n }
def knows (s : State) (l : List (List Nat)) : State := s.withCul { s.cul with ids := l }
theorem test_hyps_discover : (runsOn (mine (rings station 0x30 9)) 9 1 255).runs 0 0x30 = true ∧
    ((runsOn (mine (rings station 0x30 9)) 9 1 256).mb 0).stage = 1 ∧ 256 ≤ ((runsOn (mine (rings station 0x30 9)) 9 1 256).mb 0).inStage ∧
    ((runsOn (mine (rings station 0x30 9)) 9 2 3).mb 0).stage = 2 ∧ (runsOn (mine (rings station 0x30 9)) 9 2 3).ringQuiet 3 = true ∧
    (((runsOn (mine (rings station 0x30 9)) 9 2 3).sendOwn 3 2 0x01 0 []).ringQuiet 3) = false ∧
    (knows (runsOn (mine (rings station 0x30 9)) 9 3 3) [[5], [], [], [6, 7]]).runs 0 0x30 = true ∧
    ((runsOn (mine (rings station 0x30 9)) 9 4 0).mb 0).waits = false ∧ ((runsOn (mine (rings station 0x30 9)) 9 4 0).mb 0).nexts = [] ∧
    (mine (rings station 0x30 9)).cf F.HST_DEVICE_ID_DEVICE_ID ≠ 0 ∧ (runsOn (mine (rings station 0x30 9)) 9 4 0).cul.excluded = [] ∧
    ((runsOn (mine (rings station 0x30 9)) 9 4 0).withCul { station.cul with excluded := [(0, 1)] }).cul.excluded ≠ [] ∧
    (runsOn (mine (rings station 0x30 9)) 9 1 256).invB = true := by decide +kernel
def drivenRing (s : State) (r : Nat) : State :=
  let s := key s (F.CUL_RINGr_FORMAT_POSITIONS r) 1
  s.withCul { s.cul with recs := [⟨r, 0, s.tide, s.tide, false, padTo (s.recSize r) [0, 1]⟩] }
theorem test_hyps_driving : (drivenRing (rings station 0x30 1) 0).ringDriving 0 = true ∧ (rings station 0x30 1).ringDriving 0 = false ∧
    (drivenRing (rings station 0x30 1) 0).takes 0 0x30 = true := by decide +kernel
/-- Position `q` of ring `r` is asleep. -/
def asleepPos (s : State) (r q : Nat) : State := s.put (F.CUL_POS_r_s_ASLEEP r q) 1
/-- Both ends of ring `r` see READY. -/
def readyEnds (s : State) (r : Nat) : State :=
  [2 * r, 2 * r + 1].foldl (fun s p => (s.put (F.CUL_Pn_STATUS_READY p) 1).withCul { (s.put (F.CUL_Pn_STATUS_READY p) 1).cul with
    ports := s.cul.ports.set p { s.cport p with peerReady := true } }) s
theorem test_hyps_align_ring : (readyEnds (aligning 4) 2).wrapBad 0 2 = false ∧ (readyEnds (aligning 4) 2).wrapBad 4 2 = true ∧
    (aligning 4).wrapBad 0 2 = true ∧ (aligning 4).twn.operating = false ∧ (aligning 4).cul.unwrap.length = 4 ∧
    (runsOn (aligning 4) 4 1 1023).runs 0 0x31 = true ∧ 1024 ≤ ((runsOn (aligning 4) 4 1 1024).mb 0).inStage ∧
    ((runsOn (aligning 4) 4 2 19999).mb 0).inStage < 20000 ∧ 20000 ≤ ((runsOn (aligning 4) 4 2 20000).mb 0).inStage ∧
    (asleepPos (runsOn (aligning 4) 4 2 5) 2 1).ringAligned 2 = true ∧ ((runsOn (aligning 4) 4 2 5).mb 0).stage = 2 ∧ (aligning 4).ringAligned 2 = false ∧
    (readyEnds (aligning 4) 2).invB = true := by decide +kernel
def waking (n : Nat) (st : Nat) : State := runsOn (asleep (rings station 0x09 3) 3 5) 8 st n
/-- A record of position `q` of ring `r` has come for the tide the decision takes. -/
def seen (s : State) (r q : Nat) : State :=
  let t := (s.tide + 2 ^ 32 - s.cf F.CUL_CONFIG_CUL_INPUT_DELAY) % 2 ^ 32
  s.withCul { s.cul with recs := [⟨r, 0, t, t, false, List.replicate (q * s.recSize r) 2⟩] }
def askFirst (s : State) : State := ask s 0 [0x09, 3, 2, 0, 3, 1]
theorem test_hyps_wake_remote : (waking 1024 1).runs 0 0x09 = true ∧ 1024 ≤ ((waking 1024 1).mb 0).inStage ∧
    ((waking 1023 1).mb 0).inStage < 1024 ∧ 50000 ≤ ((waking 50000 2).mb 0).tides ∧ ((waking 50000 2).mb 0).stage = 2 ∧
    (seen (waking 1030 2) 3 5).appears 3 5 (seen (waking 1030 2) 3 5).tide = true ∧
    (waking 1030 2).appears 3 5 (waking 1030 2).tide = false ∧ (asleep (rings station 0x09 3) 3 5).noTransmit = true ∧
    (locked (asleep (askFirst station) 3 1)).noTransmit = false ∧ (waking 1030 2).invB = true := by decide +kernel
/-- A station whose ring `r` is enabled and awake at both ends, under control code `c`. -/
def driving (r c : Nat) : State :=
  let s := key (key (locked (up (up station (2 * r)) (2 * r + 1))) (F.CUL_RINGr_FORMAT_ENABLE r) 1) (F.CUL_RINGr_FORMAT_POSITIONS r) 3
  s.put F.DPC_STATE_STATE c
/-- In DPC with the power below its band and one admitted cell at position 1 of each stack. -/
def controlling (sp : Int) : State :=
  let s := ((released (driving 0 1)).put F.DPC_CTRL_RUN 1).put F.OBS_TRK_STATUS_VALID 1
  let s := [0, 1, 2].foldl (fun s x => (key s (F.SEL_ADMITx_LO_ADMIT x) 1).put (F.CUL_POS_r_s_PRESENT x 1) 1) s
  let s := s.withCul { s.cul with ids := [[11], [12], [13], []] }
  let s := [0, 1, 2].foldl (fun s x => s.setPos x 1 { s.pos x 1 with pulses := some true, vdc := 3000 }) s
  let s := key s F.DPC_PMIN_VALUE (2 ^ 23)
  s.withDpc { s.dpc with trkV := 2 ^ 24, trkW := 2 ^ 24, sP := sp, sQ := 1 }
theorem test_hyps_station_tide : (driving 0 0).cfIs (F.CUL_RINGr_FORMAT_ENABLE 0) = true ∧ (driving 3 0).txAwake 7 = true ∧
    (driving 0 0).discovering 0 = false ∧ (driving 0 0).gridRuns = true ∧ (driving 0 0).spr.ops = [] ∧ (driving 0 0).cul.cmds.length = 4 ∧
    (driving 0 0).cul.ports.length = 10 ∧ (driving 0 0).cf F.CUL_CONFIG_CUL_APPLY_DELAY < 128 ∧ (controlling 1).ctl = 1 ∧
    (controlling 1).forcedOff = false ∧ (controlling 1).is F.DPC_CTRL_RUN = true ∧ (controlling 1).admitted 2 1 = true ∧
    (controlling 0).gridRuns = true ∧ (driving 0 0).cul.leaving = none ∧ (driving 2 0).invB = true := by decide
/-- A cell with an entry that waits for tide 8, under EN and with releases, in state `st` with `dwell` tides of dwell left. -/
def executing (v st dwell : Nat) : State :=
  let s := ((tiding litCell).put F.CUL_TIDE_TIDE 7).put F.CUL_ALIGN_STATE 1
  let s := (s.put F.MOD_AFE_STATE_STATE st).put F.MOD_AFE_STATE_DWELL_LEFT dwell
  (s.withMod { s.mod with afeOn := true }).withCul { s.cul with entries := [⟨8, v, 0⟩], tideMatch := 16 }
def absent : State := (executing 9 1 0).withCul { (executing 9 1 0).cul with entries := [] }
theorem test_hyps_cell_tide : (executing 9 1 0).isCell = true ∧ (executing 9 1 0).isOn 10 = true ∧ (executing 9 1 0).mod.frozen = false ∧
    (executing 9 1 0).cul.tideMatch = 16 ∧ (executing 9 1 0).get F.CUL_ALIGN_STATE ≠ 0 ∧
    bestEntry (executing 9 1 0).cul.entries (executing 9 1 0).nextTide = some 9 ∧ (executing 9 1 0).mod.afeOn = true ∧
    2 ≤ (executing 9 1 5).get F.MOD_AFE_STATE_DWELL_LEFT ∧ bestEntry absent.cul.entries absent.nextTide = none ∧
    (executing 9 1 0).cul.running = true ∧ (executing 10 1 0).get F.MOD_AFE_STATE_STATE ≠ 10 % 4 ∧ (executing 10 1 0).mod.func.length = 4 ∧ (executing 1 1 0).invB = true := by decide
theorem test_hyps_gates_free : litCell.isOn 13 = true ∧ litCell.placed = true ∧ litCell.pulsesReleased = true ∧ litCell.ov3Holds = false ∧
    litCell.mod.en = true ∧ litCell.tripLevel 0 = none ∧ litCell.tripLevel 3 = none ∧ litCell.get F.GDR_CH_STATUS_UVLO = 0 ∧
    litCell.hbHeld 0 = false ∧ litCell.is F.GDR_STATUS_CHOP_FAULT = false ∧ litCell.gdr.notch.getD 0 none = none ∧
    litCell.funcLevel 0 = .high ∧ litCell.funcLevel 2 = .low ∧ litCell.invB = true := by decide
theorem test_hyps_hold_stays : (hold litCell 3).hbHeld 3 = true ∧ (hold litCell 3).namedEdge 3 = false ∧ (hold litCell 3).isOn 13 = true := by
  decide
theorem test_hyps_notch : (boot litCell 1).funcLevel 0 = .high ∧ (boot litCell 1).gateOn 1 = false ∧ (boot litCell 1).noNotch 0 none = false ∧
    natBit ((boot litCell 1).cf F.GDR_CHAN_CFG_REFRESH_EN) 0 = true ∧ (boot litCell 1).gdr.notch.length = 4 ∧
    (boot litCell 1).bootstrapped 0 = true := by decide

/-- Lineariser 0 reads entry 0 of converter 0, which has a result, and is not shown as valid yet. -/
def linearising : State :=
  let s := key (due (onTide 0) 0) (F.ADC_NTCm_SRC_EN 0) 1
  s.withAdc { s.adc with conv := s.adc.conv.set 0 { s.adc.conv.getD 0 {} with produced := 1 } }
theorem test_hyps_linearising : linearising.is (F.ADC_NTCm_VALUE_VALID 0) = false ∧ (linearising.ntcRefresh 0).is (F.ADC_NTCm_VALUE_VALID 0) = true ∧
    linearising.invB = true := by decide

/-! Fault events and acknowledgements, network frames. -/

/-- Source 16 is sticky with class 0, source 0 has base class 2; nothing of class 1 is sticky. -/
theorem test_hyps_events : (stuck station 16 0).baseClass 17 = some 0 ∧ (stuck station 16 0).flt.sticky.getLsbD 16 = true ∧
    (stuck station 16 0).effClass 16 = 0 ∧ (stuck station 16 0).baseClass 0 = some 2 ∧ (stuck station 16 0).stickyAt 2 = false ∧
    (stuck station 6 2).stickyAt 2 = true ∧ (stuck station 6 2).baseClass 0 = some 2 ∧ (stuck station 16 0).stickyAt 0 = true ∧
    (stuck (released cell) 6 2).isOn 10 = true ∧ (off (stuck station 6 2) 10).isOn 10 = false ∧ (stuck station 6 2).invB = true := by decide
theorem test_hyps_collected : ((station.fault 16).collect).flt.pulses = 0 ∧ (station.fault 16).baseClass 16 ≠ none ∧
    (station.fault 16).flt.wiring = false := by decide +kernel
/-- A FAULT_ACK of source `k` alone. -/
def ackOf (s : State) (k : Nat) : State := ask s 1 ([0x60, 3, 16, 0] ++ leBytes 16 (2 ^ k))
def lockedOut (s : State) : State := ((warden s 4 4).put F.WRD_A_STATUS_LOCK_CONTACT 1).put (wrdFld true F.WRD_A_STATUS_LOCK_CONTACT) 1
theorem test_hyps_own_actions : (ackOf (stuck (tripped litCell 1 0) 77 1) 77).takes 1 0x60 = true ∧
    ((ackOf (stuck (tripped litCell 1 0) 77 1) 77).mb 1).arg 0 16 = 2 ^ 77 ∧ natBit ((tripped litCell 1 0).get F.MOD_TRIP_STATUS_LATCHED) 1 = true ∧
    natBit ((tripped litCell 1 0).get F.MOD_TRIP_STATUS_ACTIVE) 1 = false ∧ natBit ((ackOf (stuck (tripped litCell 3 1) 79 1) 79).get F.MOD_TRIP_STATUS_ACTIVE) 3 = true ∧
    (ackOf (stuck litCell 81 1) 81).mod.frozen = false ∧ (key (ackOf (stuck cell 81 1) 81) F.MOD_CONFIG_MOD_EN_AT_START 1).isOn 10 = true ∧
    ((ackOf (stuck (latchedLoop 31) 83 1) 83).loop 31).latched = true ∧ (ackOf (stuck station 83 1) 83).effClass 83 ≠ 3 ∧
    ((ackOf (stuck station 88 1) 88).put F.GDR_STATUS_CHOP_FAULT 1).is F.GDR_STATUS_CHOP_FAULT = true ∧
    (((ackOf (stuck station 89 2) 89).put F.GDR_STATUS_OV3_BLOCK 1).is F.GDR_STATUS_OV3_BLOCK) = true ∧
    (withAbove (ackOf (stuck station 89 2) 89) 4).gdr.above.getLsbD 2 = true ∧ (lockedOut (ackOf (stuck station 96 2) 96)).wstate true = wLockout ∧
    (lockedOut (ackOf station 97)).causesAbsent = true ∧ (lockedOut (contacts (ackOf station 98) false)).causesAbsent = false ∧
    (inPhase (ackOf station 98) .stopping).pwr.phase = .stopping ∧ (lockedOut (ackOf (stuck station 96 2) 96)).invB = true := by decide +kernel
theorem test_hyps_installed : station.pwr.latch ≠ none ∧ (ask station 0 [0x61, 3, 1, 0, 16]).takes 0 0x61 = true ∧
    (ask station 0 [0x61, 3, 1, 0, 16]).pwr.latch.all (fun l => !l.testmode) = true := by decide
/-- Subscription `i` of SV: APPID 0x4000, svID of no characters, one ASDU of two channels. -/
def svOn (i : Nat) (x : SvSub) : State :=
  let s := key (key (key (key station (F.SV_SUBs_CFG_EN i) 1) (F.SV_SUBs_CFG_APPID i) 0x4000) (F.SV_SUBs_CFG_NOASDU i) 1) (F.SV_SUBs_CFG_NCH i) 2
  s.withStm { s.stm with sub := s.stm.sub.set i x }
def asdu (s : State) (i n : Nat) : SvAsdu :=
  { id := s.textAt (R.SV_SUBs_IDi i 0) 9, count := n, confRev := s.effWord (R.SV_SUBs_CONFREV i), synch := 2, channels := [(7, 0), (9, 0)] }
def svFrame (l : List SvAsdu) (sim : Bool) : EthFrame := ⟨[1, 0xC, 0xCD, 4, 0, 1], [2, 0, 0, 0, 0, 1], none, none, 0x88BA, .sv 0x4000 sim l⟩
theorem test_hyps_sampled_values : (svOn 15 {}).ethOn 0 = true ∧ (svOn 15 {}).isOn 8 = true ∧ (svOn 15 {}).cfIs (F.SV_SUBs_CFG_EN 15) = true ∧
    (svOn 15 {}).cf (F.SV_SUBs_CFG_APPID 15) = 0x4000 ∧ (svOn 15 {}).macAt (R.SV_SUBs_SRC_LO 15) = List.replicate 6 0 ∧
    (asdu (svOn 15 {}) 15 4).channels.length = (svOn 15 {}).cf (F.SV_SUBs_CFG_NCH 15) ∧
    (svOn 3 {}).cf (F.SV_SUBs_CFG_SYNC_MIN 3) ≤ 2 ∧ ((svOn 3 { valid := true, last := some 11, run := 7 }).svSub 3).last = some 11 ∧
    svRate ((svOn 3 {}).cfIs (F.SV_SUBs_CFG_RATE 3)) = 4800 ∧
    (svFrame [asdu (svOn 3 {}) 3 12] false).etype = 0x88BA ∧ (svFrame [] true).seq = none ∧
    ((svOn 3 { last := some 11, run := 7 }).svSub 3).run = 7 ∧ (svOn 3 {}).cf F.NET_CONFIG_MODE ≠ 2 ∧ (svOn 15 {}).invB = true := by
  decide +kernel
/-- Subscription `i` of GOOSE: APPID 0x55, a reference of no characters, two members; trip 2 follows its member 1. -/
def gseOn (i : Nat) (x : GseSub) : State :=
  let s := key (key (key station (F.GSE_SUBs_CFG_EN i) 1) (F.GSE_SUBs_CFG_APPID i) 0x55) (F.GSE_SUBs_CFG_NMEM i) 2
  let s := key (key (key s (F.GSE_TRIPk_EN 2) 1) (F.GSE_TRIPk_SUB 2) i) (F.GSE_TRIPk_MEM 2) 1
  s.withStm { s.stm with gsub := s.stm.gsub.set i x }
def gseContent (s : State) (i st sq : Nat) (v : Word) : GooseContent :=
  { ref := s.textAt (R.GSE_SUBs_REFi i 0) 16, dset := [], goid := [], time := (0, 0), confRev := s.effWord (R.GSE_SUBs_CONFREV i), stNum := st, sqNum := sq, ttl := 2000
    members := [⟨0, true, 0⟩, ⟨0, true, v⟩], test := false, ndsCom := false }
def gseFrame (g : GooseContent) (sim : Bool) : EthFrame := ⟨[1, 0xC, 0xCD, 1, 0, 1], [2, 0, 0, 0, 0, 1], none, none, 0x88B8, .goose 0x55 sim g⟩
theorem test_hyps_goose_frames : (gseOn 63 {}).cfIs (F.GSE_SUBs_CFG_EN 63) = true ∧ (gseOn 63 {}).cf (F.GSE_SUBs_CFG_NMEM 63) = 2 ∧
    (gseOn 63 {}).cf (F.GSE_SUBs_CFG_APPID 63) = 0x55 ∧ (gseOn 63 {}).macAt (R.GSE_SUBs_SRC_LO 63) = List.replicate 6 0 ∧
    (gseOn 63 {}).cf (F.GSE_SUBs_TYPES_VALUE 63) / 4 ^ 1 % 4 = 0 ∧ (gseOn 63 {}).cfIs (F.GSE_SUBs_CFG_TEST 63) = false ∧
    ((gseOn 0 { valid := true, last := some (3, 4) }).gseSub 0).last = some (3, 4) ∧ laterThan 5 4 = true ∧ laterThan 4 4 = false ∧
    (gseContent (gseOn 0 {}) 0 4 0 1).members.length = 2 ∧ (gseOn 63 {}).cf (F.GSE_TRIPk_MEM 2) < 2 ∧ (gseOn 63 {}).ethOn 0 = true ∧
    (gseOn 63 {}).isOn 8 = true ∧ (gseOn 63 {}).invB = true := by decide +kernel
def managed (s : State) : State := key (key s F.NET_MGMT_EN 1) F.NET_MGMT_ETYPE 0x9999
/-- An Echo request (STATUS, tag 9) by management frame to the device's own address. -/
def mgmtFrame (s : State) : EthFrame :=
  ⟨s.mac, [2, 0, 0, 0, 0, 9], none, none, 0x9999, .raw ([0, 1, 0, 0] ++ padTo 64 [2, 9])⟩
def asked (s : State) : State := s.withNet { s.net with mgmt := some ([2, 0, 0, 0, 0, 9], 9, s.nowNs) }
theorem test_hyps_management : (managed station).cfIs F.NET_MGMT_EN = true ∧ (managed station).cf F.NET_MGMT_ETYPE = 0x9999 ∧
    (managed station).mbState 2 = mbIdle ∧ (mbox (managed station) 2 mbExecuting).mbState 2 = mbExecuting ∧
    beAt ([0, 1, 0, 0] ++ padTo 64 [2, 9]) 0 2 = 1 ∧ 68 ≤ (([0, 1, 0, 0] : List Byte) ++ padTo 64 [2, 9]).length ∧
    (asked (managed station)).net.mgmt = some ([2, 0, 0, 0, 0, 9], 9, (managed station).nowNs) ∧ (managed station).isOn 2 = true ∧
    (mgmtFrame (managed station)).dst = (managed station).mac ∧ (managed station).invB = true := by decide +kernel
/-- Port 1 is powered down in single mode; frames for it wait. -/
theorem test_hyps_port_down : station.ethOn 1 = false ∧ station.isOn 7 = true ∧ station.net.waiting.getD 1 [] = [] ∧
    (addressed station).ethOn 1 = true ∧ (key station F.NET_CONFIG_P0_ANEG 0).cfIs F.NET_CONFIG_P0_ANEG = false ∧
    station.cfIs F.NET_CONFIG_P0_ANEG = true := by decide

/-! Gallery, derating, loops, twins. -/

/-- A profile in hold-off of `m` (2: triggers) with `n` triggers counted of three. -/
def holding (m n : Nat) : State :=
  let s := key (key (profile 1 4 0) (F.GAL_PROFp_CFG_HOLD_MODE 1) m) (F.GAL_PROFp_HOLD_VALUE 1) 3
  s.withGal { s.gal with prof := s.gal.prof.set 1 { s.gp 1 with counted := n } }
def narrowHold : State := key (key (narrow 1 4) (F.GAL_PROFp_CFG_HOLD_MODE 1) 2) (F.GAL_PROFp_HOLD_VALUE 1) 1
theorem test_hyps_holding : ((holding 2 1).gp 1).state = 4 ∧ (holding 2 1).cf (F.GAL_PROFp_CFG_HOLD_MODE 1) = 2 ∧
    ((holding 2 1).gp 1).counted + 1 < (holding 2 1).cf (F.GAL_PROFp_HOLD_VALUE 1) ∧
    (holding 2 2).cf (F.GAL_PROFp_HOLD_VALUE 1) ≤ ((holding 2 2).gp 1).counted + 1 ∧ (holding 2 2).nextSlot 1 = some 0 ∧
    (holding 1 0).cf (F.GAL_PROFp_CFG_HOLD_MODE 1) ≠ 2 ∧ narrowHold.nextSlot 1 = none ∧ (narrowHold.gp 1).state = 4 ∧
    narrowHold.cf (F.GAL_PROFp_HOLD_VALUE 1) ≤ (narrowHold.gp 1).counted + 1 ∧ (profile 1 1 0).boundaries = true ∧ (holding 2 2).invB = true := by decide +kernel
/-- The newest stored sample is the trigger sample itself: it counts as the first sample back. -/
def atSample (n : Nat) : State :=
  let s := profile 2 2 n
  s.withGal { s.gal with prof := s.gal.prof.set 2 { s.gp 2 with recent := [s.instantBefore 2] } }
theorem test_hyps_at_sample : ((atSample 3).gp 2).recent.head? = some ((atSample 3).instantBefore 2) ∧
    (atSample 3).cf (F.GAL_PROFp_PRE_PRE 2) + 1 ≤ ((atSample 3).gp 2).stored ∧
    1 ≤ (atSample 3).cf (F.GAL_PROFp_POST_POST 2) ∧ ((profile 2 2 2).gp 2).recent.head? = none ∧
    ((atSample 2).gp 2).stored < (atSample 2).cf (F.GAL_PROFp_PRE_PRE 2) + 1 := by decide +kernel
/-- Step 2 of the derating enters at 80 °C; the sensors are own ones. -/
def steps (l : List (Nat × SensorSt)) (entered : BitVec 4) : State :=
  let s := key (key (key station (F.THM_STEPk_EN 2) 1) (F.THM_STEPk_TEMP 2) 1280) (F.THM_STEPk_LIMIT 2) 700
  s.withThm { s.thm with sensors := l, entered := entered }
theorem test_hyps_derating : (steps [(0, ⟨1300, true, none, 0⟩)] 0).thm.sensors ≠ [] ∧ (steps [] 0).cfIs (F.THM_STEPk_EN 2) = true ∧
    (steps [] 0).cfS (F.THM_STEPk_TEMP 2) = 1280 ∧ (steps [(3, ⟨1200, false, some 1250, 0⟩)] 2).thm.entered.getLsbD 1 = true ∧
    (steps [] 0).ntcTele 0 = noTemp ∧ SMap.find (steps [(0, ⟨1300, true, none, 5⟩)] 0).thm.sensors 0 = some ⟨1300, true, none, 5⟩ ∧
    (steps [] 0).twn.operating = false ∧ (steps [(0, ⟨1300, true, none, 0⟩)] 0).invB = true := by decide
/-- Loop `n` runs on set points, every second pass, not in its first evaluation. -/
def looping (n phase clamp : Nat) (x : LoopSt) : State :=
  let s := key (key (key (ports station) (F.LPE_LOOPn_CFG_EN n) 1) (F.LPE_LOOPn_CFG_DIV n) 2) (F.LPE_LOOPn_CFG_PHASE n) phase
  let s := key (key (key s (F.LPE_LOOPn_SRC_REF n) 256) (F.LPE_LOOPn_SRC_FB n) 257) (F.LPE_LOOPn_SRC_FF n) 271
  let s := key (key (key s (F.LPE_LOOPn_KP_VALUE n) (2 ^ 24)) (F.LPE_LOOPn_OMAX_VALUE n) 1000) (F.LPE_LOOPn_CFG_OV2_CLAMP n) clamp
  (s.put (F.LPE_SETk_VALUE 0) 700).setLoop n x
def steady : LoopSt := { fresh := false, enabling := false, latched := false, ePrev := 3, fbPrev := 9, a := 40, clamped := 1 }
theorem test_hyps_loop : (looping 31 0 0 steady).cfIs (F.LPE_LOOPn_CFG_EN 31) = true ∧ (looping 31 0 0 steady).keysWait (loopKey 31) = false ∧
    (looping 31 0 0 steady).cfIs (F.LPE_LOOPn_CFG_GROUP_EN 31) = false ∧ (looping 31 0 0 steady).cf (F.LPE_LOOPn_SRC_FF 31) = 256 + 15 ∧
    ((looping 31 0 0 steady).loop 31).fresh = false ∧ (looping 31 0 2 steady).cf (F.LPE_LOOPn_CFG_OV2_CLAMP 31) = 2 ∧
    (looping 0 1 0 steady).cf (F.LPE_LOOPn_CFG_DIV 0) = 2 ∧ (looping 0 1 0 steady).nextTide % 2 = 1 ∧ (looping 31 0 0 steady).lpe.loops.length = 32 ∧
    (looping 31 0 0 steady).boundaries = true ∧ station.cfgOf (F.LPE_LOOPn_CFG_EN 5) = 0 ∧ (looping 31 0 0 steady).invB = true := by decide +kernel
theorem test_hyps_swap_busy : (holds (echoing (twinAsk 2 0x42)) resTwin).twin = 2 ∧ (holds (echoing (twinAsk 3 0x42)) resTwin).held &&& resTwin ≠ 0 ∧
    (holds (echoing (twinAsk 4 0x42)) resTwin).twin = 4 := by decide
/-- The last tide of silence on both paths ends now. -/
def goneNow (v n : Nat) : State := echoing (silent (key (twinned v) F.TWN_CFG_ECHO_LOSS_TIDES 3) n)
theorem test_hyps_echo_gone : (goneNow 3 2).echoGone false = true ∧ (goneNow 3 2).echoGone true = true ∧ (goneNow 3 2).echoSilent true = false ∧
    (goneNow 4 2).echoGone true = true ∧ (goneNow 3 1).echoGone true = false ∧ (goneNow 3 2).invB = true := by decide
/-- The same at tide 5, whose frame says nothing of the configuration. -/
def linkedAt : State := (matched ((linked 3).put F.CUL_TIDE_TIDE 5)).withTwn { (linked 3).twn with areas := [(5, [[1], [2]])] }
def linkFrameAt : TideFrame := frame [5, 0, 0, 0, 0x29, 1, 0, 0] (padTo 472 [1]) 0
theorem test_hyps_matched : linkedAt.is F.TWN_STATUS_MATCHED = true ∧ linkedAt.twin = 3 ∧ linkFrameAt.tide = linkedAt.tide ∧
    linkedAt.twn.areas.find? (fun a => a.1 == 5) = some (5, [[1], [2]]) ∧ linkFrameAt.body.length = 472 ∧ linkedAt.invB = true := by
  decide +kernel
theorem test_hyps_unmatched : (matched (linked 3)).is F.TWN_STATUS_MATCHED = true ∧ (linked 3).is F.TWN_STATUS_MATCHED = false ∧
    (linked 3).twin = 3 ∧ (crc32 ([[1], [2]] : List (List Byte)).flatten).toNat ≠ leAt (linkFrame 0).header 8 4 ∧
    (linked 3).twn.areas.length = 1 := by decide +kernel
/-- A snapshot that leaves `s` as it is, with no entries commanded. -/
def snapOf (s : State) : Snapshot := ⟨[(R.DPC_STATE, 1)], s.dpc, s.lpe, s.thm, [], [], [], none, [], none, []⟩
/-- A DIVERGED twin that has seen the active's CMD_CRC of this tide, or another (`d` not 0). -/
def level (d : Nat) : State :=
  let s := (resyncing 4).loadSnapshot (snapOf (resyncing 4))
  (resyncing 4).withTwn { (resyncing 4).twn with crcSeen := some (s.tide, (crc32 s.areasNow.flatten).toNat + d) }
theorem test_hyps_crc : (level 0).twin = 4 ∧ ((level 0).loadSnapshot (snapOf (level 0))).crcMatches = true ∧
    ((level 1).loadSnapshot (snapOf (level 1))).crcMatches = false ∧ (level 1).is F.TWN_STATUS_RESYNC = true ∧
    (level 0).invB = true := by decide +kernel
end Sys2Proof.Tests
end

section
/-! PROOF. Cycles with every strobe low (R68) and SPI frames cut short (R119). -/
namespace Sys2Proof.Machine

/-- R68: a read cycle with HCSn, HOEn and HWEn low carries nothing on HD. -/
theorem exec_parallelReadCycle_allLow (addr : BitVec 24) (visited : List (BitVec 24)) (straps : Straps) (s : State) :
    exec (.parallelReadCycle addr visited true straps) s = .next (s.withHdRead none) := rfl

/-- R68: a write cycle with HCSn, HOEn and HWEn low stages and commits nothing. -/
theorem exec_parallelWriteCycle_allLow (addr : BitVec 24) (d : BitVec 16) (s : State) :
    exec (.parallelWriteCycle addr d true) s = .next (s.withHdRead none) := rfl

/-- R119: a short frame takes effect only with polder 1 on and VIO2 present (R53). -/
theorem exec_spiShortFrame (s : State) : exec .spiShortFrame s =
    if s.isOn 1 && s.bank 2 then .next ((s.put F.HST_SPI_STATUS_SHORT_FRAME 1).withSpi {}) else .next s := rfl

theorem exec_spiShortFrame_powered {s : State} (hOn : s.isOn 1 = true) (hBank : s.bank 2 = true) :
    exec .spiShortFrame s = .next ((s.put F.HST_SPI_STATUS_SHORT_FRAME 1).withSpi {}) := by
  simp [exec_spiShortFrame, hOn, hBank]

theorem exec_spiShortFrame_unpowered {s : State} (h : s.isOn 1 = false ∨ s.bank 2 = false) :
    exec .spiShortFrame s = .next s := by
  rcases h with h | h <;> simp [exec_spiShortFrame, h]

/-- A field into which 1 was written reads as true. -/
theorem State.is_put_one (s : State) (f : Fld) (hw : 0 < f.w) (hf : f.lo + f.w ≤ 32) : (s.put f 1).is f = true := by
  have h : 1 % 2 ^ f.w = 1 := Nat.mod_eq_of_lt (Nat.one_lt_two_pow (Nat.ne_of_gt hw))
  simp [State.is, State.get_put_self s f 1 hf, h]

/-- Settles O18: with every strobe low both cycles take their no-effect branch, and a short frame is one field write and
an empty SPI transaction. -/
theorem contendedCyclesAndShortFrames : Obligations.ContendedCyclesAndShortFrames := by
  refine ⟨fun s addr visited straps d => ⟨exec_parallelReadCycle_allLow addr visited straps s,
    exec_parallelWriteCycle_allLow addr d s⟩, fun s => ⟨fun hOn hBank => ?_, exec_spiShortFrame_unpowered⟩⟩
  have hFlag : (s.put F.HST_SPI_STATUS_SHORT_FRAME 1).is F.HST_SPI_STATUS_SHORT_FRAME = true :=
    s.is_put_one _ (by decide) (by decide)
  have hBits : s.sameBits (s.put F.HST_SPI_STATUS_SHORT_FRAME 1) [F.HST_SPI_STATUS_SHORT_FRAME] :=
    State.sameBits_put (s.sameBits_refl _) _ 1 (List.mem_singleton_self _)
  exact ⟨_, exec_spiShortFrame_powered hOn hBank, by rw [State.withSpi_is, hFlag], State.withSpi_spi _ _, rfl,
    State.sameBits_of_regs hBits rfl⟩

end Sys2Proof.Machine
end

section
/-! PROOF. Raises of interrupt sources (R340, R343): the pending bits they set. -/
namespace Sys2Proof.Machine

theorem State.setPend_pends (s : State) (k : Nat) {n : Nat} (hn : n < 256) :
    (s.setPend k).pends n = (s.pends n || decide (n = k)) := by
  have hBit : (1#256 <<< k).getLsbD n = decide (n = k) := by
    rw [BitVec.getLsbD_shiftLeft, BitVec.getLsbD_one, Bool.eq_iff_iff]
    simp only [Bool.and_eq_true, Bool.not_eq_true', decide_eq_true_eq, decide_eq_false_iff_not]
    omega
  simp only [State.pends, State.setPend, State.withInt_int, BitVec.getLsbD_or, hBit]

theorem State.raise167_pends (s : State) {n : Nat} (hn : n < 256) (h167 : n ≠ 167) : s.raise167.pends n = s.pends n := by
  have hSet : (s.setPend 167).pends n = s.pends n := by simp [State.setPend_pends s 167 hn, h167]
  unfold State.raise167
  split
  · dsimp only
    split <;> exact hSet
  · rfl

theorem State.offer_pends (s : State) (q : Nat) (e : StrataOffer) {n : Nat} (hn : n < 256) (h167 : n ≠ 167) :
    (s.offer q e).pends n = s.pends n := by
  unfold State.offer
  split
  · dsimp only
    split
    · exact State.raise167_pends _ hn h167
    · rfl
  · rfl

theorem State.offerRaise_pends (s : State) (k : Nat) {n : Nat} (hn : n < 256) (h167 : n ≠ 167) :
    (s.offerRaise k).pends n = s.pends n := by
  unfold State.offerRaise
  dsimp only
  split
  · exact State.raise167_pends _ hn h167
  · rfl

/-- R340: with polder 1 on a raise sets its own pending bit; source 167, which a drop may raise, apart, it sets no other. -/
theorem State.raiseInt_pends (s : State) (k : Nat) {n : Nat} (hn : n < 256) (h167 : n ≠ 167) :
    (s.raiseInt k).pends n = (s.pends n || (s.isOn 1 && decide (n = k))) := by
  unfold State.raiseInt
  split
  case isTrue hOn =>
    rw [hOn, Bool.true_and, ← State.setPend_pends s k hn]
    dsimp only
    split
    · exact State.offerRaise_pends _ k hn h167
    · rfl
  case isFalse hOn => simp [hOn]

@[simp] theorem State.offer_flt (s : State) (q : Nat) (e : StrataOffer) : (s.offer q e).flt = s.flt := by
  obtain ⟨i, t, h⟩ := s.offer_only q e
  rw [h]; rfl

end Sys2Proof.Machine
end

section
/-! PROOF. What follows the classing of a fault event keeps the fault collector and its interrupt sources: the outputs that
a Breach turns off (R253, R334) and the triggers of the Gallery (R428). -/
namespace Sys2Proof.Machine

/-- The fault collector is as before, and so are the pending bits of its own interrupt sources, 160 to 165. -/
def State.keepsFaults (s t : State) : Prop := t.flt = s.flt ∧ ∀ n, 160 ≤ n → n ≤ 165 → t.pends n = s.pends n

namespace State.keepsFaults
variable {s t u : State}

theorem refl (s : State) : s.keepsFaults s := ⟨rfl, fun _ _ _ => rfl⟩

theorem trans (h : s.keepsFaults t) (h' : t.keepsFaults u) : s.keepsFaults u :=
  ⟨h'.1.trans h.1, fun n hl hu => (h'.2 n hl hu).trans (h.2 n hl hu)⟩

/-- An update of parts other than the collector and the interrupt controller. -/
theorem of_parts (hFlt : t.flt = s.flt) (hInt : t.int = s.int) : s.keepsFaults t :=
  ⟨hFlt, fun n _ _ => congrArg (fun i : IntSt => i.pend.getLsbD n) hInt⟩

theorem ite {c : Prop} [Decidable c] (ht : s.keepsFaults t) (hu : s.keepsFaults u) :
    s.keepsFaults (if c then t else u) := by
  split
  · exact ht
  · exact hu

theorem foldl {α : Type} {f : State → α → State} {l : List α} (hf : ∀ t : State, ∀ a ∈ l, t.keepsFaults (f t a)) (s : State) :
    s.keepsFaults (l.foldl f s) := by
  induction l generalizing s with
  | nil => exact refl s
  | cons a l ih =>
    exact (hf s a List.mem_cons_self).trans (ih (fun t b hb => hf t b (List.mem_cons_of_mem a hb)) (f s a))

/-- A raise of a source of another block. -/
theorem raiseInt (s : State) {k : Nat} (hk : k < 160 ∨ 165 < k) : s.keepsFaults (s.raiseInt k) := by
  refine ⟨s.raiseInt_flt k, fun n hl hu => ?_⟩
  have hne : n ≠ k := by omega
  simp [State.raiseInt_pends s k (show n < 256 by omega) (by omega), hne]

theorem raiseFirst (s : State) {k : Nat} (hk : k < 160 ∨ 165 < k) : s.keepsFaults (s.raiseFirst k) := by
  unfold State.raiseFirst
  have hArm : s.keepsFaults (s.withInt { s.int with arm := s.int.arm &&& ~~~(1#256 <<< k) }) := ⟨rfl, fun _ _ _ => rfl⟩
  exact ite (hArm.trans (raiseInt _ hk)) (refl s)

theorem offer (s : State) (q : Nat) (e : StrataOffer) : s.keepsFaults (s.offer q e) :=
  ⟨s.offer_flt q e, fun _ _ _ => s.offer_pends q e (by omega) (by omega)⟩

end State.keepsFaults

/-! ## The outputs -/

theorem State.hbFault_keepsFaults (s : State) {n : Nat} (hn : n < 4) (cause : Nat) : s.keepsFaults (s.hbFault n cause) := by
  unfold State.hbFault
  extract_lets t c _ u
  have hu : s.keepsFaults u := .ite (.of_parts rfl rfl) (.of_parts rfl rfl)
  refine hu.trans (.ite (.refl u) ?_)
  exact .trans (.of_parts rfl rfl) (.raiseInt _ (by omega))

theorem State.uvloFaults_keepsFaults (s : State) : s.keepsFaults s.uvloFaults := by
  unfold State.uvloFaults
  refine .ite (.foldl (fun t n hn => .ite (.refl t) ?_) s) (.refl s)
  have hn : n < 4 := by simp at hn; omega
  extract_lets on uv u
  have hu : t.keepsFaults u := .ite (t.hbFault_keepsFaults hn 3) (.refl t)
  exact hu.trans (.ite (u.hbFault_keepsFaults hn 4) (.refl u))

theorem State.drive_keepsFaults (s : State) : s.keepsFaults s.drive := by
  unfold State.drive
  extract_lets _ s₁ s₂ g8 s₃ _ s₄ s₅ g _ s₆ _ _ _ s₇
  have h₁ : s.keepsFaults s₁ := .ite (.of_parts rfl rfl) (.refl s)
  clear_value s₁
  have h₄ : s₁.keepsFaults s₄ := .of_parts rfl rfl
  clear_value s₄
  have h₅ : s₄.keepsFaults s₅ := s₄.uvloFaults_keepsFaults
  clear_value s₅ g
  have h₇ : s₅.keepsFaults s₇ := .ite (.of_parts rfl rfl) (.of_parts rfl rfl)
  clear_value s₇
  exact (((h₁.trans h₄).trans h₅).trans h₇).trans (.ite (.of_parts rfl rfl) (.refl s₇))

theorem State.tripLatch_keepsFaults (s : State) {t : Nat} (ht : t < 4) : s.keepsFaults (s.tripLatch t) := by
  unfold State.tripLatch
  extract_lets l s₁ s₂ _ s₃
  have h₃ : s.keepsFaults s₃ := .of_parts rfl rfl
  exact .ite (.refl s) ((h₃.trans (.raiseInt s₃ (by omega))).trans (State.drive_keepsFaults _))

theorem State.tripKey_keepsFaults (s : State) {t : Nat} (ht : t < 4) : s.keepsFaults (s.tripKey t) := by
  unfold State.tripKey
  extract_lets a was now s₁
  have h₁ : s.keepsFaults s₁ := .ite (.refl s) (.of_parts rfl rfl)
  exact h₁.trans (.ite (s₁.tripLatch_keepsFaults ht) (.refl s₁))

theorem State.tripKeys_keepsFaults (s : State) : s.keepsFaults s.tripKeys := by
  unfold State.tripKeys
  extract_lets _ s₁
  have h₁ : s.keepsFaults s₁ := .ite (.of_parts rfl rfl) (.refl s)
  exact h₁.trans (.foldl (fun u t ht => u.tripKey_keepsFaults (by simp at ht; omega)) s₁)

theorem State.applyModKeys_keepsFaults (s : State) : s.keepsFaults s.applyModKeys :=
  .trans (t := s.applyKeys modKey) (.of_parts rfl rfl) (.ite (.of_parts rfl rfl) (.refl _))

theorem State.applyHeld_keepsFaults (s : State) : s.keepsFaults s.applyHeld := by
  unfold State.applyHeld
  extract_lets s₁ s₂
  have h₁ : s.keepsFaults s₁ := s.applyModKeys_keepsFaults
  have h₂ : s₁.keepsFaults s₂.showFunction := .of_parts rfl rfl
  have h₃ : s₂.showFunction.keepsFaults s₂.showFunction.tripKeys := State.tripKeys_keepsFaults _
  exact .ite ((((h₁.trans h₂).trans h₃).trans (.raiseInt _ (by omega))).trans (State.drive_keepsFaults _)) (.refl s)

theorem State.modDisable_keepsFaults (s : State) : s.keepsFaults s.modDisable := by
  unfold State.modDisable
  extract_lets s₁ _ s₂
  have h₂ : s.keepsFaults s₂ := .of_parts rfl rfl
  exact (h₂.trans s₂.drive_keepsFaults).trans (State.applyHeld_keepsFaults _)

/-! ## The Gallery -/

theorem State.fillSlot_keepsFaults (s : State) (p i : Nat) : s.keepsFaults (s.fillSlot p i) := by
  unfold State.fillSlot
  extract_lets a b gone _ s₁
  have hHeld : s.keepsFaults (s.withGal { s.gal with held := s.gal.held.filter (fun h => !overlaps a b h) }) :=
    .of_parts rfl rfl
  have h₁ : s.keepsFaults s₁ :=
    hHeld.trans (.foldl (f := fun (t : State) (h : Nat × Nat × Nat × Nat) => t.overwrite h.1)
      (fun _ _ _ => .of_parts rfl rfl) _)
  exact h₁.trans (.of_parts rfl rfl)

theorem State.holdOver_keepsFaults (s : State) {p : Nat} (hp : p < 4) : s.keepsFaults (s.holdOver p) := by
  unfold State.holdOver
  split
  · exact s.fillSlot_keepsFaults p _
  · exact .trans (.of_parts rfl rfl) (.raiseInt (s.galState p 5) (by omega))

theorem State.galToken_keepsFaults (s : State) {p : Nat} (hp : p < 4) (x : GalInstant) (frac : Nat) :
    s.keepsFaults (s.galToken p x frac) := by
  unfold State.galToken
  extract_lets d line e tide off y s₁ s₂
  have h₂ : s.keepsFaults s₂ := .ite (.of_parts rfl rfl) (.of_parts rfl rfl)
  exact h₂.trans (.raiseInt s₂ (by omega))

theorem State.galAccept_keepsFaults (s : State) {p : Nat} (hp : p < 4) (t : GalTrigger) : s.keepsFaults (s.galAccept p t) := by
  unfold State.galAccept
  extract_lets y n pre a x j i within r _ s₁ s₂ s₃ _ s₄
  have h₄ : s.keepsFaults s₄ := .of_parts rfl rfl
  exact h₄.trans (.ite (s₄.galToken_keepsFaults hp x t.frac) (.refl s₄))

theorem State.galTrigger_keepsFaults (s : State) {p : Nat} (hp : p < 4) (t : GalTrigger) :
    s.keepsFaults (s.galTrigger p t) := by
  unfold State.galTrigger
  extract_lets y s₁ k s₂
  have h₁ : s.keepsFaults s₁ := .trans (.of_parts rfl rfl) (.raiseFirst _ (by omega))
  have h₂ : s₁.keepsFaults s₂ := .of_parts rfl rfl
  have hHold : s₂.keepsFaults (if k ≥ s₂.cf (F.GAL_PROFp_HOLD_VALUE p) then s₂.holdOver p else s₂) :=
    .ite (s₂.holdOver_keepsFaults hp) (.refl s₂)
  exact .ite (.refl s) (.ite (.of_parts rfl rfl) (.ite (s.galAccept_keepsFaults hp t)
    (h₁.trans (.ite (h₂.trans hHold) (.refl s₁)))))

/-- A fault event offered to the Gallery may trigger profiles (R428); the collector does not see it. -/
theorem State.galFault_keepsFaults (s : State) (c : Nat) : s.keepsFaults (s.galFault c) := by
  unfold State.galFault
  refine .ite (.foldl (fun t p hp => .ite ?_ (.refl t)) s) (.refl s)
  have hp : p < 4 := by simp at hp; omega
  unfold State.galNow
  exact .ite (t.galTrigger_keepsFaults hp _) (t.galTrigger_keepsFaults hp _)

end Sys2Proof.Machine
end

section
/-! PROOF. A fault event's class (R331): what the collector holds after an event, and O40. -/
namespace Sys2Proof.Machine

/-! ## Effective classes -/

theorem State.effClass_lt (s : State) (n : Nat) : s.effClass n < 4 := (s.flt.level.extractLsb' (2 * n) 2).isLt

/-- The classes lie in the collector's class word. -/
theorem State.effClass_congr {s t : State} (h : t.flt.level = s.flt.level) (n : Nat) : t.effClass n = s.effClass n := by
  simp only [State.effClass, h]

/-- The two bits of source `m` in the class word after source `n` was given class `c`. -/
theorem State.setClass_level_getLsbD (s : State) {n c m i : Nat} (hc : c < 4) (hm : m < 128) (hi : i < 2) :
    (s.setClass n c).flt.level.getLsbD (2 * m + i) =
      if m = n then c.testBit i else s.flt.level.getLsbD (2 * m + i) := by
  have hMask (j : Nat) : (3#256).getLsbD j = decide (j < 2) := by
    rw [BitVec.getLsbD_ofNat, show 3 = 2 ^ 2 - 1 from rfl, Nat.testBit_two_pow_sub_one, Bool.eq_iff_iff]
    simp only [Bool.and_eq_true, decide_eq_true_eq]
    omega
  simp only [State.setClass, State.withFlt_flt, BitVec.getLsbD_or, BitVec.getLsbD_and, BitVec.getLsbD_not,
    BitVec.getLsbD_shiftLeft, hMask, BitVec.getLsbD_ofNat]
  have hIn : 2 * m + i < 256 := by omega
  rcases Nat.lt_trichotomy m n with hlt | rfl | hgt
  · have hBelow : 2 * m + i < 2 * n := by omega
    have hne : m ≠ n := Nat.ne_of_lt hlt
    simp only [hBelow, hne, decide_true, Bool.not_true, Bool.not_false, Bool.and_false, Bool.false_and,
      Bool.and_true, Bool.or_false, hIn, if_false]
  · have hOff : 2 * m + i - 2 * m = i := by omega
    have hFrom : ¬2 * m + i < 2 * m := by omega
    have hi' : i < 256 := by omega
    simp only [hOff, hFrom, hIn, hi, hi', decide_true, decide_false, Bool.not_true, Bool.not_false, Bool.and_false,
      Bool.and_true, Bool.true_and, Bool.false_or, if_true]
  · have hAbove : ¬2 * m + i - 2 * n < 2 := by omega
    have hne : m ≠ n := Nat.ne_of_gt hgt
    have hBit : c.testBit (2 * m + i - 2 * n) = false :=
      Nat.testBit_lt_two_pow (Nat.lt_of_lt_of_le hc (Nat.pow_le_pow_right (n := 2) (i := 2) (by decide) (by omega)))
    simp only [hAbove, hne, hIn, hBit, decide_true, decide_false, Bool.not_false, Bool.and_false, Bool.and_true,
      Bool.or_false, if_false]

theorem State.setClass_effClass_same (s : State) {n c : Nat} (hn : n < 128) (hc : c < 4) : (s.setClass n c).effClass n = c := by
  have h : (s.setClass n c).flt.level.extractLsb' (2 * n) 2 = BitVec.ofNat 2 c := by
    refine BitVec.eq_of_getLsbD_eq (fun i hi => ?_)
    rw [BitVec.getLsbD_extractLsb', s.setClass_level_getLsbD hc hn hi, if_pos rfl, BitVec.getLsbD_ofNat]
  rw [State.effClass, h, BitVec.toNat_ofNat, Nat.mod_eq_of_lt hc]

theorem State.setClass_effClass_other (s : State) {n m c : Nat} (hc : c < 4) (hm : m < 128) (hne : m ≠ n) :
    (s.setClass n c).effClass m = s.effClass m := by
  have h : (s.setClass n c).flt.level.extractLsb' (2 * m) 2 = s.flt.level.extractLsb' (2 * m) 2 := by
    refine BitVec.eq_of_getLsbD_eq (fun i hi => ?_)
    rw [BitVec.getLsbD_extractLsb', BitVec.getLsbD_extractLsb', s.setClass_level_getLsbD hc hm hi, if_neg hne]
  rw [State.effClass, h, State.effClass]

theorem State.stickyAt_iff (s : State) (b : Nat) :
    s.stickyAt b = true ↔ ∃ m, m < 128 ∧ s.flt.sticky.getLsbD m = true ∧ s.effClass m = b := by
  simp [State.stickyAt]

/-- Table 11-1 names Seep, Spill and Overtop only. -/
theorem classField_le {v b : Nat} (h : classField v = some b) : b ≤ 2 := by
  grind [classField]

theorem State.baseClass_le {s : State} {n b : Nat} (h : s.baseClass n = some b) : b ≤ 2 := by
  grind [State.baseClass, → classField_le]

/-! ## One event -/

/-- R331: the class an event of base class `b` takes, Breach (3) at most. -/
def State.eventClass (s : State) (b : Nat) : Nat := if s.stickyAt b then min 3 (b + 1) else b

/-- R331: the effective class of source `n` after an event of base class `b`. -/
def State.classAfter (s : State) (n b : Nat) : Nat :=
  if s.flt.sticky.getLsbD n then max (s.eventClass b) (s.effClass n) else s.eventClass b

/-- R330, R331: `s` with an event of source `n` and base class `b` recorded: classed, sticky and counted. -/
def State.recordEvent (s : State) (n b : Nat) : State :=
  let c := s.eventClass b
  let t := s.setClass n (s.classAfter n b)
  let f : FaultSt := { t.flt with
    sticky := s.flt.sticky ||| (1#128 <<< n), events := s.flt.events.set c (satInc 16 (s.flt.events.getD c 0)) }
  t.withFlt (if s.stickyAt b then { f with escalated := f.escalated.set c (satInc 16 (f.escalated.getD c 0)) } else f)

/-- R330, R331: the interrupts of an event: 160 + c of its class, and 165 when it escalated. -/
def State.raiseEvent (s : State) (c : Nat) (up : Bool) : State :=
  let s := s.raiseInt (160 + c)
  if up then s.raiseInt 165 else s

/-- R330, R334, R428: what an event of class `c` does outside the collector: its entry in Strata, and a Breach's flag and
disabled outputs, and the Gallery's triggers. -/
def State.reportEvent (s : State) (n c : Nat) (up inj : Bool) : State :=
  let s := s.offer 0 ⟨0, c, up, inj, n⟩
  let s : State := if c = 3 then s.withPwr { s.pwr with breach := true } else s
  let s : State := if c = 3 && s.isOn 10 then s.modDisable else s
  s.galFault c

theorem State.faultEvent_eq {s : State} {n b : Nat} (h : s.baseClass n = some b) :
    s.faultEvent n = ((s.recordEvent n b).raiseEvent (s.eventClass b) (s.stickyAt b)).reportEvent n (s.eventClass b)
      (s.stickyAt b) (s.flt.injected.getLsbD n) := by
  unfold State.faultEvent
  rw [h]
  rfl

theorem State.reportEvent_keepsFaults (s : State) (n c : Nat) (up inj : Bool) :
    s.keepsFaults (s.reportEvent n c up inj) := by
  unfold State.reportEvent
  extract_lets s₁ _ s₂ s₃
  have h₁ : s.keepsFaults s₁ := .offer s 0 _
  clear_value s₁
  have h₂ : s₁.keepsFaults s₂ := .ite (.of_parts rfl rfl) (.refl s₁)
  clear_value s₂
  have h₃ : s₂.keepsFaults s₃ := .ite s₂.modDisable_keepsFaults (.refl s₂)
  exact ((h₁.trans h₂).trans h₃).trans (s₃.galFault_keepsFaults c)

theorem State.eventClass_le (s : State) {b : Nat} (hb : b ≤ 2) : s.eventClass b ≤ 3 := by
  unfold State.eventClass
  split <;> omega

theorem State.classAfter_lt (s : State) (n : Nat) {b : Nat} (hb : b ≤ 2) : s.classAfter n b < 4 := by
  have hc := s.eventClass_le hb
  have he := s.effClass_lt n
  unfold State.classAfter
  split <;> omega

theorem State.recordEvent_level (s : State) (n b : Nat) :
    (s.recordEvent n b).flt.level = (s.setClass n (s.classAfter n b)).flt.level := by
  unfold State.recordEvent
  dsimp only [State.withFlt_flt]
  split <;> rfl

theorem State.recordEvent_escalated (s : State) (n b : Nat) :
    (s.recordEvent n b).flt.escalated = if s.stickyAt b then
      s.flt.escalated.set (s.eventClass b) (satInc 16 (s.flt.escalated.getD (s.eventClass b) 0)) else s.flt.escalated := by
  unfold State.recordEvent
  dsimp only [State.withFlt_flt]
  split <;> rfl

@[simp] theorem State.raiseEvent_flt (s : State) (c : Nat) (up : Bool) : (s.raiseEvent c up).flt = s.flt := by
  cases up <;> simp [State.raiseEvent]

/-- R331: an escalated event, and no other, raises source 165. -/
theorem State.raiseEvent_pends_escalated {s : State} {c : Nat} (hOn : s.isOn 1 = true) (hc : c ≤ 3) (up : Bool) :
    (s.raiseEvent c up).pends 165 = (up || s.pends 165) := by
  have hne : 165 ≠ 160 + c := by omega
  cases up <;> simp [State.raiseEvent, State.raiseInt_pends, hOn, hne]

section
variable {s : State} {n b : Nat} (h : s.baseClass n = some b)
include h

/-- The collector after an event holds what the event recorded. -/
theorem State.faultEvent_flt : (s.faultEvent n).flt = (s.recordEvent n b).flt := by
  rw [State.faultEvent_eq h, (State.reportEvent_keepsFaults _ _ _ _ _).1, State.raiseEvent_flt]

theorem State.faultEvent_pends_escalated (hOn : s.isOn 1 = true) :
    (s.faultEvent n).pends 165 = (s.stickyAt b || s.pends 165) := by
  rw [State.faultEvent_eq h, (State.reportEvent_keepsFaults _ _ _ _ _).2 165 (by decide) (by decide)]
  exact State.raiseEvent_pends_escalated (s := s.recordEvent n b) hOn (s.eventClass_le (State.baseClass_le h)) _

theorem State.faultEvent_effClass_same (hn : n < 128) : (s.faultEvent n).effClass n = s.classAfter n b := by
  rw [← s.setClass_effClass_same hn (s.classAfter_lt n (State.baseClass_le h))]
  exact State.effClass_congr (by rw [State.faultEvent_flt h, State.recordEvent_level]) n

theorem State.faultEvent_effClass_other {m : Nat} (hm : m < 128) (hne : m ≠ n) :
    (s.faultEvent n).effClass m = s.effClass m := by
  rw [← s.setClass_effClass_other (s.classAfter_lt n (State.baseClass_le h)) hm hne]
  exact State.effClass_congr (by rw [State.faultEvent_flt h, State.recordEvent_level]) m

end

/-- Settles O40: the event records its class before anything follows from it, and neither the outputs nor the Gallery touch
the collector or source 165. -/
theorem eventsEscalate : Obligations.EventsEscalate := by
  intro s n b hn _ hOn hBase up t
  have hSame : t.effClass n = s.classAfter n b := State.faultEvent_effClass_same hBase hn
  have hEsc : t.flt.escalated = (s.recordEvent n b).flt.escalated := by rw [State.faultEvent_flt hBase]
  have hPend : t.pends 165 = (s.stickyAt b || s.pends 165) := State.faultEvent_pends_escalated hBase hOn
  rw [State.recordEvent_escalated] at hEsc
  refine ⟨fun hUp => ?_, fun hUp => ?_, fun m hm hne => State.faultEvent_effClass_other hBase hm hne⟩
  · have hSticky : s.stickyAt b = true := (s.stickyAt_iff b).2 hUp
    simp [hSame, hEsc, hPend, hSticky, State.classAfter, State.eventClass, Nat.max_comm]
  · have hSticky : s.stickyAt b = false := Bool.eq_false_iff.2 (fun hs => hUp ((s.stickyAt_iff b).1 hs))
    simp [hSame, hEsc, hPend, hSticky, State.classAfter, State.eventClass, Nat.max_comm]

end Sys2Proof.Machine
end

section
/-! PROOF. A state with parts of its own put back. -/
namespace Sys2Proof.Machine

set_option Elab.async false in
/-- The state with its own registers, Culvert, interrupts and Strata put back is the state: every other part is left by each of the updates. -/
theorem State.parts_put_back (s : State) : s = (((s.withRegs s.regs).withCul s.cul).withInt s.int).withStr s.str := rfl

end Sys2Proof.Machine
end

section
/-! PROOF. Every command on every state answers a next state. -/
namespace Sys2Proof.Machine

/-- The command is neither a fault nor refused. -/
def Ans.IsNext (a : Ans) : Prop := ∃ t, a = .next t

namespace Ans.IsNext
variable {a b : Ans}

theorem next {t : State} : IsNext (.next t) := ⟨t, rfl⟩

theorem ite {c : Prop} [Decidable c] (ha : a.IsNext) (hb : b.IsNext) : IsNext (if c then a else b) :=
  iteInduction (fun _ => ha) (fun _ => hb)

end Ans.IsNext

variable {s : State}

theorem execVcrestRise_isNext {straps : Straps} {suppliesGood vio3 : Bool} {vio : BitVec 2} :
    Ans.IsNext (execVcrestRise straps suppliesGood vio3 s vio) :=
    .ite .next .next

theorem execVcrestFall_isNext : Ans.IsNext (execVcrestFall s) := .ite .next .next

theorem execSupplyLost_isNext {vio3 : Bool} {vio : BitVec 2} {monitored : Bool} {guards : BitVec 4} :
    Ans.IsNext (execSupplyLost s vio3 vio monitored guards) :=
    .ite .next (.ite .next .next)

theorem execSupplyReturn_isNext {vio3 : Bool} {vio : BitVec 2} {monitored : Bool} {guards : BitVec 4} :
    Ans.IsNext (execSupplyReturn s vio3 vio monitored guards) :=
    .ite .next (.ite .next .next)

theorem execWakenLow_isNext {held : Bool} : Ans.IsNext (execWakenLow held s) := .next

theorem execLaneWakeLatch_isNext {port : Nat} : Ans.IsNext (execLaneWakeLatch port s) := .next

theorem execDripAlarm_isNext : Ans.IsNext (execDripAlarm s) := .ite .next .next

theorem execGuardChangeAccepted_isNext {land : Nat} {level : Bool} : Ans.IsNext (execGuardChangeAccepted land level s) :=
    .ite .next .next

theorem execVio3BecomesPresent_isNext {guards : BitVec 4} : Ans.IsNext (execVio3BecomesPresent guards s) := .next

theorem execWakeDuringAwake_isNext {source : WakeSource} : Ans.IsNext (execWakeDuringAwake source s) := .ite .next .next

set_option Elab.async false in
theorem execDripOkSet_isNext {guards : BitVec 4} : Ans.IsNext (execDripOkSet s guards) := .ite .next .next

theorem execDripClockLost_isNext : Ans.IsNext (execDripClockLost s) := .ite .next .next

theorem execAliveDividerEdge_isNext : Ans.IsNext (execAliveDividerEdge s) := .ite (.ite .next .next) .next

theorem execStartUp_isNext : Ans.IsNext (execStartUp s) := .ite .next .next

theorem execPolderPowerGood_isNext {polder : Nat} {p0Clock : Bool} : Ans.IsNext (execPolderPowerGood polder p0Clock s) :=
    .ite .next .next

theorem execPolderStartFailure_isNext {polder : Nat} : Ans.IsNext (execPolderStartFailure polder s) := .ite .next .next

theorem execCulvertPolderIdleStop_isNext {polder : Nat} : Ans.IsNext (execCulvertPolderIdleStop polder s) := .ite .next .next

theorem execStartUpThermalReading_isNext {reading : BitVec 16} : Ans.IsNext (execStartUpThermalReading reading s) :=
    .ite (.ite .next .next) .next

theorem execStartUpPoldersAndCalibration_isNext : Ans.IsNext (execStartUpPoldersAndCalibration s) := .ite .next .next

theorem execReadyEntered_isNext : Ans.IsNext (execReadyEntered s) := .ite .next .next

theorem execP0ClockPresent_isNext : Ans.IsNext (execP0ClockPresent s) := .ite .next .next

theorem execPllLockDeclared_isNext {bandEdge bandLane : BitVec 6} : Ans.IsNext (execPllLockDeclared bandEdge bandLane s) := by
  delta execPllLockDeclared
  cases s.clk.attempt with
  | none => exact .next
  | reengage => exact .next
  | _ => exact .next

theorem execStoredBandAbandoned_isNext : Ans.IsNext (execStoredBandAbandoned s) := .ite .next .next

theorem execPllNoLock_isNext : Ans.IsNext (execPllNoLock s) := .ite .next .next

set_option Elab.async false in
theorem execLockRetry_isNext {p0Clock : Bool} : Ans.IsNext (execLockRetry p0Clock s) := .ite (.ite .next .next) .next

theorem execPllHoldoverEntry_isNext {refLost : Bool} : Ans.IsNext (execPllHoldoverEntry refLost s) := .ite .next .next

theorem execPllReengage_isNext : Ans.IsNext (execPllReengage s) := .ite .next .next

theorem execReengagementFailed_isNext : Ans.IsNext (execReengagementFailed s) := .ite .next .next

theorem execHoldoverTooLong_isNext : Ans.IsNext (execHoldoverTooLong s) := .ite .next .next

theorem execSyncInEdge_isNext {falling : Bool} {phase : BitVec 7} : Ans.IsNext (execSyncInEdge falling phase s) :=
    .ite (.ite .next .next) .next

theorem execSleep_isNext {n : Nat} : Ans.IsNext (execSleep n s) := .ite (.ite .next (.ite .next .next)) .next

theorem execCrestStandbyReached_isNext : Ans.IsNext (execCrestStandbyReached s) := .ite (.ite (.ite .next .next) .next) .next

theorem execClockRelock_isNext {n : Nat} : Ans.IsNext (execClockRelock n s) :=
    .ite (.ite .next (.ite .next (.ite .next (.ite .next .next)))) .next

theorem execRxClockDetect_isNext {port : Nat} : Ans.IsNext (execRxClockDetect port s) := .ite .next .next

theorem execRxWordLock_isNext {port : Nat} : Ans.IsNext (execRxWordLock port s) := .ite .next .next

theorem execRxDeskewSet_isNext {port : Nat} {tap : BitVec 6} : Ans.IsNext (execRxDeskewSet port tap s) := .ite .next .next

theorem execRxUp_isNext {port : Nat} {codeErrors : Nat} : Ans.IsNext (execRxUp port s codeErrors) := .ite .next .next

theorem execRxDown_isNext {port : Nat} {codeErrors : Nat} : Ans.IsNext (execRxDown port s codeErrors) := .ite .next .next

set_option Elab.async false in
theorem execRxRealign_isNext {port codeErrors : Nat} : Ans.IsNext (execRxRealign port codeErrors s) := .ite .next .next

theorem execPortReady_isNext {port : Nat} : Ans.IsNext (execPortReady port s) := .ite .next .next

theorem execPortStatusReceived_isNext {port : Nat} {status : BitVec 8} {codeErrors : Nat} :
    Ans.IsNext (execPortStatusReceived port status s codeErrors) :=
    .ite .next .next

theorem execReferencePortChange_isNext : Ans.IsNext (execReferencePortChange s) := .ite (.ite .next .next) .next

theorem execLaneActivity_isNext {port : Nat} : Ans.IsNext (execLaneActivity port s) := .ite .next .next

theorem execAlignAverageComplete_isNext {delta : Int} : Ans.IsNext (execAlignAverageComplete delta s) :=
    .ite (.ite (.ite .next (.ite (.ite .next .next) .next)) .next) .next

theorem execTriggerTokenRaise_isNext {line offset : Nat} : Ans.IsNext (execTriggerTokenRaise line offset s) :=
    .ite .next .next

theorem execPeriodicUnwrap_isNext {ring : Nat} : Ans.IsNext (execPeriodicUnwrap ring s) := .ite .next .next

theorem execMessageAckTimeout_isNext {ring : Nat} : Ans.IsNext (execMessageAckTimeout ring s) := by
  refine .ite ?_ (.ite .next .next)
  cases s.remoteOn ring with
  | none => exact .next
  | some x => exact .ite .next .next

theorem execMessageBusyRetry_isNext {ring : Nat} : Ans.IsNext (execMessageBusyRetry ring s) := by
  delta execMessageBusyRetry
  cases s.remoteOn ring with
  | none => exact .next
  | some x => exact .ite .next .next

theorem execRemoteTimeout_isNext {ring : Nat} : Ans.IsNext (execRemoteTimeout ring s) := by
  delta execRemoteTimeout
  cases s.remoteOn ring with
  | none => exact .next
  | some x => exact .next

theorem execRemote_isNext {n : Nat} : Ans.IsNext (execRemote n s) := by
  refine .ite (.ite .next (.ite .next ?_)) .next
  cases s.needPolders n (s.ringPolders ((s.mb n).arg 0 1)) with
  | some t => exact .next
  | none => exact .ite .next .next

theorem execLaneSleep_isNext {n : Nat} : Ans.IsNext (execLaneSleep n s) := by
  refine .ite ?_ .next
  cases s.laneArgs n with
  | none => exact .ite .next (.ite .next .next)
  | some x => exact .next

theorem execLaneWake_isNext {n : Nat} : Ans.IsNext (execLaneWake n s) := by
  refine .ite ?_ .next
  cases s.laneArgs n with
  | none => exact .ite .next (.ite .next .next)
  | some x => exact .next

set_option Elab.async false in
theorem execRingDiscover_isNext {n : Nat} {found : List (List Nat)} : Ans.IsNext (execRingDiscover n found s) := by
  refine .ite (.ite .next (.ite .next ?_)) (.ite ?_ .next)
  · cases s.needPolders n ((ringsIn ((s.mb n).arg 0 1)).flatMap s.ringPolders) with
    | some t => exact .next
    | none => exact .ite .next .next
  · rcases (s.mb n).stage with _ | _ | _ | k <;> exact .next

theorem execRingAlign_isNext {n : Nat} {loops : List Nat} {aligned : Bool} {wraps : BitVec 4} :
    Ans.IsNext (execRingAlign n loops aligned s wraps) := by
  refine .ite (.ite .next (.ite .next ?_)) (.ite ?_ .next)
  · cases s.needPolders n ((ringsIn ((s.mb n).arg 0 1)).flatMap s.ringPolders) with
    | some t => exact .next
    | none => exact .ite .next .next
  · rcases (s.mb n).stage with _ | _ | k
    · exact .ite .next (.ite .next .next)
    · exact .ite .next .next
    · exact .ite .next (.ite .next .next)

theorem execWakeRemote_isNext {n : Nat} {woke : Bool} {ready : Bool} : Ans.IsNext (execWakeRemote n woke s ready) := by
  refine .ite (.ite .next (.ite .next ?_)) (.ite ?_ .next)
  · cases s.needPolders n (s.ringPolders ((s.mb n).arg 0 1)) with
    | some t => exact .next
    | none => exact .ite .next .next
  · rcases (s.mb n).stage with _ | _ | _ | k
    · exact .next
    · exact .ite .next (.ite .next .next)
    · exact .ite .next (.ite .next .next)
    · exact .next

theorem execDesaturation_isNext {channel : Nat} : Ans.IsNext (execDesaturation channel s) := .next

theorem execChannelUndervoltage_isNext {channel : Nat} {under : Bool} : Ans.IsNext (execChannelUndervoltage channel under s) :=
    .next

theorem execBothOnRefused_isNext {hb : Nat} : Ans.IsNext (execBothOnRefused hb s) := .next

theorem execHalfBridgeHoldEnd_isNext {hb : Nat} : Ans.IsNext (execHalfBridgeHoldEnd hb s) := .next

theorem execDieRefreshLoss_isNext {channel : Nat} : Ans.IsNext (execDieRefreshLoss channel s) := .ite .next .next

theorem execBootstrapWarn_isNext {hb : Nat} : Ans.IsNext (execBootstrapWarn hb s) := .next

theorem execBootstrapMaxReached_isNext {hb : Nat} {offIn : Option Nat} : Ans.IsNext (execBootstrapMaxReached hb offIn s) :=
    .next

theorem execDieBootstrapLimit_isNext {hb : Nat} : Ans.IsNext (execDieBootstrapLimit hb s) := .next

theorem execOvComparatorChange_isNext {k : Nat} {above : Bool} : Ans.IsNext (execOvComparatorChange k above s) := .next

theorem execChopperTurnOn_isNext : Ans.IsNext (execChopperTurnOn s) := .next

theorem execChopperTurnOff_isNext : Ans.IsNext (execChopperTurnOff s) := .next

set_option Elab.async false in
theorem execChopperCheckFailed_isNext : Ans.IsNext (execChopperCheckFailed s) := .next

theorem execBusMonitorSample_isNext {value : BitVec 12} : Ans.IsNext (execBusMonitorSample value s) := .next

theorem execSluiceMismatch_isNext {a b : Bool} : Ans.IsNext (execSluiceMismatch a b s) := .next

theorem execFaultAck_isNext {n : Nat} : Ans.IsNext (execFaultAck n s) := .ite (.ite .next (.ite .next .next)) .next

theorem execFaultInject_isNext {n : Nat} {factory : Bool} : Ans.IsNext (execFaultInject n factory s) :=
    .ite (.ite .next (.ite .next .next)) .next

theorem execFaultEvent_isNext {source : Nat} : Ans.IsNext (execFaultEvent source s) := .ite .next .next

theorem execBrokenErrorWire_isNext {source : Nat} : Ans.IsNext (execBrokenErrorWire source s) := .ite .next .next

theorem execErrorWireRestored_isNext {source : Nat} : Ans.IsNext (execErrorWireRestored source s) := .ite .next .next

theorem execIntPendWrite_isNext {k : Nat} {value : Word} : Ans.IsNext (execIntPendWrite k value s) := .ite .next .next

theorem execIntEnWrite_isNext {k : Nat} {value : Word} : Ans.IsNext (execIntEnWrite k value s) := .ite .next .next

theorem execIntTgtWrite_isNext {j : Nat} {value : Word} : Ans.IsNext (execIntTgtWrite j value s) := .ite .next .next

theorem execHsleepChange_isNext {target : Nat} {low : Bool} : Ans.IsNext (execHsleepChange target low s) := .ite .next .next

theorem execStrataEntryAccepted_isNext : Ans.IsNext (execStrataEntryAccepted s) := by
  delta execStrataEntryAccepted
  cases takeOffer s.str.queues with
  | none => exact .next
  | some x => exact .ite .next .next

theorem execStrataMark_isNext {value : BitVec 16} : Ans.IsNext (execStrataMark value s) := .ite .next .next

set_option Elab.async false in
theorem execStrataDataRead_isNext {port : Port} : Ans.IsNext (execStrataDataRead port s) := .ite .next .next

theorem execTideFrameReceived_isNext {port : Nat} {frame : TideFrame} {codeErrors : Nat} :
    Ans.IsNext (execTideFrameReceived port frame s codeErrors) :=
    .ite .next .next

theorem execGallerySample_isNext {step : Nat} : Ans.IsNext (execGallerySample step s) := .ite .next .next

theorem execGalTrigWrite_isNext {mask : BitVec 16} : Ans.IsNext (execGalTrigWrite mask s) := .next

theorem execHoldoffEnd_isNext {profile : Nat} : Ans.IsNext (execHoldoffEnd profile s) := .ite .next .next

theorem execGalFreeWrite_isNext {index : BitVec 16} : Ans.IsNext (execGalFreeWrite index s) := .next

theorem execCaptureArm_isNext {n : Nat} : Ans.IsNext (execCaptureArm n s) := by
  refine .ite (.ite .next ?_) .next
  cases s.needPolders n [9] with
  | some t => exact .next
  | none => 
    refine .ite .next ?_
    cases s.nextSlot ((s.mb n).arg 0 1) with
    | none => exact .next
    | some x => exact .next

theorem execCaptureRead_isNext {n : Nat} : Ans.IsNext (execCaptureRead n s) := by
  refine .ite ?_ .next
  cases s.needPolders n [9] with
  | some t => exact .next
  | none => 
    cases s.gal.records.find? (fun r => r.index == (s.mb n).arg 0 2) with
    | none => exact .next
    | some x => exact .next

theorem execCaptureDisarm_isNext {n : Nat} : Ans.IsNext (execCaptureDisarm n s) := by
  refine .ite (.ite .next ?_) .next
  cases s.needPolders n [9] with
  | some t => exact .next
  | none => exact .next

theorem execObserverStep_isNext : Ans.IsNext (execObserverStep s) := .ite .next .next

theorem execTrackerValid_isNext : Ans.IsNext (execTrackerValid s) := .next

theorem execTrackerInvalid_isNext {srcLost : Bool} : Ans.IsNext (execTrackerInvalid srcLost s) := .next

theorem execRunWrite_isNext {value : Bool} : Ans.IsNext (execRunWrite value s) := .next

theorem execLpePublish_isNext : Ans.IsNext (execLpePublish s) := .next

set_option Elab.async false in
theorem execFeClear_isNext {mask : Word} : Ans.IsNext (execFeClear mask s) := .next

theorem execParallelReadCycle_isNext {addr : BitVec 24} {visited : List (BitVec 24)} {allLow : Bool} {straps : Straps} :
    Ans.IsNext (execParallelReadCycle addr visited allLow straps s) :=
    .ite .next .next

theorem execParallelWriteCycle_isNext {addr : BitVec 24} {data : BitVec 16} {allLow : Bool} :
    Ans.IsNext (execParallelWriteCycle addr data allLow s) :=
    .ite .next .next

theorem execSpiHeaderFrame_isNext {header : Word} {straps : Straps} {ends : Bool} :
    Ans.IsNext (execSpiHeaderFrame header s straps ends) :=
    .ite .next (.ite .next (.ite .next .next))

theorem execSpiDataFrame_isNext {data : Word} {straps : Straps} {ends : Bool} :
    Ans.IsNext (execSpiDataFrame data straps s ends) := by
  refine .ite .next ?_
  cases s.spi.phase with
  | reading =>
    cases s.spi.captured with
    | nil => exact .next
    | cons c cs => exact .next
  | _ => exact .next

theorem execSpiShortFrame_isNext : Ans.IsNext (execSpiShortFrame s) := .ite .next .next

theorem execRegisterWrite_isNext {port : Port} {addr : BitVec 24} {value : BitVec 64} :
    Ans.IsNext (execRegisterWrite port addr value s) :=
    .ite .next .next

theorem execDoorbell_isNext {port : Port} {n : Nat} {value : Word} : Ans.IsNext (execDoorbell port n value s) :=
    .ite .next .next

theorem execReeveTakeCommand_isNext : Ans.IsNext (execReeveTakeCommand s) := by
  refine .ite .next ?_
  cases s.nextMailbox with
  | none => exact .next
  | some n =>
    dsimp only
    cases State.earlyAnswer ((s.put (F.RVE_Mn_STATE_STATE n) mbExecuting).withRve { (s.put (F.RVE_Mn_STATE_STATE n) mbExecuting).rve with last := n }) n with
    | none => exact .ite .next .next
    | some st => exact .next

theorem execResponseComplete_isNext {n : Nat} : Ans.IsNext (execResponseComplete n s) := .ite .next .next

theorem execIdentify_isNext {n : Nat} {straps : Straps} : Ans.IsNext (execIdentify n straps s) := .ite .next .next

theorem execStatus_isNext {n : Nat} : Ans.IsNext (execStatus n s) := .ite .next .next

theorem execConfigWrite_isNext {n : Nat} : Ans.IsNext (execConfigWrite n s) := by
  refine .ite (.ite .next ?_) .next
  cases s.requestKeys ((List.range ((s.mb n).len / 12)).map (s.mb n).entry) with
  | error st => exact .next
  | ok keys =>
    dsimp only
    cases s.stageRequest n (natBit (s.mb n).flags 0) keys with
    | error st => exact .next
    | ok l => exact .next

theorem execConfigRead_isNext {n : Nat} : Ans.IsNext (execConfigRead n s) := by
  refine .ite ?_ .next
  cases s.configRead ((s.mb n).arg 0 4) (s.mb n).flags with
  | error st => exact .next
  | ok d => exact .next

set_option Elab.async false in
theorem execAdcRoundStart_isNext {conv : Nat} : Ans.IsNext (execAdcRoundStart conv s) := .next

theorem execModulatorAdcStart_isNext {conv onNs : Nat} {hb : Nat} : Ans.IsNext (execModulatorAdcStart conv onNs s hb) :=
    .ite (.ite .next .next) .next

theorem execAdcHostStart_isNext {mask : BitVec 4} : Ans.IsNext (execAdcHostStart mask s) := .next

theorem execAdcResult_isNext {conv : Nat} {pv : Int} : Ans.IsNext (execAdcResult conv pv s) := .ite .next .next

theorem execAdcCalibrate_isNext {n : Nat} : Ans.IsNext (execAdcCalibrate n s) := by
  refine .ite (.ite .next (.ite .next ?_)) .next
  cases s.needPolders n [12] with
  | some t => exact .next
  | none => exact .ite .next .next

theorem execCalibrationComplete_isNext {trims : List (List Word)} : Ans.IsNext (execCalibrationComplete trims s) :=
    .ite .next .next

theorem execAutoCalibrationStart_isNext : Ans.IsNext (execAutoCalibrationStart s) := .ite .next .next

theorem execModEnWrite_isNext {value : Bool} : Ans.IsNext (execModEnWrite value s) := .next

theorem execDabHalfCycleEdge_isNext {bridge : Nat} : Ans.IsNext (execDabHalfCycleEdge bridge s) := .next

theorem execDabQuarterPoint_isNext {bridge : Nat} {second : Bool} : Ans.IsNext (execDabQuarterPoint bridge second s) := .next

theorem execInverterCarrierValley_isNext : Ans.IsNext (execInverterCarrierValley s) := .next

theorem execInverterCarrierPeak_isNext : Ans.IsNext (execInverterCarrierPeak s) := .next

theorem execTripActive_isNext {trip : Nat} : Ans.IsNext (execTripActive trip s) := .next

theorem execTripInactive_isNext {trip : Nat} : Ans.IsNext (execTripInactive trip s) := .next

set_option Elab.async false in
theorem execTripClear_isNext {mask : BitVec 4} : Ans.IsNext (execTripClear mask s) := .next

theorem execJtagFreeze_isNext : Ans.IsNext (execJtagFreeze s) := .ite .next .next

theorem execModulatorClockResume_isNext : Ans.IsNext (execModulatorClockResume s) := .ite .next .next

theorem execCommandLoss_isNext : Ans.IsNext (execCommandLoss s) := .ite .next .next

theorem execGridInstant_isNext {rate k : Nat} : Ans.IsNext (execGridInstant rate k s) := .ite .next .next

theorem execEthFrameReceived_isNext {port : Nat} {frame : EthFrame} {good : Bool} {stamp frac : Nat} :
    Ans.IsNext (execEthFrameReceived port frame good stamp frac s) :=
    .ite (.ite .next .next) .next

theorem execNetRxPop_isNext : Ans.IsNext (execNetRxPop s) := .next

theorem execHostTxGo_isNext {slot : Nat} {ctrl : Word} : Ans.IsNext (execHostTxGo slot ctrl s) := .ite .next .next

theorem execEthFrameSent_isNext {port stamp frac : Nat} : Ans.IsNext (execEthFrameSent port stamp frac s) := by
  refine .ite ?_ .next
  cases s.net.sending.getD port none with
  | none => exact .next
  | some x => exact .next

theorem execTimedLaunch_isNext {port : Nat} : Ans.IsNext (execTimedLaunch port s) := by
  delta execTimedLaunch
  cases s.firstLaunch port with
  | none => exact .next
  | some x => exact .ite .next .next

theorem execSupervisionFrame_isNext : Ans.IsNext (execSupervisionFrame s) := .ite .next .next

theorem execLinkChange_isNext {port : Nat} {up aneg : Bool} : Ans.IsNext (execLinkChange port up aneg s) := .ite .next .next

theorem execTimOffsetWrite_isNext {value : Word} : Ans.IsNext (execTimOffsetWrite value s) := .next

theorem execServoReset_isNext : Ans.IsNext (execServoReset s) := .next

set_option Elab.async false in
theorem execTimStepWrite_isNext {value : Word} : Ans.IsNext (execTimStepWrite value s) := .next

theorem execTimSecondWrite_isNext {value : Word} : Ans.IsNext (execTimSecondWrite value s) := .next

theorem execSecondMark_isNext : Ans.IsNext (execSecondMark s) := .ite .next .next

theorem execSvSubscriptionTimeout_isNext {sub : Nat} : Ans.IsNext (execSvSubscriptionTimeout sub s) := .ite .next .next

theorem execGooseNewState_isNext {pub : Nat} : Ans.IsNext (execGooseNewState pub s) := .ite .next .next

theorem execGsePubForce_isNext {mask : BitVec 16} : Ans.IsNext (execGsePubForce mask s) := .next

theorem execGooseRepeat_isNext {pub : Nat} : Ans.IsNext (execGooseRepeat pub s) := .next

theorem execGooseDeadlinePassed_isNext {sub : Nat} : Ans.IsNext (execGooseDeadlinePassed sub s) := .ite .next .next

theorem execTideBoundary_isNext {coreDone : Bool} {offset : Nat} : Ans.IsNext (execTideBoundary coreDone s offset) := .next

theorem execWearSample_isNext : Ans.IsNext (execWearSample s) := .next

theorem execCellBringIn_isNext {n : Nat} {verified auto : Bool} : Ans.IsNext (execCellBringIn n verified auto s) := by
  refine .ite (.ite .next (.ite .next ?_)) .next
  cases s.needPolders n (s.ringPolders ((s.mb n).arg 0 1)) with
  | some t => exact .next
  | none => 
    cases (if (s.mb n).arg 1 1 = 0 then s.bestSpare ((s.mb n).arg 0 1) else some ((s.mb n).arg 1 1)) with
    | none => exact .next
    | some x => exact .ite .next .next

theorem execCellRetire_isNext {n : Nat} : Ans.IsNext (execCellRetire n s) := by
  refine .ite (.ite .next (.ite .next ?_)) .next
  cases s.needPolders n (s.ringPolders ((s.mb n).arg 0 1)) with
  | some t => exact .next
  | none => exact .ite .next .next

theorem execTwinSwap_isNext {n : Nat} : Ans.IsNext (execTwinSwap n s) := by
  refine .ite ?_ .next
  rcases s.twin with _ | _ | _ | _ | k
  · exact .next
  · exact .next
  · cases s.swapRefusal with
    | none => exact .ite .next .next
    | some st => exact .next
  · exact .ite .next (.ite .next .next)
  · exact .next

theorem execTwinResync_isNext {n : Nat} : Ans.IsNext (execTwinResync n s) := .ite (.ite .next (.ite .next .next)) .next

set_option Elab.async false in
theorem execTwinLinkFrameReceived_isNext {frame : TideFrame} {arrival : Int} {id : Nat} {codeErrors : Nat} :
    Ans.IsNext (execTwinLinkFrameReceived frame arrival s id codeErrors) :=
    .ite (.ite .next (.ite .next .next)) .next

theorem execEchoPathSilent_isNext {ring : Bool} : Ans.IsNext (execEchoPathSilent ring s) := .ite .next .next

theorem execTwinTakeover_isNext : Ans.IsNext (execTwinTakeover s) := .ite .next .next

theorem execPairingPartnerSilent_isNext : Ans.IsNext (execPairingPartnerSilent s) := .ite .next .next

theorem execAutoSwapTimer_isNext : Ans.IsNext (execAutoSwapTimer s) := .ite (.ite .next .next) .next

theorem execResyncComplete_isNext {snap : Snapshot} : Ans.IsNext (execResyncComplete snap s) := .ite .next (.ite .next .next)

theorem execResyncTimeout_isNext : Ans.IsNext (execResyncTimeout s) := .ite .next .next

theorem execConfigLoadComplete_isNext {bad : BitVec 4} {corrected : Nat} {lost : BitVec 4} :
    Ans.IsNext (execConfigLoadComplete bad s corrected lost) :=
    .ite .next .next

theorem execVaultCommit_isNext {n : Nat} : Ans.IsNext (execVaultCommit n s) := .ite (.ite .next (.ite .next .next)) .next

theorem execJournalRead_isNext {n : Nat} {corrected : Nat} : Ans.IsNext (execJournalRead n s corrected) :=
    .ite (.ite .next (.ite .next .next)) .next

theorem execVaultExport_isNext {n : Nat} {straps : Straps} : Ans.IsNext (execVaultExport n straps s) := by
  refine .ite (.ite .next (.ite .next ?_)) .next
  cases (if (s.mb n).arg 0 4 = 0 then some (s.uhlop straps) else s.vlt.image) with
  | none => exact .next
  | some x => exact .ite .next .next

theorem execExportTimeout_isNext : Ans.IsNext (execExportTimeout s) := .ite .next .next

theorem execThermalMeasure_isNext {n : Nat} : Ans.IsNext (execThermalMeasure n s) := .ite .next .next

theorem execOnDieReading_isNext {reading : BitVec 16} : Ans.IsNext (execOnDieReading reading s) :=
    .ite .next (.ite (.ite (.ite .next .next) .next) (.ite .next (.ite .next .next)))

set_option Elab.async false in
theorem execThermalDemandTimer_isNext : Ans.IsNext (execThermalDemandTimer s) := .ite .next .next

theorem execSubstitutionEnd_isNext {own : Bool} {ring slot sensor : Nat} :
    Ans.IsNext (execSubstitutionEnd own ring slot sensor s) := by
  delta execSubstitutionEnd
  extract_lets k
  cases SMap.find s.thm.sensors k with
  | none => exact .next
  | some x => exact .ite .next .next

theorem execVaultEraseComplete_isNext : Ans.IsNext (execVaultEraseComplete s) := by
  delta execVaultEraseComplete
  cases s.vlt.op with
  | none => exact .next
  | some x => exact .ite .next .next

theorem execVaultProgramComplete_isNext : Ans.IsNext (execVaultProgramComplete s) := by
  delta execVaultProgramComplete
  cases s.vlt.op with
  | none => exact .next
  | some x => 
    refine .ite ?_ .next
    cases x.stage with
    | page k => exact .ite .next .next
    | _ => exact .next

theorem execVaultSectorRemap_isNext {last : Bool} : Ans.IsNext (execVaultSectorRemap s last) := by
  delta execVaultSectorRemap
  cases s.vlt.op with
  | some o => exact .ite .next .next
  | none =>
    cases s.vlt.startWrite with
    | none => exact .next
    | some l => exact .next

theorem execWardenInputFiltered_isNext {chan : Bool} {input : Nat} {level : Bool} :
    Ans.IsNext (execWardenInputFiltered chan input level s) :=
    .ite .next .next

theorem execContactDiscrepancyTimeout_isNext {chan : Bool} : Ans.IsNext (execContactDiscrepancyTimeout chan s) :=
    .ite .next .next

theorem execWardenExchangeSend_isNext {chan : Bool} : Ans.IsNext (execWardenExchangeSend chan s) := .ite .next .next

theorem execWardenExchangeReceived_isNext {chan : Bool} : Ans.IsNext (execWardenExchangeReceived chan s) := by
  refine .ite ?_ .next
  cases (s.wch (!chan)).sent with
  | none => exact .next
  | some x => exact .next

theorem execWardenDiscrepancyLockout_isNext {chan silent : Bool} : Ans.IsNext (execWardenDiscrepancyLockout chan silent s) :=
    .ite .next (.ite .next (.ite .next .next))

theorem execWardenRelease_isNext {block : Bool} : Ans.IsNext (execWardenRelease block s) := .next

theorem execWardenBlock_isNext : Ans.IsNext (execWardenBlock s) := .next

theorem execSafeOutTestPulseStart_isNext {chan : Bool} : Ans.IsNext (execSafeOutTestPulseStart chan s) :=
    .ite (.ite .next .next) .next

theorem execSafeOutTestPulseEnd_isNext {chan : Bool} : Ans.IsNext (execSafeOutTestPulseEnd chan s) := .ite .next .next

set_option Elab.async false in
theorem execSafeOutReadback_isNext {chan level : Bool} : Ans.IsNext (execSafeOutReadback chan level s) :=
    .ite (.ite .next .next) .next

set_option Elab.async false in
/-- Checked before the next declaration begins. -/
theorem exec_isNext (i : Instr) (s : State) : Ans.IsNext (exec i s) :=
  match i with
  | .vcrestRise _ _ _ _ => execVcrestRise_isNext
  | .vcrestFall => execVcrestFall_isNext
  | .supplyLost _ _ _ _ => execSupplyLost_isNext
  | .supplyReturn _ _ _ _ => execSupplyReturn_isNext
  | .wakenLow _ => execWakenLow_isNext
  | .laneWakeLatch _ => execLaneWakeLatch_isNext
  | .dripAlarm => execDripAlarm_isNext
  | .guardChangeAccepted _ _ => execGuardChangeAccepted_isNext
  | .wakeDuringAwake _ => execWakeDuringAwake_isNext
  | .startUp => execStartUp_isNext
  | .polderPowerGood _ _ => execPolderPowerGood_isNext
  | .polderStartFailure _ => execPolderStartFailure_isNext
  | .culvertPolderIdleStop _ => execCulvertPolderIdleStop_isNext
  | .startUpThermalReading _ => execStartUpThermalReading_isNext
  | .configLoadComplete _ _ _ => execConfigLoadComplete_isNext
  | .startUpPoldersAndCalibration => execStartUpPoldersAndCalibration_isNext
  | .readyEntered => execReadyEntered_isNext
  | .p0ClockPresent => execP0ClockPresent_isNext
  | .dripOkSet _ => execDripOkSet_isNext
  | .dripClockLost => execDripClockLost_isNext
  | .pllLockDeclared _ _ => execPllLockDeclared_isNext
  | .storedBandAbandoned => execStoredBandAbandoned_isNext
  | .pllNoLock => execPllNoLock_isNext
  | .lockRetry _ => execLockRetry_isNext
  | .pllHoldoverEntry _ => execPllHoldoverEntry_isNext
  | .pllReengage => execPllReengage_isNext
  | .reengagementFailed => execReengagementFailed_isNext
  | .holdoverTooLong => execHoldoverTooLong_isNext
  | .syncInEdge _ _ => execSyncInEdge_isNext
  | .parallelReadCycle _ visited _ _ => execParallelReadCycle_isNext (visited := visited)
  | .parallelWriteCycle _ _ _ => execParallelWriteCycle_isNext
  | .spiHeaderFrame _ _ _ => execSpiHeaderFrame_isNext
  | .spiDataFrame _ _ _ => execSpiDataFrame_isNext
  | .spiShortFrame => execSpiShortFrame_isNext
  | .registerWrite _ _ _ => execRegisterWrite_isNext
  | .doorbell _ _ _ => execDoorbell_isNext
  | .reeveTakeCommand => execReeveTakeCommand_isNext
  | .responseComplete _ => execResponseComplete_isNext
  | .identify _ _ => execIdentify_isNext
  | .status _ => execStatus_isNext
  | .sleep _ => execSleep_isNext
  | .crestStandbyReached => execCrestStandbyReached_isNext
  | .wakeRemote _ _ _ => execWakeRemote_isNext
  | .configWrite _ => execConfigWrite_isNext
  | .configRead _ => execConfigRead_isNext
  | .vaultCommit _ => execVaultCommit_isNext
  | .journalRead _ _ => execJournalRead_isNext
  | .vaultExport _ _ => execVaultExport_isNext
  | .exportTimeout => execExportTimeout_isNext
  | .adcCalibrate _ => execAdcCalibrate_isNext
  | .calibrationComplete _ => execCalibrationComplete_isNext
  | .autoCalibrationStart => execAutoCalibrationStart_isNext
  | .thermalMeasure _ => execThermalMeasure_isNext
  | .clockRelock _ => execClockRelock_isNext
  | .ringDiscover _ _ => execRingDiscover_isNext
  | .ringAlign _ _ _ _ => execRingAlign_isNext
  | .laneSleep _ => execLaneSleep_isNext
  | .laneWake _ => execLaneWake_isNext
  | .cellBringIn _ _ _ => execCellBringIn_isNext
  | .cellRetire _ => execCellRetire_isNext
  | .twinSwap _ => execTwinSwap_isNext
  | .twinResync _ => execTwinResync_isNext
  | .captureArm _ => execCaptureArm_isNext
  | .captureRead _ => execCaptureRead_isNext
  | .captureDisarm _ => execCaptureDisarm_isNext
  | .faultAck _ => execFaultAck_isNext
  | .faultInject _ _ => execFaultInject_isNext
  | .remote _ => execRemote_isNext
  | .remoteTimeout _ => execRemoteTimeout_isNext
  | .rxClockDetect _ => execRxClockDetect_isNext
  | .rxWordLock _ => execRxWordLock_isNext
  | .rxDeskewSet _ _ => execRxDeskewSet_isNext
  | .rxUp _ _ => execRxUp_isNext
  | .rxDown _ _ => execRxDown_isNext
  | .rxRealign _ _ => execRxRealign_isNext
  | .portReady _ => execPortReady_isNext
  | .portStatusReceived _ _ _ => execPortStatusReceived_isNext
  | .tideBoundary _ _ => execTideBoundary_isNext
  | .tideFrameReceived _ _ _ => execTideFrameReceived_isNext
  | .commandLoss => execCommandLoss_isNext
  | .periodicUnwrap _ => execPeriodicUnwrap_isNext
  | .messageAckTimeout _ => execMessageAckTimeout_isNext
  | .messageBusyRetry _ => execMessageBusyRetry_isNext
  | .alignAverageComplete _ => execAlignAverageComplete_isNext
  | .referencePortChange => execReferencePortChange_isNext
  | .triggerTokenRaise _ _ => execTriggerTokenRaise_isNext
  | .laneActivity _ => execLaneActivity_isNext
  | .adcRoundStart _ => execAdcRoundStart_isNext
  | .modulatorAdcStart _ _ _ => execModulatorAdcStart_isNext
  | .gridInstant _ _ => execGridInstant_isNext
  | .adcHostStart _ => execAdcHostStart_isNext
  | .adcResult _ _ => execAdcResult_isNext
  | .observerStep => execObserverStep_isNext
  | .trackerValid => execTrackerValid_isNext
  | .trackerInvalid _ => execTrackerInvalid_isNext
  | .runWrite _ => execRunWrite_isNext
  | .modEnWrite _ => execModEnWrite_isNext
  | .dabHalfCycleEdge _ => execDabHalfCycleEdge_isNext
  | .dabQuarterPoint _ _ => execDabQuarterPoint_isNext
  | .inverterCarrierValley => execInverterCarrierValley_isNext
  | .tripActive _ => execTripActive_isNext
  | .tripClear _ => execTripClear_isNext
  | .jtagFreeze => execJtagFreeze_isNext
  | .modulatorClockResume => execModulatorClockResume_isNext
  | .lpePublish => execLpePublish_isNext
  | .feClear _ => execFeClear_isNext
  | .desaturation _ => execDesaturation_isNext
  | .channelUndervoltage _ _ => execChannelUndervoltage_isNext
  | .bothOnRefused _ => execBothOnRefused_isNext
  | .halfBridgeHoldEnd _ => execHalfBridgeHoldEnd_isNext
  | .dieRefreshLoss _ => execDieRefreshLoss_isNext
  | .bootstrapWarn _ => execBootstrapWarn_isNext
  | .bootstrapMaxReached _ _ => execBootstrapMaxReached_isNext
  | .dieBootstrapLimit _ => execDieBootstrapLimit_isNext
  | .ovComparatorChange _ _ => execOvComparatorChange_isNext
  | .chopperTurnOn => execChopperTurnOn_isNext
  | .chopperTurnOff => execChopperTurnOff_isNext
  | .chopperCheckFailed => execChopperCheckFailed_isNext
  | .sluiceMismatch _ _ => execSluiceMismatch_isNext
  | .faultEvent _ => execFaultEvent_isNext
  | .brokenErrorWire _ => execBrokenErrorWire_isNext
  | .intPendWrite _ _ => execIntPendWrite_isNext
  | .intEnWrite _ _ => execIntEnWrite_isNext
  | .intTgtWrite _ _ => execIntTgtWrite_isNext
  | .hsleepChange _ _ => execHsleepChange_isNext
  | .strataEntryAccepted => execStrataEntryAccepted_isNext
  | .strataMark _ => execStrataMark_isNext
  | .strataDataRead _ => execStrataDataRead_isNext
  | .wardenInputFiltered _ _ _ => execWardenInputFiltered_isNext
  | .contactDiscrepancyTimeout _ => execContactDiscrepancyTimeout_isNext
  | .wardenExchangeSend _ => execWardenExchangeSend_isNext
  | .wardenExchangeReceived _ => execWardenExchangeReceived_isNext
  | .wardenDiscrepancyLockout _ _ => execWardenDiscrepancyLockout_isNext
  | .wardenRelease _ => execWardenRelease_isNext
  | .wardenBlock => execWardenBlock_isNext
  | .safeOutTestPulseStart _ => execSafeOutTestPulseStart_isNext
  | .safeOutTestPulseEnd _ => execSafeOutTestPulseEnd_isNext
  | .safeOutReadback _ _ => execSafeOutReadback_isNext
  | .onDieReading _ => execOnDieReading_isNext
  | .thermalDemandTimer => execThermalDemandTimer_isNext
  | .substitutionEnd _ _ _ _ => execSubstitutionEnd_isNext
  | .vaultEraseComplete => execVaultEraseComplete_isNext
  | .vaultProgramComplete => execVaultProgramComplete_isNext
  | .vaultSectorRemap _ => execVaultSectorRemap_isNext
  | .ethFrameReceived _ _ _ _ _ => execEthFrameReceived_isNext
  | .netRxPop => execNetRxPop_isNext
  | .hostTxGo _ _ => execHostTxGo_isNext
  | .ethFrameSent _ _ _ => execEthFrameSent_isNext
  | .timedLaunch _ => execTimedLaunch_isNext
  | .supervisionFrame => execSupervisionFrame_isNext
  | .linkChange _ _ _ => execLinkChange_isNext
  | .timOffsetWrite _ => execTimOffsetWrite_isNext
  | .servoReset => execServoReset_isNext
  | .timStepWrite _ => execTimStepWrite_isNext
  | .timSecondWrite _ => execTimSecondWrite_isNext
  | .secondMark => execSecondMark_isNext
  | .svSubscriptionTimeout _ => execSvSubscriptionTimeout_isNext
  | .gooseNewState _ => execGooseNewState_isNext
  | .gsePubForce _ => execGsePubForce_isNext
  | .gooseRepeat _ => execGooseRepeat_isNext
  | .gooseDeadlinePassed _ => execGooseDeadlinePassed_isNext
  | .gallerySample _ => execGallerySample_isNext
  | .galTrigWrite _ => execGalTrigWrite_isNext
  | .holdoffEnd _ => execHoldoffEnd_isNext
  | .galFreeWrite _ => execGalFreeWrite_isNext
  | .twinLinkFrameReceived _ _ _ _ => execTwinLinkFrameReceived_isNext
  | .echoPathSilent _ => execEchoPathSilent_isNext
  | .twinTakeover => execTwinTakeover_isNext
  | .pairingPartnerSilent => execPairingPartnerSilent_isNext
  | .autoSwapTimer => execAutoSwapTimer_isNext
  | .resyncComplete _ => execResyncComplete_isNext
  | .resyncTimeout => execResyncTimeout_isNext
  | .wearSample => execWearSample_isNext
  | .tripInactive _ => execTripInactive_isNext
  | .busMonitorSample _ => execBusMonitorSample_isNext
  | .aliveDividerEdge => execAliveDividerEdge_isNext
  | .errorWireRestored _ => execErrorWireRestored_isNext
  | .vio3BecomesPresent _ => execVio3BecomesPresent_isNext
  | .inverterCarrierPeak => execInverterCarrierPeak_isNext

/-- Settles O3: an empty queue idles, and the command at its front answers a next state. -/
theorem everyStepAnswersNext : Obligations.EveryStepAnswersNext := by
  intro s
  delta step
  cases s.pending with
  | nil => exact ⟨_, rfl⟩
  | cons c q => exact exec_isNext c _

end Sys2Proof.Machine
end

section
/-! PROOF. What every command keeps: the queue, the forms and sizes of `State.Inv`, and the capture memory. One rule per operation of the
model, in the order of the definitions. -/
-- Each lemma waits for the kernel on those before it; one at a time, they need no thread each.
namespace Sys2Proof.Machine

/-- A quantity is read without any effect. -/
theorem State.quantity_state (s : State) (t : Nat) : ∀ k, (s.quantity k t).2 = s
  | 0 | 1 | 2 | 3 | 4 | 5 | 6 | 7 | 8 | 9 | 10 | 11 | 12 | 13 | 14 | 15 | 16 | 17 | 18 | 19 | 20 | 21 | 22 | 23 | 24 | 25 | 26 | 27 | 28
  | 29 | 30 => rfl
  | _ + 31 => rfl

/-- As an equation of functions: the kernel then never evaluates `s.nextSlot p` to see which branch it takes. -/
theorem State.holdOver_eq : State.holdOver = fun s p =>
    match s.nextSlot p with
    | some i => s.fillSlot p i
    | none => (s.galState p 5).raiseInt (172 + p) := rfl

theorem State.holdOver_cases {s : State} {p : Nat} {P : State → Prop} (hFill : ∀ i, P (s.fillSlot p i))
    (hFull : P ((s.galState p 5).raiseInt (172 + p))) : P (s.holdOver p) := by
  rw [State.holdOver_eq]
  dsimp only
  cases s.nextSlot p with
  | some i => exact hFill i
  | none => exact hFull

/-- Strata within its sizes (R349, R350). -/
def StrataSt.Sized (v : StrataSt) : Prop := v.log.length ≤ 4096 ∧ (∀ q ∈ v.queues, q.length ≤ 16) ∧ v.queues.length = 4

/-- The network's slots and queues within their sizes (R398, R399). -/
def NetSt.Sized (v : NetSt) : Prop :=
  v.count ≤ 8 ∧ v.waiting.length = 2 ∧ v.sending.length = 2 ∧ v.rx.length = 8 ∧ v.tx.length = 4 ∧
    ∀ x ∈ v.tx, x.stamps.length = 2 ∧ x.fracs.length = 2

/-- The lists of publishers and subscriptions at their lengths. -/
def StmSt.Sized (v : StmSt) : Prop := v.pub.length = 8 ∧ v.sub.length = 16 ∧ v.gpub.length = 16 ∧ v.gsub.length = 64

/-- The fault counts of the four classes. -/
def FaultSt.Sized (v : FaultSt) : Prop := v.events.length = 4 ∧ v.escalated.length = 4

/-- The Gallery's profiles and capture descriptors within their sizes (R435). -/
def GallerySt.Sized (v : GallerySt) : Prop := v.records.length ≤ 64 ∧ v.prof.length = 4

/-- The Vault's slots in canonical form. -/
def VltSt.Canonical (v : VltSt) : Prop := ∀ x ∈ v.slots, ∀ y, x = some y → SMap.wf y.cfg = true

/-- A list of lists stays within a bound when a list within it replaces one of them. -/
theorem length_le_of_mem_set {α : Type} {l : List (List α)} {i n : Nat} {x : List α} (h : ∀ q ∈ l, q.length ≤ n) (hx : x.length ≤ n) :
    ∀ q ∈ l.set i x, q.length ≤ n := by
  intro q hq
  rcases List.mem_or_eq_of_mem_set hq with hq | rfl
  · exact h q hq
  · exact hx

theorem insertRaise_length (e : StrataOffer) (l : List StrataOffer) : (insertRaise e l).length = l.length + 1 := by
  induction l with
  | nil => rfl
  | cons x l ih =>
    unfold insertRaise
    split
    · simp [ih]
    · rfl

/-- R349: a queue takes an entry only while it holds fewer than 16. -/
theorem StrataSt.Sized.offerCore {v : StrataSt} (h : v.Sized) (q : Nat) (e : StrataOffer) : (offerCore v q e).1.Sized := by
  obtain ⟨hLog, hQueues, hPorts⟩ := h
  unfold Machine.offerCore
  extract_lets l
  split
  · exact ⟨hLog, length_le_of_mem_set hQueues (by simp only [List.length_append, List.length_cons, List.length_nil]; omega), by simpa using hPorts⟩
  · exact ⟨hLog, hQueues, hPorts⟩

theorem StrataSt.Sized.offerRaise {v : StrataSt} (h : v.Sized) (n : Nat) : (offerRaise v n).1.Sized := by
  obtain ⟨hLog, hQueues, hPorts⟩ := h
  unfold Machine.offerRaise
  extract_lets l l'
  have hLength : l'.length = l.length + 1 := by
    simp only [l', List.length_append, List.length_take, List.length_drop, insertRaise_length]
    omega
  split
  · exact ⟨hLog, length_le_of_mem_set hQueues (by omega), by simpa using hPorts⟩
  · exact ⟨hLog, length_le_of_mem_set hQueues (List.length_take_le ..), by simpa using hPorts⟩

/-- R350: the log drops its oldest entry for a new one when it is full. -/
theorem StrataSt.Sized.logged {v : StrataSt} (h : v.Sized) {l : List (BitVec 64)} {o : Nat} (hl : l.length ≤ 4096) :
    ({ v with log := l, overrun := o } : StrataSt).Sized := ⟨hl, h.2⟩

/-- A transmit slot has a stamp per port. -/
def TxSlot.Sized (x : TxSlot) : Prop := x.stamps.length = 2 ∧ x.fracs.length = 2

theorem NetSt.Sized.slot {v : NetSt} (h : v.Sized) (j : Nat) : (v.tx.getD j {}).Sized := by
  obtain ⟨_, _, _, _, _, hStamps⟩ := h
  rw [List.getD_eq_getElem?_getD]
  cases hj : v.tx[j]? with
  | none => exact ⟨rfl, rfl⟩
  | some x => exact hStamps x (List.mem_of_getElem? hj)

theorem NetSt.Sized.setTx {v : NetSt} (h : v.Sized) {j : Nat} {x : TxSlot} (hx : x.Sized) :
    ({ v with tx := v.tx.set j x } : NetSt).Sized := by
  obtain ⟨hCount, hWaiting, hSending, hRx, hTx, hStamps⟩ := h
  refine ⟨hCount, hWaiting, hSending, hRx, by simpa using hTx, fun y hy => ?_⟩
  rcases List.mem_or_eq_of_mem_set hy with hy | rfl
  · exact hStamps y hy
  · exact hx

/-- The queues of the ports may change within their number. -/
theorem NetSt.Sized.queues {v : NetSt} (h : v.Sized) {w : List (List TxFrame)} {x : List (Option TxFrame)} (hw : w.length = v.waiting.length)
    (hx : x.length = v.sending.length) : ({ v with waiting := w, sending := x } : NetSt).Sized := by
  obtain ⟨hCount, hWaiting, hSending, hRest⟩ := h
  exact ⟨hCount, hw.trans hWaiting, hx.trans hSending, hRest⟩

set_option Elab.async false in
theorem NetSt.Sized.fill {v : NetSt} (h : v.Sized) {i : Nat} {x : Option RxSlot} (hRoom : v.count < 8) :
    ({ v with rx := v.rx.set i x, count := v.count + 1 } : NetSt).Sized := by
  obtain ⟨_, hWaiting, hSending, hRx, hTx⟩ := h
  exact ⟨hRoom, hWaiting, hSending, by simpa using hRx, hTx⟩

theorem StmSt.Sized.setPub {v : StmSt} (h : v.Sized) {p : Nat} {l : List SvWait} :
    ({ v with pub := v.pub.set p l } : StmSt).Sized := ⟨by simpa using h.1, h.2⟩

theorem VltSt.Canonical.eraseSector {v : VltSt} (h : v.Canonical) (l : Nat) : (v.eraseSector l).Canonical := h

theorem VltSt.Canonical.setSlot {v : VltSt} (h : v.Canonical) {i : Nat} {x : Option SlotSt}
    (hx : ∀ y, x = some y → SMap.wf y.cfg = true) : ∀ z ∈ v.slots.set i x, ∀ y, z = some y → SMap.wf y.cfg = true := by
  intro z hz
  rcases List.mem_or_eq_of_mem_set hz with hz | rfl
  · exact h z hz
  · exact hx

theorem wf_foldl_set (l : List (Nat × Word)) {m : List (Nat × Word)} (h : SMap.wf m = true) :
    SMap.wf (l.foldl (fun m kv => SMap.set m kv.1 kv.2) m) = true := by
  induction l generalizing m with
  | nil => exact h
  | cons k l ih => exact ih (SMap.wf_set _ _ _ h)

theorem VltSt.Canonical.slot {v : VltSt} (h : v.Canonical) {i : Nat} {z : SlotSt} (hSlot : v.slots.getD i none = some z) :
    SMap.wf z.cfg = true := by
  rw [List.getD_eq_getElem?_getD] at hSlot
  cases hi : v.slots[i]? with
  | none => simp [hi] at hSlot
  | some w => exact h w (List.mem_of_getElem? hi) z (by simpa [hi] using hSlot)

/-- The generation that `VltSt.best` finds stands in one of the slots. -/
theorem VltSt.Canonical.best {v : VltSt} (h : v.Canonical) {p : SlotSt → Bool} {x : Nat × SlotSt} (hx : v.best p = some x) :
    SMap.wf x.2.cfg = true := by
  suffices hFold : ∀ (l : List Nat) (b : Option (Nat × SlotSt)), (∀ y, b = some y → SMap.wf y.2.cfg = true) →
      ∀ y, l.foldl (fun b i => match v.slots.getD i none with
        | some x =>
          if x.valid && p x then
            match b with
            | some y => if x.gen > y.2.gen then some (i, x) else b
            | none => some (i, x)
          else b
        | none => b) b = some y → SMap.wf y.2.cfg = true from hFold _ none (fun _ hb => nomatch hb) x hx
  intro l
  induction l with
  | nil => exact fun b hb => hb
  | cons i l ih =>
    intro b hb
    refine ih _ (fun y hy => ?_)
    dsimp only at hy
    split at hy
    case h_2 => exact hb y hy
    case h_1 z hSlot =>
      have hz : SMap.wf z.cfg = true := h.slot hSlot
      split at hy
      · split at hy
        · split at hy
          · cases hy; exact hz
          · exact hb y hy
        · cases hy; exact hz
      · exact hb y hy

theorem VltSt.Canonical.nonVolatile {v : VltSt} (h : v.Canonical) : v.nonVolatile.Canonical := h

/-- Staged keys written into a map in canonical form leave it in canonical form. -/
theorem wf_foldl_putKey (l : List StagedKey) {m : List (Nat × Word)} (h : SMap.wf m = true) : SMap.wf (l.foldl putKey m) = true := by
  induction l generalizing m with
  | nil => exact h
  | cons k l ih => exact ih (SMap.wf_set _ _ _ h)

theorem State.frameBytes_net (s : State) (f : EthFrame) : (s.frameBytes f).2.net = s.net := by
  obtain ⟨dst, src, vlan, seq, etype, body⟩ := f
  cases body <;> rfl

@[simp] theorem State.send_pwr (s : State) (p : Nat) (x : TxItem) : (s.send p x).pwr = s.pwr := rfl

@[simp] theorem State.wakeTx_pwr (s : State) (p : Nat) : (s.wakeTx p).pwr = s.pwr := by
  unfold State.wakeTx
  split <;> simp

@[simp] theorem State.updateWraps_pwr (s : State) : s.updateWraps.pwr = s.pwr := by
  unfold State.updateWraps
  split <;> rfl

@[simp] theorem State.updateUsable_pwr (s : State) (p : Nat) : (s.updateUsable p).pwr = s.pwr := by
  unfold State.updateUsable
  extract_lets u t1 c t2
  have h2 : t2.pwr = s.pwr := by
    simp only [t2]
    split <;> rfl
  split
  · exact t2.updateWraps_pwr.trans h2
  · exact h2

@[simp] theorem State.rxState_pwr (s : State) (p v : Nat) : (s.rxState p v).pwr = s.pwr := by
  unfold State.rxState
  extract_lets t1
  rw [State.updateUsable_pwr]
  show t1.pwr = s.pwr
  simp only [t1]
  split <;> simp

@[simp] theorem State.wakeRx_pwr (s : State) (p : Nat) : (s.wakeRx p).pwr = s.pwr := by
  unfold State.wakeRx
  split
  · rfl
  · exact State.rxState_pwr _ p 1

theorem State.reset_inv : State.reset.Inv := State.inv_of_invB (by decide)

/-- The queue is as before, and what `State.Inv` demands still holds. -/
structure State.Sound (s t : State) : Prop where
  queue : t.pending = s.pending
  inv : s.Inv → t.Inv

/-- R80: beside the queue and `State.Inv`, the capture memory is as before or lost with polder 9. -/
structure State.Follows (s t : State) : Prop extends State.Sound s t where
  memory : t.gal.mem = s.gal.mem ∨ (t.gal.mem = [] ∧ t.isOn 9 = false)

/-- `t` comes from `s` by operations that leave the queue alone, keep the forms and sizes of `State.Inv`, lose the capture memory with
polder 9 alone, and turn no polder 9 on. -/
structure State.Keeps (s t : State) : Prop extends State.Follows s t where
  staysOff : s.isOn 9 = false → t.isOn 9 = false

/-- The command's answer is a next state that `State.Keeps` leads to. -/
def State.Leads (s : State) (a : Ans) : Prop := ∃ t, a = .next t ∧ s.Keeps t

/-- Where the operation answers a state, `State.Keeps` leads to it. -/
def State.LeadsIf (s : State) (o : Option State) : Prop := ∀ t, o = some t → s.Keeps t

namespace State.Keeps
variable {s t u : State}

theorem refl (s : State) : s.Keeps s := ⟨⟨⟨rfl, id⟩, .inl rfl⟩, id⟩

theorem trans (h : s.Keeps t) (h' : t.Keeps u) : s.Keeps u where
  queue := h'.queue.trans h.queue
  inv := h'.inv ∘ h.inv
  staysOff := h'.staysOff ∘ h.staysOff
  memory := by
    rcases h'.memory with hu | hu
    · rcases h.memory with ht | ht
      · exact .inl (hu.trans ht)
      · exact .inr ⟨hu.trans ht.1, h'.staysOff ht.2⟩
    · exact .inr hu

theorem ite {c : Prop} [Decidable c] (ht : s.Keeps t) (hu : s.Keeps u) : s.Keeps (if c then t else u) := by
  split
  · exact ht
  · exact hu

set_option Elab.async false in
theorem pairFst {α : Type} {a : α} (h : s.Keeps t) : s.Keeps (t, a).1 := h

theorem pairSnd {α : Type} {a : α} (h : s.Keeps t) : s.Keeps (a, t).2 := h

theorem iteFst {α : Type} {c : Prop} [Decidable c] {a b : State × α} (ha : s.Keeps a.1) (hb : s.Keeps b.1) :
    s.Keeps (if c then a else b).1 := by
  split
  · exact ha
  · exact hb

theorem iteSnd {α : Type} {c : Prop} [Decidable c] {a b : α × State} (ha : s.Keeps a.2) (hb : s.Keeps b.2) :
    s.Keeps (if c then a else b).2 := by
  split
  · exact ha
  · exact hb

theorem foldl {α : Type} {f : State → α → State} {l : List α} (hf : ∀ u a, s.Keeps u → s.Keeps (f u a)) (h : s.Keeps t) :
    s.Keeps (l.foldl f t) := by
  induction l generalizing t with
  | nil => exact h
  | cons a l ih => exact ih (hf t a h)

theorem foldlFst {α β : Type} {f : State × β → α → State × β} {l : List α} {x : State × β}
    (hf : ∀ y a, s.Keeps y.1 → s.Keeps (f y a).1) (h : s.Keeps x.1) : s.Keeps (l.foldl f x).1 := by
  induction l generalizing x with
  | nil => exact h
  | cons a l ih => exact ih (hf x a h)

theorem foldlSnd {α β : Type} {f : β × State → α → β × State} {l : List α} {x : β × State}
    (hf : ∀ y a, s.Keeps y.2 → s.Keeps (f y a).2) (h : s.Keeps x.2) : s.Keeps (l.foldl f x).2 := by
  induction l generalizing x with
  | nil => exact h
  | cons a l ih => exact ih (hf x a h)

/-! ## One part of the state replaced -/

/-- A state whose queue, capture memory and polders are as before. -/
theorem of_parts (h : s.Keeps t) (hQueue : u.pending = t.pending) (hInv : t.Inv → u.Inv) (hMem : u.gal.mem = t.gal.mem)
    (hOn : t.isOn 9 = false → u.isOn 9 = false) : s.Keeps u :=
  h.trans ⟨⟨⟨hQueue, hInv⟩, .inl hMem⟩, hOn⟩

theorem withRegs {v : List (Nat × Word)} (h : s.Keeps t) (hv : SMap.wf t.regs = true → SMap.wf v = true) : s.Keeps (t.withRegs v) :=
  h.of_parts rfl (fun hi => { hi with regs := hv hi.regs }) rfl id
theorem withCfg {v : List (Nat × Word)} (h : s.Keeps t) (hv : t.Inv → SMap.wf v = true) : s.Keeps (t.withCfg v) :=
  h.of_parts rfl (fun hi => { hi with cfg := hv hi }) rfl id
theorem withEff {v : List (Nat × Word)} (h : s.Keeps t) (hv : SMap.wf t.eff = true → SMap.wf v = true) : s.Keeps (t.withEff v) :=
  h.of_parts rfl (fun hi => { hi with eff := hv hi.eff }) rfl id
theorem withPwr {v : PowerSt} (h : s.Keeps t) (hv : t.pwr.on.getLsbD 9 = false → v.on.getLsbD 9 = false := by exact id) :
    s.Keeps (t.withPwr v) :=
  h.of_parts rfl (fun hi => { hi with }) rfl hv
theorem withClk {v : ClockSt} (h : s.Keeps t) : s.Keeps (t.withClk v) := h.of_parts rfl (fun hi => { hi with }) rfl id
theorem withHdRead {v : Option (BitVec 16)} (h : s.Keeps t) : s.Keeps (t.withHdRead v) :=
  h.of_parts rfl (fun hi => { hi with }) rfl id
theorem withBus {v : PortSt} (h : s.Keeps t) : s.Keeps (t.withBus v) := h.of_parts rfl (fun hi => { hi with }) rfl id
theorem withSpiPort {v : PortSt} (h : s.Keeps t) : s.Keeps (t.withSpiPort v) := h.of_parts rfl (fun hi => { hi with }) rfl id
theorem withSpi {v : SpiSt} (h : s.Keeps t) : s.Keeps (t.withSpi v) := h.of_parts rfl (fun hi => { hi with }) rfl id
theorem withRve {v : ReeveSt} (h : s.Keeps t) (hv : t.rve.mb.length = 11 → v.mb.length = 11 := by exact id) :
    s.Keeps (t.withRve v) :=
  h.of_parts rfl (fun hi => { hi with mailboxes := hv hi.mailboxes }) rfl id
theorem withFlt {v : FaultSt} (h : s.Keeps t) (hv : t.flt.Sized → v.Sized := by exact id) : s.Keeps (t.withFlt v) := by
  refine h.of_parts rfl (fun hi => ?_) rfl id
  obtain ⟨hEvents, hEsc⟩ := hv ⟨hi.counts, hi.escalations⟩
  exact { hi with counts := hEvents, escalations := hEsc }
theorem withInt {v : IntSt} (h : s.Keeps t) : s.Keeps (t.withInt v) := h.of_parts rfl (fun hi => { hi with }) rfl id
theorem withStr {v : StrataSt} (h : s.Keeps t) (hv : t.str.Sized → v.Sized := by exact id) : s.Keeps (t.withStr v) := by
  refine h.of_parts rfl (fun hi => ?_) rfl id
  obtain ⟨hLog, hQueues, hPorts⟩ := hv ⟨hi.log, hi.queues, hi.strataPorts⟩
  exact { hi with log := hLog, queues := hQueues, strataPorts := hPorts }
theorem withCul {v : CulvertSt} (h : s.Keeps t) (hv : t.cul.ports.length = 10 → v.ports.length = 10 := by exact id) :
    s.Keeps (t.withCul v) :=
  h.of_parts rfl (fun hi => { hi with ports := hv hi.ports }) rfl id
theorem withAdc {v : AdcSt} (h : s.Keeps t) (hv : t.adc.conv.length = 4 → v.conv.length = 4 := by exact id) :
    s.Keeps (t.withAdc v) :=
  h.of_parts rfl (fun hi => { hi with converters := hv hi.converters }) rfl id
theorem withDpc {v : DpcSt} (h : s.Keeps t) : s.Keeps (t.withDpc v) := h.of_parts rfl (fun hi => { hi with }) rfl id
theorem withMod {v : ModSt} (h : s.Keeps t) (hv : t.mod.func.length = 4 → v.func.length = 4 := by exact id) :
    s.Keeps (t.withMod v) :=
  h.of_parts rfl (fun hi => { hi with functions := hv hi.functions }) rfl id
theorem withGdr {v : GdrSt} (h : s.Keeps t) (hv : t.gdr.cause.length = 4 → v.cause.length = 4 := by exact id) :
    s.Keeps (t.withGdr v) :=
  h.of_parts rfl (fun hi => { hi with causes := hv hi.causes }) rfl id
theorem withPins {v : PinSt} (h : s.Keeps t) : s.Keeps (t.withPins v) := h.of_parts rfl (fun hi => { hi with }) rfl id
theorem withLpe {v : LpeSt} (h : s.Keeps t) : s.Keeps (t.withLpe v) := h.of_parts rfl (fun hi => { hi with }) rfl id
theorem withWrd {v : WrdSt} (h : s.Keeps t) : s.Keeps (t.withWrd v) := h.of_parts rfl (fun hi => { hi with }) rfl id
theorem withVlt {v : VltSt} (h : s.Keeps t) (hv : t.vlt.Canonical → v.Canonical := by exact id) : s.Keeps (t.withVlt v) :=
  h.of_parts rfl (fun hi => { hi with slots := hv hi.slots }) rfl id
theorem withVltOfInv {v : VltSt} (h : s.Keeps t) (hv : t.Inv → v.Canonical) : s.Keeps (t.withVlt v) :=
  h.of_parts rfl (fun hi => { hi with slots := hv hi }) rfl id
theorem withThm {v : ThmSt} (h : s.Keeps t) : s.Keeps (t.withThm v) := h.of_parts rfl (fun hi => { hi with }) rfl id
theorem withTim {v : TimeSt} (h : s.Keeps t) : s.Keeps (t.withTim v) := h.of_parts rfl (fun hi => { hi with }) rfl id
theorem withNet {v : NetSt} (h : s.Keeps t) (hv : t.net.Sized → v.Sized := by exact id) : s.Keeps (t.withNet v) := by
  refine h.of_parts rfl (fun hi => ?_) rfl id
  obtain ⟨hCount, hWaiting, hSending, hRx, hTx, hStamps⟩ :=
    hv ⟨hi.slotsFull, hi.waiting, hi.sending, hi.receiveSlots, hi.transmitSlots, hi.stamps⟩
  exact { hi with slotsFull := hCount, waiting := hWaiting, sending := hSending, receiveSlots := hRx, transmitSlots := hTx, stamps := hStamps }
theorem withStm {v : StmSt} (h : s.Keeps t) (hv : t.stm.Sized → v.Sized := by exact id) : s.Keeps (t.withStm v) := by
  refine h.of_parts rfl (fun hi => ?_) rfl id
  obtain ⟨hPub, hSub, hGpub, hGsub⟩ := hv ⟨hi.svPublishers, hi.svSubscriptions, hi.goosePublishers, hi.gooseSubscriptions⟩
  exact { hi with svPublishers := hPub, svSubscriptions := hSub, goosePublishers := hGpub, gooseSubscriptions := hGsub }
theorem withGal {v : GallerySt} (h : s.Keeps t) (hv : t.gal.Sized → v.Sized := by exact id) (hMem : v.mem = t.gal.mem := by rfl) :
    s.Keeps (t.withGal v) := by
  refine h.of_parts rfl (fun hi => ?_) hMem id
  obtain ⟨hRecords, hProf⟩ := hv ⟨hi.records, hi.profiles⟩
  exact { hi with mem := (congrArg Memory.wf hMem).trans hi.mem, records := hRecords, profiles := hProf }
/-- R80: the capture memory is lost with polder 9. -/
theorem withoutGallery (h : s.Keeps t) (hOff : t.isOn 9 = false) : s.Keeps (t.withGal {}) :=
  h.trans ⟨⟨⟨rfl, fun hi => { hi with mem := rfl, records := Nat.zero_le 64, profiles := rfl }⟩, .inr ⟨rfl, hOff⟩⟩, id⟩
theorem withTwn {v : TwinSt} (h : s.Keeps t) : s.Keeps (t.withTwn v) := h.of_parts rfl (fun hi => { hi with }) rfl id
theorem withSpr {v : SpareSt} (h : s.Keeps t) : s.Keeps (t.withSpr v) := h.of_parts rfl (fun hi => { hi with }) rfl id
theorem withWear {v : WearSt} (h : s.Keeps t) : s.Keeps (t.withWear v) := h.of_parts rfl (fun hi => { hi with }) rfl id
theorem withDripLost {v : Bool} (h : s.Keeps t) : s.Keeps (t.withDripLost v) := h.of_parts rfl (fun hi => { hi with }) rfl id
theorem withFree {v : Nat} (h : s.Keeps t) : s.Keeps (t.withFree v) := h.of_parts rfl (fun hi => { hi with }) rfl id

end State.Keeps

namespace State.Leads
variable {s t : State}

set_option Elab.async false in
theorem next (h : s.Keeps t) : s.Leads (.next t) := ⟨t, rfl, h⟩

theorem ite {c : Prop} [Decidable c] {a b : Ans} (ha : s.Leads a) (hb : s.Leads b) : s.Leads (if c then a else b) := by
  split
  · exact ha
  · exact hb

end State.Leads

namespace State.LeadsIf
variable {s t : State}

theorem none (s : State) : s.LeadsIf .none := fun _ h => nomatch h

theorem some (h : s.Keeps t) : s.LeadsIf (.some t) := fun _ hu => Option.some.inj hu ▸ h

theorem ite {c : Prop} [Decidable c] {a b : Option State} (ha : s.LeadsIf a) (hb : s.LeadsIf b) :
    s.LeadsIf (if c then a else b) := by
  split
  · exact ha
  · exact hb

end State.LeadsIf

end Sys2Proof.Machine
end

section
/-! PROOF. One rule per operation of the model: from a state that keeps what `State.Keeps` says it leads to another one. -/
-- Each lemma waits for the kernel on those before it; one at a time, they need no thread each.
namespace Sys2Proof.Machine
namespace State.Keeps
variable {s t u : State}

/-! ## Registers, polders and roles -/

theorem setWord {a : Nat} {v : Word} (h : s.Keeps t) : s.Keeps (t.setWord a v) := h.withRegs (SMap.wf_set _ _ _)

theorem put {f : Fld} {v : Nat} (h : s.Keeps t) : s.Keeps (t.put f v) := h.setWord

theorem putS {f : Fld} {i : Int} (h : s.Keeps t) : s.Keeps (t.putS f i) := h.put

theorem flag {f : Fld} {b : Bool} (h : s.Keeps t) : s.Keeps (t.flag f b) := h.put

theorem bump {f : Fld} (h : s.Keeps t) : s.Keeps (t.bump f) := h.put

theorem bumpWrap {f : Fld} (h : s.Keeps t) : s.Keeps (t.bumpWrap f) := h.put

theorem applyKeys {p : Nat → Bool} (h : s.Keeps t) : s.Keeps (t.applyKeys p) :=
  h.withEff (fun hw => wf_foldl_set _ (SMap.wf_filter _ _ hw))

theorem fresh {n : Nat} (h : s.Keeps t) : s.Keeps (t.fresh n).2 := .pairSnd h.withFree

/-! ## Interrupts and Strata -/

theorem setPend {n : Nat} (h : s.Keeps t) : s.Keeps (t.setPend n) := h.withInt

set_option Elab.async false in
theorem raise167 (h : s.Keeps t) : s.Keeps t.raise167 :=
  .ite (have h2 := h.setPend.withInt
  .ite (h2.withStr (·.offerRaise 167)) h2) h

theorem offer {q : Nat} {e : StrataOffer} (h : s.Keeps t) : s.Keeps (t.offer q e) :=
  .ite (have h1 := h.withStr (·.offerCore q e)
  .ite h1.raise167 h1) h

theorem offerRaise {n : Nat} (h : s.Keeps t) : s.Keeps (t.offerRaise n) :=
  have h1 := h.withStr (·.offerRaise n)
  .ite h1.raise167 h1

theorem raiseInt {n : Nat} (h : s.Keeps t) : s.Keeps (t.raiseInt n) :=
  .ite (have h1 := h.setPend
  .ite h1.offerRaise h1) h

theorem raiseFirst {n : Nat} (h : s.Keeps t) : s.Keeps (t.raiseFirst n) := .ite h.withInt.raiseInt h

theorem armInt {n : Nat} (h : s.Keeps t) : s.Keeps (t.armInt n) := h.withInt

theorem adcSpaced {m : BitVec 8} (h : s.Keeps t) : s.Keeps (t.adcSpaced m) := h.withAdc (by simp)

theorem spaced {e : Spaced} (h : s.Keeps t) : s.Keeps (t.spaced e) := h.withInt.adcSpaced

theorem marked {e : Spaced} (h : s.Keeps t) : s.Keeps (t.marked e) := h.withInt.withAdc (by simp)

theorem clocksPassed (h : s.Keeps t) : s.Keeps t.clocksPassed := h.withInt.withAdc (by simp)

theorem readWinner {k : Nat} (h : s.Keeps t) : s.Keeps (t.readWinner k).2 := by
  unfold State.readWinner
  split
  · exact .pairSnd h
  · extract_lets t1
    have h1 : s.Keeps t1.2 := h.fresh
    exact .pairSnd h1

theorem acceptEntry {e : StrataOffer} (h : s.Keeps t) : s.Keeps (t.acceptEntry e) := by
  unfold State.acceptEntry
  split
  case isTrue hRoom =>
    exact h.withStr (·.logged (by simp only [List.length_append, List.length_cons, List.length_nil]; omega))
  case isFalse =>
    exact raiseFirst (h.withStr (fun hs => hs.logged (by
      have hLog : t.str.log.length ≤ 4096 := hs.1
      simp only [List.length_append, List.length_drop, List.length_cons, List.length_nil]
      omega)))

/-! ## Fault lines -/

theorem aliveFollow (h : s.Keeps t) : s.Keeps t.aliveFollow := .ite h h.withFlt

/-! ## The Reeve -/

theorem setMb {n : Nat} {m : MbSt} (h : s.Keeps t) : s.Keeps (t.setMb n m) := h.withRve (by simp)

set_option Elab.async false in
theorem respondWith {n : Nat} {st : Status} {data : List Byte} {rhdr : List Byte} (h : s.Keeps t) : s.Keeps (t.respondWith n st data rhdr) :=
  h.setMb

theorem respond {n : Nat} {st : Status} {data : List Byte} (h : s.Keeps t) : s.Keeps (t.respond n st data) := h.respondWith

theorem runOn {n : Nat} {r : BitVec 10} (h : s.Keeps t) : s.Keeps (t.runOn n r) := h.setMb

theorem fillWords {a : Nat} {bs : List Byte} (h : s.Keeps t) : s.Keeps (t.fillWords a bs) := .foldl (fun _ _ h1 => h1.setWord) h

theorem ring {n : Nat} {f : MbSt → MbSt} (h : s.Keeps t) : s.Keeps (t.ring n f) :=
  .ite (.ite (h.setMb.put.put.put) h.put) h

/-! ## Polders -/

theorem cutCommit (h : s.Keeps t) : s.Keeps t.cutCommit := by
  unfold State.cutCommit
  split
  · exact h.withVlt
  · exact h

theorem lpeSilent (h : s.Keeps t) : s.Keeps t.lpeSilent :=
  .ite ((State.Keeps.foldl (fun _ _ h4 => h4.setWord.setWord) (State.Keeps.foldl (fun _ _ h2 => h2.setWord) h)).withLpe) h

theorem dropHidden {p : Nat} (h : s.Keeps t) (hp : p = 9 → t.isOn 9 = false) : s.Keeps (t.dropHidden p) :=
  match p, hp with
  | 0, _ => h
  | 1, _ => (h.withFlt (fun _ => ⟨rfl, rfl⟩)).withInt.withStr (fun _ => by simp [StrataSt.Sized])
      |>.withBus.withSpiPort.withSpi.withHdRead.withTim.withThm.withTwn.withSpr.withWear
  | 2, _ => h.withRve (fun _ => rfl)
  | 3, _ => h.cutCommit.withVlt
  | 4, _ => h.withClk.withCul
  | 5, _ => (h.withCul (by simp [CulvertSt.without]; omega)).lpeSilent
  | 6, _ => h.withCul (by simp [CulvertSt.without]; omega)
  | 7, _ => h.withNet (fun _ => by simp [NetSt.Sized])
  | 8, _ => h.withStm (fun _ => by simp [StmSt.Sized])
  | 9, hp => h.withoutGallery (hp rfl)
  | 10, _ => h.withDpc.withMod (fun _ => rfl)
  | 11, _ => h.withLpe
  | 12, _ => (h.withAdc (fun _ => rfl)).withPwr.withRve
  | 13, _ => (h.withGdr (fun _ => rfl)).withPins
  | 14, _ => h.withWrd
  | 15, _ => h.withWrd
  | _ + 16, _ => h

theorem keepSwitching {p : Nat} (h : s.Keeps t) : s.Keeps (t.keepSwitching p) :=
  .ite h.withWear h

theorem polderOff {p : Nat} (h : s.Keeps t) : s.Keeps (t.polderOff p) := by
  unfold State.polderOff
  extract_lets t1 _ t2
  have h1 : s.Keeps t1 := h.keepSwitching
  have hOff (q : Nat) : (t1.pwr.on &&& ~~~(1#16 <<< p)).getLsbD q = (t1.pwr.on.getLsbD q && decide (q ≠ p)) := by
    simp only [BitVec.getLsbD_and, BitVec.getLsbD_not, BitVec.getLsbD_shiftLeft, BitVec.getLsbD_one]
    have hLow : 16 ≤ q → t1.pwr.on.getLsbD q = false := t1.pwr.on.getLsbD_of_ge q
    grind
  have h2 : s.Keeps t2 := ((h1.withPwr (fun hq => by rw [hOff, hq]; rfl)).withRegs (SMap.wf_filter _ _)).withEff (SMap.wf_filter _ _)
  exact h2.dropHidden (fun hp => (hOff 9).trans (by simp [hp]))

theorem poldersOff {ps : List Nat} (h : s.Keeps t) : s.Keeps (t.poldersOff ps) := .foldl (fun _ _ => polderOff) h

theorem startNext (h : s.Keeps t) : s.Keeps t.startNext :=
  .ite h.withPwr (.ite (h.withPwr) h)

theorem demand {ps : List Nat} (h : s.Keeps t) : s.Keeps (t.demand ps) :=
  h.withPwr.startNext

theorem needPolders {n : Nat} {ps : List Nat} (h : s.Keeps t) : s.LeadsIf (t.needPolders n ps) :=
  .ite (.none _) (.ite (.some h.respond) (.some h.demand))

set_option Elab.async false in
theorem clearWake (h : s.Keeps t) : s.Keeps t.clearWake :=
  have h1 := h.withPwr
  .ite h1.put h1

theorem dropWake (h : s.Keeps t) : s.Keeps t.dropWake := h.withPwr

theorem toCrest (h : s.Keeps t) : s.Keeps t.toCrest := by
  unfold State.toCrest
  extract_lets t1 t2 t3
  have h1 : s.Keeps t1 := h.poldersOff
  have h2 : s.Keeps t2 := h1.withCfg (fun hi => SMap.wf_filter _ _ hi.cfg)
  have h3 : s.Keeps t3 := h2.applyKeys
  exact h3.withPwr (fun _ => show (1#16).getLsbD 9 = false by decide)

/-! ## The Culvert -/

theorem fault {n : Nat} (h : s.Keeps t) : s.Keeps (t.fault n) := .ite h.withFlt h

theorem setCport {p : Nat} {c : CulPort} (h : s.Keeps t) : s.Keeps (t.setCport p c) := h.withCul (by simp)

theorem send {p : Nat} {t' : TxItem} (h : s.Keeps t) : s.Keeps (t.send p t') := h.setCport

theorem updateWraps (h : s.Keeps t) : s.Keeps t.updateWraps :=
  .ite h (h.flag.flag)

theorem updateUsable {p : Nat} (h : s.Keeps t) : s.Keeps (t.updateUsable p) :=
  have h1 := h.flag
  have h2 := State.Keeps.ite h1 h1.put.setCport
  .ite h2.updateWraps h2

theorem rxState {p : Nat} {v : Nat} (h : s.Keeps t) : s.Keeps (t.rxState p v) :=
  (State.Keeps.ite h h.raiseInt).put.updateUsable

theorem codeErrors {p : Nat} {n : Nat} (h : s.Keeps t) : s.Keeps (t.codeErrors p n) := h.put

theorem heardErrors {p : Nat} {n : Nat} (h : s.Keeps t) : s.Keeps (t.heardErrors p n) := .ite h.codeErrors h

theorem leftUp {p : Nat} {quiet : Bool} (h : s.Keeps t) : s.Keeps (t.leftUp p quiet) :=
  have h1 := h.bump
  .ite h1 h1.fault

theorem wakeTx {p : Nat} (h : s.Keeps t) : s.Keeps (t.wakeTx p) := .ite h h.put.send.raiseInt

theorem sleepTx {p : Nat} (h : s.Keeps t) : s.Keeps (t.sleepTx p) := .ite h.put.send.raiseInt h.send

set_option Elab.async false in
theorem wakeRx {p : Nat} (h : s.Keeps t) : s.Keeps (t.wakeRx p) := .ite h h.put.rxState

theorem sleepRx {p : Nat} (h : s.Keeps t) : s.Keeps (t.sleepRx p) := h.put.put.rxState

theorem queueOwn {r : Nat} {q : Nat} {m : Nat} {req : List Byte} (h : s.Keeps t) : s.Keeps (t.queueOwn r q m req) := h.withCul.withSpr

theorem sendOwn {r : Nat} {q : Nat} {code : Nat} {flags : Nat} {args : List Byte} (h : s.Keeps t) : s.Keeps (t.sendOwn r q code flags args) :=
  h.queueOwn

theorem askTx {p : Nat} (h : s.Keeps t) : s.Keeps (t.askTx p) := .ite (h.wakeTx.withPwr (by rw [State.wakeTx_pwr]; exact id)) h.withPwr

theorem askRx {p : Nat} (h : s.Keeps t) : s.Keeps (t.askRx p) := .ite (h.wakeRx.withPwr (by rw [State.wakeRx_pwr]; exact id)) h.withPwr

theorem laneHeard {p : Nat} (h : s.Keeps t) : s.Keeps (t.laneHeard p) := .ite h h.raiseInt

theorem txIdle (h : s.Keeps t) : s.Keeps t.txIdle := .foldl (fun _ _ h1 => h1.askTx.askRx) h

theorem peerRooted {p : Nat} {b : Bool} (h : s.Keeps t) : s.Keeps (t.peerRooted p b) :=
  h.flag.setCport

theorem setRemote {r : Nat} {x : Option RemoteSt} (h : s.Keeps t) : s.Keeps (t.setRemote r x) := h.withCul

theorem raiseToken {line : Nat} {tide : Nat} {offset : Nat} {repeated : Bool} (h : s.Keeps t) :
    s.Keeps (t.raiseToken line tide offset repeated) := h.withCul

theorem dropTokens {t' : Nat} (h : s.Keeps t) : s.Keeps (t.dropTokens t') :=
  .foldl (fun _ _ h2 => h2.bump.raiseInt) h.withCul

theorem wrapPointAt {r : Nat} {v : Nat} (h : s.Keeps t) : s.Keeps (t.wrapPointAt r v) := .ite h h.withCul

theorem setAlign {v : Nat} (h : s.Keeps t) : s.Keeps (t.setAlign v) := .ite h h.put.raiseInt

set_option Elab.async false in
theorem stepAlign (h : s.Keeps t) : s.Keeps t.stepAlign :=
  h.withCul

theorem alignHoldover (h : s.Keeps t) : s.Keeps t.alignHoldover := .ite h.setAlign h

theorem alignReengaged (h : s.Keeps t) : s.Keeps t.alignReengaged := .ite h.setAlign h

theorem unalign (h : s.Keeps t) : s.Keeps t.unalign :=
  .ite (h.setAlign.withCul) h

/-! ## Converters -/

theorem ntcRefresh {m : Nat} (h : s.Keeps t) : s.Keeps (t.ntcRefresh m) :=
  have h1 := h.flag
  .ite h1.putS h1

theorem adcSkip {n : Nat} (h : s.Keeps t) : s.Keeps (t.adcSkip n) := h.bump.raiseInt

theorem adcBegin {n : Nat} {d : Nat} {t' : Nat} {kinds : BitVec 8} (h : s.Keeps t) : s.Keeps (t.adcBegin n d t' kinds) := by
  unfold State.adcBegin
  extract_lets t1 t2 t3 t4
  have h1 : s.Keeps t1 := .foldl (fun _ _ => ntcRefresh) h.applyKeys
  have h2 : s.Keeps t2 := h1.bumpWrap
  have h3 : s.Keeps t3 := h2.put
  have h4 : s.Keeps t4 := h3.put
  exact h4.withAdc (by simp)

theorem adcStartAt {n : Nat} {d : Nat} {t' : Nat} {own : Bool} (h : s.Keeps t) : s.Keeps (t.adcStartAt n d t' own) :=
  .ite (have h1 := h.withAdc (by simp)
  .ite (.ite h1.adcSkip h1) (.ite (.ite h1 h1.bump.raiseInt) (.ite h1.adcBegin h1))) h

theorem adcStart {n : Nat} {d : Nat} {own : Bool} (h : s.Keeps t) : s.Keeps (t.adcStart n d own) := h.adcStartAt

theorem adcDue {n : Nat} (h : s.Keeps t) : s.Keeps (t.adcDue n) := by
  unfold State.adcDue
  extract_lets _ _ t1
  have h1 : s.Keeps t1 := h.withAdc (by simp)
  split
  · exact h
  · extract_lets t2
    have h2 : s.Keeps t2 := .ite h1.withTim h1
    exact h2.adcStartAt

theorem adcPast {n : Nat} (h : s.Keeps t) : s.Keeps (t.adcPast n) := by
  unfold State.adcPast
  split
  · exact .ite h h.adcDue
  · exact h

theorem adcTide {t' : Nat} {n : Nat} (h : s.Keeps t) : s.Keeps (t.adcTide t' n) :=
  have h1 := h.adcDue
  .ite (.ite h1.adcStart (h1.withAdc (by simp))) h1

theorem stepDue {v : Int} (h : s.Keeps t) : s.Keeps (t.stepDue v) := h.withAdc (by simp)

theorem winLeave {w : Nat} (h : s.Keeps t) : s.Keeps (t.winLeave w) :=
  have h2 := h.put.raiseInt
  .ite h2 h2.fault

set_option Elab.async false in
theorem winShow {w : Nat} {st : Nat} {inv : Bool} (h : s.Keeps t) : s.Keeps (t.winShow w st inv) :=
  h.put.flag.put.put

theorem winBand {w : Nat} {v : Int} (h : s.Keeps t) : s.Keeps (t.winBand w v) :=
  have h2 := h.putS.winShow
  .ite h2.winLeave h2

theorem winEval {w : Nat} {v : Int} (h : s.Keeps t) : s.Keeps (t.winEval w v) :=
  .ite (.ite (have h1 := h.put
  have h2 := h1.winShow
  have h3 := h.put
  .ite (.ite h1 h1.winBand) (.ite (.ite h2.winBand h2.raiseInt) (.ite h3 h3.winBand))) h.winBand) h

theorem winKeys (h : s.Keeps t) : s.Keeps t.winKeys := .foldl (fun _ _ h1 => .ite h1.winShow.put (.ite h1.winShow.put h1)) h

theorem newResult {a : Nat} (h : s.Keeps t) : s.Keeps (t.newResult a) := h.withSpi

theorem codeOf {gain : Nat} {pv : Int} (h : s.Keeps t) : s.Keeps (t.codeOf gain pv).2 := by
  unfold State.codeOf
  split
  · exact .pairSnd h
  · exact .pairSnd h
  · extract_lets t1
    have h1 : s.Keeps t1.2 := h.fresh
    exact .pairSnd h1

theorem adcCodeWritten {n : Nat} {raw : Int} (h : s.Keeps t) : s.Keeps (t.adcCodeWritten n raw) :=
  have h5 := (h.withAdc (by simp)).newResult.put.put.flag.putS
  have h6 := State.Keeps.ite h5.bump h5
  have h9 := State.Keeps.foldl (fun _ _ h10 => h10.ntcRefresh) (State.Keeps.ite h6.winEval.flag h6.put)
  .ite h9.put.raiseInt h9

theorem adcResult {n : Nat} {pv : Int} (h : s.Keeps t) : s.Keeps (t.adcResult n pv) :=
  h.codeOf.adcCodeWritten

theorem calStart {mask : Nat} (h : s.Keeps t) : s.Keeps (t.calStart mask) :=
  .foldl (fun _ _ h2 => h2.put.put) h.put

theorem setTrims {n : Nat} {t' : List Word} (h : s.Keeps t) : s.Keeps (t.setTrims n t') :=
  .foldl (fun _ _ h2 => h2.setWord) h.setWord

theorem calEnd {n : Nat} {t' : List Word} (h : s.Keeps t) : s.Keeps (t.calEnd n t') :=
  have h1 := h.put
  have h4 := h1.put.fault
  have h5 := h4.fresh
  .ite h1.setTrims.put.put (.ite (.ite h5 h5.setTrims.put) h4)

theorem driftCheck (h : s.Keeps t) : s.Keeps t.driftCheck := .ite h.put.raiseInt h

/-! ## Modulators and gate drive -/

theorem hbFault {n : Nat} {cause : Nat} (h : s.Keeps t) : s.Keeps (t.hbFault n cause) :=
  have h1 := h.setWord
  have h2 := State.Keeps.ite h1 (h1.withGdr (by simp))
  .ite h2 h2.bump.put.raiseInt

theorem uvloFaults (h : s.Keeps t) : s.Keeps t.uvloFaults :=
  .ite (.foldl (fun _ _ h3 => (.ite h3 (have h4 := State.Keeps.ite h3.hbFault h3
  .ite h4.hbFault h4))) h) h

set_option Elab.async false in
theorem setInputs {new : List HbLevel} (h : s.Keeps t) : s.Keeps (t.setInputs new) :=
  h.withMod.withGdr

theorem notchesLeft (h : s.Keeps t) : s.Keeps t.notchesLeft := h.withGdr

theorem drive (h : s.Keeps t) : s.Keeps t.drive :=
  have h6 := (State.Keeps.ite (h.withMod (by simp)) h).notchesLeft.setInputs.withMod.uvloFaults.withPins
  have h9 := State.Keeps.ite h6.put.flag.put h6
  .ite h9.flag h9

theorem notchEdge {n : Nat} (h : s.Keeps t) : s.Keeps (t.notchEdge n) := by
  unfold State.notchEdge
  split
  · exact h
  · refine .ite ?_ h
    extract_lets
    exact h.withGdr.drive

theorem notchTo (h : s.Keeps t) : s.Keeps t.notchTo := .ite (.foldl (fun _ _ h1 => h1.notchEdge.notchEdge.notchEdge) h) h

theorem showFunction (h : s.Keeps t) : s.Keeps t.showFunction := h.put

theorem tripLatch {t' : Nat} (h : s.Keeps t) : s.Keeps (t.tripLatch t') :=
  .ite h h.put.put.withMod.raiseInt.drive

theorem tripKey {t' : Nat} (h : s.Keeps t) : s.Keeps (t.tripKey t') :=
  have h1 := State.Keeps.ite h h.put
  .ite h1.tripLatch h1

theorem tripKeys (h : s.Keeps t) : s.Keeps t.tripKeys :=
  .foldl (fun _ _ => tripKey) (State.Keeps.ite h.withGdr h)

theorem applyModKeys (h : s.Keeps t) : s.Keeps t.applyModKeys :=
  have h1 := h.applyKeys
  .ite (h1.withMod (by simp)) h1

theorem applyHeld (h : s.Keeps t) : s.Keeps t.applyHeld :=
  .ite (h.applyModKeys.put.showFunction.tripKeys.raiseInt.drive) h

theorem modDisable (h : s.Keeps t) : s.Keeps t.modDisable :=
  h.put.put.withMod.drive.applyHeld

theorem modEnable (h : s.Keeps t) : s.Keeps t.modEnable := .ite h h.put.put

theorem writeEn {v : Bool} (h : s.Keeps t) : s.Keeps (t.writeEn v) := .ite (.ite h.modEnable h.modDisable) h

set_option Elab.async false in
theorem enAtReady (h : s.Keeps t) : s.Keeps t.enAtReady := .ite h.modEnable h

theorem tripRelease {t' : Nat} (h : s.Keeps t) : s.Keeps (t.tripRelease t').1 :=
  .iteFst (.pairFst h) (.iteFst (.pairFst h.put.raiseInt.fault) (.pairFst h.put.flag.withMod.drive))

theorem tripClears {mask : Nat} (h : s.Keeps t) : s.Keeps (t.tripClears mask) := .ite (.foldl (fun _ _ h1 => h1.tripRelease) h) h

theorem dropPulse (h : s.Keeps t) : s.Keeps t.dropPulse := h.bump.raiseFirst

theorem command {n : Nat} {l : HbLevel} {w : Int} (h : s.Keeps t) : s.Keeps (t.command n l w) := .ite h (.ite h.dropPulse (h.withMod (by simp)))

theorem setFunc {n : Nat} {l : HbLevel} (h : s.Keeps t) : s.Keeps (t.setFunc n l) := h.withMod (by simp)

theorem bump48 {lo : Nat} (h : s.Keeps t) : s.Keeps (t.bump48 lo) :=
  h.setWord.setWord

theorem afeApply {st : Nat} (h : s.Keeps t) : s.Keeps (t.afeApply st) :=
  (State.Keeps.ite h.bump48 h).setFunc.setFunc.withMod.put.put

theorem afeOff (h : s.Keeps t) : s.Keeps t.afeOff := h.setFunc.setFunc.withMod

theorem afeBoundary {asked : Bool} (h : s.Keeps t) : s.Keeps (t.afeBoundary asked) :=
  (State.Keeps.ite h.afeOff (.ite h (.ite (.ite h.afeApply h) (.ite h (.ite h.afeApply (.ite h.bump.raiseFirst h)))))).flag

theorem sluiceFollow (h : s.Keeps t) : s.Keeps t.sluiceFollow :=
  .ite h h.flag.flag.flag.raiseInt

theorem sluiceBoundary {req : Option Bool} (h : s.Keeps t) : s.Keeps (t.sluiceBoundary req) := by
  unfold State.sluiceBoundary
  refine .ite h ?_
  extract_lets _ t1 _ t2
  have h1 : s.Keeps t1 := by
    unfold t1
    split
    · exact h.withGdr
    · exact .ite h (.ite h.withGdr h.bump.withGdr)
    · exact h
  have h2 : s.Keeps t2 := .ite h1.withGdr h1
  exact h2.sluiceFollow

theorem setBridge {b : Nat} {x : BridgeSt} (h : s.Keeps t) : s.Keeps (t.setBridge b x) := h.withMod

theorem dabLimit {v : Bool} (h : s.Keeps t) : s.Keeps (t.dabLimit v) :=
  have h1 := h.flag
  .ite h1.raiseInt h1

set_option Elab.async false in
theorem nextPsi {b : Nat} {psi : Nat} (h : s.Keeps t) : s.Keeps (t.nextPsi b psi).2 :=
  .pairSnd (State.Keeps.iteSnd (.iteSnd (.pairSnd h.dabLimit) (.pairSnd h.dabLimit)) (.pairSnd h))

theorem legs {b : Nat} {high : Bool} {w : Int} (h : s.Keeps t) : s.Keeps (t.legs b high w) :=
  h.command.command

theorem dabEdge {b : Nat} (h : s.Keeps t) : s.Keeps (t.dabEdge b) :=
  have h4 := h.nextPsi.legs.setBridge
  have h5 := State.Keeps.ite h4.put h4
  (State.Keeps.ite h5.bump48 h5).drive

theorem dabStart {b : Nat} {second : Bool} (h : s.Keeps t) : s.Keeps (t.dabStart b second) :=
  have h2 := h.legs.setBridge
  (State.Keeps.ite h2.put h2).drive

theorem dabHalt {b : Nat} {refresh : Bool} (h : s.Keeps t) : s.Keeps (t.dabHalt b refresh) :=
  h.setFunc.setFunc.setBridge.drive

theorem dabEntry (h : s.Keeps t) : s.Keeps t.dabEntry := by
  unfold State.dabEntry
  refine .foldl (fun _ _ h2 => ?_) h
  split
  · exact h2.dabHalt
  · exact h2.dabHalt
  · exact h2

theorem carrierMoved {d : Int} {steps : Int} (h : s.Keeps t) : s.Keeps (t.carrierMoved d steps) :=
  .foldl (fun _ _ h2 => (.ite h2.setBridge h2)) h

theorem invInterval {n : Nat} {l : HbLevel} {w : Int} (h : s.Keeps t) : s.Keeps (t.invInterval n l w) := .ite h h.command

theorem invEval {psi : Nat} {next : List Int} (h : s.Keeps t) : s.Keeps (t.invEval psi next) :=
  .foldl (fun _ _ h2 => (have h3 := h2.withMod
  .ite h2 (.ite h3.invInterval h3.invInterval))) h

theorem invFollow {n : Nat} (h : s.Keeps t) : s.Keeps (t.invFollow n) := .ite h.invEval h

theorem invReturn {n : Nat} (h : s.Keeps t) : s.Keeps (t.invReturn n).1 :=
  .pairFst h.setFunc.withMod

theorem ov2Follow (h : s.Keeps t) : s.Keeps t.ov2Follow :=
  have h1 := h.flag
  .ite h1 h1.flag.raiseInt

theorem ov3Block (h : s.Keeps t) : s.Keeps t.ov3Block :=
  .ite h (have h4 := h.put.withGdr.raiseInt.drive
  .ite h4.put.sluiceFollow h4)

theorem ov3Release (h : s.Keeps t) : s.Keeps t.ov3Release.1 := by
  unfold State.ov3Release
  split
  · exact .pairFst h
  · split
    · exact .pairFst h
    · extract_lets t10 _ t11 t12
      have h10 : s.Keeps t10 := h.put
      have h11 : s.Keeps t11 := h10.withGdr
      have h12 : s.Keeps t12 := h11.raiseInt
      exact .pairFst (.ite h12.put.sluiceFollow h12)

set_option Elab.async false in
theorem ovSet {k : Nat} {above : Bool} (h : s.Keeps t) : s.Keeps (t.ovSet k above) :=
  have h2 := h.withGdr.flag
  (State.Keeps.ite h2.ov3Block h2).ov2Follow

theorem ovKeys (h : s.Keeps t) : s.Keeps t.ovKeys := .foldl (fun _ _ h1 => .ite h1.ovSet h1) h

theorem chopFault (h : s.Keeps t) : s.Keeps t.chopFault :=
  .ite h (h.withGdr.put.raiseInt.ov2Follow.drive)

theorem chopClear (h : s.Keeps t) : s.Keeps t.chopClear := .ite h.put.raiseInt.ov2Follow h

theorem modCommitted (h : s.Keeps t) : s.Keeps t.modCommitted :=
  have h1 := State.Keeps.ite h.applyKeys.ovKeys h
  .ite (.ite h1.put h1.applyModKeys.showFunction.tripKeys.drive) h1

/-! ## The loop engine -/

theorem setLoop {n : Nat} {l : LoopSt} (h : s.Keeps t) : s.Keeps (t.setLoop n l) := h.withLpe

theorem feRelease {n : Nat} (h : s.Keeps t) : s.Keeps (t.feRelease n) := .ite h.setLoop.put.raiseInt h

theorem applyEn {n : Nat} (h : s.Keeps t) : s.Keeps (t.applyEn n) :=
  .ite h (h.withEff (SMap.wf_set _ _ _))

theorem loopEn {n : Nat} (h : s.Keeps t) : s.Keeps (t.loopEn n) :=
  have h1 := h.applyEn
  .ite h1 h1.setLoop

theorem loopPass {t' : Nat} {src : Nat → Int} {n : Nat} (h : s.Keeps t) : s.Keeps (t.loopPass t' src n) :=
  .ite ((State.Keeps.ite h.applyKeys h).setLoop) h

theorem groupPass {due : List Nat} {g : Nat} (h : s.Keeps t) : s.Keeps (t.groupPass due g) := by
  unfold State.groupPass
  extract_lets d2
  clear_value d2
  split
  · exact h.withLpe
  · refine .ite ?_ h
    extract_lets _ _ t1
    have h1 : s.Keeps t1 := by
      refine .foldl (fun _ _ h4 => ?_) h
      extract_lets
      exact .ite h4.setLoop h4.setLoop
    exact h1.withLpe

theorem feSupervise {n : Nat} (h : s.Keeps t) : s.Keeps (t.feSupervise n) :=
  .ite (.ite h.setLoop h) (.ite h.setLoop (.ite h.setLoop h.setLoop))

theorem genPass {src : Nat → Int} {bind : Nat → Option Binding} {g : Nat} (h : s.Keeps t) : s.Keeps (t.genPass src bind g) :=
  h.withLpe

theorem lpePass {t' : Nat} {vmean : Int} {bind : Nat → Option Binding} (h : s.Keeps t) : s.Keeps (t.lpePass t' vmean bind) :=
  .ite ((State.Keeps.foldl (fun _ _ h9 => h9.genPass) (State.Keeps.foldl (fun _ _ => feSupervise) (State.Keeps.foldl (fun _ _ h6 => h6.groupPass)
    (State.Keeps.foldl (fun _ _ h4 => h4.loopPass) (State.Keeps.foldl (fun _ _ => loopEn) h.applyKeys))))).withLpe) h

set_option Elab.async false in
theorem loopPublish {n : Nat} (h : s.Keeps t) : s.Keeps (t.loopPublish n) :=
  have h9 := h.putS.putS.setWord.flag.flag.flag.flag.flag.setLoop
  .ite h9.raiseInt h9

theorem genPublish {g : Nat} (h : s.Keeps t) : s.Keeps (t.genPublish g) :=
  h.putS.flag.flag.flag.flag.flag

theorem groupPublish {g : Nat} (h : s.Keeps t) : s.Keeps (t.groupPublish g) :=
  h.putS.put

theorem lpePublish (h : s.Keeps t) : s.Keeps t.lpePublish := by
  unfold State.lpePublish
  split
  · exact h
  · extract_lets t1 t2 t3 t4
    have h1 : s.Keeps t1 := h.put
    have h2 : s.Keeps t2 := .foldl (fun _ _ => loopPublish) h1
    have h3 : s.Keeps t3 := .foldl (fun _ _ => groupPublish) h2
    have h4 : s.Keeps t4 := .foldl (fun _ _ => genPublish) h3
    exact h4.withLpe

theorem feClear {mask : Nat} (h : s.Keeps t) : s.Keeps (t.feClear mask) := .ite (.foldl (fun _ _ => feRelease) h) h

theorem lpeCommitted {old : Nat → Word} (h : s.Keeps t) : s.Keeps (t.lpeCommitted old) := by
  unfold State.lpeCommitted
  refine .ite ?_ h
  extract_lets t1
  have h1 : s.Keeps t1 := by
    refine .foldl (fun _ _ h4 => ?_) h
    extract_lets _ _ t2
    have h5 : s.Keeps t2 := .ite h4.setLoop h4
    exact .ite h5.put h5
  refine .foldl (fun _ _ h7 => ?_) h1
  extract_lets
  exact .ite h7 h7.setWord

/-! ## Temperatures -/

theorem setSensor {k : Nat} {x : SensorSt} (h : s.Keeps t) : s.Keeps (t.setSensor k x) := h.withThm

theorem sensorTake {k : Nat} {v : Nat} (h : s.Keeps t) : s.Keeps (t.sensorTake k v) := by
  unfold State.sensorTake
  split
  · exact .ite h h.setSensor
  · refine .ite ?_ h.setSensor
    split
    · exact h.setSensor
    · exact h.setSensor.raiseInt

theorem dropSensors {live : Nat → Bool} (h : s.Keeps t) : s.Keeps (t.dropSensors live) :=
  have h1 := h.withThm
  .ite h1.raiseInt h1

theorem countValid (h : s.Keeps t) : s.Keeps t.countValid := h.withThm

theorem thermalDecide {live : Nat → Bool} (h : s.Keeps t) : s.Keeps (t.thermalDecide live) := by
  unfold State.thermalDecide
  extract_lets t1 t2 t3 d11 _ _ _ t4 _ t5 t6 _ t7 t8 t9
  have h1 : s.Keeps t1 := h.dropSensors
  have h2 : s.Keeps t2 := .ite h1 (.foldl (fun _ _ h3 => h3.sensorTake) h1)
  have h4 : s.Keeps t3 := h2.countValid
  have h5 : s.Keeps t4 := .ite h4 h4.raiseInt
  have h6 : s.Keeps t5 := h5.withThm
  have h7 : s.Keeps t6 := h6.put
  have h8 : s.Keeps t7 := h7.put
  have h9 : s.Keeps t8 := h8.flag
  have h10 : s.Keeps t9 := h9.put
  clear_value d11
  split
  · exact h10.put.setWord
  · extract_lets t10
    have h11 : s.Keeps t10 := h10.putS
    exact h11.setWord

/-! ## Grid control -/

theorem setPos {x : Nat} {q : Nat} {v : PosSt} (h : s.Keeps t) : s.Keeps (t.setPos x q v) := h.withDpc

theorem relayTele {r : Nat} {q : Nat} {t' : Nat} {k : Nat} {v : Nat} (h : s.Keeps t) : s.Keeps (t.relayTele r q t' k v) := .ite h.withTwn h

theorem useQuantity {r : Nat} {q : Nat} {k : Nat} {v : Nat} (h : s.Keeps t) : s.Keeps (t.useQuantity r q k v) :=
  have h1 := h.withCul
  .ite h1.sensorTake (.ite (.ite h1.put h1) (.ite (.ite h1.setPos h1) h1))

set_option Elab.async false in
theorem takeQuantity {r : Nat} {q : Nat} {t' : Nat} {k : Nat} {v : Nat} (h : s.Keeps t) : s.Keeps (t.takeQuantity r q t' k v) :=
  .ite (h.relayTele.withThm) h.useQuantity

theorem lateQuantities {t' : Nat} (h : s.Keeps t) : s.Keeps (t.lateQuantities t') :=
  .foldl (fun _ _ h1 => h1.useQuantity) h.withThm

theorem takeTelemetry {r : Nat} {q : Nat} {t' : Nat} {b : List Byte} (h : s.Keeps t) : s.Keeps (t.takeTelemetry r q t' b) :=
  .ite h (.ite h.takeQuantity (have h1 := h.withCul
  .ite h1.takeQuantity h1))

theorem posStale {r : Nat} {q : Nat} (h : s.Keeps t) : s.Keeps (t.posStale r q) :=
  have h2 := h.bump.bump
  .ite h2.put.raiseInt.fault h2

theorem posRecord {r : Nat} {q : Nat} {t' : Nat} {cut : Bool} (h : s.Keeps t) : s.Keeps (t.posRecord r q t' cut) := by
  unfold State.posRecord
  refine .ite h.posStale ?_
  split
  · refine .ite ?_ h.posStale
    extract_lets t1 _ t2 t3
    have h1 : s.Keeps t1 := h.put
    have h2 : s.Keeps t2 := h1.withCul
    have h3 : s.Keeps t3 := h2.takeTelemetry
    exact .ite h3.setPos h3
  · exact h.posStale

theorem commandPos {x : Nat} {q : Nat} {c : Nat} {t' : Nat} (h : s.Keeps t) : s.Keeps (t.commandPos x q c t') :=
  .ite h (h.setPos.put)

theorem observe (h : s.Keeps t) : s.Keeps t.observe :=
  h.withDpc

theorem seed (h : s.Keeps t) : s.Keeps t.seed :=
  h.withDpc

theorem latchObserver {t' : Nat} (h : s.Keeps t) : s.Keeps (t.latchObserver t') :=
  h.putS.putS.put.putS.putS.putS.putS.put

theorem health (h : s.Keeps t) : s.Keeps t.health.1 :=
  have h4 := h.flag.flag.flag.flag
  .iteFst (.pairFst (State.Keeps.ite h4.raiseInt h4).bump.put) (.pairFst h4.bump.put)

theorem trkFlags (h : s.Keeps t) : s.Keeps t.trkFlags :=
  h.flag.flag.flag

theorem track {va : Int} {vb : Int} {vc : Int} {at_ : Nat} {dt : Rat} (h : s.Keeps t) : s.Keeps (t.track va vb vc at_ dt) :=
  h.withDpc.trkFlags

theorem trackSv {va : Int} {vb : Int} {vc : Int} {at_ : Nat} {first : Rat} (h : s.Keeps t) : s.Keeps (t.trackSv va vb vc at_ first) :=
  h.track.put

theorem trackLocal (h : s.Keeps t) : s.Keeps t.trackLocal :=
  have h2 := h.track.withAdc (by simp)
  .ite h2.put h2

set_option Elab.async false in
theorem trackTide (h : s.Keeps t) : s.Keeps t.trackTide :=
  .ite ((State.Keeps.ite h h.trackLocal).put.putS.putS) h

theorem setTrkValid {v : Bool} (h : s.Keeps t) : s.Keeps (t.setTrkValid v) :=
  .ite h (have h2 := h.flag.flag.raiseInt
  .ite h2.fault h2)

theorem moveCell {x : Nat} {q : Nat} {mv : Nat × Bool} {t' : Nat} (h : s.Keeps t) : s.Keeps (t.moveCell x q mv t') :=
  .ite h.commandPos (h.setPos.commandPos)

theorem warnShift {x : Nat} {t' : Nat} (h : s.Keeps t) : s.Keeps (t.warnShift x t') := by
  unfold State.warnShift
  split
  · exact h.commandPos
  · exact h

theorem makeStep {v : List Int} {t' : Nat} (h : s.Keeps t) : s.Keeps (t.makeStep v t') := by
  unfold State.makeStep
  refine .foldl (fun _ _ h2 => ?_) h
  extract_lets
  refine .ite h2.warnShift ?_
  split
  · exact h2.moveCell
  · exact h2

theorem unplannedExits {t' : Nat} (h : s.Keeps t) : s.Keeps (t.unplannedExits t') :=
  .foldl (fun _ _ h3 => (.foldl (fun _ _ h5 => (.ite h5.commandPos h5)) h3)) h

theorem dpcDecide {t' : Nat} (h : s.Keeps t) : s.Keeps (t.dpcDecide t') := by
  unfold State.dpcDecide
  extract_lets _ _ _ _ t1 _ t2 t3 t4
  have h1 : s.Keeps t1 := h.withDpc
  have h2 : s.Keeps t2 := h1.bump
  have h3 : s.Keeps t3 := .ite h2 h2.raiseInt
  have h4 : s.Keeps t4 := h3.makeStep
  refine .ite h1.makeStep.withDpc ?_
  split
  · extract_lets t5
    have h5 : s.Keeps t5 := h1.makeStep
    exact h5.withDpc
  · exact h4.withDpc

theorem fallStack {x : Nat} {t' : Nat} {u : Int} {m : Int} {angle : Nat} {period : Bool} (h : s.Keeps t) :
    s.Keeps (t.fallStack x t' u m angle period) := by
  unfold State.fallStack
  extract_lets _ _ _ _ _ _ _ _ _ _ d2
  clear_value d2
  split
  · exact h.withDpc.warnShift
  · refine .ite h.withDpc.warnShift ?_
    extract_lets t1
    have h1 : s.Keeps t1 := h.withDpc
    exact .ite h1.commandPos h1.moveCell

theorem fallbackDecide {t' : Nat} (h : s.Keeps t) : s.Keeps (t.fallbackDecide t') :=
  (State.Keeps.foldl (fun _ _ h3 => h3.fallStack) h.withDpc).put.put.put.put

theorem fallReset (h : s.Keeps t) : s.Keeps t.fallReset :=
  h.withDpc.put.put.put

theorem qSource {goose : Option Int} (h : s.Keeps t) : s.Keeps (t.qSource goose) := by
  unfold State.qSource
  refine .ite ?_ h.put.withDpc
  split
  · exact h.put.withDpc
  · exact .ite h h.put.raiseInt

theorem takeRefs {derate : Int} (h : s.Keeps t) : s.Keeps (t.takeRefs derate) :=
  h.putS.putS

theorem freeboard (h : s.Keeps t) : s.Keeps t.freeboard :=
  have h2 := h.putS.putS
  have h4 := (State.Keeps.ite h2.raiseInt h2).flag
  have h5 := h4.put
  .ite (.ite h5 h5.raiseInt) h4

theorem setCtl {v : Nat} (h : s.Keeps t) : s.Keeps (t.setCtl v) := .ite h h.fallReset.put.raiseInt

set_option Elab.async false in
theorem toFallback (h : s.Keeps t) : s.Keeps t.toFallback :=
  h.seed.put.setCtl

theorem control {healthy : Bool} (h : s.Keeps t) : s.Keeps (t.control healthy).1 :=
  .iteFst (.pairFst h.put.setCtl) (.iteFst (.iteFst (.iteFst (.pairFst h.toFallback) (.pairFst h.put.put.raiseInt)) (.pairFst h)) (.iteFst (.iteFst
    (.pairFst h.toFallback.bump.fault) (.iteFst (.pairFst h.setCtl.fault) (.pairFst h))) (.iteFst (.iteFst (.pairFst h.setCtl.fault) (.iteFst (.pairFst
    h.setCtl.withDpc) (.iteFst (.pairFst h.seed.put) (.pairFst h)))) (.iteFst (.pairFst h.toFallback) (.pairFst h)))))

theorem showStack {x : Nat} (h : s.Keeps t) : s.Keeps (t.showStack x) := by
  unfold State.showStack
  extract_lets t1 _ _ t2 t3 t4 t5
  have h1 : s.Keeps t1 := by
    refine .foldl (fun _ _ h4 => ?_) h
    extract_lets
    exact h4.setWord
  have h5 : s.Keeps t2 := h1.putS
  have h6 : s.Keeps t3 := h5.put
  have h7 : s.Keeps t4 := h6.put
  have h8 : s.Keeps t5 := h7.flag
  exact h8.putS

theorem gridKeys (h : s.Keeps t) : s.Keeps t.gridKeys :=
  .foldl (fun _ _ h2 => .foldl (fun _ _ h3 => .ite h3.setPos h3) h2) h.applyKeys

theorem gridBoundary {t' : Nat} (h : s.Keeps t) : s.Keeps (t.gridBoundary t') :=
  h.withDpc.trackTide.latchObserver

theorem gridDecide {t' : Nat} {derate : Int} {goose : Option Int} (h : s.Keeps t) : s.Keeps (t.gridDecide t' derate goose) :=
  have h5 := h.health.qSource.takeRefs.control
  .foldl (fun _ _ => showStack) (State.Keeps.ite h5.makeStep (.ite h5.dpcDecide (.ite h5.fallbackDecide h5))).unplannedExits.freeboard

theorem writeRun {v : Bool} (h : s.Keeps t) : s.Keeps (t.writeRun v) := .ite h.flag h

/-! ## The Gallery -/

theorem setGp {p : Nat} {x : GalProf} (h : s.Keeps t) : s.Keeps (t.setGp p x) := h.withGal (by simp [GallerySt.Sized])

theorem overwrite {i : Nat} (h : s.Keeps t) : s.Keeps (t.overwrite i) := h.withGal (by simp [GallerySt.Sized])

theorem galState {p : Nat} {v : Nat} (h : s.Keeps t) : s.Keeps (t.galState p v) :=
  h.setGp.setWord

theorem fillSlot {p : Nat} {i : Nat} (h : s.Keeps t) : s.Keeps (t.fillSlot p i) :=
  (State.Keeps.foldl (fun _ _ h2 => h2.overwrite) h.withGal).setGp.galState

theorem holdOver {p : Nat} (h : s.Keeps t) : s.Keeps (t.holdOver p) :=
  State.holdOver_cases (fun _ => h.fillSlot) h.galState.raiseInt

theorem galRecord {p : Nat} {f : GalRecord → GalRecord} (h : s.Keeps t) : s.Keeps (t.galRecord p f) :=
  h.withGal (fun hg => ⟨by simpa using hg.1, hg.2⟩)

theorem galComplete {p : Nat} (h : s.Keeps t) : s.Keeps (t.galComplete p) :=
  have h1 := h.galRecord.raiseInt
  have h2 := h1.setGp.galState
  .ite h1.galState (.ite h2.holdOver h2)

set_option Elab.async false in
theorem galEnough {p : Nat} (h : s.Keeps t) : s.Keeps (t.galEnough p) := .ite h.galComplete h

theorem coincident {p : Nat} {c : Nat} (h : s.Keeps t) : s.Keeps (t.coincident p c) := h.galRecord.bump

theorem galToken {p : Nat} {x : GalInstant} {frac : Nat} (h : s.Keeps t) : s.Keeps (t.galToken p x frac) :=
  have h1 := h.setGp
  (State.Keeps.ite h1.raiseToken h1).raiseInt

theorem galAccept {p : Nat} {t' : GalTrigger} (h : s.Keeps t) : s.Keeps (t.galAccept p t') := by
  unfold State.galAccept
  extract_lets _ _ _ _ _ _ _ _ _ _ t1 t2 t3 _ t4
  have h1 : s.Keeps t1 := h.withGal (fun hg => ⟨by simp only [List.length_take]; omega, hg.2⟩)
  have h2 : s.Keeps t2 := h1.put
  have h3 : s.Keeps t3 := h2.put.put
  have h4 : s.Keeps t4 := h3.setGp.galState
  exact .ite h4.galToken h4

theorem galTrigger {p : Nat} {t' : GalTrigger} (h : s.Keeps t) : s.Keeps (t.galTrigger p t') :=
  have h1 := h.bump.raiseFirst
  have h2 := h1.setGp
  .ite h (.ite h.coincident (.ite h.galAccept (.ite (.ite h2.holdOver h2) h1)))

theorem galNow {p : Nat} {cause : Nat} (h : s.Keeps t) : s.Keeps (t.galNow p cause) :=
  .ite h.galTrigger h.galTrigger

theorem galFault {c : Nat} (h : s.Keeps t) : s.Keeps (t.galFault c) := .ite (.foldl (fun _ _ h1 => .ite h1.galNow h1) h) h

theorem galHost {mask : Nat} (h : s.Keeps t) : s.Keeps (t.galHost mask) := .ite (.foldl (fun _ _ h1 => h1.galNow) h) h

theorem tokenTrigger {line : Nat} {tide : Nat} {off : Nat} (h : s.Keeps t) : s.Keeps (t.tokenTrigger line tide off) :=
  .ite (.foldl (fun _ _ h3 => (.ite h3.setGp.galTrigger h3)) h) h

theorem galRearm {p : Nat} {i : Nat} {b : Word} (h : s.Keeps t) : s.Keeps (t.galRearm p i b) :=
  .ite h.setGp h

theorem galConditions {p : Nat} {ws : List (Nat × Word)} {after : Nat} (h : s.Keeps t) : s.Keeps (t.galConditions p ws after) := by
  unfold State.galConditions
  extract_lets _ _ _ _ t1 t2
  have h1 : s.Keeps t1 := .foldl (fun _ _ h2 => .ite h2.setGp h2) h
  have h3 : s.Keeps t2 := by
    refine .foldl (fun _ _ h6 => ?_) h1
    split
    · exact h6.galRearm
    · exact h6
  exact .foldl (fun _ _ h7 => h7.galTrigger) h3

theorem galDone (h : s.Keeps t) : s.Keeps t.galDone := .ite (.foldl (fun _ _ => galEnough) h) h

theorem galFree {i : Nat} (h : s.Keeps t) : s.Keeps (t.galFree i) := by
  unfold State.galFree
  refine .ite ?_ h
  extract_lets _ t1
  have h1 : s.Keeps t1 := h.withGal
  refine .foldl (fun _ _ h3 => ?_) h1
  refine .ite ?_ h3
  split
  · exact h3.fillSlot
  · exact h3

/-! ## The network -/

theorem dupExpire (h : s.Keeps t) : s.Keeps t.dupExpire :=
  .foldl (fun _ _ h2 => .ite h2.bump.raiseFirst (.ite h2.bump.raiseFirst h2)) h.withNet

set_option Elab.async false in
theorem mgmtExpire (h : s.Keeps t) : s.Keeps t.mgmtExpire := by
  unfold State.mgmtExpire
  split
  · exact .ite h.withNet h
  · exact h

theorem netExpire (h : s.Keeps t) : s.Keeps t.netExpire := h.dupExpire.mgmtExpire

theorem stepNet {v : Int} (h : s.Keeps t) : s.Keeps (t.stepNet v) :=
  h.withNet

theorem reach {t' : Nat} (h : s.Keeps t) : s.Keeps (t.reach t') :=
  .ite (have h1 := h.withTim.netExpire.notchTo
  .ite h1.clocksPassed h1) h

theorem advance {d : Int} (h : s.Keeps t) : s.Keeps (t.advance d) := h.withTim

theorem servo {o : Int} (h : s.Keeps t) : s.Keeps (t.servo o) :=
  .ite (have h2 := h.putS.putS.flag
  .ite h2.raiseInt h2) h

theorem servoReset (h : s.Keeps t) : s.Keeps t.servoReset := .ite h.put.put.put h

theorem passMark (h : s.Keeps t) : s.Keeps t.passMark :=
  have h2 := h.put.raiseInt
  .ite h2.applyKeys h2

theorem writeSecond {v : Nat} (h : s.Keeps t) : s.Keeps (t.writeSecond v) :=
  .ite (.ite h.put h.put) h

theorem enqueue {p : Nat} {t' : TxFrame} (h : s.Keeps t) : s.Keeps (t.enqueue p t') := h.withNet (by simp [NetSt.Sized])

theorem svLaunch {p : Nat} {seq : Option Nat} {ws : List SvWait} (h : s.Keeps t) : s.Keeps (t.svLaunch p seq ws) := by
  unfold State.svLaunch
  extract_lets _ _ _ t1 t2
  have h1 : s.Keeps t1 := h.withNet (·.queues (by simp) rfl)
  have h2 : s.Keeps t2 := by
    unfold t2
    split
    · exact h1.put
    · exact h1
  exact .ite h2.raiseInt h2

theorem netStart {p : Nat} (h : s.Keeps t) : s.Keeps (t.netStart p) := by
  unfold State.netStart
  refine .ite h ?_
  extract_lets
  split
  · exact h
  · extract_lets t1
    have h1 : s.Keeps t1 := by
      unfold t1
      split
      · exact h.svLaunch
      · exact h
    exact h1.withNet (·.queues (by simp) (by simp))

theorem txLate {w : TxWhat} (h : s.Keeps t) : s.Keeps (t.txLate w) := by
  unfold State.txLate
  extract_lets t1
  have h1 : s.Keeps t1 := h.bump.raiseInt
  split
  · extract_lets
    exact h1.withNet (fun hn => hn.setTx (hn.slot _))
  · exact h1.bump
  · exact h1

theorem transmit {ports : List Nat} {cls : Nat} {launch : Option Nat} {w : TxWhat} (h : s.Keeps t) :
    s.Keeps (t.transmit ports cls launch w) := by
  unfold State.transmit
  split
  · exact .ite (.foldl (fun _ _ h1 => h1.enqueue.netStart) h) h.txLate
  · exact .foldl (fun _ _ h2 => h2.enqueue.netStart) h

set_option Elab.async false in
theorem takeSeq (h : s.Keeps t) : s.Keeps t.takeSeq.2 := .iteSnd (.pairSnd h.withNet) (.pairSnd h)

theorem sendRedundant {cls : Nat} {launch : Option Nat} {w : Option Nat → TxWhat} (h : s.Keeps t) : s.Keeps (t.sendRedundant cls launch w) :=
  h.takeSeq.transmit

theorem mgmtResponse {rsp : List Byte} (h : s.Keeps t) : s.Keeps (t.mgmtResponse rsp) := .ite h.sendRedundant h

theorem svForm {p : Nat} {before : Bool} (h : s.Keeps t) : s.Keeps (t.svForm p before) := by
  unfold State.svForm
  split
  · exact h
  · extract_lets _ _ _ _ _ t1
    have h1 : s.Keeps t1 := h.withStm (·.setPub)
    exact h1.sendRedundant

theorem svSample {p : Nat} {k : Nat} {rounds : List (Option Nat)} (h : s.Keeps t) : s.Keeps (t.svSample p k rounds) := by
  unfold State.svSample
  extract_lets _ t1 _ _ t2
  have h1 : s.Keeps t1 := by
    unfold t1
    split
    · exact .ite h h.svForm
    · exact h
  have h2 : s.Keeps t2 := h1.withStm (·.setPub)
  exact .ite h2.svForm h2

theorem svResult {n : Nat} {k : Nat} (h : s.Keeps t) : s.Keeps (t.svResult n k) :=
  .ite (withNet (h.withStm (fun hs => ⟨(List.length_map ..).trans List.length_range, hs.2⟩)) (·.queues (List.length_map ..) rfl)) h

/-- The converters that a grid instant starts. -/
theorem gridStarts {hit : Nat → Bool} {x : State × List (Option Nat)} {l : List Nat} (h : s.Keeps x.1) :
    s.Keeps (l.foldl (fun a n => if hit n then
      let s' := a.1.adcStart n 0 true
      let ran := s'.is (F.ADC_SEQn_STATUS_BUSY n) && (s'.adc.conv.getD n {}).began.isSome
      (s', a.2 ++ [if ran then some (s'.get (F.ADC_SEQn_STATUS_ROUND n)) else none]) else (a.1, a.2 ++ [none])) x).1 :=
  foldlFst (fun _ _ hy => .iteFst hy.adcStart hy) h

theorem gridInstant {rate : Nat} {k : Nat} (h : s.Keeps t) : s.Keeps (t.gridInstant rate k) :=
  .ite (.foldl (fun _ _ h6 => .ite h6.svSample h6) (gridStarts h.reach.withTim)) (gridStarts h.reach.withTim)

theorem stepGrid {old : State} (h : s.Keeps t) : s.Keeps (t.stepGrid old) :=
  .foldl (fun _ _ h2 => (.ite h2.gridInstant h2)) h

theorem timeStep {v : Int} (h : s.Keeps t) : s.Keeps (t.timeStep v) :=
  .ite (.ite (have h2 := h.advance.stepDue.stepNet.put.raiseInt
  have h3 := State.Keeps.ite h2.passMark h2
  have h4 := State.Keeps.ite h3.stepGrid h3
  .ite h4.netStart.netStart h4) h.put.raiseInt.fault) h

theorem setSvSub {i : Nat} {x : SvSub} (h : s.Keeps t) : s.Keeps (t.setSvSub i x) := h.withStm (by simp [StmSt.Sized])

theorem svValid {i : Nat} {v : Bool} (h : s.Keeps t) : s.Keeps (t.svValid i v) :=
  have h2 := h.setSvSub.flag
  .ite h2 h2.raiseInt

theorem svReject {i : Nat} {conf : Bool} {form : Bool} {low : Bool} (h : s.Keeps t) : s.Keeps (t.svReject i conf form low) :=
  h.flag.flag.flag.put.svValid

theorem svTrack {i : Nat} {count : Nat} {gap : Nat} {chans : List (Word × Word)} (h : s.Keeps t) : s.Keeps (t.svTrack i count gap chans) :=
  .ite (.ite h.trackSv h) h

set_option Elab.async false in
theorem svShare {i : Nat} {a : SvAsdu} (h : s.Keeps t) : s.Keeps (t.svShare i a) :=
  .ite (h.withTwn) h

theorem svAsdu {i : Nat} {a : SvAsdu} (h : s.Keeps t) : s.Keeps (t.svAsdu i a).1 := by
  unfold State.svAsdu
  extract_lets _ _ _ t1 t2 t3 t4
  have h1 : s.Keeps t1 := h.setSvSub
  have h2 : s.Keeps t2 := h1.put
  have h3 : s.Keeps t3 := by
    refine .foldl (fun _ _ h6 => ?_) h2
    extract_lets
    exact h6.setWord.setWord
  have h7 : s.Keeps t4 := .ite h3.svShare h3.svTrack
  exact .iteFst (.pairFst h) (.iteFst (.pairFst h7.put.raiseInt) (.pairFst h7))

theorem svFrameTo {i : Nat} {sim : Bool} {as_ : List SvAsdu} (h : s.Keeps t) : s.Keeps (t.svFrameTo i sim as_) := by
  unfold State.svFrameTo
  refine .ite h ?_
  extract_lets _ _ _ _ r t1 _ _ t2
  have h1 : s.Keeps r.1 := foldlFst (fun _ _ h1 => .pairFst h1.svAsdu) (.pairFst h)
  have h2 : s.Keeps t2 := setSvSub (t := t1) h1
  exact .ite h.svReject (.ite h2.put.svValid h2)

theorem setGsePub {g : Nat} {x : GsePub} (h : s.Keeps t) : s.Keeps (t.setGsePub g x) := h.withStm (by simp [StmSt.Sized])

theorem gseNew {g : Nat} (h : s.Keeps t) : s.Keeps (t.gseNew g) :=
  .ite ((h.withNet (·.queues (by simp) rfl)).setGsePub.raiseInt.sendRedundant) h

theorem gseRepeat {g : Nat} (h : s.Keeps t) : s.Keeps (t.gseRepeat g) :=
  .ite (h.setGsePub.sendRedundant) h

theorem setGseSub {i : Nat} {x : GseSub} (h : s.Keeps t) : s.Keeps (t.setGseSub i x) := h.withStm (by simp [StmSt.Sized])

theorem tripsFollow (h : s.Keeps t) : s.Keeps t.tripsFollow :=
  .foldl (fun _ _ h2 => (have h3 := State.Keeps.ite h2.withStm h2
  .ite h3 h3.withStm.raiseInt)) h

theorem gseValid {i : Nat} {v : Bool} (h : s.Keeps t) : s.Keeps (t.gseValid i v) :=
  have h2 := h.setGseSub.flag
  (ite h2 h2.raiseInt).tripsFollow

theorem gooseTo {i : Nat} {sim : Bool} {f : GooseContent} (h : s.Keeps t) : s.Keeps (t.gooseTo i sim f) :=
  .ite h (have h4 := State.Keeps.foldl (fun _ _ h5 => h5.setWord) h.setGseSub.put.put
  .ite h.flag.flag.flag.put.gseValid (.ite (State.Keeps.ite h4.raiseInt h4).put.gseValid h))

theorem dupCheck {p : Nat} {src : List Byte} {seq : Nat} (h : s.Keeps t) : s.Keeps (t.dupCheck p src seq).1 := by
  unfold State.dupCheck
  split
  · extract_lets
    exact .pairFst h.withNet.bump
  · extract_lets
    exact .iteFst (.pairFst h.withNet) (.pairFst h.bump)

theorem frameBytes {f : EthFrame} (h : s.Keeps t) : s.Keeps (t.frameBytes f).2 := by
  unfold State.frameBytes
  extract_lets _ t1 t2
  have h1 : s.Keeps t1.2 := h.fresh
  have h2 : s.Keeps t2.2 := h1.fresh
  split
  · exact .pairSnd h
  · exact .pairSnd h2

theorem toHost {p : Nat} {stamp : Nat} {frac : Nat} {f : EthFrame} (h : s.Keeps t) : s.Keeps (t.toHost p stamp frac f) := by
  unfold State.toHost
  split
  case isTrue hRoom =>
    extract_lets _ r t1
    have h1 : s.Keeps t1 := h.frameBytes
    refine raiseInt (h1.withNet (fun hn => hn.fill ?_))
    rwa [show t1.net = t.net from State.frameBytes_net t f]
  case isFalse => exact h.bump.raiseInt

theorem toMgmt {p : Nat} {f : EthFrame} {b : List Byte} (h : s.Keeps t) : s.Keeps (t.toMgmt p f b) :=
  .ite h (.ite h.withNet.fillWords.ring h.ring.raiseInt)

set_option Elab.async false in
theorem taken {f : EthFrame} {p : Nat} (h : s.Keeps t) : s.Keeps (t.taken f p).1 := by
  unfold State.taken
  extract_lets
  split
  · extract_lets
    exact .iteFst (.pairFst h) (.pairFst (.foldl (fun _ _ h1 => h1.svFrameTo) h))
  · extract_lets
    exact .iteFst (.pairFst h) (.pairFst (.foldl (fun _ _ h2 => h2.gooseTo) h))
  · exact .iteFst (.pairFst h.toMgmt) (.pairFst h)
  · exact .pairFst h

theorem consume {p : Nat} {stamp : Nat} {frac : Nat} {f : EthFrame} (h : s.Keeps t) : s.Keeps (t.consume p stamp frac f) :=
  have h1 := h.taken
  have h2 := State.Keeps.ite h1.toHost h1
  .ite h2 h2.bump

theorem hsrForward {p : Nat} {f : EthFrame} (h : s.Keeps t) : s.Keeps (t.hsrForward p f) :=
  .ite (h.transmit) h

theorem netCommitted {changed : Nat → Bool} (h : s.Keeps t) : s.Keeps (t.netCommitted changed) := by
  unfold State.netCommitted
  extract_lets _ t1 t2 _ t3 t5 t8
  have h1 : s.Keeps t1 := .ite (.foldl (fun _ _ h2 => .ite h2.put.put.bump.raiseInt h2) h) h
  have h3 : s.Keeps t2 := .ite h1.netStart.netStart h1
  have h4 : s.Keeps t3 := by
    refine .foldl (fun _ _ h7 => ?_) h3
    refine .ite ?_ h7
    extract_lets t4
    have h8 : s.Keeps t4 := h7.svValid
    exact h8.setSvSub
  have h9 : s.Keeps t5 := by
    refine .foldl (fun _ _ h12 => ?_) h4
    refine .ite ?_ h12
    extract_lets _ t6 t7
    have h13 : s.Keeps t6 := h12.setGseSub
    have h14 : s.Keeps t7 := h13.gseValid
    exact h14.setGseSub
  have h15 : s.Keeps t8 := by
    refine .foldl (fun _ _ h18 => ?_) h9
    refine .ite ?_ h18
    extract_lets t9
    have h19 : s.Keeps t9 := .ite h18 h18.setGsePub
    exact h19.gseNew
  exact .ite h15.tripsFollow h3

theorem txControl {j : Nat} {w : Word} (h : s.Keeps t) : s.Keeps (t.txControl j w) := by
  unfold State.txControl
  extract_lets _ _ _ _ _ _ _ _ t1 _ _ r
  have h1 : s.Keeps t1 := h.withNet (fun hn => hn.setTx (hn.slot _))
  have h2 : s.Keeps r.2 := h1.takeSeq
  exact .ite h (.ite (.ite h2.transmit h1.transmit) h1)

theorem txDone {p : Nat} {stamp : Nat} {frac : Nat} {w : TxWhat} (h : s.Keeps t) : s.Keeps (t.txDone p stamp frac w) := by
  unfold State.txDone
  split
  · extract_lets x _ _ y _ t1
    have hStamps (hx : x.Sized) : y.Sized := ⟨by simpa [y] using hx.1, by simpa [y] using hx.2⟩
    have h1 : s.Keeps t1 := h.withNet (fun hn => hn.setTx (hStamps (hn.slot _)))
    exact .ite h1.raiseInt h1
  · split
    · exact h.put.put
    · exact h
  · exact h

theorem ethReceive {p : Nat} {f : EthFrame} {stamp : Nat} {frac : Nat} (h : s.Keeps t) : s.Keeps (t.ethReceive p f stamp frac) := by
  have h1 : s.Keeps ((t.reach stamp).bump (F.NET_Pp_RXCOUNT_VALUE p)) := h.reach.bump
  generalize ht : (t.reach stamp).bump (F.NET_Pp_RXCOUNT_VALUE p) = t1 at h1
  unfold State.ethReceive
  simp only [ht]
  split
  · exact .ite (.ite h1.dupCheck h1.dupCheck.hsrForward.consume) h1.consume
  · exact h1.hsrForward.consume

theorem rxPop (h : s.Keeps t) : s.Keeps t.rxPop :=
  .ite (h.withNet (fun hn => ⟨Nat.le_trans (Nat.sub_le _ _) hn.1, hn.2⟩)) h

theorem gseForce {mask : Nat} (h : s.Keeps t) : s.Keeps (t.gseForce mask) := .foldl (fun _ _ h1 => h1.gseNew) h

/-! ## The Vault -/

theorem makeRoom {need : Nat} (h : s.Keeps t) : s.Keeps (t.makeRoom need) := by
  unfold State.makeRoom
  extract_lets v _ _ v'
  have hErase (l : List Nat) (w : VltSt) (f : VltSt → Nat → Nat) (hw : w.Canonical) :
      (l.foldl (fun v' i => v'.eraseSector (f v i)) w).Canonical := by
    induction l generalizing w with
    | nil => exact hw
    | cons i l ih => exact ih _ (hw.eraseSector _)
  exact h.withVlt (fun hv => hErase _ v (fun v i => journalSector (v.first + 2048 * i)) hv)

theorem addRecords {gen : Nat} {rs : List JRecord} (h : s.Keeps t) : s.Keeps (t.addRecords gen rs) :=
  have h1 := h.withVlt
  .ite h1.raiseInt h1

theorem recordTimes {n now : Nat} (h : s.Keeps t) : s.Keeps (State.recordTimes n now t).2 := by
  induction n generalizing t now with
  | zero => exact h
  | succ n ih => exact ih h.fresh

theorem ownWritten (h : s.Keeps t) : s.Keeps t.ownWritten := h.withVlt.withPwr

theorem demandReading (h : s.Keeps t) : s.Keeps t.demandReading := .ite h.put h

set_option Elab.async false in
theorem writeOpportunity (h : s.Keeps t) : s.Keeps t.writeOpportunity :=
  .ite (.ite h.makeRoom.recordTimes.addRecords.ownWritten.withVlt.demandReading h) h

theorem loadGeneration {bad : BitVec 4} {lost : BitVec 4} (h : s.Keeps t) : s.Keeps (t.loadGeneration bad lost) := by
  unfold State.loadGeneration
  extract_lets slots _ v b _ w t1
  have hSlots (hv : t.vlt.Canonical) : v.Canonical := by
    intro x hx y hy
    obtain ⟨i, -, rfl⟩ := List.mem_map.1 hx
    obtain ⟨z, hSlot, rfl⟩ := Option.map_eq_some_iff.1 hy
    have hz : SMap.wf z.cfg = true := hv.slot hSlot
    exact hz
  have hVoid : w.dropVoid.slots = v.slots := by
    unfold VltSt.dropVoid
    split <;> rfl
  have hCfg (hv : v.Canonical) : SMap.wf (match b with | some x => x.2.cfg | none => []) = true := by
    cases hb : b with
    | none => rfl
    | some x => exact hv.best hb
  have h1 : s.Keeps t1 := by
    refine (h.withVlt (fun hv => ?_)).withCfg (fun hi => hCfg ?_)
    · unfold VltSt.Canonical
      rw [hVoid]
      exact hSlots hv
    · unfold VltSt.Canonical
      rw [← hVoid]
      exact hi.slots
  exact .ite h1.put.raiseInt h1

theorem commitEnded {f : CommitFor} {st : Status} {data : List Byte} (h : s.Keeps t) : s.Keeps (t.commitEnded f st data) := by
  unfold State.commitEnded
  split
  · exact h.respond
  · exact .ite h.respond h.respond
  · exact h.withVlt.withRve

theorem commitStart {f : CommitFor} {internal : Bool} {keys : List StagedKey} {seconds : Word} (h : s.Keeps t) :
    s.Keeps (t.commitStart f internal keys seconds) := by
  unfold State.commitStart
  extract_lets _ _ _ _ _ _ t1
  have h1 : s.Keeps t1 := by
    unfold t1
    split
    · exact h.setMb
    · exact h.setMb
    · exact h.withRve
  exact .ite h.commitEnded (.ite h.commitEnded h1.withVlt.demandReading)

theorem internalCommit {n : Nat} {keys : List (Fld × Nat)} {st : Status} {data : List Byte} (h : s.Keeps t) :
    s.Keeps (t.internalCommit n keys st data) := .ite h.respond h.commitStart

theorem deviceCommit {n : Nat} {who : Nat} {keys : List (Fld × Nat)} (h : s.Keeps t) : s.Keeps (t.deviceCommit n who keys).1 :=
  .iteFst (.pairFst h) (.pairFst h.withVlt.commitStart)

theorem commitAbort {o : VaultOp} (h : s.Keeps t) : s.Keeps (t.commitAbort o) :=
  h.withVlt.bump.fault.raiseInt.commitEnded

theorem gateReading {r : Int} (h : s.Keeps t) : s.Keeps (t.gateReading r) := by
  unfold State.gateReading
  split
  · exact h
  · refine .ite ?_ (.ite h.withVlt.commitEnded (.ite h.demandReading h.commitAbort))
    extract_lets t1 x t2 _ v
    have h1 : s.Keeps t1 := h.demandReading
    have h2 : s.Keeps t2 := .iteSnd h1.recordTimes (.pairSnd h1)
    refine .ite h1 (h2.withVlt (fun hv => ?_))
    split
    · exact hv.setSlot (i := v.target) (fun _ hy => nomatch hy)
    · exact hv

theorem takeReading {reading : BitVec 16} (h : s.Keeps t) : s.Keeps (t.takeReading reading) :=
  have h4 := h.put.put.putS.raiseInt.driftCheck
  (State.Keeps.foldl (fun _ _ h7 => .ite h7.respond h7) (State.Keeps.ite h4.sensorTake h4)).gateReading

theorem commitDone {o : VaultOp} (h : s.Keeps t) : s.Keeps (t.commitDone o) := by
  unfold State.commitDone
  extract_lets _ _ _ t1 _ t2 _ t3 _ t4 cfg k _ t5 _ t6
  have h1 : s.Keeps t1 := h.makeRoom
  have h2 : s.Keeps t2 := h1.addRecords
  have h3 : s.Keeps t3 := h2.withVlt
  have h4 : s.Keeps t4 := .ite h3.withPwr h3
  have hCfg (hi : t4.Inv) : SMap.wf cfg = true := wf_foldl_putKey _ hi.cfg
  have h5 : s.Keeps t5 := (h4.withCfg hCfg).withVltOfInv
    (fun hi => VltSt.Canonical.setSlot (v := t4.vlt) hi.slots (fun y hy => by cases hy; exact hi.cfg))
  have h6 : s.Keeps t6 := by
    unfold t6
    split
    · exact h5.withRve
    · exact h5
  exact h6.commitEnded

theorem remapSector {l : Nat} (h : s.Keeps t) : s.LeadsIf (t.remapSector l) :=
  .ite (.some h.withVlt.fault.raiseInt) (.none _)

theorem markBad {l : Nat} (h : s.Keeps t) : s.Keeps (t.markBad l) := h.withVlt

theorem sectorFails {o : VaultOp} {last : Bool} (h : s.Keeps t) : s.Keeps (t.sectorFails o last) := by
  unfold State.sectorFails
  extract_lets
  split
  · exact withVlt (h.remapSector _ ‹_›)
  · exact h.markBad.withVlt.commitEnded

/-! ## Spares -/

theorem halfCycle {d : Nat} (h : s.Keeps t) : s.Keeps (t.halfCycle d) := h.bump

set_option Elab.async false in
theorem wearSample (h : s.Keeps t) : s.Keeps t.wearSample := by
  unfold State.wearSample
  split
  · exact h
  · extract_lets _ t1
    have h1 : s.Keeps t1 := .ite (.ite h.bump.withWear h.withWear) h
    split
    · exact h1.withWear
    · refine .ite h1.withWear ?_
      extract_lets
      exact .ite h1.halfCycle.withWear (.ite h1.withWear h1)

theorem rippleTide {changed : Bool} (h : s.Keeps t) : s.Keeps (t.rippleTide changed) :=
  .ite h.bump.withWear h.withWear

theorem stageWear {n : Nat} (h : s.Keeps t) : s.Keeps (t.stageWear n) :=
  h.withRve

theorem loadWear (h : s.Keeps t) : s.Keeps t.loadWear :=
  .ite ((State.Keeps.foldl (fun _ _ h2 => h2.put) h).put.put.withWear) h

theorem loadSwitching (h : s.Keeps t) : s.Keeps t.loadSwitching := by
  unfold State.loadSwitching
  split
  · exact h.setWord.setWord.setWord.setWord.withWear
  · exact h

theorem showAsleep {r : Nat} (h : s.Keeps t) : s.Keeps (t.showAsleep r) :=
  .foldl (fun _ _ h2 => (.ite h2 h2.flag)) h

theorem setSpare {o : SpareOp} (h : s.Keeps t) : s.Keeps (t.setSpare o) := h.withSpr

theorem showSpare (h : s.Keeps t) : s.Keeps t.showSpare := by
  unfold State.showSpare
  split
  · exact h.setWord
  · exact h.setWord

theorem spareBegin {o : SpareOp} (h : s.Keeps t) : s.Keeps (t.spareBegin o) := by
  unfold State.spareBegin
  extract_lets _ t1
  have h1 : s.Keeps t1 := by
    unfold t1
    split
    · exact h.runOn
    · exact h.withRve
  exact h1.withSpr.showSpare

theorem spareEnd {o : SpareOp} {st : Status} {data : List Byte} (h : s.Keeps t) : s.Keeps (t.spareEnd o st data) := by
  unfold State.spareEnd
  extract_lets _ t1
  have h1 : s.Keeps t1 := by
    unfold t1
    split
    · exact h.respond
    · exact h.withRve
  exact h1.withSpr.showSpare

theorem ownRemote {o : SpareOp} {code : Nat} {args : List Byte} (h : s.Keeps t) : s.Keeps (t.ownRemote o code args) :=
  h.setMb.queueOwn

theorem verifyTarget {o : SpareOp} (h : s.Keeps t) : s.Keeps (t.verifyTarget o) :=
  .ite h.setSpare.ownRemote (.ite (.ite (.ite h.setSpare.ownRemote h.setMb.setSpare) h.setMb.setSpare) (.ite h.setSpare h))

theorem dropOwn {r : Nat} (h : s.Keeps t) : s.Keeps (t.dropOwn r) := by
  unfold State.dropOwn
  extract_lets _ t1
  have h1 : s.Keeps t1 := h.withCul
  split
  · exact .ite h1.setRemote.setMb h1
  · exact h1

theorem chargeState {o : SpareOp} {t' : Nat} (h : s.Keeps t) : s.Keeps (t.chargeState o t') :=
  .ite h h.setPos.setSpare.withSpr

set_option Elab.async false in
theorem spareCommit {o : SpareOp} {keys : List (Fld × Nat)} (h : s.Keeps t) : s.Keeps (t.spareCommit o keys).1 := by
  unfold State.spareCommit
  split
  · split
    · exact .pairFst h.withVlt
    · exact .pairFst h
  · extract_lets t2
    have h2 : s.Keeps t2.1 := h.deviceCommit
    exact .pairFst (.ite h2.setSpare h)

theorem chargeOff {o : SpareOp} {t' : Nat} (h : s.Keeps t) : s.Keeps (t.chargeOff o t') :=
  .ite h (h.setPos.withSpr)

theorem bringStep {o : SpareOp} {t' : Nat} (h : s.Keeps t) : s.Keeps (t.bringStep o t') := by
  unfold State.bringStep
  extract_lets _ _ _ t1 _ t2 t3
  have h1 : s.Keeps t1 := h.withCul
  have h2 : s.Keeps t2.1 := h.spareCommit
  have h3 : s.Keeps t3 := h2.spareEnd.raiseInt
  refine .ite h.dropOwn.spareEnd ?_
  split
  · exact h.setSpare
  · exact .ite h.setSpare.withCul h
  · exact .ite (.ite h1.setSpare.put (.ite h.withCul h)) (.ite h.setSpare h)
  · exact .ite h.setSpare h
  · exact h.verifyTarget
  · exact .ite h.setSpare (.ite h.spareEnd h.setSpare)
  · exact .ite h.spareEnd (.ite (.ite h h.chargeOff.setSpare) (.ite h.chargeOff.spareEnd (.ite h h.chargeState)))
  · refine .ite h ?_
    split
    · exact h2
    · split
      · exact h3.withSpr
      · exact h3
    · exact h2.spareEnd

theorem bringIn {o : SpareOp} {t' : Nat} (h : s.Keeps t) : s.Keeps (t.bringIn o t') := by
  unfold State.bringIn
  refine .ite ?_ h.bringStep
  extract_lets _ t1
  have h1 : s.Keeps t1.1 := h.spareCommit
  split
  · exact h1.setSpare.bringStep
  · exact (ite h1.chargeOff h1).dropOwn.spareEnd
  · exact h1.bringStep

theorem moveState {x : Nat} {q : Nat} {t' : Nat} (h : s.Keeps t) : s.Keeps (t.moveState x q t').1 := by
  unfold State.moveState
  extract_lets
  split
  · exact .pairFst h
  · split
    · exact .pairFst h.commandPos
    · split
      · exact .pairFst h.commandPos.commandPos
      · exact .pairFst h

theorem retireEnd {o : SpareOp} {st : Status} (h : s.Keeps t) : s.Keeps (t.retireEnd o st) :=
  have h1 := h.spareEnd
  .ite h1.withSpr h1

theorem retire {o : SpareOp} {t' : Nat} (h : s.Keeps t) : s.Keeps (t.retire o t') := by
  unfold State.retire
  extract_lets _ _ t1 _ t2 t3 t4 t5 t6
  have h1 : s.Keeps t1.1 := h.moveState
  have h2 : s.Keeps t2.1 := h.spareCommit
  have h3 : s.Keeps t3 := h2.setSpare
  have h4 : s.Keeps t4 := h.setMb
  have h5 : s.Keeps t5 := .ite h h.setMb
  have h6 : s.Keeps t6.1 := h5.spareCommit
  split
  · exact h.setSpare
  · exact .ite h1.setSpare (.ite h.setSpare h)
  · exact .ite h.setSpare (.ite h.setSpare h)
  · split
    · exact h2
    · exact .ite h3.ownRemote h2.retireEnd
    · exact h2.spareEnd
  · exact .ite (.ite h4.setSpare.ownRemote h4.setSpare) h
  · refine .ite h.setMb.setSpare ?_
    refine .ite ?_ h
    split
    · exact h6.setSpare
    · exact h6.retireEnd
    · exact .ite h6 h5.setMb
  · exact h.retireEnd.raiseInt

theorem autoTrigger {x : Nat} {q : Nat} {record : Option Bool} (h : s.Keeps t) : s.Keeps (t.autoTrigger x q record) :=
  have h1 := h.withSpr
  have h2 := State.Keeps.ite h1 h1.withSpr
  have h3 := State.Keeps.ite h2.raiseInt h2
  .ite h3 (.ite h3.withSpr (.ite h3.withSpr h3))

theorem wakeNext {x : Nat} {q : Nat} (h : s.Keeps t) : s.Keeps (t.wakeNext x q) := .ite h.askTx h.sendOwn

theorem autoBring {x : Nat} {worn : Option Nat} (h : s.Keeps t) : s.Keeps (t.autoBring x worn) := by
  unfold State.autoBring
  split
  · exact h
  · refine .ite h ?_
    extract_lets t1 _ t2 t3
    have h1 : s.Keeps t1.2 := h.fresh
    have h2 : s.Keeps t2 := .ite h1.wakeNext h1
    have h3 : s.Keeps t3 := h2.spareBegin
    exact .ite h3.raiseInt h3

theorem autoRetire {x : Nat} {q : Nat} {failed : Bool} (h : s.Keeps t) : s.Keeps (t.autoRetire x q failed) :=
  have h1 := h.spareBegin
  .ite h1.raiseInt.fault h1

theorem autoStart (h : s.Keeps t) : s.Keeps t.autoStart := by
  unfold State.autoStart
  refine .foldl (fun _ _ h2 => ?_) h
  split
  · refine .ite h2 ?_
    extract_lets _ t1
    have h3 : s.Keeps t1 := h2.withSpr
    exact .ite h3.autoBring (.ite h3.autoBring h3.autoRetire)
  · exact h2

theorem showStackSpares {x : Nat} (h : s.Keeps t) : s.Keeps (t.showStackSpares x) :=
  have h1 := h.setWord
  have h2 := h1.withSpr
  .ite h1 (.ite h2.raiseInt h2)

theorem spareTide {t' : Nat} {ok : Bool} (h : s.Keeps t) : s.Keeps (t.spareTide t' ok) := by
  unfold State.spareTide
  extract_lets _ t1 t2 t3 t4 t6
  have h1 : s.Keeps t1 := h.withSpr
  have h2 : s.Keeps t2 := .foldl (fun _ _ h3 => .foldl (fun _ _ h4 => .ite h4.autoTrigger h4) h3) h1
  have h5 : s.Keeps t3 := h2.autoStart
  have h6 : s.Keeps t4 := by
    refine .foldl (fun _ _ h9 => ?_) h5
    split
    · extract_lets _ t5
      have h10 : s.Keeps t5 := h9.setSpare
      exact .ite h10 (.ite h10.bringIn h10.retire)
    · exact h9
  have h11 : s.Keeps t6 := h6.showSpare
  exact .foldl (fun _ _ => showStackSpares) h11

/-! ## Twins -/

set_option Elab.async false in
theorem twinSet {v : Nat} (h : s.Keeps t) : s.Keeps (t.twinSet v) :=
  .ite h (have h1 := h.put
  have h2 := State.Keeps.ite h1.bump h1
  (State.Keeps.ite h2.withTwn h2).raiseInt)

theorem twinSay {type : Nat} {bytes : List Byte} {mailbox : Nat} (h : s.Keeps t) : s.Keeps (t.twinSay type bytes mailbox) := h.withTwn

theorem resyncStart {n : Option Nat} (h : s.Keeps t) : s.Keeps (t.resyncStart n) := by
  unfold State.resyncStart
  extract_lets _ t1 _ t2
  have h1 : s.Keeps t1 := h.put.withTwn
  have h2 : s.Keeps t2 := by
    unfold t2
    split
    · exact h1.runOn
    · exact h1.withRve
  exact .ite h2.withTwn h2.twinSay

theorem resyncEnd {st : Status} (h : s.Keeps t) : s.Keeps (t.resyncEnd st) := by
  unfold State.resyncEnd
  extract_lets _ t1
  have h1 : s.Keeps t1 := by
    unfold t1
    split
    · exact h.respond
    · exact h.withRve
  exact h1.put.withTwn

theorem snapshotTide (h : s.Keeps t) : s.Keeps t.snapshotTide :=
  .ite (.foldl (fun _ _ h2 => h2.twinSay) h.withFree.withTwn) h

theorem autoResync (h : s.Keeps t) : s.Keeps t.autoResync := .ite h.resyncStart h

theorem diverge (h : s.Keeps t) : s.Keeps t.diverge := .ite h (.ite h.twinSet h.twinSet.raiseInt.autoResync)

theorem twinEnable (h : s.Keeps t) : s.Keeps t.twinEnable :=
  .ite h (.ite h.withTwn.twinSet h.twinSet.withTwn)

theorem echoSeen {f : Fld} (h : s.Keeps t) : s.Keeps (t.echoSeen f) :=
  have h1 := h.withTwn
  .ite h1 h1.put.raiseInt

theorem echoLost {f : Fld} (h : s.Keeps t) : s.Keeps (t.echoLost f) := .ite h.put.raiseInt h

theorem twinRingFrame {r : Nat} {f : TideFrame} (h : s.Keeps t) : s.Keeps (t.twinRingFrame r f) := by
  unfold State.twinRingFrame
  refine .ite ?_ h
  extract_lets _ _ t1 t2 _ t3
  have h1 : s.Keeps t1 := h.withTwn
  have h2 : s.Keeps t2 := .ite h1.echoSeen h1
  have h3 : s.Keeps t3 := .ite h2.withTwn h2
  refine .ite ?_ h3
  split
  · exact .ite h3 h3.diverge
  · exact h3

theorem shareResult {conv : Nat} {entry : Nat} (h : s.Keeps t) : s.Keeps (t.shareResult conv entry) := .ite (.ite h.withTwn h.bump) h

theorem twinWrite {a : Nat} {v : Word} {effect : State → State} (h : s.Keeps t) (hEffect : s.Keeps (effect t)) :
    s.Keeps (t.twinWrite a v effect) := .ite (.ite h.withTwn h) hEffect

theorem present {t' : Nat} {c : Nat} (h : s.Keeps t) : s.Keeps (t.present t' c) :=
  (h.withAdc (by simp)).withTwn

set_option Elab.async false in
theorem svPart {x : TwinInput} (h : s.Keeps t) : s.Keeps (t.svPart x) := by
  unfold State.svPart
  extract_lets _ _ _ _ t1 _ _ d3 _ t2
  have h1 : s.Keeps t1 := h.withTwn
  have h2 : s.Keeps t2 := h1.withTwn
  refine .ite h1 ?_
  clear_value d3
  rcases d3 with _ | ⟨⟨_, _ | _⟩, _ | ⟨⟨_, _ | _⟩, _ | ⟨⟨_, _ | _⟩, _ | _⟩⟩⟩
  case cons.some.cons.some.cons.some.nil => exact .ite h2.trackSv h2
  all_goals exact h2

theorem twinInput {write : State → Nat → Word → State} {x : TwinInput} (h : s.Keeps t)
    (hWrite : ∀ u a v, s.Keeps u → s.Keeps (write u a v)) : s.Keeps (t.twinInput write x) := by
  unfold State.twinInput
  split
  · exact hWrite _ _ _ h
  · exact h.svPart
  · exact h.svPart
  · exact h.svPart
  · exact h.withTwn
  · exact h.sensorTake
  · exact h

theorem twinInputs {write : State → Nat → Word → State} {t' : Nat} (h : s.Keeps t)
    (hWrite : ∀ u a v, s.Keeps u → s.Keeps (write u a v)) : s.Keeps (t.twinInputs write t') :=
  .foldl (fun _ _ h1 => h1.twinInput hWrite) h.withTwn

theorem twinSample (h : s.Keeps t) : s.Keeps t.twinSample := by
  unfold State.twinSample
  refine .ite h ?_
  extract_lets _ t1
  have h1 : s.Keeps t1 := by
    refine .foldl (fun _ _ h4 => ?_) h
    extract_lets
    exact .ite h4 h4.withTwn
  exact .ite h1 h1.withTwn

theorem twinSent {t' : Nat} (h : s.Keeps t) : s.Keeps (t.twinSent t') :=
  h.withTwn

theorem takeCopy {b : List Byte} {t' : Nat} (h : s.Keeps t) : s.Keeps (t.takeCopy b t') := by
  unfold State.takeCopy
  split
  · exact h.setMb.withTwn
  · exact h.twinSay

theorem twinMessage {type : Nat} {b : List Byte} {t' : Nat} {swap : State → State} (h : s.Keeps t)
    (hSwap : ∀ u, s.Keeps u → s.Keeps (swap u)) : s.Keeps (t.twinMessage type b t' swap) := by
  unfold State.twinMessage
  extract_lets
  refine .ite (.ite ?_ ?_) (.ite (.ite (hSwap _ h) h) (.ite (.ite h.resyncStart h) (.ite h h.takeCopy)))
  · split
    · exact .ite h.respond.withTwn h
    · exact h
  · split
    · extract_lets _ t1
      have h1 : s.Keeps t1 := h.setMb
      exact .ite h1.withTwn h1
    · exact h

theorem takeRelay {d : Nat} {bytes : List Byte} (h : s.Keeps t) : s.Keeps (t.takeRelay d bytes) :=
  foldlFst (fun _ _ h1 => .pairFst h1.withCul) (.pairFst h)

theorem takeRelayTele {t' : Nat} {body : List Byte} (h : s.Keeps t) : s.Keeps (t.takeRelayTele t' body) :=
  .foldl (fun _ _ h2 => (.ite h2 h2.takeQuantity)) h

theorem twinAlign (h : s.Keeps t) : s.Keeps t.twinAlign := by
  unfold State.twinAlign
  split
  · extract_lets t1 _ _ _ _ t2
    have h1 : s.Keeps t1 := h.putS
    have h2 : s.Keeps t2 := h1.withTwn
    exact .ite (.ite h2.setAlign.fault h2) h1
  · exact h

theorem twinSlew {t' : Nat} (h : s.Keeps t) : s.Keeps (t.twinSlew t') :=
  .ite (have h1 := h.withTwn
  have h2 := h1.withCul
  .ite h1.withTwn.withCul.setAlign (.ite (.ite h2.setAlign h2) h1)) h

theorem twinHeader {f : TideFrame} {x : Int} (h : s.Keeps t) : s.Keeps (t.twinHeader f x) :=
  have h2 := h.withTwn.flag
  have h3 := State.Keeps.ite h2.put h2
  .ite h3.echoSeen h3

theorem twinTakeAux {t' : Nat} {aux : Nat} (h : s.Keeps t) : s.Keeps (t.twinTakeAux t' aux) := by
  unfold State.twinTakeAux
  split
  · exact h.withTwn.flag
  · exact h.withTwn.twinAlign
  · exact h
  · exact h
  · exact .ite h.put h

theorem twinTakeInputs {t' : Nat} {flags : Nat} {body : List Byte} (h : s.Keeps t) : s.Keeps (t.twinTakeInputs t' flags body) :=
  h.withTwn

set_option Elab.async false in
theorem twinTakeChunk {t' : Nat} {c : Chunk} {swap : State → State} (h : s.Keeps t)
    (hSwap : ∀ u, s.Keeps u → s.Keeps (swap u)) : s.Keeps (t.twinTakeChunk t' c swap) :=
  .ite (have h1 := h.withTwn
  .ite (h1.twinMessage hSwap) h1) h

theorem compareCrc {t' : Nat} {crc : Nat} (h : s.Keeps t) : s.Keeps (t.compareCrc t' crc) := by
  unfold State.compareCrc
  split
  · exact .ite h h.diverge
  · exact h

theorem twinTake {f : TideFrame} {x : Int} {swap : State → State} (h : s.Keeps t)
    (hSwap : ∀ u, s.Keeps u → s.Keeps (swap u)) : s.Keeps (t.twinTake f x swap) :=
  have h1 := h.twinHeader.twinTakeAux
  have h2 := State.Keeps.ite h1.twinTakeInputs h1
  have h4 := (State.Keeps.ite h2.takeRelay.takeRelayTele h2).twinTakeChunk hSwap
  have h5 := State.Keeps.ite h4.withTwn h4
  .ite h5.compareCrc h5

theorem swapStart {n : Option Nat} (h : s.Keeps t) : s.Keeps (t.swapStart n) := by
  unfold State.swapStart
  extract_lets _ t1
  have h1 : s.Keeps t1 := by
    unfold t1
    split
    · exact h.runOn
    · exact h.withRve
  exact h1.put.withTwn

theorem swapAsked (h : s.Keeps t) : s.Keeps t.swapAsked := by
  unfold State.swapAsked
  split
  · exact h.twinSay
  · exact .ite h.twinSay h.swapStart

theorem swapEnd {st : Status} (h : s.Keeps t) : s.Keeps (t.swapEnd st) := by
  unfold State.swapEnd
  extract_lets _ t1
  have h1 : s.Keeps t1 := by
    unfold t1
    split
    · exact h.respond
    · exact h.withRve
  exact h1.withTwn

theorem restartHours (h : s.Keeps t) : s.Keeps t.restartHours := h.put.withTwn

theorem hoursTide (h : s.Keeps t) : s.Keeps t.hoursTide :=
  .ite (h.put.withTwn) h

theorem swapTide {t' : Nat} (h : s.Keeps t) : s.Keeps (t.swapTide t') := by
  unfold State.swapTide
  split
  · exact h
  · refine .ite h.withTwn ?_
    extract_lets _ t1 t2 t3
    have h1 : s.Keeps t1 := h.put.withTwn
    have h2 : s.Keeps t2 := h1.twinSet.raiseInt
    have h3 : s.Keeps t3 := h2.bump.put
    exact .ite h1.swapEnd (.ite h3.restartHours.withTwn (.ite h1.swapEnd h1))

theorem swapCommitTide (h : s.Keeps t) : s.Keeps t.swapCommitTide := by
  unfold State.swapCommitTide
  refine .ite ?_ ?_
  · split
    · exact h.withVlt.swapEnd
    · exact h
  refine .ite ?_ h
  extract_lets _ t1
  have h1 : s.Keeps t1.1 := h.deviceCommit
  exact h1.withTwn

theorem takeover (h : s.Keeps t) : s.Keeps t.takeover :=
  have h2 := h.twinSet.fault.raiseInt.bump.withTwn
  .ite (.ite h2.toFallback.bump.fault h2.setCtl.fault) h2

theorem twinStep (h : s.Keeps t) : s.Keeps t.twinStep :=
  have h1 := h.withTwn
  .ite h1.twinSet (.ite h1.twinSet (.ite h1.twinSet.restartHours (.ite h1.twinSet.restartHours.autoResync h1)))

theorem twinCount {t' : Nat} (h : s.Keeps t) : s.Keeps (t.twinCount t') :=
  have h1 := h.withTwn
  .ite h1.withTwn.diverge h1

theorem twinStarts {t' : Nat} (h : s.Keeps t) : s.Keeps (t.twinStarts t') :=
  .ite h (.foldl (fun _ _ h1 => h1.setMb) h.withTwn)

set_option Elab.async false in
theorem twinCommitted {commit : State → List (Nat × Word) → State} (h : s.Keeps t)
    (hCommit : ∀ u l, s.Keeps u → s.Keeps (commit u l)) : s.Keeps (t.twinCommitted commit) := by
  unfold State.twinCommitted
  split
  · exact .ite (hCommit _ _ h.withTwn) h
  · exact h

theorem twinFlags (h : s.Keeps t) : s.Keeps t.twinFlags :=
  h.withTwn

theorem twinShift (h : s.Keeps t) : s.Keeps t.twinShift :=
  h.withTwn

theorem twinStates {t' : Nat} (h : s.Keeps t) : s.Keeps (t.twinStates t') := .ite h.twinCount.twinStep.swapTide.swapCommitTide.hoursTide h

theorem twinBoundary {t' : Nat} {write : State → Nat → Word → State} {commit : State → List (Nat × Word) → State} (h : s.Keeps t)
    (hWrite : ∀ u a v, s.Keeps u → s.Keeps (write u a v)) (hCommit : ∀ u l, s.Keeps u → s.Keeps (commit u l)) :
    s.Keeps (t.twinBoundary t' write commit) :=
  .ite h (have h3 := ((((h.twinCommitted hCommit).twinStarts.twinFlags).present.twinInputs hWrite).twinSample.twinShift).twinSlew
  (State.Keeps.ite h3.send h3).twinSent)

/-! ## The Wardens -/

theorem wput {b : Bool} {f : Fld} {v : Nat} (h : s.Keeps t) : s.Keeps (t.wput b f v) := h.put

theorem wflag {b : Bool} {f : Fld} {v : Bool} (h : s.Keeps t) : s.Keeps (t.wflag b f v) := h.flag

theorem setWch {b : Bool} {c : WrdChan} (h : s.Keeps t) : s.Keeps (t.setWch b c) := h.withWrd

theorem wardOutputs {b : Bool} (h : s.Keeps t) : s.Keeps (t.wardOutputs b) :=
  h.wflag.wflag.drive

theorem wardGo {b : Bool} {v : Nat} {auto : Bool} (h : s.Keeps t) : s.Keeps (t.wardGo b v auto) :=
  .ite h (have h2 := h.wput.raiseInt
  have h3 := State.Keeps.ite h2.raiseInt h2
  (State.Keeps.ite h3.bump.put h3).setWch.wardOutputs)

theorem wardRelease (h : s.Keeps t) : s.Keeps t.wardRelease := .ite h.wardGo.wardGo h.put.raiseInt

theorem wardBlock (h : s.Keeps t) : s.Keeps t.wardBlock :=
  have h1 := State.Keeps.ite h.wardGo h
  .ite h1.wardGo h1

theorem wardCtrl {release : Bool} {block : Bool} (h : s.Keeps t) : s.Keeps (t.wardCtrl release block) :=
  .ite (.ite h.wardBlock (.ite h.wardRelease h)) h

theorem wardAuto {b : Bool} (h : s.Keeps t) : s.Keeps (t.wardAuto b) :=
  .ite h.setWch.wardRelease h

set_option Elab.async false in
theorem wardEval {b : Bool} (h : s.Keeps t) : s.Keeps (t.wardEval b) :=
  .ite ((State.Keeps.ite h.wardGo (.ite h.wardGo (.ite h.wardGo h))).wardAuto) h

theorem testedBoth {b : Bool} (h : s.Keeps t) : s.Keeps (t.testedBoth b) := .ite h.raiseInt h

theorem wardGuard {b : Bool} (h : s.Keeps t) : s.Keeps (t.wardGuard b) := by
  unfold State.wardGuard
  refine .ite ?_ h.wflag
  split
  · exact h.wput.wput
  · extract_lets _ t1
    have h1 : s.Keeps t1 := h.wput
    exact .ite h1.wput.testedBoth h1
  · exact h

theorem wardRetest {b : Bool} (h : s.Keeps t) : s.Keeps (t.wardRetest b) :=
  have h2 := h.wflag.wflag
  (State.Keeps.ite h2.wput h2).testedBoth

theorem wardLock {b : Bool} {cause : Fld} (h : s.Keeps t) : s.Keeps (t.wardLock b cause) :=
  h.wput.wardGo

theorem wardSend {b : Bool} (h : s.Keeps t) : s.Keeps (t.wardSend b) :=
  have h1 := h.setWch
  .ite h1.put h1

theorem wardReceive {b : Bool} {x : WrdExchange} (h : s.Keeps t) : s.Keeps (t.wardReceive b x) :=
  have h2 := h.wput.setWch
  have h3 := State.Keeps.ite h2.raiseInt h2
  have h4 := State.Keeps.ite h3 h3.put
  .ite h4.wardLock h4.wardEval

theorem wardUnlock {b : Bool} (h : s.Keeps t) : s.Keeps (t.wardUnlock b) :=
  .ite (have h1 := State.Keeps.foldl (fun _ _ h2 => h2.wput) h
  (State.Keeps.ite h1.wput h1).wardGo) h

theorem wardAck (h : s.Keeps t) : s.Keeps t.wardAck :=
  .ite (.foldl (fun _ _ => wardAuto) h.wardUnlock.wardUnlock.setWch.setWch) h

theorem wardenStop (h : s.Keeps t) : s.Keeps t.wardenStop := .foldl (fun _ _ h1 => .ite h1.wardGo h1) h

theorem copyWardB (h : s.Keeps t) : s.Keeps t.copyWardB := h.setWord

theorem wardInit {b : Bool} (h : s.Keeps t) : s.Keeps (t.wardInit b) :=
  have h1 := h.setWch
  (ite h1.copyWardB h1).wardRetest

theorem wardLoad (h : s.Keeps t) : s.Keeps t.wardLoad := .ite h.copyWardB.wardRetest h

theorem wardCommitted (h : s.Keeps t) : s.Keeps t.wardCommitted :=
  have h1 := h.applyKeys
  .ite h (.foldl (fun _ _ h5 => (.ite (have h6 := h5.wardRetest
  (State.Keeps.ite (.ite h6 h6.wardGo) h5.wardGuard).wardEval) h5)) (State.Keeps.ite h1.copyWardB h1))

/-! ## Fault events -/

set_option Elab.async false in
theorem setClass {n : Nat} {c : Nat} (h : s.Keeps t) : s.Keeps (t.setClass n c) :=
  h.withFlt

theorem faultEvent {n : Nat} (h : s.Keeps t) : s.Keeps (t.faultEvent n) := by
  cases hBase : t.baseClass n with
  | none =>
    unfold State.faultEvent
    rw [hBase]
    exact h
  | some b =>
    rw [State.faultEvent_eq hBase]
    have h1 : s.Keeps (t.recordEvent n b) := by
      unfold State.recordEvent
      extract_lets _ t1 _ f
      have h1 : s.Keeps t1 := h.setClass
      refine h1.withFlt (fun hf => ?_)
      have hEvents : FaultSt.Sized f := ⟨(List.length_set ..).trans hf.1, hf.2⟩
      split
      · exact ⟨hEvents.1, by simpa using hEvents.2⟩
      · exact hEvents
    have h2 : s.Keeps ((t.recordEvent n b).raiseEvent (t.eventClass b) (t.stickyAt b)) := .ite h1.raiseInt.raiseInt h1.raiseInt
    unfold State.reportEvent
    extract_lets t3 _ t4 t5
    have h3 : s.Keeps t3 := h2.offer
    have h4 : s.Keeps t4 := .ite h3.withPwr h3
    have h5 : s.Keeps t5 := .ite h4.modDisable h4
    exact h5.galFault

theorem collect (h : s.Keeps t) : s.Keeps t.collect :=
  .ite ((State.Keeps.foldl (fun _ _ h2 => .ite h2.faultEvent h2) h.withFlt).withFlt.galDone) h

theorem ackAction {n : Nat} (h : s.Keeps t) : s.Keeps (t.ackAction n) := by
  unfold State.ackAction
  refine .ite h.tripRelease ?_
  split
  · exact .foldl (fun _ _ => feRelease) h
  · exact h.chopClear
  · exact h.ov3Release
  · exact .ite h.writeEn h
  · exact h.wardAck
  · exact h.wardAck
  · exact h.wardAck
  · exact h

theorem ackSource {n : Nat} (h : s.Keeps t) : s.Keeps (t.ackSource n) :=
  .ite h (have h1 := h.ackAction
  .ite h1 h1.withFlt.setClass.offer)

theorem answerPartner (h : s.Keeps t) : s.Keeps t.answerPartner := .foldl (fun _ _ h1 => .ite h1.twinSay.setMb h1) h

theorem endClock (h : s.Keeps t) : s.Keeps t.endClock := h.withStr

theorem settle (h : s.Keeps t) : s.Keeps t.settle := h.collect.answerPartner.aliveFollow.endClock

/-! ## Host ports -/

-- asStopped is only read

theorem hostWord {now : Straps} {a : Nat} (h : s.Keeps t) : s.Keeps (t.hostWord now a).2 := by
  unfold State.hostWord
  split
  · exact .pairSnd h
  · split
    · exact .pairSnd h
    · split
      · exact .pairSnd h
      · split
        · exact .pairSnd h
        · split
          · extract_lets t8
            have h8 : s.Keeps t8.2 := h.readWinner
            exact .pairSnd h8
          · split
            · exact .pairSnd h
            · exact .pairSnd h
            · exact .pairSnd h

theorem rcField {a : Nat} {ret : Word} {f : FieldRow} (h : s.Keeps t) : s.Keeps (t.rcField a ret f) :=
  h.put

theorem readWordEffect {a : Nat} {ret : Word} (h : s.Keeps t) : s.Keeps (t.readWordEffect a ret) := by
  unfold State.readWordEffect
  split
  · exact h
  · refine .ite h ?_
    extract_lets _ _ _ t1 _ t2 _ t3 t4 t5
    have h1 : s.Keeps t1 := .ite h.armInt h
    have h2 : s.Keeps t2 := .ite h.armInt h
    have h3 : s.Keeps t3 := .ite h.armInt h
    have h4 : s.Keeps t4 := .ite h3.armInt h3
    have h5 : s.Keeps t5 := .ite h4.armInt h4
    split
    · exact h.withFlt (fun hf => ⟨by simpa only [List.length_set] using hf.1, by simpa only [List.length_set] using hf.2⟩)
    · exact .ite h.put h
    · refine .ite h1.withStr (.ite h2.withStr ?_)
      exact .foldl (fun _ _ h7 => h7.rcField) (ite h5.armInt h5)

theorem readEffects {b : Nat} {ws : List Word} (h : s.Keeps t) : s.Keeps (t.readEffects b ws) := by
  unfold State.readEffects
  refine .ite ?_ (.foldl (fun _ _ h2 => h2.readWordEffect) h)
  split
  next hLog =>
    refine .ite (h.withStr (fun hs => ⟨?_, hs.2⟩)) h
    have hLength : t.str.log.length ≤ 4096 := hs.1
    rw [hLog, List.length_cons] at hLength
    exact Nat.le_of_succ_le hLength
  next => exact h

theorem writePend {k : Nat} {v : Word} (h : s.Keeps t) : s.Keeps (t.writePend k v) :=
  h.withInt

theorem writeEnables {k : Nat} {v : Word} (h : s.Keeps t) : s.Keeps (t.writeEnables k v) :=
  h.withInt

set_option Elab.async false in
theorem writeTargets {j : Nat} {v : Word} (h : s.Keeps t) : s.Keeps (t.writeTargets j v) :=
  h.withInt

theorem writeFallback {t' : Nat} {v : Word} (h : s.Keeps t) : s.Keeps (t.writeFallback t' v) := h.withInt

theorem hostMark {v : Nat} (h : s.Keeps t) : s.Keeps (t.hostMark v) := h.offer

theorem plainWrite {r : RegRow} {a : Nat} {v : Word} (h : s.Keeps t) : s.Keeps (t.plainWrite r a v) :=
  h.setWord

theorem hostStart {mask : Nat} (h : s.Keeps t) : s.Keeps (t.hostStart mask) := .ite (.foldl (fun _ _ h1 => h1.adcStart) h) h

theorem hostMembers {a : Nat} (h : s.Keeps t) : s.Keeps (t.hostMembers a) := by
  unfold State.hostMembers
  split
  · exact .ite h.gseNew h
  · exact h

theorem hostEffect {a : Nat} {v : Word} (h : s.Keeps t) : s.Keeps (t.hostEffect a v) := by
  unfold State.hostEffect
  split
  · exact h
  · refine .ite h.hostStart ?_
    refine .ite h.writeRun ?_
    refine .ite h.writeEn ?_
    refine .ite h.tripClears ?_
    refine .ite h.feClear ?_
    refine .ite h.hostMark ?_
    refine .ite h.wardCtrl ?_
    refine .ite (.ite h.rxPop h) ?_
    refine .ite ?_ ?_
    · extract_lets t1 t2
      have h1 : s.Keeps t1 := h.plainWrite
      have h2 : s.Keeps t2 := h1.flag
      exact .ite h2.servoReset h2
    refine .ite h.writeSecond ?_
    refine .ite h.timeStep ?_
    refine .ite h.servo ?_
    refine .ite h.gseForce ?_
    refine .ite h.galHost ?_
    refine .ite h.galFree ?_
    refine .ite ?_ ?_
    · extract_lets t3
      have h3 : s.Keeps t3 := h.plainWrite
      exact .ite h3.put h3
    split
    · exact h.writePend
    · exact h.writeEnables
    · exact h.writeTargets
    · exact h.writeFallback
    · exact h.plainWrite.hostMembers

theorem writeTx {j : Nat} {o : Nat} {v : Word} (h : s.Keeps t) : s.Keeps (t.writeTx j o v) :=
  .ite h.txControl (.ite h (h.withNet (fun hn => hn.setTx (hn.slot _))))

theorem doorbell {p : Port} {n : Nat} {v : Word} (h : s.Keeps t) : s.Keeps (t.doorbell p n v) := .ite h.ring h

theorem hostCommit {p : Port} {a : Nat} {v : Word} (h : s.Keeps t) : s.Keeps (t.hostCommit p a v) := by
  unfold State.hostCommit
  refine .ite (.ite h.writeTx h) ?_
  split
  · exact h
  · exact .ite h (.ite (.ite h.doorbell (.ite (.ite h.plainWrite h) h.plainWrite))
      (.ite h (.ite (h.twinWrite h.hostEffect) h.hostEffect)))

theorem setPort {p : Port} {x : PortSt} (h : s.Keeps t) : s.Keeps (t.setPort p x) := by
  unfold State.setPort
  split
  · exact h.withBus
  · exact h.withSpiPort

theorem itemWords {now : Straps} {b n : Nat} (h : s.Keeps t) : s.Keeps (t.itemWords now b n).2 := by
  induction n generalizing t b with
  | zero => exact h
  | succ n ih => exact ih h.hostWord

theorem capture {p : Port} {now : Straps} {a : Nat} (h : s.Keeps t) : s.Keeps (t.capture p now a).2 := by
  have hFresh : s.Keeps ((t.itemWords now (itemAt (a - a % 4)).1 (itemAt (a - a % 4)).2).2) := h.itemWords
  unfold State.capture
  split
  · exact .iteSnd (.pairSnd h.setPort) hFresh.setPort
  · exact hFresh.setPort

theorem finish {c : Captured} (h : s.Keeps t) : s.Keeps (t.finish c) := .ite h.readEffects h

set_option Elab.async false in
theorem portRead {p : Port} {now : Straps} {a : Nat} (h : s.Keeps t) : s.Keeps (t.portRead p now a).2 :=
  .pairSnd h.capture.finish

theorem commitItem {p : Port} {b : Nat} {ws : List Word} (h : s.Keeps t) : s.Keeps (t.commitItem p b ws) :=
  .foldl (fun _ _ h2 => h2.hostCommit) h.setPort

theorem portWrite {p : Port} {a : Nat} {v : Nat} (h : s.Keeps t) : s.Keeps (t.portWrite p a v) :=
  .ite h.setPort h.commitItem

/-! ## Blocks -/

theorem startCalibration (h : s.Keeps t) : s.Keeps t.startCalibration :=
  .ite (.ite h.withRve.withPwr.calStart h.withPwr) h

theorem portsInit {p : Nat} (h : s.Keeps t) : s.Keeps (t.portsInit p) :=
  .foldl (fun _ _ h2 => (have h3 := State.Keeps.ite h2.askTx h2
  .ite h3.askRx h3)) h

theorem polderInit {p : Nat} (h : s.Keeps t) : s.Keeps (t.polderInit p) :=
  match p with
  | 0 => h.startCalibration
  | 1 => h.withFlt.put.twinEnable.loadWear.startCalibration
  | 5 => h.portsInit.startCalibration
  | 6 => h.portsInit.startCalibration
  | 7 => h.armInt.startCalibration
  | 8 => startCalibration (.foldl (fun _ _ => gseNew) h)
  | 9 => h.armInt.startCalibration
  | 10 => h.armInt.armInt.showFunction.tripKeys.loadSwitching.startCalibration
  | 11 => startCalibration (.foldl (fun _ _ h4 => h4.setWord) h)
  | 12 => startCalibration (.foldl (fun _ _ h5 => h5.setTrims) h)
  | 13 => h.drive.startCalibration
  | 14 => h.wardInit.startCalibration
  | 15 => h.wardInit.startCalibration
  | 2 | 3 | 4 => h.startCalibration
  | _ + 16 => h.startCalibration

theorem takeWiring (h : s.Keeps t) : s.Keeps t.takeWiring :=
  h.withFlt

theorem loadInit (h : s.Keeps t) : s.Keeps t.loadInit :=
  h.takeWiring.wardLoad.loadWear.twinEnable

theorem applyCommit {old : List (Nat × Word)} (h : s.Keeps t) : s.Keeps (t.applyCommit old) :=
  have h4 := h.applyKeys.modCommitted.wardCommitted.lpeCommitted.netCommitted
  have h5 := State.Keeps.ite h4.winKeys h4
  have h6 := State.Keeps.ite (.foldl (fun _ _ => ntcRefresh) h5) h5
  have h7 := State.Keeps.ite (.ite h6.unalign.drive h6.unalign) h6
  have h8 := State.Keeps.ite (.foldl (fun _ _ h9 => .ite h9.showAsleep h9) h7) h7
  (State.Keeps.ite h8.restartHours h8).twinEnable

theorem committed {old : List (Nat × Word)} (h : s.Keeps t) : s.Keeps (t.committed old) :=
  .ite (h.withTwn) h.applyCommit

/-! ## Commands: supplies and start-up -/

theorem reset {v : PowerSt} {p : PinSt} {n : Nat} (h : s.Keeps t) (hOff : v.on = State.reset.pwr.on ∨ v.on = 0) :
    s.Keeps { State.reset with vlt := t.vlt.nonVolatile, pwr := v, pins := p, free := n, pending := t.pending } := by
  have hNine : v.on.getLsbD 9 = false := by
    rcases hOff with hOff | hOff <;> rw [hOff] <;> rfl
  exact {
    queue := h.queue
    inv := fun hi => { State.reset_inv with slots := VltSt.Canonical.nonVolatile (h.inv hi).slots }
    memory := .inr ⟨rfl, hNine⟩
    staysOff := fun _ => hNine }

theorem execVcrestRise {straps : Straps} {suppliesGood vio3 : Bool} {vio : BitVec 2} (h : s.Keeps t) :
    s.Leads (execVcrestRise straps suppliesGood vio3 t vio) := .ite (.next h) (.next (h.reset (.inl rfl)))

theorem execVcrestFall (h : s.Keeps t) : s.Leads (execVcrestFall t) :=
  .ite (.next (h.cutCommit.reset (.inr rfl))) (.next h)

theorem setBanks {vio3 : Bool} {vio : BitVec 2} {guards : BitVec 4} (h : s.Keeps t) : s.Keeps (t.setBanks vio3 vio guards) :=
  h.withPwr.withPwr

set_option Elab.async false in
theorem execSupplyLost {vio3 : Bool} {vio : BitVec 2} {monitored : Bool} {guards : BitVec 4} (h :
    s.Keeps t) : s.Leads (execSupplyLost t vio3 vio monitored guards) :=
  have h1 := h.setBanks
  have h3 := h1.withPwr.withPins
  .ite (.next h1) (.ite (.next h3.cutCommit.put.toCrest) (.next h3))

theorem execSupplyReturn {vio3 : Bool} {vio : BitVec 2} {monitored : Bool} {guards : BitVec 4} (h :
    s.Keeps t) : s.Leads (execSupplyReturn t vio3 vio monitored guards) :=
  have h1 := h.setBanks
  have h2 := h1.withPwr
  .ite (.next h1) (.ite (.next h2.put.withPwr) (.next h2))

theorem wake {w : WakeSource} (h : s.Keeps t) : s.Keeps (t.wake w) := by
  unfold State.wake
  split
  · exact h.withPwr.put
  · exact h.withPwr.put
  · exact h.withPwr.put
  · extract_lets _ t1 t2
    have h1 : s.Keeps t1 := h.withPwr
    have h2 : s.Keeps t2 := h1.put
    exact .ite h2.laneHeard.askRx.demand h2

theorem wakeEvent {w : WakeSource} (h : s.Keeps t) : s.Keeps (t.wakeEvent w) := .ite h.wake h

theorem execWakenLow {held : Bool} (h : s.Keeps t) : s.Leads (execWakenLow held t) := .next h.withPwr.wakeEvent.settle

theorem execLaneWakeLatch {port : Nat} (h : s.Keeps t) : s.Leads (execLaneWakeLatch port t) := .next h.wakeEvent.settle

theorem execDripAlarm (h : s.Keeps t) : s.Leads (execDripAlarm t) :=
  .ite (.next h.setWord.wakeEvent.settle) (.next h)

theorem execGuardChangeAccepted {land : Nat} {level : Bool} (h : s.Keeps t) : s.Leads (execGuardChangeAccepted land level t) :=
  .ite (.next h.withPwr.wakeEvent.settle) (.next h)

theorem execVio3BecomesPresent {guards : BitVec 4} (h : s.Keeps t) : s.Leads (execVio3BecomesPresent guards t) := .next h.withPwr

theorem execWakeDuringAwake {source : WakeSource} (h : s.Keeps t) : s.Leads (execWakeDuringAwake source t) :=
  .ite (.next h.wakeEvent.settle) (.next h)

theorem execDripOkSet {guards : BitVec 4} (h : s.Keeps t) : s.Leads (execDripOkSet t guards) :=
  .ite (.next (State.Keeps.ite h.withPwr h).withPwr.put.withDripLost.settle) (.next h)

theorem execDripClockLost (h : s.Keeps t) : s.Leads (execDripClockLost t) :=
  .ite (.next h.withPwr.put.withDripLost.settle) (.next h)

theorem execAliveDividerEdge (h : s.Keeps t) : s.Leads (execAliveDividerEdge t) :=
  have h1 := h.spaced
  .ite (.ite (.next h1.withFlt) (.next h1.withFlt)) (.next h1.withFlt)

theorem execStartUp (h : s.Keeps t) : s.Leads (execStartUp t) :=
  .ite (.next h.withPwr.startNext) (.next h)

set_option Elab.async false in
theorem beginLock {full : Bool} (h : s.Keeps t) : s.Keeps (t.beginLock full) :=
  h.withClk.put.put.put.put

theorem waitInService (h : s.Keeps t) : s.Keeps t.waitInService := .ite h.withPwr h

theorem awaitP0 {full : Bool} (h : s.Keeps t) : s.Keeps (t.awaitP0 full) := h.put.put.withClk

theorem execPolderStartFailure {polder : Nat} (h : s.Keeps t) : s.Leads (execPolderStartFailure polder t) :=
  .ite (.next h.withPwr.fault.settle) (.next h)

theorem execCulvertPolderIdleStop {polder : Nat} (h : s.Keeps t) : s.Leads (execCulvertPolderIdleStop polder t) :=
  .ite (.next h.polderOff.settle) (.next h)

theorem execStartUpThermalReading {reading : BitVec 16} (h : s.Keeps t) : s.Leads (execStartUpThermalReading reading t) :=
  .ite (have h1 := h.takeReading
  .ite (.next h1.cutCommit.put.withPwr.dropWake.toCrest) (.next h1.withPwr.writeOpportunity.waitInService.settle)) (.next h)

theorem execStartUpPoldersAndCalibration (h : s.Keeps t) : s.Leads (execStartUpPoldersAndCalibration t) :=
  .ite (.next h.withPwr.demand) (.next h)

theorem execReadyEntered (h : s.Keeps t) : s.Leads (execReadyEntered t) := by
  unfold Machine.execReadyEntered
  extract_lets _ _ _ _ _ t1 _ t2 _ _ t3 t4 t5
  have h1 : s.Keeps t1 := h.withPwr.withFlt
  have h2 : s.Keeps t2 := by
    unfold t2
    split
    · exact h1.respond.withClk
    · exact h1
  have h3 : s.Keeps t3 := h2.withClk.withVlt
  have h4 : s.Keeps t4 := .ite h3.txIdle.demand h3
  have h5 : s.Keeps t5 := h4.enAtReady
  refine .ite (.next (ite h5.raiseInt h5).settle) ?_
  exact .next h

theorem execP0ClockPresent (h : s.Keeps t) : s.Leads (execP0ClockPresent t) :=
  .ite (.next h.put.beginLock) (.next h)

theorem execPllLockDeclared {bandEdge : BitVec 6} {bandLane : BitVec 6} (h : s.Keeps t) : s.Leads (execPllLockDeclared bandEdge bandLane t) := by
  unfold Machine.execPllLockDeclared
  extract_lets done t1
  have hDone : s.Keeps (done t) := h.put.put.put.put.put.put.put.put.put.putS.withClk
  have h1 : s.Keeps t1 := hDone
  split
  · exact .next h
  · exact .next hDone.settle
  · extract_lets t2 t3 _ _ t4 t5 _ _ t6 _ t7 _ t8
    have h2 : s.Keeps t2 := .ite h1.bump h1.bump
    have h3 : s.Keeps t3 := h2.put
    have h4 : s.Keeps t4 := h3.withPwr.withClk
    have h5 : s.Keeps t5 := h2.put
    have h6 : s.Keeps t6 := h5.withClk.withPwr
    have h7 : s.Keeps t7 := by
      unfold t7
      split
      · exact h2
      · exact .ite h4.respond (.ite h6.demand h2.put.respond.withClk)
    have h8 : s.Keeps t8 := .ite h7.withPwr h7
    exact .next h8.portsInit.portsInit.settle

theorem execStoredBandAbandoned (h : s.Keeps t) : s.Leads (execStoredBandAbandoned t) :=
  .ite (.next h.withClk) (.next h)

theorem execPllNoLock (h : s.Keeps t) : s.Leads (execPllNoLock t) := by
  unfold Machine.execPllNoLock
  refine .ite ?_ (.next h)
  extract_lets t1 t2 _ t3 _ _ t4 _ _ t5
  have h1 : s.Keeps t1 := h.put
  have h2 : s.Keeps t2 := h1.put
  have h3 : s.Keeps t3 := h2.withClk
  have h4 : s.Keeps t4 := by
    unfold t4
    split
    · exact h3.respond.withClk
    · exact h3
  have h5 : s.Keeps t5 := .ite h4.withPwr.withClk h4
  exact .next h5.settle

theorem execLockRetry {p0Clock : Bool} (h : s.Keeps t) : s.Leads (execLockRetry p0Clock t) :=
  .ite (.ite (.next h.beginLock) (.next h.awaitP0)) (.next h)

theorem holdover {refLost : Bool} (h : s.Keeps t) : s.Keeps (t.holdover refLost) :=
  .ite (h.put.put.flag.bump.alignHoldover) h

set_option Elab.async false in
theorem execPllHoldoverEntry {refLost : Bool} (h : s.Keeps t) : s.Leads (execPllHoldoverEntry refLost t) :=
  .ite (.next h.holdover.settle) (.next h)

theorem execPllReengage (h : s.Keeps t) : s.Leads (execPllReengage t) :=
  .ite (.next h.put.put.put.alignReengaged.withClk.settle) (.next h)

theorem execReengagementFailed (h : s.Keeps t) : s.Leads (execReengagementFailed t) :=
  .ite (.next h.put.withClk.alignHoldover.fault.settle) (.next h)

theorem execHoldoverTooLong (h : s.Keeps t) : s.Leads (execHoldoverTooLong t) :=
  .ite (.next h.put.withClk.settle) (.next h)

theorem execSyncInEdge {falling : Bool} {phase : BitVec 7} (h : s.Keeps t) : s.Leads (execSyncInEdge falling phase t) :=
  .ite (.ite (.next h.withClk) (.next h.put.put)) (.next h)

theorem execSleep {n : Nat} (h : s.Keeps t) : s.Leads (execSleep n t) :=
  .ite (.ite (.next h.respond) (.ite (.next h.respond) (.next h.withPwr.clearWake.wardenStop.respond.withCul.setMb.settle))) (.next h)

theorem execCrestStandbyReached (h : s.Keeps t) : s.Leads (execCrestStandbyReached t) :=
  .ite (have h1 := h.toCrest
  .ite (execStartUp (h1)) (.next h1)) (.next h)

theorem toService (h : s.Keeps t) : s.Keeps t.toService := by
  unfold State.toService
  extract_lets t1 t2
  have h1 : s.Keeps t1 := by
    unfold t1
    split
    · exact h.respond
    · exact h
  have h2 : s.Keeps t2 := h1.poldersOff
  exact h2.withPwr

theorem execClockRelock {n : Nat} (h : s.Keeps t) : s.Leads (execClockRelock n t) :=
  .ite (have h1 := h.runOn
  have h6 := (State.Keeps.ite h1.toService h1).put.put.put.put.withClk
  .ite (.next h.respond) (.ite (.next h.respond) (.ite (.next h.respond) (.ite (.next h.respond) (.next (ite h6.awaitP0 h6.beginLock).settle)))))
    (.next h)

/-! ## Rings -/

theorem ringStage {n : Nat} {k : Nat} (h : s.Keeps t) : s.Keeps (t.ringStage n k) := h.setMb

theorem discovered {r : Nat} {ids : List Nat} (h : s.Keeps t) : s.Keeps (t.discovered r ids) :=
  .foldl (fun _ _ h5 => (h5.setWord)) h.put.put.put

theorem placeDevice {r : Nat} {q : Nat} {id : Option Nat} (h : s.Keeps t) : s.Keeps (t.placeDevice r q id) :=
  h.sendOwn.sendOwn

theorem sendDiscovery {r : Nat} (h : s.Keeps t) : s.Keeps (t.sendDiscovery r) := .foldl (fun _ _ h1 => h1.send) h

theorem identifyAll {rs : List Nat} {found : List (List Nat)} (h : s.Keeps t) : s.Keeps (t.identifyAll rs found) :=
  .foldl (fun _ _ h1 => .foldl (fun _ _ h2 => h2.sendOwn) h1) h

set_option Elab.async false in
theorem placeAll {n : Nat} {found : List (List Nat)} (h : s.Keeps t) : s.Keeps (t.placeAll n found) := by
  unfold State.placeAll
  extract_lets _ _ _ _ _ _ _ _ t1 _ t2
  have h1 : s.Keeps t1 := by
    refine .foldl (fun _ _ h6 => ?_) h
    refine .foldl (fun _ _ h8 => ?_) h6
    extract_lets
    exact h8.placeDevice
  have h9 : s.Keeps t2 := h1.setMb
  exact h9.withCul

theorem discoverTide {n : Nat} (h : s.Keeps t) : s.Keeps (t.discoverTide n) := by
  unfold State.discoverTide
  extract_lets _ _ _ begin _ t1
  have hBegin (u : State) (hu : s.Keeps u) : s.Keeps (begin u) := by
    unfold begin
    split
    · exact .ite hu.deviceCommit.setMb hu
    · exact hu.respond
  have h1 : s.Keeps t1 := h.withVlt.setMb
  refine .ite h (.ite (.ite (foldl (fun _ _ h4 => h4.discovered) h).ringStage h) (.ite h (.ite ?_ (hBegin t h))))
  split
  · exact .ite (hBegin t1 h1) h1.respond
  · exact h

theorem ringTide (h : s.Keeps t) : s.Keeps t.ringTide :=
  .foldl (fun _ _ => discoverTide) (h.withRve (by simp))

theorem nextMessage {r : Nat} (h : s.Keeps t) : s.Keeps (t.nextMessage r) := by
  unfold State.nextMessage
  refine .ite h ?_
  split
  · exact h
  · extract_lets
    exact h.withCul.setRemote

/-! ## Commands: the Culvert -/

theorem execRxClockDetect {port : Nat} (h : s.Keeps t) : s.Leads (execRxClockDetect port t) :=
  .ite (.next h.put.rxState.settle) (.next h)

theorem execRxWordLock {port : Nat} (h : s.Keeps t) : s.Leads (execRxWordLock port t) :=
  .ite (.next h.rxState.settle) (.next h)

theorem execRxDeskewSet {port : Nat} {tap : BitVec 6} (h : s.Keeps t) : s.Leads (execRxDeskewSet port tap t) :=
  .ite (.next h.put.rxState.settle) (.next h)

theorem execRxUp {port : Nat} {codeErrors : Nat} (h : s.Keeps t) : s.Leads (execRxUp port t codeErrors) :=
  .ite (.next h.codeErrors.rxState.settle) (.next h)

theorem rxLost {p : Nat} {v : Nat} (h : s.Keeps t) : s.Keeps (t.rxLost p v) :=
  have h1 := h.rxState
  have h2 := State.Keeps.ite h1.leftUp h1
  .ite h2.sleepTx.put h2

theorem execRxDown {port : Nat} {codeErrors : Nat} (h : s.Keeps t) : s.Leads (execRxDown port t codeErrors) :=
  .ite (have h1 := h.codeErrors.put.rxLost
  .next (State.Keeps.ite h1.holdover h1).settle) (.next h)

theorem execRxRealign {port : Nat} {codeErrors : Nat} (h : s.Keeps t) : s.Leads (execRxRealign port codeErrors t) :=
  .ite (.next h.codeErrors.rxLost.settle) (.next h)

theorem execPortReady {port : Nat} (h : s.Keeps t) : s.Leads (execPortReady port t) :=
  .ite (.next h.put) (.next h)

theorem execPortStatusReceived {port : Nat} {status : BitVec 8} {codeErrors : Nat} (h :
    s.Keeps t) : s.Leads (execPortStatusReceived port status t codeErrors) :=
  .ite (.next h.codeErrors.flag.peerRooted.flag.setCport.updateUsable.settle) (.next h)

theorem execReferencePortChange (h : s.Keeps t) : s.Leads (execReferencePortChange t) :=
  .ite (execPllHoldoverEntry (h.withCul.withCul)) (.next h)

set_option Elab.async false in
theorem execLaneActivity {port : Nat} (h : s.Keeps t) : s.Leads (execLaneActivity port t) :=
  .ite (have h1 := h.laneHeard
  .next (ite h1.askRx.demand h1).settle) (.next h)

theorem execAlignAverageComplete {delta : Int} (h : s.Keeps t) : s.Leads (execAlignAverageComplete delta t) :=
  .ite (have h1 := h.putS
  have h3 := h1.putS.putS
  .ite (.ite (.next h3.withCul.setAlign.settle) (.ite (.ite (.next h3.setAlign.fault.settle) (.next h3.stepAlign)) (.next h3))) (.next h1)) (.next h)

theorem execTriggerTokenRaise {line : Nat} {offset : Nat} (h : s.Keeps t) : s.Leads (execTriggerTokenRaise line offset t) :=
  .ite (.next h.raiseToken) (.next h)

theorem execPeriodicUnwrap {ring : Nat} (h : s.Keeps t) : s.Leads (execPeriodicUnwrap ring t) :=
  .ite (.next h.withCul) (.next h)

theorem execMessageAckTimeout {ring : Nat} (h : s.Keeps t) : s.Leads (execMessageAckTimeout ring t) := by
  unfold Machine.execMessageAckTimeout
  refine .ite ?_ ?_
  · split
    · refine .ite (.next h.setRemote) ?_
      exact .next h
    · exact .next h
  refine .ite ?_ (.next h)
  extract_lets
  exact .next h.withCul

theorem execMessageBusyRetry {ring : Nat} (h : s.Keeps t) : s.Leads (execMessageBusyRetry ring t) := by
  unfold Machine.execMessageBusyRetry
  split
  · refine .ite (.next h.setRemote) ?_
    exact .next h
  · exact .next h

theorem execRemoteTimeout {ring : Nat} (h : s.Keeps t) : s.Leads (execRemoteTimeout ring t) := by
  unfold Machine.execRemoteTimeout
  split
  · exact .next h.setRemote.respond
  · exact .next h

theorem execRemote {n : Nat} (h : s.Keeps t) : s.Leads (execRemote n t) := by
  unfold Machine.execRemote
  refine .ite (.ite (.next h.respond) (.ite (.next h.respond) ?_)) (.next h)
  split
  · exact .next (h.needPolders _ ‹_›)
  · exact .ite (.next h.respond) (.next h.runOn.setRemote)

theorem execLaneSleep {n : Nat} (h : s.Keeps t) : s.Leads (execLaneSleep n t) := by
  unfold Machine.execLaneSleep
  refine .ite ?_ (.next h)
  extract_lets _ _ _ t1 t2 _ t3 t4
  have h1 : s.Keeps t1 := h.withPwr
  have h2 : s.Keeps t2 := .ite h1.sleepTx h1
  have h3 : s.Keeps t3 := h2.sleepRx
  have h4 : s.Keeps t4 := .ite (.ite h3.leftUp h3) h2
  split
  · exact .next h.respond
  · refine .ite (.next h.respond) ?_
    refine .ite (.next h4.respond.settle) ?_
    exact .next h1.respond

theorem execLaneWake {n : Nat} (h : s.Keeps t) : s.Leads (execLaneWake n t) := by
  unfold Machine.execLaneWake
  refine .ite ?_ (.next h)
  extract_lets _ _ t1 t2 _ t3
  have h1 : s.Keeps t1 := .ite h.askTx h
  have h2 : s.Keeps t2 := .ite h1.askRx h1
  have h3 : s.Keeps t3 := h.withPwr
  split
  · exact .next h.respond
  · refine .ite (.next h.respond) ?_
    refine .ite (.next h2.respond.settle) ?_
    exact .next h3.demand.respond

theorem execRingDiscover {n : Nat} {found : List (List Nat)} (h : s.Keeps t) : s.Leads (execRingDiscover n found t) := by
  unfold Machine.execRingDiscover
  refine .ite (.ite (.next h.respond) (.ite (.next h.respond) ?_)) (.ite ?_ (.next h))
  · split
    · exact .next (h.needPolders _ ‹_›)
    · exact .ite (.next h.respond) (.next h.runOn.ringStage)
  · split
    · exact .next (.ite h.identifyAll.ringStage h)
    · exact .next (.ite h.placeAll.ringStage h)
    · exact .next h

theorem execRingAlign {n : Nat} {loops : List Nat} {aligned : Bool} {wraps : BitVec 4} (h :
    s.Keeps t) : s.Leads (execRingAlign n loops aligned t wraps) := by
  unfold Machine.execRingAlign
  refine .ite (.ite (.next h.respond) (.ite (.next h.respond) ?_)) (.ite ?_ (.next h))
  · split
    · exact .next (h.needPolders _ ‹_›)
    · exact .ite (.next h.respond) (.next (foldl (fun _ _ h2 => h2.withCul) h).runOn.ringStage)
  · split
    · exact .ite (.next (foldl (fun _ _ h4 => h4.put.put) h).ringStage) (.next h)
    · exact .ite (.next (foldl (fun _ _ h6 => h6.put.flag) h).respond.settle) (.ite (.next h.respond) (.next h))

theorem execWakeRemote {n : Nat} {woke : Bool} {ready : Bool} (h : s.Keeps t) : s.Leads (execWakeRemote n woke t ready) := by
  unfold Machine.execWakeRemote
  refine .ite (.ite (.next h.respond) (.ite (.next h.respond) ?_)) (.ite ?_ (.next h))
  · split
    · exact .next (h.needPolders _ ‹_›)
    · exact .ite (.next h.respond) (.next h.wakeNext.runOn.ringStage.settle)
  · split
    · exact .ite (.next h.withCul.ringStage) (.ite (.next h.respond) (.next h))
    · exact .ite (.next h.ringStage.internalCommit.settle) (.ite (.next h.respond) (.next h))
    · exact .next h

/-! ## Commands: gate drive -/

theorem execDesaturation {channel : Nat} (h : s.Keeps t) : s.Leads (execDesaturation channel t) :=
  .next (ite (.ite h.chopFault h.hbFault.drive) h).settle

set_option Elab.async false in
theorem execChannelUndervoltage {channel : Nat} {under : Bool} (h : s.Keeps t) : s.Leads (execChannelUndervoltage channel under t) :=
  .next (settle (.ite (h.put.drive) h))

theorem execBothOnRefused {hb : Nat} (h : s.Keeps t) : s.Leads (execBothOnRefused hb t) := .next (ite h.hbFault.drive h).settle

theorem execHalfBridgeHoldEnd {hb : Nat} (h : s.Keeps t) : s.Leads (execHalfBridgeHoldEnd hb t) :=
  .next (settle (.ite ((h.put.withGdr (by simp)).raiseInt.drive) h))

theorem execDieRefreshLoss {channel : Nat} (h : s.Keeps t) : s.Leads (execDieRefreshLoss channel t) :=
  .ite (have h1 := h.withPins
  .next (.ite h1.put.flag h1)) (.next h)

theorem execBootstrapWarn {hb : Nat} (h : s.Keeps t) : s.Leads (execBootstrapWarn hb t) :=
  .next (.ite (.ite h h.put) h)

theorem execBootstrapMaxReached {hb : Nat} {offIn : Option Nat} (h : s.Keeps t) : s.Leads (execBootstrapMaxReached hb offIn t) :=
  .next (settle (.ite (.ite h.hbFault.drive (.ite h (h.bump.withGdr.drive))) h))

theorem execDieBootstrapLimit {hb : Nat} (h : s.Keeps t) : s.Leads (execDieBootstrapLimit hb t) := .next (ite h.hbFault.drive h).settle

theorem execOvComparatorChange {k : Nat} {above : Bool} (h : s.Keeps t) : s.Leads (execOvComparatorChange k above t) :=
  .next (ite h.ovSet.drive h).settle

theorem execChopperTurnOn (h : s.Keeps t) : s.Leads (execChopperTurnOn t) :=
  .next (settle (.ite (h.withGdr.put.bump.drive) h))

theorem execChopperTurnOff (h : s.Keeps t) : s.Leads (execChopperTurnOff t) := .next (ite h.withGdr.drive h).settle

theorem execChopperCheckFailed (h : s.Keeps t) : s.Leads (execChopperCheckFailed t) := .next (ite h.chopFault h).settle

theorem execBusMonitorSample {value : BitVec 12} (h : s.Keeps t) : s.Leads (execBusMonitorSample value t) :=
  .next (.ite (have h1 := h.put
  .ite h1.withGdr h1) h)

theorem execSluiceMismatch {a : Bool} {b : Bool} (h : s.Keeps t) : s.Leads (execSluiceMismatch a b t) :=
  .next (settle (.ite (h.flag.flag.put.raiseInt.fault) h))

/-! ## Commands: faults -/

theorem execFaultAck {n : Nat} (h : s.Keeps t) : s.Leads (execFaultAck n t) :=
  .ite (.ite (.next h.respond) (.ite (.next h.respond) (.next ((foldl (fun _ _ => ackSource) h).settle).respond.settle))) (.next h)

set_option Elab.async false in
theorem execFaultInject {n : Nat} {factory : Bool} (h : s.Keeps t) : s.Leads (execFaultInject n factory t) :=
  .ite (.ite (.next h.respond) (.ite (.next h.respond) (.next h.fault.withFlt.respond.settle))) (.next h)

theorem execFaultEvent {source : Nat} (h : s.Keeps t) : s.Leads (execFaultEvent source t) :=
  .ite (.next h.fault.settle) (.next h)

theorem execBrokenErrorWire {source : Nat} (h : s.Keeps t) : s.Leads (execBrokenErrorWire source t) :=
  .ite (.next h.withFlt.raiseInt.settle) (.next h)

theorem execErrorWireRestored {source : Nat} (h : s.Keeps t) : s.Leads (execErrorWireRestored source t) :=
  .ite (.next h.withFlt.settle) (.next h)

theorem execIntPendWrite {k : Nat} {value : Word} (h : s.Keeps t) : s.Leads (execIntPendWrite k value t) :=
  .ite (.next h.writePend) (.next h)

theorem execIntEnWrite {k : Nat} {value : Word} (h : s.Keeps t) : s.Leads (execIntEnWrite k value t) :=
  .ite (.next h.writeEnables) (.next h)

theorem execIntTgtWrite {j : Nat} {value : Word} (h : s.Keeps t) : s.Leads (execIntTgtWrite j value t) :=
  .ite (.next h.writeTargets) (.next h)

theorem execHsleepChange {target : Nat} {low : Bool} (h : s.Keeps t) : s.Leads (execHsleepChange target low t) :=
  .ite (.next h.withInt) (.next h)

/-- R349: the entry that the arbiter takes leaves its queue. -/
theorem takenOffer_queues {q q' : List (List StrataOffer)} {e : StrataOffer} (hTake : takeOffer q = some (e, q'))
    (hq : ∀ l ∈ q, l.length ≤ 16) : q'.length = q.length ∧ ∀ l ∈ q', l.length ≤ 16 := by
  induction q generalizing q' with
  | nil => exact nomatch hTake
  | cons l q ih =>
    cases l with
    | nil =>
      obtain ⟨r, hr, hEq⟩ := Option.map_eq_some_iff.1 hTake
      cases hEq
      obtain ⟨hNumber, hLengths⟩ := ih hr (fun l hl => hq l (.tail _ hl))
      refine ⟨congrArg (· + 1) hNumber, fun l hl => ?_⟩
      rcases List.mem_cons.1 hl with rfl | hl
      · exact Nat.zero_le 16
      · exact hLengths l hl
    | cons x l =>
      cases hTake
      refine ⟨rfl, fun k hk => ?_⟩
      rcases List.mem_cons.1 hk with rfl | hk
      · exact Nat.le_of_succ_le (hq _ (.head _))
      · exact hq k (.tail _ hk)

theorem execStrataEntryAccepted (h : s.Keeps t) : s.Leads (execStrataEntryAccepted t) := by
  unfold Machine.execStrataEntryAccepted
  split
  next r hTake =>
    refine .ite (.next (State.Keeps.acceptEntry (h.withStr (fun hs => ?_))).settle) (.next h)
    obtain ⟨hLog, hQueues, hPorts⟩ := hs
    obtain ⟨hNumber, hLengths⟩ := takenOffer_queues hTake hQueues
    exact ⟨hLog, hLengths, hNumber.trans hPorts⟩
  next => exact .next h

theorem execStrataMark {value : BitVec 16} (h : s.Keeps t) : s.Leads (execStrataMark value t) :=
  .ite (.next h.hostMark.settle) (.next h)

theorem execStrataDataRead {port : Port} (h : s.Keeps t) : s.Leads (execStrataDataRead port t) :=
  .ite (.next h.spaced.portRead.settle) (.next h)

/-! ## Commands: frames -/

theorem keepEcho {p : Nat} {f : TideFrame} (h : s.Keeps t) : s.Keeps (t.keepEcho p f) := h.setCport

theorem takeEntry {f : TideFrame} (h : s.Keeps t) : s.Keeps (t.takeEntry f) :=
  have h1 := h.withCul
  .ite h1.withCul (.ite h h1.bump.raiseInt.fault)

set_option Elab.async false in
theorem takeLoop {f : TideFrame} (h : s.Keeps t) : s.Keeps (t.takeLoop f) := by
  unfold State.takeLoop
  extract_lets _ keep _ t1
  have hKeep (x : Option (Nat × Nat × Nat)) : s.Keeps (keep x) := h.withCul
  have h1 : s.Keeps t1 := hKeep _
  refine .ite ?_ (hKeep _).put
  split
  · exact .ite h (.ite h1.put.put h1)
  · exact h1

theorem numberTide {f : TideFrame} (h : s.Keeps t) : s.Keeps (t.numberTide f) :=
  .ite h (.ite (.ite (h.put.withCul) h) (.ite h.withCul (.ite h h.withCul.raiseInt.fault)))

theorem takeRequestChunk {c : Chunk} (h : s.Keeps t) : s.Keeps (t.takeRequestChunk c) :=
  .ite (.ite h.withCul (.ite h.withCul.fillWords.ring h.withCul.ring)) h.withCul

theorem responseOut {q : Nat} {t' : Nat} (h : s.Keeps t) : s.Keeps (t.responseOut q t').2 := by
  unfold State.responseOut
  extract_lets
  split
  · exact .pairSnd h
  · exact .iteSnd (.pairSnd h.withCul) (.pairSnd h)
  · exact .pairSnd h

theorem channelOut {q : Nat} {t' : Nat} (h : s.Keeps t) : s.Keeps (t.channelOut q t').2 := by
  unfold State.channelOut
  extract_lets
  split
  · exact .iteSnd (.pairSnd h.withCul) (.iteSnd (.pairSnd h) h.responseOut)
  · exact h.responseOut

theorem takeChunk {t' : Nat} {c : Chunk} (h : s.Keeps t) : s.Keeps (t.takeChunk t' c) :=
  .ite h (have h1 := h.withCul
  .ite h1.takeRequestChunk (.ite h1.withCul h1))

theorem passChannel {f : TideFrame} (h : s.Keeps t) : s.Keeps (t.passChannel f).2 := by
  unfold State.passChannel
  extract_lets _ t1
  have h1 : s.Keeps t1 := .ite h.takeChunk h
  split
  · split
    · extract_lets t2
      have h2 : s.Keeps t2.2 := (ite h h.takeChunk).channelOut
      exact .pairSnd h2
    · exact .pairSnd h1
  · exact .pairSnd h1

theorem takeTokens {f : TideFrame} (h : s.Keeps t) : s.Keeps (t.takeTokens f) := .foldl (fun _ _ h1 => .ite h1.tokenTrigger h1) h

theorem deviceTakes {p : Nat} {f : TideFrame} (h : s.Keeps t) : s.Keeps (t.deviceTakes p f) :=
  have h1 := State.Keeps.ite h.raiseInt.fault h
  have h4 := h1.numberTide.takeLoop.takeTokens
  have h5 := State.Keeps.ite h4.withCul h4
  .ite (.ite h1.withCul h1) (.ite h5.takeEntry.keepEcho h5.keepEcho)

theorem writeRecord {f : TideFrame} (h : s.Keeps t) : s.Keeps (t.writeRecord f).2 :=
  .iteSnd (.pairSnd (.ite h.bump h)) (.pairSnd h)

theorem deviceFrame {p : Nat} {f : TideFrame} {bad : Bool} (h : s.Keeps t) : s.Keeps (t.deviceFrame p f bad) :=
  .ite h.bump (have h1 := State.Keeps.ite h h.deviceTakes
  have h5 := (State.Keeps.iteSnd (.pairSnd h1) h1.passChannel).writeRecord.withCul
  .ite h5.send h5)

theorem wrapSeen {r : Nat} {dir : Nat} {recs : List Byte} (h : s.Keeps t) : s.Keeps (t.wrapSeen r dir recs) :=
  have h2 := (State.Keeps.ite h h.put.raiseInt).withCul
  have h3 := State.Keeps.ite h2.wrapPointAt h2
  .ite h3 h3.put.withCul

theorem ackChunk {r : Nat} {c : Chunk} (h : s.Keeps t) : s.Keeps (t.ackChunk r c) := h.withCul

theorem responseChunk {r : Nat} {x : RemoteSt} {c : Chunk} (h : s.Keeps t) : s.Keeps (t.responseChunk r x c) :=
  have h1 := h.ackChunk
  .ite (.ite h1.setRemote.respondWith h1.setRemote) h.setRemote

set_option Elab.async false in
theorem stationChunk {r : Nat} {t' : Nat} {c : Chunk} (h : s.Keeps t) : s.Keeps (t.stationChunk r t' c) := by
  unfold State.stationChunk
  refine .ite ?_ ?_
  · split
    · exact .ite h.setRemote h
    · exact h
  refine .ite h ?_
  extract_lets _ t1 t2
  have h1 : s.Keeps t1 := h.withCul
  have h2 : s.Keeps t2 := .ite h1.ackChunk h1
  split
  · exact .ite h1.responseChunk h2
  · exact h2

theorem repeatTokens {f : TideFrame} (h : s.Keeps t) : s.Keeps (t.repeatTokens f) :=
  .foldl (fun _ _ h2 => (.ite h2.raiseToken h2)) h

theorem stationFrame {p : Nat} {f : TideFrame} (h : s.Keeps t) : s.Keeps (t.stationFrame p f) := by
  unfold State.stationFrame
  split
  · exact h
  · refine .ite h.raiseInt.fault ?_
    refine .ite h ?_
    extract_lets _ _ t1 t2 t3 t4 _ t5
    have h1 : s.Keeps t1 := h.withCul
    have h2 : s.Keeps t2 := .ite h1.wrapSeen h1
    have h3 : s.Keeps t3 := h2.takeTokens
    have h4 : s.Keeps t4 := h3.repeatTokens
    have h5 : s.Keeps t5 := .ite h4.stationChunk h4
    exact h5.twinRingFrame

theorem execTideFrameReceived {port : Nat} {frame : TideFrame} {codeErrors : Nat} (h :
    s.Keeps t) : s.Leads (execTideFrameReceived port frame t codeErrors) :=
  have h1 := h.heardErrors
  have h2 := State.Keeps.ite h1.bump h1
  have h7 := State.Keeps.ite h2 h2.flag.peerRooted.flag.setCport.updateUsable
  .ite (.next (State.Keeps.ite (.ite h7 h7.stationFrame) h7.deviceFrame).settle) (.next h1)

/-! ## Commands: the Gallery -/

theorem execGalTrigWrite {mask : BitVec 16} (h : s.Keeps t) : s.Leads (execGalTrigWrite mask t) := .next h.galHost.settle

theorem execHoldoffEnd {profile : Nat} (h : s.Keeps t) : s.Leads (execHoldoffEnd profile t) :=
  .ite (.next h.holdOver.settle) (.next h)

theorem execGalFreeWrite {index : BitVec 16} (h : s.Keeps t) : s.Leads (execGalFreeWrite index t) := .next h.galFree

theorem execCaptureArm {n : Nat} (h : s.Keeps t) : s.Leads (execCaptureArm n t) := by
  unfold Machine.execCaptureArm
  refine .ite (.ite (.next h.respond) ?_) (.next h)
  split
  · exact .next (h.needPolders _ ‹_›)
  · refine .ite (.next h.respond) ?_
    split
    · exact .next h.fillSlot.respond
    · exact .next h.respond

theorem execCaptureRead {n : Nat} (h : s.Keeps t) : s.Leads (execCaptureRead n t) := by
  unfold Machine.execCaptureRead
  refine .ite ?_ (.next h)
  split
  · exact .next (h.needPolders _ ‹_›)
  · split
    · exact .next h.respond
    · exact .next h.respond

theorem execCaptureDisarm {n : Nat} (h : s.Keeps t) : s.Leads (execCaptureDisarm n t) := by
  unfold Machine.execCaptureDisarm
  refine .ite (.ite (.next h.respond) ?_) (.next h)
  split
  · exact .next (h.needPolders _ ‹_›)
  · exact .next h.galState.respond

/-! ## Commands: grid control -/

theorem execObserverStep (h : s.Keeps t) : s.Leads (execObserverStep t) :=
  .ite (have h1 := h.reach
  .next (State.Keeps.ite h1.present h1).observe.withDpc) (.next h)

theorem execTrackerValid (h : s.Keeps t) : s.Leads (execTrackerValid t) := .next (ite h.setTrkValid h).settle

theorem execTrackerInvalid {srcLost : Bool} (h : s.Keeps t) : s.Leads (execTrackerInvalid srcLost t) :=
  .next (settle (.ite ((State.Keeps.ite h.put h).setTrkValid) h))

theorem execRunWrite {value : Bool} (h : s.Keeps t) : s.Leads (execRunWrite value t) :=
  .next (ite (h.twinWrite h.writeRun) h).settle

set_option Elab.async false in
theorem execLpePublish (h : s.Keeps t) : s.Leads (execLpePublish t) := .next (ite h.lpePublish h).settle

theorem execFeClear {mask : Word} (h : s.Keeps t) : s.Leads (execFeClear mask t) :=
  .next (ite (h.twinWrite h.feClear) h).settle

/-! ## Commands: host ports -/

theorem execParallelReadCycle {addr : BitVec 24} {_visited : List (BitVec 24)} {allLow : Bool} {straps : Straps} (h :
    s.Keeps t) : s.Leads (execParallelReadCycle addr _visited allLow straps t) :=
  .ite (.next h.withHdRead) (.next h.spaced.portRead.withHdRead.settle)

theorem execParallelWriteCycle {addr : BitVec 24} {data : BitVec 16} {allLow : Bool} (h :
    s.Keeps t) : s.Leads (execParallelWriteCycle addr data allLow t) :=
  .ite (.next h.withHdRead) (.next h.withHdRead.spaced.portWrite.marked.settle)

theorem spiAdvance (h : s.Keeps t) : s.Keeps t.spiAdvance :=
  h.withSpi

theorem spiCapture {now : Straps} (h : s.Keeps t) : s.Keeps (t.spiCapture now) :=
  h.capture.withSpi.spiAdvance

theorem spiEnd {ends : Bool} (h : s.Keeps t) : s.Keeps (t.spiEnd ends) := .ite h.withSpi h

theorem execSpiHeaderFrame {header : Word} {straps : Straps} {ends : Bool} (h :
    s.Keeps t) : s.Leads (execSpiHeaderFrame header t straps ends) :=
  .ite (.next h) (.ite (.next h.put.withSpi.spiEnd) (.ite (.next h.withSpi.spaced.spiCapture.spiEnd) (.next h.withSpi.spiEnd)))

theorem execSpiDataFrame {data : Word} {straps : Straps} {ends : Bool} (h : s.Keeps t) : s.Leads (execSpiDataFrame data straps t ends) := by
  unfold Machine.execSpiDataFrame
  refine .ite (.next h) ?_
  split
  · exact .next h
  · extract_lets t1
    have h1 : s.Keeps t1.2 := h.fresh
    exact .next h1.withSpi.spiEnd
  · extract_lets _ _ t2
    have h2 : s.Keeps t2 := h.withSpi.spiAdvance
    exact .next h2.spaced.portWrite.marked.spiEnd.settle
  · exact .next h.withSpi.spaced.spiCapture.spiEnd
  · split
    · extract_lets _ t3 t4
      have h3 : s.Keeps t3 := h.withSpi
      have h4 : s.Keeps t4 := .ite h3.readEffects h3
      exact .next h4.spaced.spiCapture.spiEnd.settle
    · exact .next h

theorem execSpiShortFrame (h : s.Keeps t) : s.Leads (execSpiShortFrame t) :=
  .ite (.next h.put.withSpi) (.next h)

theorem execRegisterWrite {port : Port} {addr : BitVec 24} {value : BitVec 64} (h :
    s.Keeps t) : s.Leads (execRegisterWrite port addr value t) :=
  .ite (.next h.spaced.commitItem.marked.settle) (.next h)

theorem execDoorbell {port : Port} {n : Nat} {value : Word} (h : s.Keeps t) : s.Leads (execDoorbell port n value t) :=
  .ite (.next h.setPort.spaced.doorbell.marked) (.next h)

theorem execReeveTakeCommand (h : s.Keeps t) : s.Leads (execReeveTakeCommand t) := by
  unfold Machine.execReeveTakeCommand
  refine .ite (.next h) ?_
  split
  · exact .next h
  · extract_lets t1 _ t2
    have h1 : s.Keeps t1 := h.put
    have h2 : s.Keeps t2 := h1.withRve
    split
    · exact .next h2.respond
    · refine .ite (.next h2.setMb.twinSay) ?_
      exact .next h2

theorem execResponseComplete {n : Nat} (h : s.Keeps t) : s.Leads (execResponseComplete n t) :=
  have h4 := h.fillWords.put.setMb.raiseInt
  have h5 := State.Keeps.ite h4.mgmtResponse h4
  .ite (.next (State.Keeps.ite h5.withCul h5).settle) (.next h)

set_option Elab.async false in
theorem execIdentify {n : Nat} {straps : Straps} (h : s.Keeps t) : s.Leads (execIdentify n straps t) :=
  .ite (.next h.respond) (.next h)

theorem execStatus {n : Nat} (h : s.Keeps t) : s.Leads (execStatus n t) :=
  .ite (.next h.respond) (.next h)

theorem execConfigWrite {n : Nat} (h : s.Keeps t) : s.Leads (execConfigWrite n t) := by
  unfold Machine.execConfigWrite
  refine .ite ?_ (.next h)
  extract_lets
  refine .ite (.next h.respond) ?_
  split
  · exact .next h.respond
  · split
    · exact .next h.respond
    · exact .next h.withRve.respond

theorem execConfigRead {n : Nat} (h : s.Keeps t) : s.Leads (execConfigRead n t) := by
  unfold Machine.execConfigRead
  refine .ite ?_ (.next h)
  split
  · exact .next h.respond
  · exact .next h.respond

/-! ## Commands: measurement -/

theorem execAdcRoundStart {conv : Nat} (h : s.Keeps t) : s.Leads (execAdcRoundStart conv t) := .next h.adcDue.endClock

theorem execModulatorAdcStart {conv : Nat} {onNs : Nat} {hb : Nat} (h : s.Keeps t) : s.Leads (execModulatorAdcStart conv onNs t hb) :=
  .ite (.ite (.next h.adcStart.endClock) (.next h.adcSkip.endClock)) (.next h)

theorem execAdcHostStart {mask : BitVec 4} (h : s.Keeps t) : s.Leads (execAdcHostStart mask t) := .next h.adcSpaced.hostStart.endClock

theorem execAdcResult {conv : Nat} {pv : Int} (h : s.Keeps t) : s.Leads (execAdcResult conv pv t) :=
  .ite (.next h.adcResult.svResult.shareResult.settle) (.next h)

theorem execAdcCalibrate {n : Nat} (h : s.Keeps t) : s.Leads (execAdcCalibrate n t) := by
  unfold Machine.execAdcCalibrate
  refine .ite (.ite (.next h.respond) (.ite (.next h.respond) ?_)) (.next h)
  split
  · exact .next (h.needPolders _ ‹_›)
  · exact .ite (.next h.respond) (.next h.runOn.calStart)

theorem execCalibrationComplete {trims : List (List Word)} (h : s.Keeps t) : s.Leads (execCalibrationComplete trims t) := by
  unfold Machine.execCalibrationComplete
  extract_lets _ _ t1 t2 t3 _ t4 t5 t6 _ t7 _ t8
  have h1 : s.Keeps t1 := .foldl (fun _ _ h2 => h2.calEnd) h
  have h3 : s.Keeps t2 := h1.putS
  have h4 : s.Keeps t3 := h3.put
  have h5 : s.Keeps t4 := h4.withAdc
  have h6 : s.Keeps t5 := .ite h5.put h5
  have h7 : s.Keeps t6 := h6.raiseInt
  have h8 : s.Keeps t7 := by
    unfold t7
    split
    · exact h7.respond
    · exact h7.withRve
  have h9 : s.Keeps t8 := .ite h8.withPwr h8.startCalibration
  refine .ite (.next h9.settle) ?_
  exact .next h

theorem execAutoCalibrationStart (h : s.Keeps t) : s.Leads (execAutoCalibrationStart t) :=
  .ite (.next h.withRve.calStart) (.next h)

/-! ## Commands: modulation -/

theorem execModEnWrite {value : Bool} (h : s.Keeps t) : s.Leads (execModEnWrite value t) := .next h.writeEn.settle

theorem execDabHalfCycleEdge {bridge : Nat} (h : s.Keeps t) : s.Leads (execDabHalfCycleEdge bridge t) := .next (ite h.dabEdge h).settle

theorem execDabQuarterPoint {bridge : Nat} {second : Bool} (h : s.Keeps t) : s.Leads (execDabQuarterPoint bridge second t) :=
  .next (settle (.ite (.ite (.ite h.dabHalt h) (.ite h.dabStart h)) h))

set_option Elab.async false in
theorem execInverterCarrierValley (h : s.Keeps t) : s.Leads (execInverterCarrierValley t) :=
  .next (settle (.ite (have h1 := h.withMod
  have h2 := State.Keeps.ite h (.ite h1.raiseInt h1)
  .ite h2.invEval.drive h2) h))

theorem invStart (h : s.Keeps t) : s.Keeps t.invStart := .foldl (fun _ _ h1 => h1.invInterval) h.withMod

theorem execInverterCarrierPeak (h : s.Keeps t) : s.Leads (execInverterCarrierPeak t) :=
  .next (settle (.ite (have h3 := State.Keeps.foldl (fun _ _ h4 => h4.putS) (State.Keeps.ite h.invEval h).withMod
  .ite (ite h3 h3.invStart).drive h3) h))

theorem moveTrip {t' : Nat} {active : Bool} (h : s.Keeps t) : s.Keeps (t.moveTrip t' active) :=
  h.withPins

theorem execTripActive {trip : Nat} (h : s.Keeps t) : s.Leads (execTripActive trip t) :=
  have h1 := h.moveTrip
  .next (ite (State.Keeps.ite h1 h1.put).tripLatch h1).settle

theorem execTripInactive {trip : Nat} (h : s.Keeps t) : s.Leads (execTripInactive trip t) :=
  have h1 := h.moveTrip
  .next (ite h1.put h1).settle

theorem execTripClear {mask : BitVec 4} (h : s.Keeps t) : s.Leads (execTripClear mask t) := .next h.tripClears.settle

theorem execJtagFreeze (h : s.Keeps t) : s.Leads (execJtagFreeze t) :=
  .ite (.next h.withMod) (.next h)

theorem execModulatorClockResume (h : s.Keeps t) : s.Leads (execModulatorClockResume t) :=
  .ite (.next h.withMod.modDisable.put.raiseInt.fault.settle) (.next h)

theorem execCommandLoss (h : s.Keeps t) : s.Leads (execCommandLoss t) :=
  .ite (have h1 := h.put.raiseInt
  .next (State.Keeps.ite h1.afeOff.drive h1).settle) (.next h)

/-! ## Commands: the network -/

theorem execGridInstant {rate : Nat} {k : Nat} (h : s.Keeps t) : s.Leads (execGridInstant rate k t) :=
  .ite (.next h.gridInstant.settle) (.next h)

theorem execEthFrameReceived {port : Nat} {frame : EthFrame} {good : Bool} {stamp : Nat} {frac : Nat} (h :
    s.Keeps t) : s.Leads (execEthFrameReceived port frame good stamp frac t) :=
  .ite (.ite (.next h.ethReceive.settle) (.next h.reach.bump)) (.next h)

theorem execNetRxPop (h : s.Keeps t) : s.Leads (execNetRxPop t) := .next h.rxPop

theorem execHostTxGo {slot : Nat} {ctrl : Word} (h : s.Keeps t) : s.Leads (execHostTxGo slot ctrl t) :=
  .ite (.next h.txControl.settle) (.next h)

set_option Elab.async false in
theorem execEthFrameSent {port : Nat} {stamp : Nat} {frac : Nat} (h : s.Keeps t) : s.Leads (execEthFrameSent port stamp frac t) := by
  unfold Machine.execEthFrameSent
  refine .ite ?_ (.next h)
  split
  · extract_lets t1 _ t2
    have h1 : s.Keeps t1 := h.reach
    clear_value t1
    have h2 : s.Keeps t2 := h1.withNet (·.queues rfl (by rw [List.length_set]))
    exact .next h2.txDone.netStart.settle
  · exact .next h

theorem execTimedLaunch {port : Nat} (h : s.Keeps t) : s.Leads (execTimedLaunch port t) := by
  unfold Machine.execTimedLaunch
  split
  · refine .ite (.next h.reach.netStart.settle) ?_
    exact .next h
  · exact .next h

theorem execSupervisionFrame (h : s.Keeps t) : s.Leads (execSupervisionFrame t) :=
  .ite (.next h.sendRedundant.settle) (.next h)

theorem execLinkChange {port : Nat} {up : Bool} {aneg : Bool} (h : s.Keeps t) : s.Leads (execLinkChange port up aneg t) :=
  .ite (.next h.flag.flag.bump.raiseInt.settle) (.next h)

theorem execTimOffsetWrite {value : Word} (h : s.Keeps t) : s.Leads (execTimOffsetWrite value t) := .next h.servo.settle

theorem execServoReset (h : s.Keeps t) : s.Leads (execServoReset t) := .next h.servoReset

theorem execTimStepWrite {value : Word} (h : s.Keeps t) : s.Leads (execTimStepWrite value t) := .next h.timeStep.settle

theorem execTimSecondWrite {value : Word} (h : s.Keeps t) : s.Leads (execTimSecondWrite value t) := .next h.writeSecond

theorem execSecondMark (h : s.Keeps t) : s.Leads (execSecondMark t) :=
  .ite (.next h.reach.passMark.settle) (.next h)

theorem execSvSubscriptionTimeout {sub : Nat} (h : s.Keeps t) : s.Leads (execSvSubscriptionTimeout sub t) :=
  .ite (.next h.put.svValid.settle) (.next h)

theorem execGooseNewState {pub : Nat} (h : s.Keeps t) : s.Leads (execGooseNewState pub t) :=
  .ite (.next h.gseNew.settle) (.next h)

theorem execGsePubForce {mask : BitVec 16} (h : s.Keeps t) : s.Leads (execGsePubForce mask t) := .next h.gseForce.settle

theorem execGooseRepeat {pub : Nat} (h : s.Keeps t) : s.Leads (execGooseRepeat pub t) := .next h.gseRepeat.settle

theorem execGooseDeadlinePassed {sub : Nat} (h : s.Keeps t) : s.Leads (execGooseDeadlinePassed sub t) :=
  .ite (.next h.reach.put.gseValid.settle) (.next h)

/-! ## The work of a tide -/

set_option Elab.async false in
theorem setCul {c : CulvertSt} (h : s.Keeps t) (hv : t.cul.ports.length = 10 → c.ports.length = 10 := by exact id) :
    s.Keeps (t.setCul c) := h.withCul hv

theorem readyTide {p : Nat} (h : s.Keeps t) : s.Keeps (t.readyTide p) :=
  h.setCport

theorem leavingTide (h : s.Keeps t) : s.Keeps t.leavingTide := by
  unfold State.leavingTide
  split
  · extract_lets t1
    have h1 : s.Keeps t1 := .foldl (fun _ _ => sleepTx) h
    exact h1.setCul
  · exact h.setCul
  · exact h

theorem rootTide (h : s.Keeps t) : s.Keeps t.rootTide :=
  .ite h (h.setCport)

theorem statusTide {p : Nat} (h : s.Keeps t) : s.Keeps (t.statusTide p) := by
  unfold State.statusTide
  refine .ite ?_ h
  split
  · exact h.send
  · exact h.send

theorem showSource (h : s.Keeps t) : s.Keeps t.showSource :=
  h.put

theorem slewTide (h : s.Keeps t) : s.Keeps t.slewTide :=
  .ite (have h1 := h.stepAlign
  .ite h1.setAlign h1) h

theorem numberBoundary {offset : Nat} (h : s.Keeps t) : s.Keeps (t.numberBoundary offset) :=
  have h3 := (foldl (fun _ _ => readyTide) h.put.put.put).rootTide.leavingTide
  (State.Keeps.ite h3 h3.showSource).setCul.slewTide.dropTokens

theorem carrierTide {old : Nat} {t' : Nat} (h : s.Keeps t) : s.Keeps (t.carrierTide old t') :=
  h.setCul.carrierMoved

theorem wrapTide {t' : Nat} {p : Nat} (h : s.Keeps t) : s.Keeps (t.wrapTide t' p) :=
  .ite h.put.setCport (.ite h.put.setCport h.setCport)

theorem wrapsTide {t' : Nat} (h : s.Keeps t) : s.Keeps (t.wrapsTide t') := by
  unfold State.wrapsTide
  extract_lets t1
  have h1 : s.Keeps t1 := h.wrapTide.wrapTide
  split
  · exact .ite h1 h1.setCul
  · exact h1

theorem returnPulse {n : Nat} {w : Int} (h : s.Keeps t) : s.Keeps (t.returnPulse n w) :=
  .ite h (.ite (h.withMod (by simp)).dropPulse h)

theorem returnPulses (h : s.Keeps t) : s.Keeps t.returnPulses := by
  unfold State.returnPulses
  extract_lets t1
  have h1 : s.Keeps t1 := by
    refine .foldl (fun _ _ h4 => ?_) h
    extract_lets
    exact .ite h4.returnPulse.returnPulse h4
  refine .ite ?_ h1
  refine .foldl (fun _ _ h7 => ?_) h1
  extract_lets t2
  have h8 : s.Keeps t2.1 := h7.invReturn
  exact h8.returnPulse

theorem returnTide (h : s.Keeps t) : s.Keeps t.returnTide :=
  have h1 := h.withMod.withGdr
  .ite h1.returnPulses h1.invFollow

set_option Elab.async false in
theorem commandsBack (h : s.Keeps t) : s.Keeps t.commandsBack :=
  have h1 := h.withMod
  .ite h1.put.raiseInt h1

theorem cellEntry {v : Nat} (h : s.Keeps t) : s.Keeps (t.cellEntry v) :=
  h.commandsBack.withMod.put.afeBoundary.dabEntry

theorem invEntry (h : s.Keeps t) : s.Keeps t.invEntry :=
  .ite ((State.Keeps.foldl (fun _ _ h2 => h2.setFunc) h).withMod) h

theorem portEntry {v : Nat} (h : s.Keeps t) : s.Keeps (t.portEntry v) :=
  h.commandsBack.withMod.dabEntry.invEntry

theorem missingEntry (h : s.Keeps t) : s.Keeps t.missingEntry :=
  h.bump.withMod

theorem modTide {t' : Nat} (h : s.Keeps t) : s.Keeps (t.modTide t') := by
  unfold State.modTide
  extract_lets _ t1 waits entry _ t2 _ t3 t4
  have hWaits (u : State) (hu : s.Keeps u) : s.Keeps (waits u) := .ite hu.afeBoundary hu
  have h1 : s.Keeps t1 := h.put
  have h2 : s.Keeps t2 := by
    unfold t2
    clear_value entry
    split
    · exact .ite h1.cellEntry h1.portEntry
    · exact hWaits _ (.ite h1.withMod h1.missingEntry)
  have h3 : s.Keeps t3 := h2.setCul
  have h4 : s.Keeps t4 := h3.drive.sluiceBoundary
  exact .ite h4.applyHeld h4

theorem outputsTide {old : Nat} {t' : Nat} (h : s.Keeps t) : s.Keeps (t.outputsTide old t') :=
  .ite (have h1 := h.carrierTide.returnTide.modTide
  .ite h1.rippleTide h1) h.setCul

theorem quantity {k : Nat} {t' : Nat} (h : s.Keeps t) : s.Keeps (t.quantity k t').2 := (t.quantity_state t' k).symm ▸ h

theorem newRecord {old : Nat} {t' : Nat} (h : s.Keeps t) : s.Keeps (t.newRecord old t').2 :=
  .iteSnd (.pairSnd h.quantity) (.pairSnd h.quantity)

theorem recordTide {done : Bool} {old : Nat} {t' : Nat} (h : s.Keeps t) : s.Keeps (t.recordTide done old t') :=
  .ite (h.newRecord.setCul) (h.setCul)

theorem deviceTide {done : Bool} {offset : Nat} (h : s.Keeps t) : s.Keeps (t.deviceTide done offset) :=
  (State.Keeps.foldl (fun _ _ h6 => h6.setCport) (State.Keeps.foldl (fun _ _ => statusTide) h.recordTide.numberBoundary.wrapsTide)).outputsTide.lpePass

/-! ## Commands: tide boundaries -/

theorem chunkSent {r : Nat} (h : s.Keeps t) : s.Keeps (t.chunkSent r) := by
  unfold State.chunkSent
  refine .ite ?_ h
  split
  · exact h.setCul
  · split
    · split
      · exact h.setRemote
      · exact h
    · exact h

theorem originate {t' : Nat} {r : Nat} {d : Nat} (h : s.Keeps t) : s.Keeps (t.originate t' r d) := by
  unfold State.originate
  split
  · refine .ite ?_ h
    extract_lets _ _ t1
    have h1 : s.Keeps t1 := h.setCul
    exact h1.send
  · exact h

theorem originRing {t' : Nat} {r : Nat} (h : s.Keeps t) : s.Keeps (t.originRing t' r) :=
  .ite h.sendDiscovery (.ite (h.nextMessage.originate.originate.chunkSent.setCul) h)

set_option Elab.async false in
theorem echoTide (h : s.Keeps t) : s.Keeps t.echoTide := .ite h.setCul h

theorem lostFrame {x : Nat × Nat × Nat} (h : s.Keeps t) : s.Keeps (t.lostFrame x) := .ite h h.bump

theorem lostTide {d : Nat} (h : s.Keeps t) : s.Keeps (t.lostTide d) :=
  (State.Keeps.foldl (fun _ _ => lostFrame) h).setCul

theorem wrapSeenTide {r : Nat} (h : s.Keeps t) : s.Keeps (t.wrapSeenTide r) :=
  have h3 := (State.Keeps.ite h.put.raiseInt.wrapPointAt h).flag.setCul
  .ite h3.fresh.put h3

theorem recordsTide {d : Nat} {t' : Nat} (h : s.Keeps t) : s.Keeps (t.recordsTide d t') := by
  unfold State.recordsTide
  extract_lets t1 t2
  have h1 : s.Keeps t1 := by
    refine .foldl (fun _ _ h4 => ?_) h
    extract_lets
    exact .foldl (fun _ _ h5 => h5.posRecord) h4
  have h6 : s.Keeps t2 := h1.lateQuantities
  exact h6.setCul

theorem entriesOf {r : Nat} (h : s.Keeps t) : s.Keeps (t.entriesOf r).2 :=
  .iteSnd (.pairSnd h) (foldlSnd (fun _ _ h3 => .pairSnd h3.fresh) (.pairSnd h))

theorem entriesTide (h : s.Keeps t) : s.Keeps t.entriesTide :=
  .foldl (fun _ _ h2 => (h2.entriesOf.setCul)) h

theorem decisionTide {done : Bool} {t' : Nat} (h : s.Keeps t) : s.Keeps (t.decisionTide done t') :=
  have h1 := State.Keeps.ite h.gridKeys h
  have h4 := (State.Keeps.ite h1.gridBoundary h1).thermalDecide.spareTide
  (State.Keeps.ite h4.gridDecide.entriesTide.snapshotTide h4).lpePass.setCul

theorem stationTide {done : Bool} {offset : Nat} (h : s.Keeps t) : s.Keeps (t.stationTide done offset) :=
  have h8 := (State.Keeps.foldl (fun _ _ => wrapSeenTide) (State.Keeps.foldl (fun _ _ h6 => h6.originRing) (State.Keeps.foldl (fun _ _ => statusTide)
    h.numberBoundary.setCul).twinStates.echoTide.ringTide)).twinBoundary (fun _ _ _ hu => hu.hostEffect) (fun _ _ hu => hu.applyCommit)
  (State.Keeps.ite h8.returnTide.drive h8).lostTide.recordsTide.decisionTide

theorem anyTide {done : Bool} {offset : Nat} (h : s.Keeps t) : s.Keeps (t.anyTide done offset) :=
  .foldl (fun _ _ h2 => h2.adcTide) (State.Keeps.ite h.stationTide h.deviceTide)

theorem execTideBoundary {coreDone : Bool} {offset : Nat} (h : s.Keeps t) : s.Leads (execTideBoundary coreDone t offset) :=
  have h1 := h.spaced
  .next (.ite h1.anyTide.settle h1)

/-! ## Commands: twins -/

theorem execWearSample (h : s.Keeps t) : s.Leads (execWearSample t) := .next (.ite h.wearSample h)

theorem execCellBringIn {n : Nat} {verified : Bool} {auto : Bool} (h : s.Keeps t) : s.Leads (execCellBringIn n verified auto t) := by
  unfold Machine.execCellBringIn
  refine .ite (.ite (.next h.respond) (.ite (.next h.respond) ?_)) (.next h)
  split
  · exact .next (h.needPolders _ ‹_›)
  · split
    · exact .next h.respond
    · exact .ite (.next h.respond) (.next (ite h.wakeNext h).spareBegin.settle)

theorem execCellRetire {n : Nat} (h : s.Keeps t) : s.Leads (execCellRetire n t) := by
  unfold Machine.execCellRetire
  refine .ite (.ite (.next h.respond) (.ite (.next h.respond) ?_)) (.next h)
  split
  · exact .next (h.needPolders _ ‹_›)
  · exact .ite (.next h.respond) (.next h.spareBegin.settle)

set_option Elab.async false in
theorem execTwinSwap {n : Nat} (h : s.Keeps t) : s.Leads (execTwinSwap n t) := by
  unfold Machine.execTwinSwap
  refine .ite ?_ (.next h)
  extract_lets _ t1
  have h1 : s.Keeps t1 := h.twinSay.runOn
  split
  · split
    · exact .next h.respond
    · refine .ite (.next h.respond) ?_
      exact .next h.swapStart
  · refine .ite (.next h.respond) ?_
    refine .ite (.next h.respond) ?_
    exact .next h1.withTwn
  · exact .next h.respond
  · exact .next h.respond

theorem execTwinResync {n : Nat} (h : s.Keeps t) : s.Leads (execTwinResync n t) :=
  .ite (.ite (.next h.respond) (.ite (.next h.respond) (.next h.resyncStart))) (.next h)

theorem execTwinLinkFrameReceived {frame : TideFrame} {arrival : Int} {id : Nat} {codeErrors : Nat} (h :
    s.Keeps t) : s.Leads (execTwinLinkFrameReceived frame arrival t id codeErrors) :=
  have h1 := h.heardErrors
  .ite (.ite (.next h1.bump) (.ite (.next ((State.Keeps.twinTake h1.withTwn (fun _ hu => hu.swapAsked)).settle)) (.next h1))) (.next h1)

theorem execEchoPathSilent {ring : Bool} (h : s.Keeps t) : s.Leads (execEchoPathSilent ring t) :=
  .ite (.next h.echoLost.settle) (.next h)

theorem execTwinTakeover (h : s.Keeps t) : s.Leads (execTwinTakeover t) :=
  .ite (.next h.echoLost.echoLost.takeover.settle) (.next h)

theorem execPairingPartnerSilent (h : s.Keeps t) : s.Leads (execPairingPartnerSilent t) :=
  .ite (.next h.twinSet.restartHours.withTwn.settle) (.next h)

theorem execAutoSwapTimer (h : s.Keeps t) : s.Leads (execAutoSwapTimer t) :=
  .ite (have h1 := h.withTwn
  .ite (.next h1.bump.raiseInt.settle) (.next h1.swapStart)) (.next h)

theorem loadSnapshot {x : Snapshot} (h : s.Keeps t) : s.Keeps (t.loadSnapshot x) :=
  (State.Keeps.foldl (fun _ _ h2 => h2.setWord) h).withDpc.withLpe.withThm.withCul.withTwn

theorem execResyncComplete {snap : Snapshot} (h : s.Keeps t) : s.Leads (execResyncComplete snap t) :=
  .ite (.next h.loadSnapshot.twinSet.raiseInt.resyncEnd.settle) (.ite (.next h.resyncEnd.settle) (.next h))

theorem execResyncTimeout (h : s.Keeps t) : s.Leads (execResyncTimeout t) :=
  .ite (.next h.resyncEnd.settle) (.next h)

/-! ## Commands: the Vault -/

theorem execConfigLoadComplete {bad : BitVec 4} {corrected : Nat} {lost : BitVec 4} (h :
    s.Keeps t) : s.Leads (execConfigLoadComplete bad t corrected lost) :=
  .ite (.next h.loadGeneration.put.applyKeys.loadInit.withPwr.waitInService.settle) (.next h)

theorem execVaultCommit {n : Nat} (h : s.Keeps t) : s.Leads (execVaultCommit n t) :=
  .ite (.ite (.next h.respond) (have h1 := State.Keeps.ite h.stageWear h
  .ite (.next h1.withRve.respond) (.next h1.commitStart.settle))) (.next h)

theorem execJournalRead {n : Nat} {corrected : Nat} (h : s.Keeps t) : s.Leads (execJournalRead n t corrected) :=
  .ite (.ite (.next h.respond) (.ite (.next h.respond) (.next h.put.respond))) (.next h)

theorem execVaultExport {n : Nat} {straps : Straps} (h : s.Keeps t) : s.Leads (execVaultExport n straps t) := by
  unfold Machine.execVaultExport
  refine .ite ?_ (.next h)
  extract_lets _ d2
  refine .ite (.next h.respond) ?_
  refine .ite (.next h.respond) ?_
  clear_value d2
  split
  · exact .next h.respond
  · refine .ite (.next h.respond) ?_
    extract_lets _ t1
    have h1 : s.Keeps t1 := h.withVlt.withRve
    exact .next h1.respond

set_option Elab.async false in
theorem execExportTimeout (h : s.Keeps t) : s.Leads (execExportTimeout t) :=
  .ite (.next h.withVlt.withRve) (.next h)

theorem execThermalMeasure {n : Nat} (h : s.Keeps t) : s.Leads (execThermalMeasure n t) :=
  .ite (.next h.runOn.demandReading) (.next h)

theorem thermalStop {reading : BitVec 16} (h : s.Keeps t) : s.Keeps (t.thermalStop reading) :=
  h.withPwr.withCul.clearWake.wardenStop.drive.withPins

theorem execOnDieReading {reading : BitVec 16} (h : s.Keeps t) : s.Leads (execOnDieReading reading t) :=
  .ite (.next h) (.ite (execStartUpThermalReading (h)) (have h1 := h.takeReading
  .ite (.next h1.put.withPwr.dropWake.toCrest) (.ite (.next h1.thermalStop.settle) (.next h1.settle))))

theorem execThermalDemandTimer (h : s.Keeps t) : s.Leads (execThermalDemandTimer t) :=
  .ite (.next h.demandReading) (.next h)

theorem execSubstitutionEnd {own : Bool} {ring : Nat} {slot : Nat} {sensor : Nat} (h :
    s.Keeps t) : s.Leads (execSubstitutionEnd own ring slot sensor t) := by
  unfold Machine.execSubstitutionEnd
  extract_lets
  split
  · refine .ite (.next h.setSensor.raiseInt.settle) ?_
    exact .next h
  · exact .next h

theorem execVaultEraseComplete (h : s.Keeps t) : s.Leads (execVaultEraseComplete t) := by
  unfold Machine.execVaultEraseComplete
  split
  · refine .ite ?_ (.next h)
    extract_lets
    exact .next h.withVlt
  · exact .next h

theorem execVaultProgramComplete (h : s.Keeps t) : s.Leads (execVaultProgramComplete t) := by
  unfold Machine.execVaultProgramComplete
  split
  next o _ =>
    refine .ite ?_ (.next h)
    extract_lets _ go
    have hGo (x : VaultStage) : s.Leads (go x) := .next h.withVlt
    split
    · exact .next h
    · refine .ite (.next (h.withVltOfInv (fun hi => VltSt.Canonical.setSlot hi.slots ?_))) (hGo _)
      rintro _ ⟨⟩
      exact wf_foldl_putKey o.keys hi.cfg
    · exact hGo _
    · exact .next h.commitDone.committed.settle
  next => exact .next h

theorem getD {o : Option State} (ho : s.LeadsIf o) (h : s.Keeps t) : s.Keeps (o.getD t) := by
  cases o with
  | none => exact h
  | some u => exact ho u rfl

theorem execVaultSectorRemap {last : Bool} (h : s.Keeps t) : s.Leads (execVaultSectorRemap t last) := by
  unfold Machine.execVaultSectorRemap
  split
  · exact .ite (.next h.sectorFails.settle) (.next h)
  · extract_lets _ t1
    have h1 : s.Keeps t1 := h.withVlt
    exact .next (getD h1.remapSector h1.markBad).settle
  · exact .next h

/-! ## Commands: the Wardens -/

theorem execWardenInputFiltered {chan : Bool} {input : Nat} {level : Bool} (h :
    s.Keeps t) : s.Leads (execWardenInputFiltered chan input level t) := by
  unfold Machine.execWardenInputFiltered
  refine .ite ?_ (.next h)
  extract_lets _ t1 t2
  have h1 : s.Keeps t1 := by
    unfold t1
    split
    · exact h.setWch
    · exact h.setWch
    · exact h.setWch.wflag
  have h2 : s.Keeps t2 := .ite h1.wardGuard h1
  exact .next h2.wardEval.settle

theorem execContactDiscrepancyTimeout {chan : Bool} (h : s.Keeps t) : s.Leads (execContactDiscrepancyTimeout chan t) :=
  .ite (.next h.wput.wardLock.settle) (.next h)

theorem execWardenExchangeSend {chan : Bool} (h : s.Keeps t) : s.Leads (execWardenExchangeSend chan t) :=
  .ite (.next h.wardSend) (.next h)

theorem execWardenExchangeReceived {chan : Bool} (h : s.Keeps t) : s.Leads (execWardenExchangeReceived chan t) := by
  unfold Machine.execWardenExchangeReceived
  refine .ite ?_ (.next h)
  split
  · exact .next h.wardReceive.settle
  · exact .next h

set_option Elab.async false in
theorem execWardenDiscrepancyLockout {chan : Bool} {silent : Bool} (h : s.Keeps t) : s.Leads (execWardenDiscrepancyLockout chan silent t) :=
  have h1 := State.Keeps.ite h.wput h
  have h2 := State.Keeps.ite h1.wput h1
  .ite (.next h) (.ite (.next h.setWch.wput) (.ite (.next (State.Keeps.ite h2.wput h2).wardGo.settle) (.next h)))

theorem execWardenRelease {block : Bool} (h : s.Keeps t) : s.Leads (execWardenRelease block t) := .next h.wardCtrl.settle

theorem execWardenBlock (h : s.Keeps t) : s.Leads (execWardenBlock t) := .next h.wardCtrl.settle

theorem execSafeOutTestPulseStart {chan : Bool} (h : s.Keeps t) : s.Leads (execSafeOutTestPulseStart chan t) :=
  .ite (.ite (.next h.fresh.setWch.wput) (.next h.bump)) (.next h)

theorem execSafeOutTestPulseEnd {chan : Bool} (h : s.Keeps t) : s.Leads (execSafeOutTestPulseEnd chan t) :=
  .ite (.next h.setWch.wardOutputs.settle) (.next h)

theorem execSafeOutReadback {chan : Bool} {level : Bool} (h : s.Keeps t) : s.Leads (execSafeOutReadback chan level t) :=
  .ite (have h1 := h.wflag
  .ite (.next h1) (.next h1.wardLock.settle)) (.next h)

/-! ## Idling -/

theorem dripAdvance {d : Int} (h : s.Keeps t) : s.Keeps (t.dripAdvance d) :=
  .ite (have h2 := h.withPwr.setWord
  .ite h.withPwr (.ite h2.wakeEvent h2)) h

theorem invIdle (h : s.Keeps t) : s.Keeps t.invIdle := .ite h.invFollow.drive.settle h

theorem idle (h : s.Keeps t) : s.Keeps t.idle :=
  have h1 := h.dripAdvance
  have h3 := (foldl (fun _ _ => adcPast) h1.advance.netExpire.endClock.clocksPassed).endClock
  .ite (State.Keeps.ite h3.notchTo.settle h3).invIdle h1

end State.Keeps
end Sys2Proof.Machine
end

section
-- Each lemma waits for the kernel on those before it; one at a time, they need no thread each.
namespace Sys2Proof.Machine

theorem State.Sound.trans {s t u : State} (h : s.Sound t) (h' : t.Sound u) : s.Sound u :=
  ⟨h'.queue.trans h.queue, h'.inv ∘ h.inv⟩

/-- A sample writes the capture memory and keeps its canonical form. -/
theorem State.Sound.galSample {s t : State} (h : s.Sound t) (p k : Nat) : s.Sound (t.galSample p k) := by
  unfold State.galSample
  extract_lets y chans ws store a next wrapNow _ t1 t2 t3 r t4 t5
  have h2 : s.Sound t2 := by
    unfold t2
    split
    · have h1 : s.Sound t1 := ⟨h.queue, fun hi => { h.inv hi with mem := Memory.wf_setAll _ _ _ (h.inv hi).mem }⟩
      exact h1.trans (State.Keeps.refl t1).setGp.toSound
    · exact h
  clear_value t2
  have h3 : t2.Keeps t3 := .ite (State.Keeps.refl t2).galState (.refl t2)
  have h4 : t2.Keeps t4 := .ite h3.galRecord.setGp h3
  exact h2.trans h4.galConditions.setGp.toSound

theorem State.Sound.galInstant {s t : State} (h : s.Sound t) (k : Nat) : s.Sound (t.galInstant k) := by
  suffices hFold : ∀ (l : List Nat) (u : State), s.Sound u → s.Sound (l.foldl (fun s p =>
      let d := s.cf (F.GAL_PROFp_CFG_DIV p)
      if s.cfIs (F.GAL_PROFp_CFG_EN p) && d != 0 && (5 * s.tide + k) % d == 0 then s.galSample p k else s) u) from hFold _ t h
  intro l
  induction l with
  | nil => exact fun _ hu => hu
  | cons p l ih =>
    intro u hu
    refine ih _ ?_
    dsimp only
    split
    · exact hu.galSample p k
    · exact hu

theorem execGallerySample_sound (k : Nat) (s : State) : ∃ t, execGallerySample k s = .next t ∧ s.Sound t := by
  unfold execGallerySample
  split
  · exact ⟨_, rfl, ((State.Keeps.refl s).reach.toSound.galInstant k).trans (State.Keeps.refl _).settle.toSound⟩
  · exact ⟨s, rfl, (State.Keeps.refl s).toSound⟩

/-- R79: power-good turns the polder on and starts its registers; the capture memory is as before. -/
theorem execPolderPowerGood_follows (p : Nat) (c : Bool) (s : State) : ∃ t, execPolderPowerGood p c s = .next t ∧ s.Follows t := by
  unfold execPolderPowerGood
  split
  · extract_lets _ t1 t2 t3 t4 t5
    have h2 : t1.Keeps t2 := (State.Keeps.refl t1).applyKeys
    have h3 : t1.Keeps t3 := h2.polderInit
    have h4 : t1.Keeps t4 := .ite h3.demandReading h3
    have h5 : t1.Keeps t5 := .ite (.ite h4.beginLock h4.awaitP0.waitInService) h4
    have h6 : t1.Keeps t5.startNext.settle := h5.startNext.settle
    exact ⟨_, rfl, ⟨h6.queue, fun hi => h6.inv { hi with }⟩, h6.memory⟩
  · exact ⟨s, rfl, (State.Keeps.refl s).toFollows⟩

set_option Elab.async false in
theorem State.Leads.follows {s : State} {a : Ans} (h : s.Leads a) : ∃ t, a = .next t ∧ s.Follows t := by
  obtain ⟨t, hNext, hKeeps⟩ := h
  exact ⟨t, hNext, hKeeps.toFollows⟩

/-- Every command but GALLERY_SAMPLE answers a next state that keeps the queue, the forms of `State.Inv` and the capture memory. -/
theorem exec_follows {c : Instr} (hc : ∀ k, c ≠ .gallerySample k) (s : State) : ∃ t, exec c s = .next t ∧ s.Follows t := by
  have h : s.Keeps s := .refl s
  cases c with
  | vcrestRise => exact h.execVcrestRise.follows
  | vcrestFall => exact h.execVcrestFall.follows
  | supplyLost => exact h.execSupplyLost.follows
  | supplyReturn => exact h.execSupplyReturn.follows
  | wakenLow => exact h.execWakenLow.follows
  | laneWakeLatch => exact h.execLaneWakeLatch.follows
  | dripAlarm => exact h.execDripAlarm.follows
  | guardChangeAccepted => exact h.execGuardChangeAccepted.follows
  | wakeDuringAwake => exact h.execWakeDuringAwake.follows
  | startUp => exact h.execStartUp.follows
  | polderPowerGood p clock => exact execPolderPowerGood_follows p clock s
  | polderStartFailure => exact h.execPolderStartFailure.follows
  | culvertPolderIdleStop => exact h.execCulvertPolderIdleStop.follows
  | startUpThermalReading => exact h.execStartUpThermalReading.follows
  | configLoadComplete => exact h.execConfigLoadComplete.follows
  | startUpPoldersAndCalibration => exact h.execStartUpPoldersAndCalibration.follows
  | readyEntered => exact h.execReadyEntered.follows
  | p0ClockPresent => exact h.execP0ClockPresent.follows
  | dripOkSet => exact h.execDripOkSet.follows
  | dripClockLost => exact h.execDripClockLost.follows
  | pllLockDeclared => exact h.execPllLockDeclared.follows
  | storedBandAbandoned => exact h.execStoredBandAbandoned.follows
  | pllNoLock => exact h.execPllNoLock.follows
  | lockRetry => exact h.execLockRetry.follows
  | pllHoldoverEntry => exact h.execPllHoldoverEntry.follows
  | pllReengage => exact h.execPllReengage.follows
  | reengagementFailed => exact h.execReengagementFailed.follows
  | holdoverTooLong => exact h.execHoldoverTooLong.follows
  | syncInEdge => exact h.execSyncInEdge.follows
  | parallelReadCycle addr visited => exact (h.execParallelReadCycle (_visited := visited)).follows
  | parallelWriteCycle => exact h.execParallelWriteCycle.follows
  | spiHeaderFrame => exact h.execSpiHeaderFrame.follows
  | spiDataFrame => exact h.execSpiDataFrame.follows
  | spiShortFrame => exact h.execSpiShortFrame.follows
  | registerWrite => exact h.execRegisterWrite.follows
  | doorbell => exact h.execDoorbell.follows
  | reeveTakeCommand => exact h.execReeveTakeCommand.follows
  | responseComplete => exact h.execResponseComplete.follows
  | identify => exact h.execIdentify.follows
  | status => exact h.execStatus.follows
  | sleep => exact h.execSleep.follows
  | crestStandbyReached => exact h.execCrestStandbyReached.follows
  | wakeRemote => exact h.execWakeRemote.follows
  | configWrite => exact h.execConfigWrite.follows
  | configRead => exact h.execConfigRead.follows
  | vaultCommit => exact h.execVaultCommit.follows
  | journalRead => exact h.execJournalRead.follows
  | vaultExport => exact h.execVaultExport.follows
  | exportTimeout => exact h.execExportTimeout.follows
  | adcCalibrate => exact h.execAdcCalibrate.follows
  | calibrationComplete => exact h.execCalibrationComplete.follows
  | autoCalibrationStart => exact h.execAutoCalibrationStart.follows
  | thermalMeasure => exact h.execThermalMeasure.follows
  | clockRelock => exact h.execClockRelock.follows
  | ringDiscover => exact h.execRingDiscover.follows
  | ringAlign => exact h.execRingAlign.follows
  | laneSleep => exact h.execLaneSleep.follows
  | laneWake => exact h.execLaneWake.follows
  | cellBringIn => exact h.execCellBringIn.follows
  | cellRetire => exact h.execCellRetire.follows
  | twinSwap => exact h.execTwinSwap.follows
  | twinResync => exact h.execTwinResync.follows
  | captureArm => exact h.execCaptureArm.follows
  | captureRead => exact h.execCaptureRead.follows
  | captureDisarm => exact h.execCaptureDisarm.follows
  | faultAck => exact h.execFaultAck.follows
  | faultInject => exact h.execFaultInject.follows
  | remote => exact h.execRemote.follows
  | remoteTimeout => exact h.execRemoteTimeout.follows
  | rxClockDetect => exact h.execRxClockDetect.follows
  | rxWordLock => exact h.execRxWordLock.follows
  | rxDeskewSet => exact h.execRxDeskewSet.follows
  | rxUp => exact h.execRxUp.follows
  | rxDown => exact h.execRxDown.follows
  | rxRealign => exact h.execRxRealign.follows
  | portReady => exact h.execPortReady.follows
  | portStatusReceived => exact h.execPortStatusReceived.follows
  | tideBoundary => exact h.execTideBoundary.follows
  | tideFrameReceived => exact h.execTideFrameReceived.follows
  | commandLoss => exact h.execCommandLoss.follows
  | periodicUnwrap => exact h.execPeriodicUnwrap.follows
  | messageAckTimeout => exact h.execMessageAckTimeout.follows
  | messageBusyRetry => exact h.execMessageBusyRetry.follows
  | alignAverageComplete => exact h.execAlignAverageComplete.follows
  | referencePortChange => exact h.execReferencePortChange.follows
  | triggerTokenRaise => exact h.execTriggerTokenRaise.follows
  | laneActivity => exact h.execLaneActivity.follows
  | adcRoundStart => exact h.execAdcRoundStart.follows
  | modulatorAdcStart => exact h.execModulatorAdcStart.follows
  | gridInstant => exact h.execGridInstant.follows
  | adcHostStart => exact h.execAdcHostStart.follows
  | adcResult => exact h.execAdcResult.follows
  | observerStep => exact h.execObserverStep.follows
  | trackerValid => exact h.execTrackerValid.follows
  | trackerInvalid => exact h.execTrackerInvalid.follows
  | runWrite => exact h.execRunWrite.follows
  | modEnWrite => exact h.execModEnWrite.follows
  | dabHalfCycleEdge => exact h.execDabHalfCycleEdge.follows
  | dabQuarterPoint => exact h.execDabQuarterPoint.follows
  | inverterCarrierValley => exact h.execInverterCarrierValley.follows
  | tripActive => exact h.execTripActive.follows
  | tripClear => exact h.execTripClear.follows
  | jtagFreeze => exact h.execJtagFreeze.follows
  | modulatorClockResume => exact h.execModulatorClockResume.follows
  | lpePublish => exact h.execLpePublish.follows
  | feClear => exact h.execFeClear.follows
  | desaturation => exact h.execDesaturation.follows
  | channelUndervoltage => exact h.execChannelUndervoltage.follows
  | bothOnRefused => exact h.execBothOnRefused.follows
  | halfBridgeHoldEnd => exact h.execHalfBridgeHoldEnd.follows
  | dieRefreshLoss => exact h.execDieRefreshLoss.follows
  | bootstrapWarn => exact h.execBootstrapWarn.follows
  | bootstrapMaxReached => exact h.execBootstrapMaxReached.follows
  | dieBootstrapLimit => exact h.execDieBootstrapLimit.follows
  | ovComparatorChange => exact h.execOvComparatorChange.follows
  | chopperTurnOn => exact h.execChopperTurnOn.follows
  | chopperTurnOff => exact h.execChopperTurnOff.follows
  | chopperCheckFailed => exact h.execChopperCheckFailed.follows
  | sluiceMismatch => exact h.execSluiceMismatch.follows
  | faultEvent => exact h.execFaultEvent.follows
  | brokenErrorWire => exact h.execBrokenErrorWire.follows
  | intPendWrite => exact h.execIntPendWrite.follows
  | intEnWrite => exact h.execIntEnWrite.follows
  | intTgtWrite => exact h.execIntTgtWrite.follows
  | hsleepChange => exact h.execHsleepChange.follows
  | strataEntryAccepted => exact h.execStrataEntryAccepted.follows
  | strataMark => exact h.execStrataMark.follows
  | strataDataRead => exact h.execStrataDataRead.follows
  | wardenInputFiltered => exact h.execWardenInputFiltered.follows
  | contactDiscrepancyTimeout => exact h.execContactDiscrepancyTimeout.follows
  | wardenExchangeSend => exact h.execWardenExchangeSend.follows
  | wardenExchangeReceived => exact h.execWardenExchangeReceived.follows
  | wardenDiscrepancyLockout => exact h.execWardenDiscrepancyLockout.follows
  | wardenRelease => exact h.execWardenRelease.follows
  | wardenBlock => exact h.execWardenBlock.follows
  | safeOutTestPulseStart => exact h.execSafeOutTestPulseStart.follows
  | safeOutTestPulseEnd => exact h.execSafeOutTestPulseEnd.follows
  | safeOutReadback => exact h.execSafeOutReadback.follows
  | onDieReading => exact h.execOnDieReading.follows
  | thermalDemandTimer => exact h.execThermalDemandTimer.follows
  | substitutionEnd => exact h.execSubstitutionEnd.follows
  | vaultEraseComplete => exact h.execVaultEraseComplete.follows
  | vaultProgramComplete => exact h.execVaultProgramComplete.follows
  | vaultSectorRemap => exact h.execVaultSectorRemap.follows
  | ethFrameReceived => exact h.execEthFrameReceived.follows
  | netRxPop => exact h.execNetRxPop.follows
  | hostTxGo => exact h.execHostTxGo.follows
  | ethFrameSent => exact h.execEthFrameSent.follows
  | timedLaunch => exact h.execTimedLaunch.follows
  | supervisionFrame => exact h.execSupervisionFrame.follows
  | linkChange => exact h.execLinkChange.follows
  | timOffsetWrite => exact h.execTimOffsetWrite.follows
  | servoReset => exact h.execServoReset.follows
  | timStepWrite => exact h.execTimStepWrite.follows
  | timSecondWrite => exact h.execTimSecondWrite.follows
  | secondMark => exact h.execSecondMark.follows
  | svSubscriptionTimeout => exact h.execSvSubscriptionTimeout.follows
  | gooseNewState => exact h.execGooseNewState.follows
  | gsePubForce => exact h.execGsePubForce.follows
  | gooseRepeat => exact h.execGooseRepeat.follows
  | gooseDeadlinePassed => exact h.execGooseDeadlinePassed.follows
  | gallerySample k => exact absurd rfl (hc k)
  | galTrigWrite => exact h.execGalTrigWrite.follows
  | holdoffEnd => exact h.execHoldoffEnd.follows
  | galFreeWrite => exact h.execGalFreeWrite.follows
  | twinLinkFrameReceived => exact h.execTwinLinkFrameReceived.follows
  | echoPathSilent => exact h.execEchoPathSilent.follows
  | twinTakeover => exact h.execTwinTakeover.follows
  | pairingPartnerSilent => exact h.execPairingPartnerSilent.follows
  | autoSwapTimer => exact h.execAutoSwapTimer.follows
  | resyncComplete => exact h.execResyncComplete.follows
  | resyncTimeout => exact h.execResyncTimeout.follows
  | wearSample => exact h.execWearSample.follows
  | tripInactive => exact h.execTripInactive.follows
  | busMonitorSample => exact h.execBusMonitorSample.follows
  | aliveDividerEdge => exact h.execAliveDividerEdge.follows
  | errorWireRestored => exact h.execErrorWireRestored.follows
  | vio3BecomesPresent => exact h.execVio3BecomesPresent.follows
  | inverterCarrierPeak => exact h.execInverterCarrierPeak.follows

theorem exec_sound (c : Instr) (s : State) : ∃ t, exec c s = .next t ∧ s.Sound t := by
  by_cases hc : ∃ k, c = .gallerySample k
  · obtain ⟨k, rfl⟩ := hc
    exact execGallerySample_sound k s
  · obtain ⟨t, hNext, hFollows⟩ := exec_follows (fun k hk => hc ⟨k, hk⟩) s
    exact ⟨t, hNext, hFollows.toSound⟩

/-- A step answers a next state with the queue's rest that keeps `State.Inv`. -/
theorem step_sound (s : State) : ∃ t, step s = .next t ∧ t.pending = s.pending.tail ∧ (s.Inv → t.Inv) := by
  unfold step
  split
  next hEmpty =>
    have hIdle : s.Sound s.idle := (State.Keeps.refl s).idle.toSound
    exact ⟨_, rfl, by rw [hIdle.queue, hEmpty]; rfl, hIdle.inv⟩
  next c q hQueue =>
    obtain ⟨t, hNext, hSound⟩ := exec_sound c (s.withQueue q)
    exact ⟨t, hNext, by rw [hSound.queue, hQueue]; rfl, fun hi => hSound.inv { hi with }⟩

/-- Settles O2. -/
theorem stepLeavesTheQueuesRest : Obligations.StepLeavesTheQueuesRest := by
  intro s t hStep
  obtain ⟨u, hNext, hQueue, _⟩ := step_sound s
  cases hStep.symm.trans hNext
  exact hQueue

/-- Settles O4. -/
theorem everyStepKeepsInv : Obligations.EveryStepKeepsInv := by
  intro s t hInv hStep
  obtain ⟨u, hNext, _, hKeeps⟩ := step_sound s
  cases hStep.symm.trans hNext
  exact hKeeps hInv

/-- Settles O6. -/
theorem captureMemoryKept : Obligations.CaptureMemoryKept := by
  intro c s t hc hExec
  obtain ⟨u, hNext, hFollows⟩ := exec_follows hc s
  cases hExec.symm.trans hNext
  rcases hFollows.memory with hSame | ⟨hLost, hOff⟩
  · exact .inl (fun a => by rw [hSame])
  · exact .inr ⟨hOff, hLost⟩

end Sys2Proof.Machine
end

section
namespace Sys2Proof.Machine

/-- No word spells a command, so that a fetched word puts none in front of the queue. -/
theorem State.withFetchWord_eq (s : State) (nbits w : Nat) : s.withFetchWord nbits w = s := rfl

/-- Settles O1, by the cases of `step`. -/
theorem stepRunsTheFront : Obligations.StepRunsTheFront := by
  intro c q s
  refine ⟨fun hFront => ?_, fun hEmpty => ?_, s.withFetchWord_eq⟩
  · rw [step, hFront]
  · rw [step, hEmpty]

/-- Settles O5. -/
theorem resetHasInv : Obligations.ResetHasInv := State.reset_inv

end Sys2Proof.Machine
end

section
/-! PROOF. The interrupt controller (R340, R344 to R348). -/
namespace Sys2Proof.Machine

/-! ## The winner -/

theorem IntSt.winnerBelow_none_or (t : IntSt) (k n : Nat) :
    t.winnerBelow k n = 256 ∨ t.winnerBelow k n < n ∧ t.presented (t.winnerBelow k n) k = true := by
  induction n with
  | zero => exact .inl rfl
  | succ n ih =>
    unfold IntSt.winnerBelow
    split
    next hWinner => exact .inr ⟨n.lt_succ_self, hWinner⟩
    next =>
      rcases ih with hNone | ⟨hBelow, hWinner⟩
      · exact .inl hNone
      · exact .inr ⟨Nat.lt_succ_of_lt hBelow, hWinner⟩

theorem IntSt.le_winnerBelow {t : IntSt} {k m n : Nat} (hn : n ≤ 256) (hm : m < n) (hShown : t.presented m k = true) :
    m ≤ t.winnerBelow k n ∧ t.winnerBelow k n ≠ 256 := by
  induction n with
  | zero => exact absurd hm m.not_lt_zero
  | succ n ih =>
    unfold IntSt.winnerBelow
    split
    next => omega
    next hNot =>
      have hNe : m ≠ n := fun hEq => hNot (hEq ▸ hShown)
      exact ih (by omega) (by omega)

theorem State.readWinner_of_no_race {s : State} {k : Nat} (hRace : s.int.race.getD k none = none) :
    s.readWinner k = (s.int.winner k, s) := by
  unfold State.readWinner
  rw [hRace]

/-! ## One word of a wide register -/

theorem word_mask_getLsbD {W : Nat} (hW : 32 ≤ W) (i : Nat) : (0xFFFFFFFF#W).getLsbD i = decide (i < 32) := by
  rw [BitVec.getLsbD_ofNat, show (0xFFFFFFFF : Nat) = 2 ^ 32 - 1 from rfl, Nat.testBit_two_pow_sub_one]
  by_cases hi : i < 32
  · simp [hi, Nat.lt_of_lt_of_le hi hW]
  · simp [hi]

/-- Word `k` of a register of `W` bits takes `v`; every other word stays. -/
theorem setWord_getLsbD {W : Nat} (hW : 32 ≤ W) (x : BitVec W) (v : Word) (k n : Nat) (hn : n < W) :
    (x &&& ~~~(0xFFFFFFFF#W <<< (32 * k)) ||| (v.setWidth W <<< (32 * k))).getLsbD n
      = if n / 32 = k then v.getLsbD (n % 32) else x.getLsbD n := by
  simp only [BitVec.getLsbD_or, BitVec.getLsbD_and, BitVec.getLsbD_not, BitVec.getLsbD_shiftLeft, BitVec.getLsbD_setWidth,
    word_mask_getLsbD hW, hn, decide_true, Bool.true_and]
  by_cases hLow : n < 32 * k
  · have hk : n / 32 ≠ k := by omega
    simp [hLow, hk]
  · by_cases hHigh : n - 32 * k < 32
    · have hk : n / 32 = k := by omega
      have hBit : n - 32 * k = n % 32 := by omega
      simp [hLow, hk, hBit, Nat.mod_lt, Nat.lt_of_lt_of_le (Nat.mod_lt n (Nat.zero_lt_succ 31)) hW]
    · have hk : n / 32 ≠ k := by omega
      have hNone : v.getLsbD (n - 32 * k) = false := v.getLsbD_of_ge _ (by omega)
      simp [hLow, hHigh, hk, hNone]

/-- A target field of INT_TGTj takes its two bits of the word written (R346). -/
theorem setWord_target (x : BitVec 512) (v : Word) (j n : Nat) (hn : n < 256) :
    ((x &&& ~~~(0xFFFFFFFF#512 <<< (32 * j)) ||| (v.setWidth 512 <<< (32 * j))).extractLsb' (2 * n) 2).toNat
      = if n / 16 = j then v.toNat / 4 ^ (n % 16) % 4 else (x.extractLsb' (2 * n) 2).toNat := by
  have hValue : v.toNat / 4 ^ (n % 16) % 4 = (v.extractLsb' (2 * (n % 16)) 2).toNat := by
    rw [BitVec.extractLsb'_toNat, Nat.shiftRight_eq_div_pow, Nat.pow_mul]
  rw [hValue, ← apply_ite BitVec.toNat]
  congr 1
  apply BitVec.eq_of_getLsbD_eq
  intro i hi
  rw [BitVec.getLsbD_extractLsb', setWord_getLsbD (by omega) _ _ _ _ (by omega), apply_ite (BitVec.getLsbD · i),
    BitVec.getLsbD_extractLsb', BitVec.getLsbD_extractLsb']
  have hWord : (2 * n + i) / 32 = n / 16 := by omega
  have hBit : (2 * n + i) % 32 = 2 * (n % 16) + i := by omega
  rw [hWord, hBit]
  split <;> rfl

/-! ## Writes and the sleep lines -/

set_option Elab.async false in
theorem sleep_set_getLsbD (x : BitVec 4) (k m : Nat) (low : Bool) (hm : m < 4) :
    (if low then x ||| (1#4 <<< k) else x &&& ~~~(1#4 <<< k)).getLsbD m = if m = k then low else x.getLsbD m := by
  cases low <;>
    simp only [if_true, Bool.false_eq_true, if_false, BitVec.getLsbD_or, BitVec.getLsbD_and, BitVec.getLsbD_not, BitVec.getLsbD_shiftLeft,
      BitVec.getLsbD_one, hm, decide_true, Bool.true_and] <;>
    grind

theorem winnerReads (s : State) (k : Nat) (hRace : s.int.race.getD k none = none) :
    ((s.readWinner k).2 = s) ∧
    ((s.readWinner k).1 = 256 ∨ ((s.readWinner k).1 < 256 ∧ s.int.presented (s.readWinner k).1 k = true)) ∧
    (∀ n, n < 256 → s.int.presented n k = true → n ≤ (s.readWinner k).1 ∧ (s.readWinner k).1 ≠ 256) ∧
    (s.int.irq k = true ↔ (s.readWinner k).1 ≠ 256) := by
  rw [State.readWinner_of_no_race hRace]
  exact ⟨rfl, s.int.winnerBelow_none_or k 256, fun n hn => IntSt.le_winnerBelow (Nat.le_refl 256) hn, bne_iff_ne⟩

theorem exec_hsleepChange {s : State} (hOn : s.isOn 1 = true) {k : Nat} (hk : k < 4) (low : Bool) :
    ∃ t : State, exec (.hsleepChange k low) s = .next t ∧
      t = { s with int := { s.int with sleep := t.int.sleep, race := t.int.race, raceFb := t.int.raceFb, raceSeen := t.int.raceSeen } } ∧
      t.int.sleep = if low then s.int.sleep ||| (1#4 <<< k) else s.int.sleep &&& ~~~(1#4 <<< k) := by
  cases low <;> exact ⟨_, if_pos (by simp [hOn, hk]), rfl, rfl⟩

/-- Settles O7: the winner by recursion over the sources, the writes bit by bit. -/
theorem interruptControl : Obligations.InterruptControl := by
  refine ⟨winnerReads, fun s v hOn => ⟨fun k hk => ?_, fun k hk => ?_, fun j hj => ?_, fun k low hk => ?_⟩⟩
  · refine ⟨s.writePend k v, if_pos (by simp [hOn, hk]), rfl, fun n hn => ?_⟩
    exact setWord_getLsbD (by omega) s.int.pend v k n hn
  · refine ⟨s.writeEnables k v, if_pos (by simp [hOn, hk]), rfl, fun n hn => ?_⟩
    exact setWord_getLsbD (by omega) s.int.en v k n hn
  · refine ⟨s.writeTargets j v, if_pos (by simp [hOn, hj]), rfl, fun n hn => ?_⟩
    exact setWord_target s.int.tgt v j n hn
  · obtain ⟨t, hExec, hFrame, hSleep⟩ := exec_hsleepChange hOn hk low
    refine ⟨t, hExec, hFrame, fun m hm => ?_⟩
    rw [hSleep]
    exact sleep_set_getLsbD s.int.sleep k m low hm

end Sys2Proof.Machine
end

section
/-! PROOF. What follows a command (`State.settle`) and the parts of the state that it may touch. -/
-- Each lemma waits for the kernel on those before it; one at a time, they need no thread each.
namespace Sys2Proof.Machine

/-- `s` with the parts of `t` that faults, lines and answers to the partner touch. -/
def State.settledTo (s t : State) : State :=
  { s with
    regs := t.regs, eff := t.eff, pwr := { s.pwr with breach := t.pwr.breach }
    flt := t.flt, int := t.int, str := t.str, mod := t.mod, gdr := t.gdr
    pins := t.pins, gal := { t.gal with mem := s.gal.mem }
    cul := { s.cul with tokens := t.cul.tokens }
    twn := { s.twn with msgOut := t.twn.msgOut }, rve := { s.rve with mb := t.rve.mb } }

/-- The blocks whose registers follow: modulators, gate drive and the Gallery. -/
def settledBlock (a : Nat) : Bool := a / 65536 == 7 || a / 65536 == 9 || a / 65536 == 15

theorem settledBlock_iff {a : Nat} : settledBlock a = true ↔ a / 65536 = 7 ∨ a / 65536 = 9 ∨ a / 65536 = 15 := by
  simp [settledBlock, or_assoc]

/-- A modulator or gate drive register's keys alone may come into force. -/
def State.sameKeys (s t : State) : Prop :=
  SMap.wf s.eff = true → SMap.wf t.eff = true ∧ ∀ a, a / 65536 ≠ 7 → a / 65536 ≠ 9 → t.effWord a = s.effWord a

/-- `t` differs from `s` as what follows a command may make it. -/
structure State.Settles (s t : State) : Prop where
  parts : t = s.settledTo t
  words : ∀ a, settledBlock a = false → t.word a = s.word a
  keys : s.sameKeys t

theorem State.sameKeys_trans {s t u : State} (h : s.sameKeys t) (h' : t.sameKeys u) : s.sameKeys u := by
  intro hs
  obtain ⟨ht, hEff⟩ := h hs
  obtain ⟨hu, hEff'⟩ := h' ht
  exact ⟨hu, fun a h7 h9 => (hEff' a h7 h9).trans (hEff a h7 h9)⟩

theorem SMap.find_foldl_set (l : List (Nat × Word)) (m : List (Nat × Word)) (a : Nat) (hl : ∀ kv ∈ l, kv.1 ≠ a) :
    SMap.find (l.foldl (fun m kv => SMap.set m kv.1 kv.2) m) a = SMap.find m a := by
  induction l generalizing m with
  | nil => rfl
  | cons kv l ih =>
    have hNe : a ≠ kv.1 := (hl kv (.head _)).symm
    rw [List.foldl_cons, ih _ (fun k hk => hl k (.tail _ hk)), SMap.find_set, if_neg hNe]

/-- A key whose register `p` leaves out stays in force as it is. -/
theorem State.effWord_applyKeys {s : State} {p : Nat → Bool} (hs : SMap.wf s.eff = true) {a : Nat} (ha : p a = false) :
    (s.applyKeys p).effWord a = s.effWord a := by
  have hOut : ∀ kv ∈ s.cfg.filter (fun kv => p kv.1), kv.1 ≠ a := by
    rintro kv hkv rfl
    simp [ha] at hkv
  unfold State.effWord State.applyKeys
  rw [State.withEff_eff, SMap.find_foldl_set _ _ _ hOut, SMap.find_filter s.eff (fun k => !p k) a hs (by simp [ha])]

namespace State.Settles
variable {s t u : State}

theorem refl (s : State) : s.Settles s := ⟨rfl, fun _ _ => rfl, fun h => ⟨h, fun _ _ _ => rfl⟩⟩

theorem trans (h : s.Settles t) (h' : t.Settles u) : s.Settles u where
  parts := by
    have hu := h'.parts
    rw [h.parts] at hu
    exact hu
  words a ha := (h'.words a ha).trans (h.words a ha)
  keys := State.sameKeys_trans h.keys h'.keys

theorem ite {c : Prop} [Decidable c] (ht : s.Settles t) (hu : s.Settles u) : s.Settles (if c then t else u) := by
  split
  · exact ht
  · exact hu

theorem foldlMem {α : Type} {f : State → α → State} {l : List α} (hf : ∀ u, ∀ a ∈ l, s.Settles u → s.Settles (f u a))
    (h : s.Settles t) : s.Settles (l.foldl f t) := by
  induction l generalizing t with
  | nil => exact h
  | cons a l ih => exact ih (fun u b hb => hf u b (.tail a hb)) (hf t a (.head l) h)

theorem foldl {α : Type} {f : State → α → State} {l : List α} (hf : ∀ u a, s.Settles u → s.Settles (f u a)) (h : s.Settles t) :
    s.Settles (l.foldl f t) := h.foldlMem (fun u a _ => hf u a)

/-! ## One part of the state replaced -/

/-- Registers and keys as before. -/
theorem of_parts (h : s.Settles t) (hParts : u = t.settledTo u) (hRegs : u.regs = t.regs) (hEff : u.eff = t.eff) : s.Settles u := by
  refine h.trans ⟨hParts, fun a _ => ?_, fun hw => ⟨?_, fun a _ _ => ?_⟩⟩
  · unfold State.word
    rw [hRegs]
  · rw [hEff]
    exact hw
  · unfold State.effWord
    rw [hEff]

set_option Elab.async false in
theorem withPwr {v : PowerSt} (h : s.Settles t) (hv : { t.pwr with breach := v.breach } = v := by rfl) : s.Settles (t.withPwr v) :=
  h.of_parts (congrArg t.withPwr hv.symm) rfl rfl
theorem withRve {v : ReeveSt} (h : s.Settles t) (hv : { t.rve with mb := v.mb } = v := by rfl) : s.Settles (t.withRve v) :=
  h.of_parts (congrArg t.withRve hv.symm) rfl rfl
theorem withFlt {v : FaultSt} (h : s.Settles t) : s.Settles (t.withFlt v) := h.of_parts rfl rfl rfl
theorem withInt {v : IntSt} (h : s.Settles t) : s.Settles (t.withInt v) := h.of_parts rfl rfl rfl
theorem withStr {v : StrataSt} (h : s.Settles t) : s.Settles (t.withStr v) := h.of_parts rfl rfl rfl
theorem withCul {v : CulvertSt} (h : s.Settles t) (hv : { t.cul with tokens := v.tokens } = v := by rfl) : s.Settles (t.withCul v) :=
  h.of_parts (congrArg t.withCul hv.symm) rfl rfl
theorem withMod {v : ModSt} (h : s.Settles t) : s.Settles (t.withMod v) := h.of_parts rfl rfl rfl
theorem withGdr {v : GdrSt} (h : s.Settles t) : s.Settles (t.withGdr v) := h.of_parts rfl rfl rfl
theorem withPins {v : PinSt} (h : s.Settles t) : s.Settles (t.withPins v) := h.of_parts rfl rfl rfl
theorem withTwn {v : TwinSt} (h : s.Settles t) (hv : { t.twn with msgOut := v.msgOut } = v := by rfl) : s.Settles (t.withTwn v) :=
  h.of_parts (congrArg t.withTwn hv.symm) rfl rfl
theorem withGal {v : GallerySt} (h : s.Settles t) (hv : v.mem = t.gal.mem := by rfl) : s.Settles (t.withGal v) :=
  h.of_parts (congrArg (fun m => t.withGal { v with mem := m }) hv) rfl rfl

theorem setWord {a : Nat} {v : Word} (h : s.Settles t) (ha : settledBlock a = true := by rfl) : s.Settles (t.setWord a v) := by
  refine h.trans ⟨rfl, fun b hb => ?_, fun hw => ⟨hw, fun _ _ _ => rfl⟩⟩
  have hNe : b ≠ a := by
    rintro rfl
    rw [ha] at hb
    exact nomatch hb
  rw [State.word_setWord, if_neg hNe]

/-- Keys of modulator and gate drive registers come into force. -/
theorem applyKeys {p : Nat → Bool} (h : s.Settles t) (hp : ∀ a, a / 65536 ≠ 7 → a / 65536 ≠ 9 → p a = false) :
    s.Settles (t.applyKeys p) :=
  h.trans ⟨rfl, fun _ _ => rfl, fun hw =>
    ⟨wf_foldl_set _ (SMap.wf_filter _ _ hw), fun a h7 h9 => State.effWord_applyKeys hw (hp a h7 h9)⟩⟩

theorem settledBlock_counts {p : Nat} (hp : p < 4) : settledBlock (R.GAL_PROFp_COUNTS p) = true := by
  simp only [settledBlock_iff, R.GAL_PROFp_COUNTS]
  omega

set_option Elab.async false in
theorem put {f : Fld} {v : Nat} (h : s.Settles t) (hf : settledBlock f.addr = true := by rfl) : s.Settles (t.put f v) :=
  h.setWord hf

theorem flag {f : Fld} {b : Bool} (h : s.Settles t) (hf : settledBlock f.addr = true := by rfl) : s.Settles (t.flag f b) :=
  h.put hf

theorem bump {f : Fld} (h : s.Settles t) (hf : settledBlock f.addr = true := by rfl) : s.Settles (t.bump f) := h.put hf

theorem setPend {n : Nat} (h : s.Settles t) : s.Settles (t.setPend n) := h.withInt

theorem raise167 (h : s.Settles t) : s.Settles t.raise167 := by
  unfold State.raise167
  refine .ite ?_ h
  extract_lets t1 _ t2
  have h1 : s.Settles t1 := h.setPend
  have h2 : s.Settles t2 := h1.withInt
  exact .ite h2.withStr h2

theorem offer {q : Nat} {e : StrataOffer} (h : s.Settles t) : s.Settles (t.offer q e) := by
  unfold State.offer
  refine .ite ?_ h
  extract_lets _ t1
  have h1 : s.Settles t1 := h.withStr
  exact .ite h1.raise167 h1

theorem offerRaise {n : Nat} (h : s.Settles t) : s.Settles (t.offerRaise n) := by
  unfold State.offerRaise
  extract_lets _ t1
  have h1 : s.Settles t1 := h.withStr
  exact .ite h1.raise167 h1

theorem raiseInt {n : Nat} (h : s.Settles t) : s.Settles (t.raiseInt n) := by
  unfold State.raiseInt
  refine .ite ?_ h
  extract_lets t1
  have h1 : s.Settles t1 := h.setPend
  exact .ite h1.offerRaise h1

theorem raiseFirst {n : Nat} (h : s.Settles t) : s.Settles (t.raiseFirst n) := .ite h.withInt.raiseInt h

theorem aliveFollow (h : s.Settles t) : s.Settles t.aliveFollow := .ite h h.withFlt

theorem setMb {n : Nat} {m : MbSt} (h : s.Settles t) : s.Settles (t.setMb n m) := h.withRve

theorem raiseToken {line : Nat} {tide : Nat} {offset : Nat} {repeated : Bool} (h : s.Settles t) : s.Settles (t.raiseToken line tide offset repeated) := h.withCul

theorem hbFault {n : Nat} {cause : Nat} (h : s.Settles t) (hn : n < 4) : s.Settles (t.hbFault n cause) := by
  have hWord : settledBlock (R.GDR_HBn_FAULT n) = true := by
    simp only [settledBlock_iff, R.GDR_HBn_FAULT]
    omega
  unfold State.hbFault
  extract_lets t1 _ _ t2 t3 t4
  have h1 : s.Settles t1 := h.setWord hWord
  have h2 : s.Settles t2 := .ite h1 h1.withGdr
  have h3 : s.Settles t3 := h2.bump hWord
  have h4 : s.Settles t4 := h3.put
  exact .ite h2 h4.raiseInt

theorem uvloFaults (h : s.Settles t) : s.Settles t.uvloFaults := by
  unfold State.uvloFaults
  refine .ite (.foldlMem (fun u n hn h1 => ?_) h) h
  have hHb : n < 4 := by simp at hn; omega
  refine .ite h1 ?_
  extract_lets _ _ t1
  have h2 : s.Settles t1 := .ite (h1.hbFault hHb) h1
  exact .ite (h2.hbFault hHb) h2

set_option Elab.async false in
theorem setInputs {new : List HbLevel} (h : s.Settles t) : s.Settles (t.setInputs new) := by
  unfold State.setInputs
  extract_lets _ _ _ _ t1
  have h1 : s.Settles t1 := h.withMod
  exact h1.withGdr

theorem notchesLeft (h : s.Settles t) : s.Settles t.notchesLeft := h.withGdr

theorem drive (h : s.Settles t) : s.Settles t.drive := by
  unfold State.drive
  extract_lets _ t1 t2 _ t3 _ t4 t5 _ _ t6 t7 t8 _ t9
  have h1 : s.Settles t1 := .ite h.withMod h
  have h2 : s.Settles t2 := h1.notchesLeft
  have h3 : s.Settles t3 := h2.setInputs
  have h4 : s.Settles t4 := h3.withMod
  have h5 : s.Settles t5 := h4.uvloFaults
  have h6 : s.Settles t6 := h5.withPins
  have h7 : s.Settles t7 := h6.put
  have h8 : s.Settles t8 := h7.flag
  have h9 : s.Settles t9 := .ite h8.put h6
  exact .ite h9.flag h9

theorem showFunction (h : s.Settles t) : s.Settles t.showFunction := h.put

theorem tripLatch {t' : Nat} (h : s.Settles t) : s.Settles (t.tripLatch t') := by
  unfold State.tripLatch
  extract_lets _ t1 t2 _ t3
  have h1 : s.Settles t1 := h.put
  have h2 : s.Settles t2 := h1.put
  have h3 : s.Settles t3 := h2.withMod
  exact .ite h h3.raiseInt.drive

theorem tripKey {t' : Nat} (h : s.Settles t) : s.Settles (t.tripKey t') := by
  unfold State.tripKey
  extract_lets _ _ _ t1
  have h1 : s.Settles t1 := .ite h h.put
  exact .ite h1.tripLatch h1

theorem tripKeys (h : s.Settles t) : s.Settles t.tripKeys := by
  unfold State.tripKeys
  extract_lets _ t1
  have h1 : s.Settles t1 := .ite h.withGdr h
  exact .foldl (fun _ _ => tripKey) h1

theorem applyModKeys (h : s.Settles t) : s.Settles t.applyModKeys := by
  unfold State.applyModKeys
  extract_lets _ t1
  have h1 : s.Settles t1 := h.applyKeys (fun a h7 h9 => by simp [modKey, h7, h9])
  exact .ite h1.withMod h1

theorem applyHeld (h : s.Settles t) : s.Settles t.applyHeld := by
  unfold State.applyHeld
  refine .ite ?_ h
  extract_lets t1 t2
  have h1 : s.Settles t1 := h.applyModKeys
  have h2 : s.Settles t2 := h1.put
  exact h2.showFunction.tripKeys.raiseInt.drive

theorem modDisable (h : s.Settles t) : s.Settles t.modDisable := by
  unfold State.modDisable
  extract_lets t1 _ t2
  have h1 : s.Settles t1 := h.put.put
  have h2 : s.Settles t2 := h1.withMod
  exact h2.drive.applyHeld

theorem setGp {p : Nat} {x : GalProf} (h : s.Settles t) : s.Settles (t.setGp p x) := h.withGal

theorem overwrite {i : Nat} (h : s.Settles t) : s.Settles (t.overwrite i) := h.withGal

theorem galState {p : Nat} {v : Nat} (h : s.Settles t) : s.Settles (t.galState p v) := by
  unfold State.galState
  extract_lets _ t1
  have h1 : s.Settles t1 := h.setGp
  exact h1.setWord

theorem fillSlot {p : Nat} {i : Nat} (h : s.Settles t) : s.Settles (t.fillSlot p i) := by
  unfold State.fillSlot
  extract_lets _ _ _ _ t1 _ t2
  have h1 : s.Settles t1 := .foldl (fun _ _ h2 => h2.overwrite) h.withGal
  have h3 : s.Settles t2 := h1.setGp
  exact h3.galState

set_option Elab.async false in
theorem holdOver {p : Nat} (h : s.Settles t) : s.Settles (t.holdOver p) :=
  State.holdOver_cases (fun _ => h.fillSlot) h.galState.raiseInt

theorem galRecord {p : Nat} {f : GalRecord → GalRecord} (h : s.Settles t) : s.Settles (t.galRecord p f) := h.withGal

theorem galComplete {p : Nat} (h : s.Settles t) : s.Settles (t.galComplete p) := by
  unfold State.galComplete
  extract_lets t1 _ t2
  have h1 : s.Settles t1 := h.galRecord.raiseInt
  have h2 : s.Settles t2 := h1.setGp.galState
  exact .ite h1.galState (.ite h2.holdOver h2)

theorem galEnough {p : Nat} (h : s.Settles t) : s.Settles (t.galEnough p) := .ite h.galComplete h

theorem coincident {p : Nat} {c : Nat} (h : s.Settles t) (hp : p < 4) : s.Settles (t.coincident p c) :=
  h.galRecord.bump (settledBlock_counts hp)

theorem galToken {p : Nat} {x : GalInstant} {frac : Nat} (h : s.Settles t) : s.Settles (t.galToken p x frac) := by
  unfold State.galToken
  extract_lets _ _ _ _ _ _ t1 t2
  have h1 : s.Settles t1 := h.setGp
  have h2 : s.Settles t2 := .ite h1.raiseToken h1
  exact h2.raiseInt

theorem galAccept {p : Nat} {t' : GalTrigger} (h : s.Settles t) (hp : p < 4) : s.Settles (t.galAccept p t') := by
  have hLast : settledBlock (R.GAL_PROFp_LAST p) = true := by
    simp only [settledBlock_iff, R.GAL_PROFp_LAST]
    omega
  unfold State.galAccept
  extract_lets _ _ _ _ _ _ _ _ _ _ t1 t2 t3 _ t4
  have h1 : s.Settles t1 := h.withGal
  have h2 : s.Settles t2 := h1.put
  have h3 : s.Settles t3 := (h2.put hLast).put hLast
  have h4 : s.Settles t4 := h3.setGp.galState
  exact .ite h4.galToken h4

theorem galTrigger {p : Nat} {t' : GalTrigger} (h : s.Settles t) (hp : p < 4) : s.Settles (t.galTrigger p t') := by
  unfold State.galTrigger
  extract_lets _ t1 _ t2
  have h1 : s.Settles t1 := (h.bump (settledBlock_counts hp)).raiseFirst
  have h2 : s.Settles t2 := h1.setGp
  exact .ite h (.ite (h.coincident hp) (.ite (h.galAccept hp) (.ite (.ite h2.holdOver h2) h1)))

theorem galNow {p : Nat} {cause : Nat} (h : s.Settles t) (hp : p < 4) : s.Settles (t.galNow p cause) :=
  .ite (h.galTrigger hp) (h.galTrigger hp)

theorem galFault {c : Nat} (h : s.Settles t) : s.Settles (t.galFault c) :=
  .ite (.foldlMem (fun _ p hp h1 => .ite (h1.galNow (by simp at hp; omega)) h1) h) h

theorem galDone (h : s.Settles t) : s.Settles t.galDone := .ite (.foldl (fun _ _ => galEnough) h) h

theorem twinSay {type : Nat} {bytes : List Byte} {mailbox : Nat} (h : s.Settles t) : s.Settles (t.twinSay type bytes mailbox) := h.withTwn

theorem setClass {n : Nat} {c : Nat} (h : s.Settles t) : s.Settles (t.setClass n c) := by
  unfold State.setClass
  extract_lets
  exact h.withFlt

theorem faultEvent {n : Nat} (h : s.Settles t) : s.Settles (t.faultEvent n) := by
  unfold State.faultEvent
  split
  · exact h
  · extract_lets _ _ _ _ t1 _ _ _ _ t2 t3 t4 _ t5 t6
    have h1 : s.Settles t1 := h.setClass
    have h2 : s.Settles t2 := h1.withFlt.raiseInt
    have h3 : s.Settles t3 := .ite h2.raiseInt h2
    have h4 : s.Settles t4 := h3.offer
    have h5 : s.Settles t5 := .ite h4.withPwr h4
    have h6 : s.Settles t6 := .ite h5.modDisable h5
    exact h6.galFault

set_option Elab.async false in
theorem collect (h : s.Settles t) : s.Settles t.collect := by
  unfold State.collect
  refine .ite ?_ h
  extract_lets _ _ _ _ _ _ t1
  have h1 : s.Settles t1 := .foldl (fun _ _ h2 => .ite h2.faultEvent h2) h.withFlt
  exact h1.withFlt.galDone

theorem answerPartner (h : s.Settles t) : s.Settles t.answerPartner := .foldl (fun _ _ h1 => .ite h1.twinSay.setMb h1) h

theorem endClock (h : s.Settles t) : s.Settles t.endClock := h.withStr

theorem settle (h : s.Settles t) : s.Settles t.settle := h.collect.answerPartner.aliveFollow.endClock

end State.Settles

/-- Settles O8: every operation that follows a command touches those parts alone. -/
theorem settleFrame : Obligations.SettleFrame := by
  intro s
  obtain ⟨hParts, hWords, hKeys⟩ := (State.Settles.refl s).settle
  refine ⟨hParts, fun a h7 h9 h15 => hWords a ?_, fun hw => (hKeys hw).2⟩
  simp [settledBlock, h7, h9, h15]

end Sys2Proof.Machine
end

section
/-! PROOF. Fields after writes of fields, and the bits that writes leave alone. -/
namespace Sys2Proof.Machine

/-- A field within its word. -/
def Fld.fits (f : Fld) : Bool := Nat.ble (f.lo + f.w) 32

/-- Two fields that share no bit. -/
def Fld.apart (f g : Fld) : Bool := Nat.ble (f.lo + f.w) g.lo || Nat.ble (g.lo + g.w) f.lo || f.addr != g.addr

theorem Fld.fits_iff {f : Fld} : f.fits = true ↔ f.lo + f.w ≤ 32 := iff_of_eq Nat.ble_eq

theorem Fld.apart_iff {f g : Fld} : f.apart g = true ↔ f.lo + f.w ≤ g.lo ∨ g.lo + g.w ≤ f.lo ∨ f.addr ≠ g.addr := by
  simp only [Fld.apart, Bool.or_eq_true, Nat.ble_eq, bne_iff_ne, or_assoc]

theorem State.get_put_same (s : State) (f : Fld) (v : Nat) (h : f.fits = true) : (s.put f v).get f = v % 2 ^ f.w :=
  s.get_put_self f v (Fld.fits_iff.1 h)

theorem State.get_put_apart (s : State) (f g : Fld) (v : Nat) (hg : g.fits = true) (h : f.apart g = true) :
    (s.put f v).get g = s.get g := by
  rcases Fld.apart_iff.1 h with h | h | h
  · exact s.get_put_bits f g v (.inr h) (Fld.fits_iff.1 hg)
  · exact s.get_put_bits f g v (.inl h) (Fld.fits_iff.1 hg)
  · exact s.get_put_addr f g v h.symm

theorem State.is_put_same (s : State) (f : Fld) (v : Nat) (h : f.fits = true) : (s.put f v).is f = (v % 2 ^ f.w != 0) := by
  rw [State.is, s.get_put_same f v h]

theorem State.is_put_apart (s : State) (f g : Fld) (v : Nat) (hg : g.fits = true) (h : f.apart g = true) :
    (s.put f v).is g = s.is g := by
  rw [State.is, State.is, s.get_put_apart f g v hg h]

theorem State.getS_put_apart (s : State) (f g : Fld) (v : Nat) (hg : g.fits = true) (h : f.apart g = true) :
    (s.put f v).getS g = s.getS g := by
  rw [State.getS, State.getS, s.get_put_apart f g v hg h]

theorem State.get_setWord_ne (s : State) (a : Nat) (v : Word) (f : Fld) (h : f.addr ≠ a) : (s.setWord a v).get f = s.get f := by
  rw [State.get, State.word_setWord, if_neg h, State.get]

theorem State.is_setWord_ne (s : State) (a : Nat) (v : Word) (f : Fld) (h : f.addr ≠ a) : (s.setWord a v).is f = s.is f := by
  rw [State.is, s.get_setWord_ne a v f h, State.is]

/-- A one-bit field takes a Boolean. -/
theorem State.is_flag_same (s : State) (f : Fld) (b : Bool) (h : f.fits = true) (hw : f.w = 1) : (s.flag f b).is f = b := by
  rw [State.flag_eq, s.is_put_same f _ h, hw]
  cases b <;> rfl

/-! ## The bits outside the fields written -/

namespace State.sameBits
variable {s t u : State} {l : List Fld}

set_option Elab.async false in
theorem of_regs (h : s.sameBits t l) (hRegs : u.regs = t.regs) : s.sameBits u l := State.sameBits_of_regs h hRegs

theorem put (h : s.sameBits t l) {f : Fld} {v : Nat} (hf : f ∈ l := by simp) : s.sameBits (t.put f v) l :=
  State.sameBits_put h f v hf

theorem setWord (h : s.sameBits t l) {a : Nat} {v : Word} (ha : ⟨a, 0, 32⟩ ∈ l := by simp) : s.sameBits (t.setWord a v) l := by
  refine State.sameBits_trans h fun b i hi hn => ?_
  rw [State.word_setWord, if_neg]
  rintro rfl
  exact hn ⟨_, ha, rfl, Nat.zero_le i, by simpa using hi⟩

theorem flag (h : s.sameBits t l) {f : Fld} {b : Bool} (hf : f ∈ l := by simp) : s.sameBits (t.flag f b) l := h.put hf

theorem putS (h : s.sameBits t l) {f : Fld} {i : Int} (hf : f ∈ l := by simp) : s.sameBits (t.putS f i) l := h.put hf

theorem bump (h : s.sameBits t l) {f : Fld} (hf : f ∈ l := by simp) : s.sameBits (t.bump f) l := h.put hf

theorem raiseInt (h : s.sameBits t l) {n : Nat} : s.sameBits (t.raiseInt n) l := h.of_regs (t.raiseInt_regs n)

theorem fault (h : s.sameBits t l) {n : Nat} : s.sameBits (t.fault n) l := h.of_regs (t.fault_regs n)

theorem ite (ht : s.sameBits t l) {c : Prop} [Decidable c] (hu : s.sameBits u l) : s.sameBits (if c then t else u) l := by
  split
  · exact ht
  · exact hu

end State.sameBits

/-! ## Masks of one bit -/

theorem getLsbD_bit (n i k : Nat) : (1#n <<< i).getLsbD k = (decide (k < n) && decide (k = i)) := by
  rw [BitVec.getLsbD_shiftLeft, BitVec.getLsbD_one, Bool.eq_iff_iff]
  simp only [Bool.and_eq_true, Bool.not_eq_true', decide_eq_true_eq, decide_eq_false_iff_not]
  omega

theorem getLsbD_setBit {n : Nat} (v : BitVec n) {i : Nat} (hi : i < n) (k : Nat) :
    (v ||| 1#n <<< i).getLsbD k = (v.getLsbD k || decide (k = i)) := by
  rw [BitVec.getLsbD_or, getLsbD_bit]
  by_cases hk : k = i <;> simp [hk, hi]

theorem getLsbD_clearBit {n : Nat} (v : BitVec n) (i k : Nat) : (v &&& ~~~(1#n <<< i)).getLsbD k = (v.getLsbD k && !decide (k = i)) := by
  rw [BitVec.getLsbD_and, BitVec.getLsbD_not, getLsbD_bit]
  by_cases hk : k < n
  · simp only [hk, decide_true, Bool.true_and]
  · rw [BitVec.getLsbD_of_ge _ _ (Nat.le_of_not_lt hk), Bool.false_and, Bool.false_and]

/-! ## Answers -/

theorem next_settle {t u : State} (h : t = u) : (Host.Outcome.next t.settle : Ans) = .next u.settle := h ▸ rfl

/-! ## Pending bits -/

theorem State.pends_of_int {s t : State} (h : t.int = s.int) (n : Nat) : t.pends n = s.pends n := by
  rw [State.pends, State.pends, h]

@[simp] theorem State.put_pends (s : State) (f : Fld) (v n : Nat) : (s.put f v).pends n = s.pends n := rfl

/-- A raise sets the pending bit of its source. -/
theorem State.raiseInt_pends_self (s : State) {n : Nat} (hn : n < 256) (h167 : n ≠ 167) :
    (s.raiseInt n).pends n = (s.isOn 1 || s.pends n) := by
  rw [s.raiseInt_pends n hn h167, decide_eq_true rfl, Bool.and_true, Bool.or_comm]

end Sys2Proof.Machine
end

section
/-! PROOF. The drip clock and ALIVE (R83, R337, R472). -/
namespace Sys2Proof.Machine

/-- Settles O13. -/
theorem dripAndAlive : Obligations.DripAndAlive := by
  intro s
  refine ⟨fun guards hCrest => ?_, fun hCrest hDrip => ?_, fun hMay hRun => ?_, fun hMay hRun => ?_, fun hMay => ?_⟩
  · refine ⟨_, if_pos hCrest, ?_, ?_, ?_, fun hVio hRuns => ?_, fun hKeep => ?_⟩
    · exact State.is_put_same _ _ 1 rfl
    · split
      all_goals exact ((s.sameBits_refl _).of_regs rfl).put.of_regs rfl
    · split
      all_goals rfl
    · simp [hVio, hRuns]
    · rw [if_neg]
      · rfl
      · rcases hKeep with h | h <;> simp [h]
  · have hBoth : (s.pwr.vcrest && (s.isOn 1 || !s.is F.PWR_STATE_DRIP_OK)) = true := by
      rcases hDrip with h | h <;> simp [hCrest, h]
    exact ⟨_, if_pos hBoth, State.is_put_same _ _ 0 rfl, rfl, ((s.sameBits_refl _).of_regs rfl).put.of_regs rfl⟩
  · exact (if_pos hMay).trans (if_pos hRun)
  · exact (if_pos hMay).trans (if_neg (Bool.eq_false_iff.1 hRun))
  · exact if_neg (Bool.eq_false_iff.1 hMay)

end Sys2Proof.Machine
end

section
/-! PROOF. VCREST rises and falls (R11, R54, R55, R85). -/
namespace Sys2Proof.Machine

set_option Elab.async false in
theorem State.cutCommit_only (s : State) : ∃ o l, s.cutCommit = s.withVlt { s.vlt with op := o, aborts := l } := by
  delta State.cutCommit
  cases s.vlt.op with
  | none => exact ⟨s.vlt.op, s.vlt.aborts, rfl⟩
  | some o => exact ⟨none, _, rfl⟩

/-- Settles O9. -/
theorem crestSupplyRisesAndFalls : Obligations.CrestSupplyRisesAndFalls := by
  refine ⟨fun straps good vio3 vio s => ⟨fun hOn => if_pos hOn, fun hOff => ?_⟩,
    fun s => ⟨fun hOff => if_neg (Bool.eq_false_iff.1 hOff), fun hOn => ?_⟩⟩
  · exact ⟨_, if_neg (Bool.eq_false_iff.1 hOff), rfl, rfl, rfl, rfl, rfl, rfl, rfl, rfl, rfl, rfl, show resetWord R.PWR_WAKE_CAUSE = 1 by decide,
      fun _ => ⟨rfl, rfl, rfl⟩, rfl, rfl, rfl, rfl, rfl⟩
  · obtain ⟨o, l, hCut⟩ := s.cutCommit_only
    refine ⟨_, if_pos hOn, rfl, rfl, rfl, rfl, rfl, rfl, rfl, rfl, rfl, rfl, fun _ => ⟨rfl, rfl, rfl⟩, rfl, ?_⟩
    rw [hCut]
    exact ⟨rfl, rfl, rfl, rfl⟩

end Sys2Proof.Machine
end

section
/-! PROOF. Polders that go off (R79, R80, R284): the registers, and what is left of the rest. -/
namespace Sys2Proof.Machine

/-! ## Maps by filter -/

theorem SMap.find_filter_of_not {α : Type} (m : List (Nat × α)) {f : Nat → Bool} {k : Nat} (hk : f k = false) :
    SMap.find (m.filter (fun p => f p.1)) k = none := by
  induction m with
  | nil => rfl
  | cons p r ih =>
    by_cases hp : f p.1 = true
    · have hne : k ≠ p.1 := by rintro rfl; rw [hk] at hp; exact Bool.false_ne_true hp
      rw [List.filter_cons_of_pos (by exact hp)]
      obtain ⟨a, v⟩ := p
      simp only [SMap.find, if_neg hne, ih, ite_self]
    · rw [List.filter_cons_of_neg (by exact hp), ih]

/-- What a filtered map of words reads as, with a value for absent keys. -/
theorem SMap.getD_find_filter {α : Type} {m : List (Nat × α)} (h : SMap.wf m = true) (f : Nat → Bool) (k : Nat) (d : α) :
    (SMap.find (m.filter (fun p => f p.1)) k).getD d = if f k = true then (SMap.find m k).getD d else d := by
  split
  next hk => rw [SMap.find_filter m f k h hk]
  next hk => rw [SMap.find_filter_of_not m (Bool.eq_false_iff.2 hk)]; rfl

/-! ## The frame of a polder that goes off -/

/-- What a polder that goes off leaves: of power all but the polders and the calibration run; the Vault's flash; the configuration;
the queue; and of the capture memory and the gates the same or nothing. -/
structure State.Stops (s t : State) : Prop where
  pwr : ∃ on starting run, t.pwr = { s.pwr with on := on, starting := starting, calRun := run }
  slots : t.vlt.slots = s.vlt.slots
  journal : t.vlt.journal = s.vlt.journal
  cfg : t.cfg = s.cfg
  pending : t.pending = s.pending
  memory : s.gal.mem = [] → t.gal.mem = []
  gates : s.pins.gates = 0 → t.pins.gates = 0

namespace State.Stops
variable {s t u : State}

theorem refl (s : State) : s.Stops s := ⟨⟨s.pwr.on, s.pwr.starting, s.pwr.calRun, rfl⟩, rfl, rfl, rfl, rfl, id, id⟩

theorem trans (h : s.Stops t) (h' : t.Stops u) : s.Stops u where
  pwr := by
    obtain ⟨_, _, _, hp⟩ := h.pwr
    obtain ⟨on, st, run, hp'⟩ := h'.pwr
    exact ⟨on, st, run, by rw [hp', hp]⟩
  slots := h'.slots.trans h.slots
  journal := h'.journal.trans h.journal
  cfg := h'.cfg.trans h.cfg
  pending := h'.pending.trans h.pending
  memory := h'.memory ∘ h.memory
  gates := h'.gates ∘ h.gates

/-- An update that leaves all of these parts as they are. -/
theorem of_eq (hPwr : t.pwr = s.pwr) (hVlt : t.vlt = s.vlt) (hCfg : t.cfg = s.cfg) (hQueue : t.pending = s.pending) (hGal : t.gal = s.gal)
    (hPins : t.pins = s.pins) : s.Stops t :=
  ⟨⟨s.pwr.on, s.pwr.starting, s.pwr.calRun, hPwr⟩, by rw [hVlt], by rw [hVlt], hCfg, hQueue, fun h => by rw [hGal, h],
    fun h => by rw [hPins, h]⟩

end State.Stops

theorem State.keepSwitching_only (s : State) (p : Nat) : ∃ w, s.keepSwitching p = s.withWear w := by
  delta State.keepSwitching
  dsimp only
  split
  · exact ⟨_, rfl⟩
  · exact ⟨s.wear, rfl⟩

theorem State.lpeSilent_only (s : State) : ∃ r l, s.lpeSilent = (s.withRegs r).withLpe l := by
  have hFold : ∀ {α : Type} (f : State → α → State) (l : List α) (t : State), (∀ t a, ∃ r, f t a = t.withRegs r) →
      ∃ r, l.foldl f t = t.withRegs r := by
    intro α f l
    induction l with
    | nil => exact fun t _ => ⟨t.regs, rfl⟩
    | cons a l ih =>
      intro t hf
      obtain ⟨r, hr⟩ := hf t a
      obtain ⟨r', hr'⟩ := ih (f t a) hf
      exact ⟨r', by rw [List.foldl_cons, hr', hr]; rfl⟩
  delta State.lpeSilent
  split
  · extract_lets t u
    obtain ⟨r, hr⟩ : ∃ r, t = s.withRegs r := hFold _ _ _ fun _ _ => ⟨_, rfl⟩
    obtain ⟨r', hr'⟩ : ∃ r, u = t.withRegs r := hFold _ _ _ fun _ _ => ⟨_, rfl⟩
    clear_value u
    subst hr'
    clear_value t
    subst hr
    exact ⟨r', _, rfl⟩
  · exact ⟨s.regs, s.lpe, rfl⟩

theorem State.lpeSilent_off {s : State} (h : s.isOn 11 = false) : s.lpeSilent = s := if_neg (Bool.eq_false_iff.1 h)

theorem State.dropHidden_stops (s : State) (p : Nat) : s.Stops (s.dropHidden p) := by
  obtain ⟨o, l, hCut⟩ := s.cutCommit_only
  obtain ⟨r, e, hSilent⟩ := (s.withCul (s.cul.without 5)).lpeSilent_only
  delta State.dropHidden
  split
  case h_3 =>
    rw [hCut]
    exact ⟨⟨_, _, _, rfl⟩, rfl, rfl, rfl, rfl, id, id⟩
  case h_5 =>
    rw [hSilent]
    exact .of_eq rfl rfl rfl rfl rfl rfl
  case h_9 => exact ⟨⟨_, _, _, rfl⟩, rfl, rfl, rfl, rfl, fun _ => rfl, id⟩
  case h_12 => exact ⟨⟨_, _, _, rfl⟩, rfl, rfl, rfl, rfl, id, id⟩
  case h_13 => exact ⟨⟨_, _, _, rfl⟩, rfl, rfl, rfl, rfl, id, fun _ => rfl⟩
  all_goals exact .of_eq (by simp) (by simp) (by simp) (by simp) (by simp) (by simp)

/-- The state of a polder's switches, registers and rows dropped, before what else it holds. -/
def State.unpowered (s : State) (p : Nat) : State :=
  ((s.withPwr { s.pwr with on := s.pwr.on &&& ~~~(1#16 <<< p), starting := s.pwr.starting.filter (· != p) }).withRegs
    (s.regs.filter (fun kv => polderOf kv.1 != p))).withEff (s.eff.filter (fun kv => polderOf kv.1 != p))

theorem State.polderOff_eq (s : State) (p : Nat) : ∃ w, s.polderOff p = ((s.withWear w).unpowered p).dropHidden p := by
  obtain ⟨w, hw⟩ := s.keepSwitching_only p
  exact ⟨w, by rw [← hw]; rfl⟩

theorem State.polderOff_stops (s : State) (p : Nat) : s.Stops (s.polderOff p) := by
  obtain ⟨w, hw⟩ := s.polderOff_eq p
  rw [hw]
  have hOff : s.Stops ((s.withWear w).unpowered p) := ⟨⟨_, _, _, rfl⟩, rfl, rfl, rfl, rfl, id, id⟩
  exact hOff.trans (State.dropHidden_stops _ p)

/-! ## Registers and polders of a polder that goes off -/

theorem State.dropHidden_eff (s : State) (p : Nat) : (s.dropHidden p).eff = s.eff := by
  obtain ⟨o, l, hCut⟩ := s.cutCommit_only
  obtain ⟨r, e, hSilent⟩ := (s.withCul (s.cul.without 5)).lpeSilent_only
  delta State.dropHidden
  split
  case h_3 => rw [hCut]; simp
  case h_5 => rw [hSilent]; simp
  all_goals simp

set_option Elab.async false in
theorem State.dropHidden_on (s : State) (p : Nat) : (s.dropHidden p).pwr.on = s.pwr.on := by
  obtain ⟨o, l, hCut⟩ := s.cutCommit_only
  obtain ⟨r, e, hSilent⟩ := (s.withCul (s.cul.without 5)).lpeSilent_only
  delta State.dropHidden
  split
  case h_3 => rw [hCut]; simp
  case h_5 => rw [hSilent]; simp
  all_goals simp

/-- Without the loop engine's outputs to clear, what a polder held holds no register of another. -/
theorem State.dropHidden_regs {s : State} {p : Nat} (h : p = 5 → s.isOn 11 = false) : (s.dropHidden p).regs = s.regs := by
  obtain ⟨o, l, hCut⟩ := s.cutCommit_only
  delta State.dropHidden
  split
  case h_3 => rw [hCut]; simp
  case h_5 => exact (congrArg State.regs (State.lpeSilent_off (s := s.withCul (s.cul.without 5)) (h rfl))).trans rfl
  all_goals simp

theorem State.polderOff_eff (s : State) (p : Nat) : (s.polderOff p).eff = s.eff.filter (fun kv => polderOf kv.1 != p) := by
  obtain ⟨w, hw⟩ := s.polderOff_eq p
  rw [hw, State.dropHidden_eff]
  rfl

theorem State.polderOff_on (s : State) (p : Nat) : (s.polderOff p).pwr.on = s.pwr.on &&& ~~~(1#16 <<< p) := by
  obtain ⟨w, hw⟩ := s.polderOff_eq p
  rw [hw, State.dropHidden_on]
  rfl

theorem State.polderOff_isOn (s : State) (p q : Nat) :
    (s.polderOff p).isOn q = (s.isOn q && decide (q ≠ p)) := by
  rw [State.isOn, s.polderOff_on p, getLsbD_clearBit, ← State.isOn, decide_not]

theorem State.polderOff_regs {s : State} {p : Nat} (h : p = 5 → s.isOn 11 = false) :
    (s.polderOff p).regs = s.regs.filter (fun kv => polderOf kv.1 != p) := by
  obtain ⟨w, hw⟩ := s.polderOff_eq p
  rw [hw, State.dropHidden_regs]
  · rfl
  · rintro rfl
    rw [State.isOn, show ((s.withWear w).unpowered 5).pwr.on = (s.polderOff 5).pwr.on from (s.polderOff_on 5).symm, ← State.isOn,
      s.polderOff_isOn 5 11, h rfl]
    rfl

/-- R80: the registers of a polder that goes off read as their reset values, the others as before. -/
theorem State.polderOff_word {s : State} (hWf : SMap.wf s.regs = true) {p : Nat} (h : p = 5 → s.isOn 11 = false) (a : Nat) :
    (s.polderOff p).word a = if polderOf a = p then resetWord a else s.word a := by
  rw [State.word, State.polderOff_regs h, SMap.getD_find_filter hWf (fun k => polderOf k != p)]
  by_cases ha : polderOf a = p
  · simp [ha]
  · simp [ha, State.word]

theorem State.polderOff_effWord {s : State} (hWf : SMap.wf s.eff = true) (p a : Nat) :
    (s.polderOff p).effWord a = if polderOf a = p then resetWord a else s.effWord a := by
  rw [State.effWord, State.polderOff_eff, SMap.getD_find_filter hWf (fun k => polderOf k != p)]
  by_cases ha : polderOf a = p
  · simp [ha]
  · simp [ha, State.effWord]

/-! ## Several polders that go off -/

theorem State.poldersOff_stops (s : State) (ps : List Nat) : s.Stops (s.poldersOff ps) := by
  induction ps generalizing s with
  | nil => exact .refl s
  | cons p ps ih => exact (s.polderOff_stops p).trans (ih _)

theorem State.poldersOff_isOn (s : State) (ps : List Nat) (q : Nat) :
    (s.poldersOff ps).isOn q = (s.isOn q && decide (q ∉ ps)) := by
  induction ps generalizing s with
  | nil => simp [State.poldersOff]
  | cons p ps ih =>
    rw [show s.poldersOff (p :: ps) = (s.polderOff p).poldersOff ps from rfl, ih,
      s.polderOff_isOn p q]
    by_cases hq : q = p <;> by_cases hm : q ∈ ps <;> simp [hq, hm]

theorem State.poldersOff_wf {s : State} (hWf : SMap.wf s.regs = true) {ps : List Nat}
    (h : 5 ∉ ps ∨ s.isOn 11 = false) : SMap.wf (s.poldersOff ps).regs = true := by
  induction ps generalizing s with
  | nil => exact hWf
  | cons p ps ih =>
    have h5 : p = 5 → s.isOn 11 = false := by
      rintro rfl
      exact h.resolve_left (fun hn => hn (.head _))
    refine ih (s := s.polderOff p) ?_ ?_
    · rw [State.polderOff_regs h5]
      exact SMap.wf_filter _ _ hWf
    · exact h.imp (fun hn hm => hn (.tail _ hm)) (fun hOff => by rw [s.polderOff_isOn p, hOff]; rfl)

theorem State.poldersOff_effWf {s : State} (hWf : SMap.wf s.eff = true) (ps : List Nat) : SMap.wf (s.poldersOff ps).eff = true := by
  induction ps generalizing s with
  | nil => exact hWf
  | cons p ps ih =>
    refine ih (s := s.polderOff p) ?_
    rw [State.polderOff_eff]
    exact SMap.wf_filter _ _ hWf

/-- R80, for the polders of a list in which the loop engine goes off before polder 5, if it is on. -/
theorem State.poldersOff_word {s : State} (hWf : SMap.wf s.regs = true) {ps : List Nat}
    (h : 5 ∉ ps ∨ s.isOn 11 = false) (a : Nat) :
    (s.poldersOff ps).word a = if polderOf a ∈ ps then resetWord a else s.word a := by
  induction ps generalizing s with
  | nil => simp [State.poldersOff]
  | cons p ps ih =>
    have h5 : p = 5 → s.isOn 11 = false := by
      rintro rfl
      exact h.resolve_left (fun hn => hn (.head _))
    rw [show s.poldersOff (p :: ps) = (s.polderOff p).poldersOff ps from rfl, ih, State.polderOff_word hWf h5]
    · by_cases hp : polderOf a = p <;> by_cases hm : polderOf a ∈ ps <;> simp [hp, hm]
    · rw [State.polderOff_regs h5]
      exact SMap.wf_filter _ _ hWf
    · exact h.imp (fun hn hm => hn (.tail _ hm)) (fun hOff => by rw [s.polderOff_isOn p, hOff]; rfl)

end Sys2Proof.Machine
end

section
/-! PROOF. Keys put in force, and the return to standby (R80, R108). -/
namespace Sys2Proof.Machine

/-! ## Keys put in force -/

theorem SMap.find_of_above {α : Type} {a : Nat} {m : List (Nat × α)} (h : SMap.above a m) {k : Nat} (hk : k ≤ a) : SMap.find m k = none := by
  cases m with
  | nil => rfl
  | cons q m =>
    have hq : a < q.1 := h q (.head _)
    obtain ⟨b, v⟩ := q
    dsimp only at hq
    rw [SMap.find, if_neg (by omega), if_pos (by omega)]

/-- A map written over another: its keys read as in it, the others as before. -/
theorem SMap.find_foldl_set_or {α : Type} {l : List (Nat × α)} (hWf : SMap.wf l = true) (m : List (Nat × α)) (k : Nat) :
    SMap.find (l.foldl (fun m kv => SMap.set m kv.1 kv.2) m) k = (SMap.find l k).or (SMap.find m k) := by
  induction l generalizing m with
  | nil => rfl
  | cons p l ih =>
    obtain ⟨a, v⟩ := p
    obtain ⟨hAbove, hTail⟩ := (SMap.wf_cons (a, v) l).1 hWf
    rw [List.foldl_cons, ih hTail, SMap.find_set, SMap.find]
    by_cases hk : k = a
    · rw [if_pos hk, if_pos hk, SMap.find_of_above hAbove (Nat.le_of_eq hk)]
      rfl
    · rw [if_neg hk, if_neg hk]
      split
      next hlt => rw [SMap.find_of_above hAbove (Nat.le_of_lt hlt)]
      next => rfl

/-- R79, R453: the keys of the registers named are in force as committed, the others as before. -/
theorem State.applyKeys_effWord {s : State} (hCfg : SMap.wf s.cfg = true) (hEff : SMap.wf s.eff = true) (p : Nat → Bool) (a : Nat) :
    (s.applyKeys p).effWord a = if p a = true then s.cfgWord a else s.effWord a := by
  have hFind : SMap.find (s.applyKeys p).eff a =
      (SMap.find (s.cfg.filter fun kv => p kv.1) a).or (SMap.find (s.eff.filter fun kv => !p kv.1) a) :=
    SMap.find_foldl_set_or (SMap.wf_filter _ _ hCfg) _ a
  rw [State.effWord, hFind]
  split
  next ha =>
    rw [SMap.find_filter s.cfg p a hCfg ha, SMap.find_filter_of_not s.eff (f := fun k => !p k) (by simp [ha]), Option.or_none]
    rfl
  next ha =>
    rw [SMap.find_filter_of_not s.cfg (Bool.eq_false_iff.2 ha), SMap.find_filter s.eff (fun k => !p k) a hEff (by simp [ha])]
    rfl

/-! ## Standby -/

/-- The polders but Crest, in the order in which they go off. -/
def offOrder : List Nat := [13, 10, 12, 11, 9, 8, 7, 6, 5, 14, 15, 2, 3, 1, 4]

/-- Standby's power state. -/
def PowerSt.standby (v : PowerSt) : PowerSt :=
  { v with phase := .crest, starting := [], queue := [], blocked := false, on := 1, laneTx := 0, laneRx := 0,
           thermalDone := false, configDone := false, calStarted := false, calRun := false, calDone := false }

set_option Elab.async false in
theorem State.toCrest_stops (s : State) : ∃ t, s.Stops t ∧ t = s.poldersOff offOrder ∧
    s.toCrest = ((t.withCfg (t.cfg.filter (fun kv => polderOf kv.1 == 0))).applyKeys (fun a => polderOf a == 0)).withPwr t.pwr.standby :=
  ⟨_, s.poldersOff_stops _, rfl, rfl⟩

theorem State.toCrest_pwr (s : State) : s.toCrest.pwr = s.pwr.standby := by
  obtain ⟨t, hStops, -, hCrest⟩ := s.toCrest_stops
  obtain ⟨on, starting, run, hPwr⟩ := hStops.pwr
  rw [hCrest, State.withPwr_pwr, hPwr]
  rfl

theorem State.toCrest_vlt (s : State) : s.toCrest.vlt.slots = s.vlt.slots ∧ s.toCrest.vlt.journal = s.vlt.journal := by
  obtain ⟨t, hStops, -, hCrest⟩ := s.toCrest_stops
  rw [hCrest]
  exact ⟨hStops.slots, hStops.journal⟩

theorem State.toCrest_pending (s : State) : s.toCrest.pending = s.pending := by
  obtain ⟨t, hStops, -, hCrest⟩ := s.toCrest_stops
  rw [hCrest]
  exact hStops.pending

/-- R80: with polder 13 go the gates, with polder 9 the capture memory. -/
theorem State.toCrest_lost (s : State) : s.toCrest.gatesOff ∧ s.toCrest.gal.mem = [] := by
  have hGates : (s.polderOff 13).pins.gates = 0 := rfl
  have hMemory : ((s.poldersOff [13, 10, 12, 11]).polderOff 9).gal.mem = [] := rfl
  exact ⟨((s.polderOff 13).poldersOff_stops offOrder.tail).gates hGates,
    (((s.poldersOff [13, 10, 12, 11]).polderOff 9).poldersOff_stops (offOrder.drop 5)).memory hMemory⟩

theorem lt_four_cases {n : Nat} (h : n < 4) : n = 0 ∨ n = 1 ∨ n = 2 ∨ n = 3 := by omega

theorem mem_offOrder {p : Nat} : p ∈ offOrder ↔ 1 ≤ p ∧ p ≤ 15 := by
  constructor
  · revert p
    decide
  · rintro ⟨h1, h15⟩
    have hAll : ∀ q, q < 16 → 1 ≤ q → q ∈ offOrder := by decide
    exact hAll p (Nat.lt_succ_of_le h15) h1

/-- R80: the registers of every polder but Crest at their reset values, those of Crest as before. -/
theorem State.toCrest_word {s : State} (hWf : SMap.wf s.regs = true) (a : Nat) :
    s.toCrest.word a = if 1 ≤ polderOf a ∧ polderOf a ≤ 15 then resetWord a else s.word a := by
  have hOff : (s.poldersOff [13, 10, 12, 11]).isOn 11 = false := by
    rw [s.poldersOff_isOn _ 11]
    simp
  have hWf' : SMap.wf (s.poldersOff [13, 10, 12, 11]).regs = true := State.poldersOff_wf hWf (.inl (by decide))
  have hWord : s.toCrest.word a = ((s.poldersOff [13, 10, 12, 11]).poldersOff (offOrder.drop 4)).word a := rfl
  rw [hWord, State.poldersOff_word hWf' (.inr hOff), State.poldersOff_word hWf (.inl (by decide))]
  have hSplit : 1 ≤ polderOf a ∧ polderOf a ≤ 15 ↔ polderOf a ∈ [13, 10, 12, 11] ∨ polderOf a ∈ offOrder.drop 4 :=
    mem_offOrder.symm.trans (List.mem_append (s := [13, 10, 12, 11]))
  by_cases h1 : polderOf a ∈ offOrder.drop 4 <;> by_cases h2 : polderOf a ∈ [13, 10, 12, 11] <;> simp only [h1, h2, hSplit] <;> rfl

theorem State.toCrest_cfgWord {s : State} (hWf : SMap.wf s.cfg = true) {a : Nat} (ha : polderOf a = 0) : s.toCrest.cfgWord a = s.cfgWord a := by
  obtain ⟨t, hStops, -, hCrest⟩ := s.toCrest_stops
  have hCfg : s.toCrest.cfg = s.cfg.filter (fun kv => polderOf kv.1 == 0) := by
    rw [hCrest, ← hStops.cfg]
    rfl
  rw [State.cfgWord, hCfg, SMap.find_filter s.cfg (fun k => polderOf k == 0) a hWf (by simp [ha])]
  rfl

/-- The keys of Crest in force are the committed ones. -/
theorem State.toCrest_effWord {s : State} (hCfg : SMap.wf s.cfg = true) (hEff : SMap.wf s.eff = true) {a : Nat} (ha : polderOf a = 0) :
    s.toCrest.effWord a = s.cfgWord a := by
  obtain ⟨t, hStops, hOff, hCrest⟩ := s.toCrest_stops
  have hWf : SMap.wf t.eff = true := hOff ▸ State.poldersOff_effWf hEff _
  have hKept : t.cfg.filter (fun kv => polderOf kv.1 == 0) = s.cfg.filter (fun kv => polderOf kv.1 == 0) := by rw [hStops.cfg]
  have hWord := State.applyKeys_effWord (s := t.withCfg (s.cfg.filter (fun kv => polderOf kv.1 == 0))) (SMap.wf_filter _ _ hCfg) hWf
    (fun a => polderOf a == 0) a
  rw [if_pos (by simp [ha])] at hWord
  rw [hCrest, hKept]
  refine hWord.trans ?_
  rw [State.cfgWord]
  exact congrArg (Option.getD · _) (SMap.find_filter s.cfg (fun k => polderOf k == 0) a hCfg (by simp [ha]))

end Sys2Proof.Machine
end

section
/-! PROOF. Operations on a port of the Culvert (R148, R149, R182): what they leave unchanged. -/
namespace Sys2Proof.Machine

/-- Nothing but Culvert registers and ports, interrupts and Strata differs. -/
structure State.InCulvert (s t : State) : Prop where
  frame : ∃ r c i x, t = (((s.withRegs r).withCul c).withInt i).withStr x
  words : ∀ a, a / 65536 ≠ 4 → t.word a = s.word a

namespace State.InCulvert
variable {s t u : State}

theorem refl (s : State) : s.InCulvert s := ⟨⟨s.regs, s.cul, s.int, s.str, s.parts_put_back⟩, fun _ _ => rfl⟩

theorem trans (h : s.InCulvert t) (h' : t.InCulvert u) : s.InCulvert u where
  frame := by
    obtain ⟨r, c, i, x, rfl⟩ := h.frame
    obtain ⟨r, c, i, x, rfl⟩ := h'.frame
    exact ⟨r, c, i, x, rfl⟩
  words a ha := (h'.words a ha).trans (h.words a ha)

theorem put (h : s.InCulvert t) {f : Fld} {v : Nat} (hf : f.addr / 65536 = 4) : s.InCulvert (t.put f v) := by
  refine h.trans ⟨⟨_, t.cul, t.int, t.str, rfl⟩, fun a ha => t.word_put_ne f v a ?_⟩
  rintro rfl
  exact ha hf

theorem flag (h : s.InCulvert t) {f : Fld} {b : Bool} (hf : f.addr / 65536 = 4) : s.InCulvert (t.flag f b) := h.put hf

set_option Elab.async false in
theorem setCport (h : s.InCulvert t) {p : Nat} {c : CulPort} : s.InCulvert (t.setCport p c) :=
  h.trans ⟨⟨t.regs, (t.setCport p c).cul, t.int, t.str, rfl⟩, fun _ _ => rfl⟩

theorem raiseInt (h : s.InCulvert t) {n : Nat} : s.InCulvert (t.raiseInt n) := by
  obtain ⟨i, x, hr⟩ := t.raiseInt_only n
  refine h.trans ⟨⟨t.regs, t.cul, i, x, hr⟩, fun a _ => ?_⟩
  rw [hr]
  rfl

theorem ite (ht : s.InCulvert t) {c : Prop} [Decidable c] (hu : s.InCulvert u) : s.InCulvert (if c then t else u) :=
  iteInduction (fun _ => ht) (fun _ => hu)

theorem regs_eq (h : s.InCulvert t) : t = { s with regs := t.regs, cul := t.cul, int := t.int, str := t.str } := by
  obtain ⟨r, c, i, x, rfl⟩ := h.frame
  rfl

theorem pwr (h : s.InCulvert t) : t.pwr = s.pwr := by
  obtain ⟨r, c, i, x, rfl⟩ := h.frame
  rfl

end State.InCulvert

theorem portStatus_block {p : Nat} (hp : p < 256) : R.CUL_Pn_STATUS p / 65536 = 4 := by
  show (0x040000 + 0x100 * p) / 65536 = 4
  omega

theorem State.updateWraps_inCulvert (s : State) : s.InCulvert s.updateWraps :=
  .ite (.refl s) (((State.InCulvert.refl s).flag rfl).flag rfl)

theorem State.updateUsable_inCulvert (s : State) {p : Nat} (hp : p < 256) : s.InCulvert (s.updateUsable p) := by
  delta State.updateUsable
  extract_lets u t₁ c t₂
  have h₁ : s.InCulvert t₁ := (State.InCulvert.refl s).flag (portStatus_block hp)
  have h₂ : s.InCulvert t₂ := h₁.ite (h₁.put (portStatus_block hp)).setCport
  exact .ite (h₂.trans t₂.updateWraps_inCulvert) h₂

theorem State.rxState_inCulvert (s : State) {p : Nat} (hp : p < 256) (v : Nat) : s.InCulvert (s.rxState p v) := by
  delta State.rxState
  extract_lets t
  have h : s.InCulvert t := .ite (.refl s) (.raiseInt (.refl s))
  exact (h.put (portStatus_block hp)).trans (State.updateUsable_inCulvert _ hp)

theorem State.wakeRx_inCulvert (s : State) {p : Nat} (hp : p < 256) : s.InCulvert (s.wakeRx p) :=
  .ite (.refl s) (((State.InCulvert.refl s).put (portStatus_block hp)).trans (State.rxState_inCulvert _ hp 1))

theorem State.laneHeard_inCulvert (s : State) (p : Nat) : s.InCulvert (s.laneHeard p) := .ite (.refl s) (.raiseInt (.refl s))

/-! ## The status bits of a port -/

/-- The status fields of a port other than its own operation writes are as before. -/
theorem State.updateWraps_get (s : State) {f : Fld} (hf : f.fits = true)
    (h₀ : (F.CUL_Pn_STATUS_WRAPPED 0).apart f = true) (h₁ : (F.CUL_Pn_STATUS_WRAPPED 1).apart f = true) :
    s.updateWraps.get f = s.get f := by
  delta State.updateWraps
  split
  · rfl
  · dsimp only
    rw [State.flag_eq, State.get_put_apart _ _ f _ hf h₁, State.flag_eq, State.get_put_apart _ _ f _ hf h₀]

theorem State.updateUsable_get (s : State) (p : Nat) {f : Fld} (hf : f.fits = true)
    (h₀ : (F.CUL_Pn_STATUS_WRAPPED 0).apart f = true) (h₁ : (F.CUL_Pn_STATUS_WRAPPED 1).apart f = true)
    (hUsable : (F.CUL_Pn_STATUS_USABLE p).apart f = true) (hReady : (F.CUL_Pn_STATUS_READY p).apart f = true) :
    (s.updateUsable p).get f = s.get f := by
  have hFlag : ∀ b : Bool, (s.flag (F.CUL_Pn_STATUS_USABLE p) b).get f = s.get f := by
    intro b
    rw [State.flag_eq, State.get_put_apart _ _ f _ hf hUsable]
  have hReset : ∀ (t : State) (c : CulPort), ((t.put (F.CUL_Pn_STATUS_READY p) 0).setCport p c).get f = t.get f := by
    intro t c
    rw [State.setCport, State.withCul_get, State.get_put_apart _ _ f _ hf hReady]
  delta State.updateUsable
  dsimp only
  generalize s.usable p = u
  generalize hc : s.flag (F.CUL_Pn_STATUS_USABLE p) u = t
  have ht : t.get f = s.get f := hc ▸ hFlag u
  generalize hv : (if u = true then t else _) = v
  have hGet : v.get f = s.get f := by
    rw [← hv]
    split
    · exact ht
    · exact (hReset t _).trans ht
  split
  · exact (State.updateWraps_get v hf h₀ h₁).trans hGet
  · exact hGet

/-- Fields of status words that share no bit by their places. -/
theorem Fld.apart_of_lo {a b i v j w : Nat} (h : i + v ≤ j ∨ j + w ≤ i) : Fld.apart ⟨a, i, v⟩ ⟨b, j, w⟩ = true :=
  Fld.apart_iff.2 (h.imp_right .inl)

set_option Elab.async false in
theorem State.rxState_rxAwake (s : State) (p v q : Nat) : (s.rxState p v).is (F.CUL_Pn_STATUS_RX_AWAKE q) = s.is (F.CUL_Pn_STATUS_RX_AWAKE q) := by
  delta State.rxState
  extract_lets t
  have ht : t.is (F.CUL_Pn_STATUS_RX_AWAKE q) = s.is (F.CUL_Pn_STATUS_RX_AWAKE q) := by
    refine iteInduction (motive := fun t : State => t.is (F.CUL_Pn_STATUS_RX_AWAKE q) = _) (fun _ => rfl) (fun _ => ?_)
    exact s.raiseInt_is p _
  rw [State.is, State.updateUsable_get _ p rfl, ← State.is, State.is_put_apart, ht]
  · rfl
  all_goals exact Fld.apart_of_lo (by decide)

/-- R182: a receive direction that may wake is awake. -/
theorem State.wakeRx_awake {s : State} {p : Nat} (h : s.unusedPort p = false) : (s.wakeRx p).is (F.CUL_Pn_STATUS_RX_AWAKE p) = true := by
  delta State.wakeRx
  split
  next hAwake => simpa [h] using hAwake
  next => rw [State.rxState_rxAwake, State.is_put_same _ _ 1 rfl]; rfl

/-! ## Requests for a direction, and demanded polders -/

theorem State.askRx_inCulvert (s : State) {p : Nat} (hp : p < 256) : ∃ t l, s.InCulvert t ∧ s.askRx p = t.withPwr { s.pwr with laneRx := l } := by
  delta State.askRx
  split
  · exact ⟨_, _, s.wakeRx_inCulvert hp, rfl⟩
  · exact ⟨s, _, .refl s, rfl⟩

theorem State.demand_only (s : State) (ps : List Nat) : ∃ q st, s.demand ps = s.withPwr { s.pwr with queue := q, starting := st } := by
  delta State.demand
  dsimp only
  delta State.startNext
  split
  · exact ⟨_, _, rfl⟩
  · split
    · exact ⟨_, _, rfl⟩
    · exact ⟨_, _, rfl⟩

theorem State.updateUsable_pends (s : State) (p k : Nat) : (s.updateUsable p).pends k = s.pends k := by
  have hWraps : ∀ t : State, t.updateWraps.pends k = t.pends k := by
    intro t
    delta State.updateWraps
    split
    · rfl
    · rfl
  delta State.updateUsable
  dsimp only
  generalize s.usable p = u
  generalize hv : (if u = true then s.flag (F.CUL_Pn_STATUS_USABLE p) u else _) = v
  have hPends : v.pends k = s.pends k := by
    rw [← hv]
    split
    · rfl
    · rfl
  split
  · exact (hWraps v).trans hPends
  · exact hPends

/-- A change of a port's receive state raises the source of the port alone. -/
theorem State.rxState_pends (s : State) {p k : Nat} (hk : k < 256) (h167 : k ≠ 167) (hne : k ≠ p) (v : Nat) :
    (s.rxState p v).pends k = s.pends k := by
  delta State.rxState
  dsimp only
  rw [State.updateUsable_pends, State.put_pends]
  split
  · rfl
  · rw [s.raiseInt_pends p hk h167, decide_eq_false hne, Bool.and_false, Bool.or_false]

theorem State.wakeRx_pends (s : State) {p k : Nat} (hk : k < 256) (h167 : k ≠ 167) (hne : k ≠ p) : (s.wakeRx p).pends k = s.pends k := by
  delta State.wakeRx
  split
  · rfl
  · rw [State.rxState_pends _ hk h167 hne, State.put_pends]

end Sys2Proof.Machine
end

section
/-! PROOF. Supplies that fail and return, and wake events (R52, R53, R55, R84, R85, R472, R473). -/
namespace Sys2Proof.Machine

/-! ## Supplies -/

/-- The state after a loss of the monitored supplies is noted. -/
def State.supplyDown (s : State) (vio3 : Bool) (vio : BitVec 2) (guards : BitVec 4) : State :=
  let s := s.setBanks vio3 vio guards
  let s := s.withPwr { s.pwr with suppliesGood := false }
  s.withPins { s.pins with gates := 0 }

theorem exec_supplyLost (s : State) (vio3 : Bool) (vio : BitVec 2) (guards : BitVec 4) :
    exec (.supplyLost vio3 vio true guards) s = if s.pwr.vcrest && s.pwr.phase != .crest then
      .next (((s.supplyDown vio3 vio guards).cutCommit.put F.PWR_WAKE_CAUSE_SUPPLY_LOST 1).toCrest)
    else .next (s.supplyDown vio3 vio guards) := rfl

/-- R53: without a change of the monitored supplies only the banks follow. -/
theorem exec_banks {s : State} {vio3 : Bool} {vio : BitVec 2} {guards : BitVec 4} {c : Instr}
    (h : c = .supplyLost vio3 vio false guards ∨ c = .supplyReturn vio3 vio false guards ∨
      (s.pwr.suppliesGood = true ∧ ∃ m, c = .supplyReturn vio3 vio m guards)) :
    exec c s = .next (s.setBanks vio3 vio guards) := by
  rcases h with rfl | rfl | ⟨hGood, m, rfl⟩
  · rfl
  · exact if_pos (Bool.or_true _)
  · exact if_pos (by rw [hGood]; rfl)

/-- R80: standby with SUPPLY_LOST latched. -/
theorem State.supplyDown_toCrest {s : State} (hInv : s.Inv) (vio3 : Bool) (vio : BitVec 2) (guards : BitVec 4) :
    ∃ t, ((s.supplyDown vio3 vio guards).cutCommit.put F.PWR_WAKE_CAUSE_SUPPLY_LOST 1).toCrest = t ∧
      t.pwr = (s.supplyDown vio3 vio guards).pwr.standby ∧ t.gatesOff ∧ t.is F.PWR_WAKE_CAUSE_SUPPLY_LOST = true ∧
      (∀ a, 1 ≤ polderOf a → polderOf a ≤ 15 → t.word a = resetWord a) ∧
      (∀ a, polderOf a = 0 → a ≠ R.PWR_WAKE_CAUSE → t.word a = s.word a) ∧
      t.gal.mem = [] ∧ t.vlt.slots = s.vlt.slots ∧ t.vlt.journal = s.vlt.journal ∧ t.pending = s.pending := by
  obtain ⟨o, l, hCut⟩ := (s.supplyDown vio3 vio guards).cutCommit_only
  rw [hCut]
  generalize hu : ((s.supplyDown vio3 vio guards).withVlt _).put F.PWR_WAKE_CAUSE_SUPPLY_LOST 1 = u
  have hWf : SMap.wf u.regs = true := by
    rw [← hu]
    exact SMap.wf_set _ _ _ hInv.regs
  have hWord : ∀ a, a ≠ R.PWR_WAKE_CAUSE → u.word a = s.word a := by
    intro a ha
    rw [← hu, State.word_put_ne _ _ _ _ ha]
    rfl
  have hLost : u.is F.PWR_WAKE_CAUSE_SUPPLY_LOST = true := by
    rw [← hu]
    exact State.is_put_same _ _ 1 rfl
  have hCrest : ∀ a, polderOf a = 0 → u.toCrest.word a = u.word a := by
    intro a ha
    rw [State.toCrest_word hWf, if_neg (by omega)]
  refine ⟨_, rfl, ?_, u.toCrest_lost.1, ?_, ?_, ?_, u.toCrest_lost.2, ?_, ?_, ?_⟩
  · rw [u.toCrest_pwr, ← hu]
    rfl
  · rw [← hLost, State.is, State.get, hCrest _ (by decide)]
    rfl
  · intro a h1 h15
    rw [State.toCrest_word hWf, if_pos ⟨h1, h15⟩]
  · intro a ha hne
    rw [hCrest a ha, hWord a hne]
  · rw [u.toCrest_vlt.1, ← hu]
    rfl
  · rw [u.toCrest_vlt.2, ← hu]
    rfl
  · rw [u.toCrest_pending, ← hu]
    rfl

theorem supplyLoss {s : State} (hInv : s.Inv) (vio3 : Bool) (vio : BitVec 2) (guards : BitVec 4) :
    (∀ c, c = .supplyLost vio3 vio false guards ∨ c = .supplyReturn vio3 vio false guards ∨
        (s.pwr.suppliesGood = true ∧ ∃ m, c = .supplyReturn vio3 vio m guards) →
      exec c s = .next (s.setBanks vio3 vio guards)) ∧
    (s.pwr.vcrest = false ∨ s.pwr.phase = .crest → exec (.supplyLost vio3 vio true guards) s = .next (s.supplyDown vio3 vio guards)) ∧
    (s.pwr.vcrest = true → s.pwr.phase ≠ .crest → ∃ t : State, exec (.supplyLost vio3 vio true guards) s = .next t ∧
      t.pwr.phase = .crest ∧ t.pwr.on = 1 ∧ t.pwr.suppliesGood = false ∧ t.pwr.vio3 = vio3 ∧ t.pwr.vio = vio ∧ t.gatesOff ∧
      t.is F.PWR_WAKE_CAUSE_SUPPLY_LOST = true ∧
      (∀ a, 1 ≤ polderOf a → polderOf a ≤ 15 → t.word a = resetWord a) ∧
      (∀ a, polderOf a = 0 → a ≠ R.PWR_WAKE_CAUSE → t.word a = s.word a) ∧
      t.gal.mem = [] ∧ t.vlt.slots = s.vlt.slots ∧ t.vlt.journal = s.vlt.journal ∧ t.pwr.latch = s.pwr.latch ∧
      t.pwr.breach = s.pwr.breach ∧ t.pending = s.pending) := by
  refine ⟨fun c => exec_banks, fun h => ?_, fun hOn hPhase => ?_⟩
  · rw [exec_supplyLost, if_neg]
    rcases h with h | h <;> simp [h]
  · obtain ⟨t, hNext, hPwr, hGates, hLost, hOff, hKept, hMem, hSlots, hJournal, hPending⟩ := State.supplyDown_toCrest hInv vio3 vio guards
    refine ⟨t, ?_, ?_⟩
    · rw [exec_supplyLost, if_pos (by simp [hOn, hPhase]), hNext]
    · rw [hPwr]
      exact ⟨rfl, rfl, rfl, rfl, rfl, hGates, hLost, hOff, hKept, hMem, hSlots, hJournal, rfl, rfl, hPending⟩

/-! ## Wake events -/

theorem State.wakeEvent_armed {s : State} (hOn : s.pwr.vcrest = true) {w : WakeSource} (h : s.armed w = true) :
    s.wakeEvent w = s.wake w := if_pos (by rw [hOn, h]; rfl)

theorem State.wakeEvent_unarmed {s : State} {w : WakeSource} (h : s.armed w = false) : s.wakeEvent w = s :=
  if_neg (by rw [h, Bool.and_false]; exact Bool.false_ne_true)

theorem next_wake {u : State} (hOn : u.pwr.vcrest = true) {w : WakeSource} (h : u.armed w = true) :
    (Host.Outcome.next (u.wakeEvent w).settle : Ans) = .next (u.wake w).settle := next_settle (State.wakeEvent_armed hOn h)

set_option Elab.async false in
theorem wakenLow_wakes {s : State} (hOn : s.pwr.vcrest = true) (held : Bool) :
    ∃ t : State, exec (.wakenLow held) s = .next t.settle ∧ t.is F.PWR_WAKE_CAUSE_WAKEN = true ∧
      s.sameBits t [F.PWR_WAKE_CAUSE_WAKEN] ∧
      t = { s with regs := t.regs, pwr := { s.pwr with wakenLow := held, reqWaken := true } } :=
  ⟨(s.withPwr { s.pwr with wakenLow := held }).wake .waken, next_wake (u := s.withPwr { s.pwr with wakenLow := held }) hOn rfl,
    State.is_put_same _ _ 1 rfl, ((s.sameBits_refl _).of_regs rfl).put, rfl⟩

theorem dripAlarm_wakes {s : State} (hOn : s.pwr.vcrest = true) (hEn : s.cfIs F.PWR_WAKE_EN_ALARM_EN = true)
    (hDrip : s.is F.PWR_STATE_DRIP_OK = true) :
    ∃ t : State, exec .dripAlarm s = .next t.settle ∧ t.is F.PWR_WAKE_CAUSE_DRIP_ALARM = true ∧
      t.word R.PWR_DRIP_COUNT = s.word R.PWR_DRIP_ALARM ∧
      s.sameBits t [F.PWR_WAKE_CAUSE_DRIP_ALARM, ⟨R.PWR_DRIP_COUNT, 0, 32⟩] ∧
      t = { s with regs := t.regs, pwr := { s.pwr with reqDrip := true } } := by
  have hArmed : s.armed .drip = true := Bool.and_eq_true_iff.2 ⟨hEn, hDrip⟩
  have hArmed' : (s.setWord R.PWR_DRIP_COUNT (s.word R.PWR_DRIP_ALARM)).armed .drip = true := by
    rw [State.armed, State.is_setWord_ne _ _ _ _ (by decide)]
    exact hArmed
  refine ⟨(s.setWord R.PWR_DRIP_COUNT (s.word R.PWR_DRIP_ALARM)).wake .drip, ?_, State.is_put_same _ _ 1 rfl, ?_,
    ((s.sameBits_refl _).setWord.of_regs rfl).put, rfl⟩
  · exact (if_pos (Bool.and_eq_true_iff.2 ⟨hOn, hArmed⟩)).trans (next_wake (u := s.setWord _ _) hOn hArmed')
  · rw [State.wake, State.word_put_ne _ _ _ _ (by decide)]
    exact (s.word_setWord _ _ _).trans (if_pos rfl)

theorem dripAlarm_unarmed {s : State} (h : s.cfIs F.PWR_WAKE_EN_ALARM_EN = false ∨ s.is F.PWR_STATE_DRIP_OK = false) :
    exec .dripAlarm s = .next s := by
  refine if_neg ?_
  rcases h with h | h <;> simp [State.armed, h]

/-- The levels of the guard lands with that of one of them replaced. -/
def landPut (land : Nat) (level : Bool) (v : BitVec 4) : BitVec 4 := if level then v ||| (1#4 <<< land) else v &&& ~~~(1#4 <<< land)

theorem landPut_bit {land : Nat} (hLand : land < 4) (level : Bool) (v : BitVec 4) (k : Nat) :
    (landPut land level v).getLsbD k = if k = land then level else v.getLsbD k := by
  cases level
  · rw [landPut, if_neg Bool.false_ne_true, getLsbD_clearBit]
    by_cases hk : k = land <;> simp [hk]
  · rw [landPut, if_pos rfl, getLsbD_setBit v hLand]
    by_cases hk : k = land <;> simp [hk]

/-- R84: an accepted change of a guard level. -/
theorem guardChange_wakes {s : State} (hOn : s.pwr.vcrest = true) {land : Nat} {level : Bool} (hLand : land < 4) (hVio : s.pwr.vio3 = true)
    (hNe : s.pwr.guardAccepted.getLsbD land ≠ level) :
    ∃ t : State, exec (.guardChangeAccepted land level) s = .next t.settle ∧ t.pwr.guardAccepted.getLsbD land = level ∧
      (∀ k, k ≠ land → t.pwr.guardAccepted.getLsbD k = s.pwr.guardAccepted.getLsbD k) ∧
      t = { s with regs := t.regs, pwr := { s.pwr with
        guardPin := t.pwr.guardPin, guardAccepted := t.pwr.guardAccepted
        reqGuard := s.pwr.reqGuard || s.cfIs F.PWR_WAKE_EN_GUARD_EN } } ∧
      s.sameBits t [F.PWR_WAKE_CAUSE_GUARD] ∧
      t.is F.PWR_WAKE_CAUSE_GUARD = (s.is F.PWR_WAKE_CAUSE_GUARD || s.cfIs F.PWR_WAKE_EN_GUARD_EN) := by
  generalize hu : s.withPwr { s.pwr with
    guardPin := landPut land level s.pwr.guardPin, guardAccepted := landPut land level s.pwr.guardAccepted } = u
  have hNext : exec (.guardChangeAccepted land level) s = .next (u.wakeEvent .guard).settle := by
    rw [← hu]
    refine if_pos ?_
    simp only [hOn, hVio, decide_eq_true hLand, Bool.true_and]
    exact bne_iff_ne.2 hNe
  have hBits : ∀ k, u.pwr.guardAccepted.getLsbD k = if k = land then level else s.pwr.guardAccepted.getLsbD k := by
    intro k
    rw [← hu]
    exact landPut_bit hLand level _ k
  have hAt : u.pwr.guardAccepted.getLsbD land = level := by rw [hBits, if_pos rfl]
  have hOthers : ∀ k, k ≠ land → u.pwr.guardAccepted.getLsbD k = s.pwr.guardAccepted.getLsbD k := fun k hk => by rw [hBits, if_neg hk]
  have hOn' : u.pwr.vcrest = true := by rw [← hu]; exact hOn
  have hArmed : u.armed .guard = s.cfIs F.PWR_WAKE_EN_GUARD_EN := by
    rw [← hu]
    exact (congrArg (s.cfIs F.PWR_WAKE_EN_GUARD_EN && ·) hVio).trans (Bool.and_true _)
  cases hEn : s.cfIs F.PWR_WAKE_EN_GUARD_EN
  · refine ⟨u, ?_, hAt, hOthers, ?_, ?_, ?_⟩
    · rw [hNext, State.wakeEvent_unarmed (hArmed.trans hEn)]
    · rw [← hu, Bool.or_false]
      rfl
    · rw [← hu]
      exact (s.sameBits_refl _).of_regs rfl
    · rw [← hu, Bool.or_false]
      rfl
  · refine ⟨u.wake .guard, ?_, hAt, hOthers, ?_, ?_, ?_⟩
    · rw [hNext, State.wakeEvent_armed hOn' (hArmed.trans hEn)]
    · rw [← hu, Bool.or_true]
      rfl
    · rw [← hu]
      exact ((s.sameBits_refl _).of_regs rfl).put
    · rw [Bool.or_true]
      exact State.is_put_same _ _ 1 rfl

/-- R85: the monitored supplies return. -/
theorem supplyReturns {s : State} (hOn : s.pwr.vcrest = true) (vio3 : Bool) (vio : BitVec 2) (guards : BitVec 4)
    (hDown : s.pwr.suppliesGood = false) :
    (s.pwr.phase = .crest → ∃ t : State, exec (.supplyReturn vio3 vio true guards) s = .next t ∧
      t.is F.PWR_WAKE_CAUSE_SUPPLY_RETURN = true ∧ s.sameBits t [F.PWR_WAKE_CAUSE_SUPPLY_RETURN] ∧
      t = { s with regs := t.regs, pwr := { s.pwr with
        suppliesGood := true, vio3 := vio3, vio := vio, startCause := true
        guardPin := if vio3 && !s.pwr.vio3 then guards else s.pwr.guardPin
        guardAccepted := if vio3 && !s.pwr.vio3 then guards else s.pwr.guardAccepted } }) ∧
    (s.pwr.phase ≠ .crest → exec (.supplyReturn vio3 vio true guards) s =
      .next { s with pwr := { s.pwr with
        suppliesGood := true, vio3 := vio3, vio := vio, guardPin := if vio3 && !s.pwr.vio3 then guards else s.pwr.guardPin
        guardAccepted := if vio3 && !s.pwr.vio3 then guards else s.pwr.guardAccepted } }) := by
  have hReturn : ¬(s.pwr.suppliesGood || !true) = true := by simp [hDown]
  refine ⟨fun hPhase => ?_, fun hPhase => ?_⟩
  · exact ⟨_, (if_neg hReturn).trans (if_pos (Bool.and_eq_true_iff.2 ⟨hOn, beq_iff_eq.2 hPhase⟩)), State.is_put_same _ _ 1 rfl,
      ((s.sameBits_refl _).of_regs rfl).put.of_regs rfl, rfl⟩
  · refine (if_neg hReturn).trans (if_neg ?_)
    exact fun h => hPhase (beq_iff_eq.1 (Bool.and_eq_true_iff.1 h).2)

end Sys2Proof.Machine
end

section
/-! PROOF. The wake latches of lanes (R84, R473, R81, R182). -/
namespace Sys2Proof.Machine

theorem natBit_eq_testBit (v i : Nat) : natBit v i = v.testBit i := by
  rw [natBit, Nat.testBit_eq_decide_div_mod_eq, Bool.eq_iff_iff, beq_iff_eq, decide_eq_true_iff]

/-- The request latch of a lane and its record set, before a device that is awake acts on them. -/
def State.laneNoted (s : State) (n : Nat) : State :=
  let s := s.withPwr { s.pwr with reqLane := s.pwr.reqLane ||| (1#10 <<< n) }
  s.put F.PWR_WAKE_CAUSE_LANE (s.get F.PWR_WAKE_CAUSE_LANE ||| 2 ^ n)

theorem State.wake_lane (s : State) (n : Nat) : s.wake (.lane n) =
    if s.awake then (((s.laneNoted n).laneHeard n).askRx n).demand [portPolder n] else s.laneNoted n := rfl

section
variable {s : State} {n : Nat}

theorem State.laneNoted_req (hn : n < 10) : (s.laneNoted n).pwr.reqLane.getLsbD n = true := by
  refine (getLsbD_setBit s.pwr.reqLane hn n).trans ?_
  rw [decide_eq_true rfl, Bool.or_true]

theorem State.laneNoted_get (hn : n < 10) : natBit ((s.laneNoted n).get F.PWR_WAKE_CAUSE_LANE) n = true := by
  rw [State.laneNoted, State.get_put_same _ _ _ rfl, natBit_eq_testBit, Nat.testBit_mod_two_pow, Nat.testBit_or,
    Nat.testBit_two_pow_self, Bool.or_true, Bool.and_true]
  exact decide_eq_true hn

theorem State.laneNoted_word {a : Nat} (ha : a ≠ R.PWR_WAKE_CAUSE) : (s.laneNoted n).word a = s.word a :=
  State.word_put_ne _ _ _ _ ha

theorem State.laneNoted_sameBits : s.sameBits (s.laneNoted n) [F.PWR_WAKE_CAUSE_LANE] := ((s.sameBits_refl _).of_regs rfl).put

theorem State.laneNoted_is {f : Fld} (hf : f.addr ≠ R.PWR_WAKE_CAUSE) : (s.laneNoted n).is f = s.is f := by
  rw [State.is, State.get, State.laneNoted_word hf, State.is, State.get]

/-- R473: the port of a lane asked to receive. -/
theorem State.laneHeard_askRx (u : State) (hn : n < 10) :
    (∃ r c i x l, (u.laneHeard n).askRx n = ((((u.withRegs r).withCul c).withInt i).withStr x).withPwr { u.pwr with laneRx := l }) ∧
      ∀ a, a / 65536 ≠ 4 → ((u.laneHeard n).askRx n).word a = u.word a := by
  have hHeard : u.InCulvert (u.laneHeard n) := u.laneHeard_inCulvert n
  obtain ⟨t, l, hAsk, hEq⟩ := (u.laneHeard n).askRx_inCulvert (p := n) (by omega)
  have hBoth := hHeard.trans hAsk
  obtain ⟨r, c, i, x, ht⟩ := hBoth.frame
  rw [hEq, hHeard.pwr]
  exact ⟨⟨r, c, i, x, l, by rw [ht]⟩, fun a ha => hBoth.words a ha⟩

/-- The lane's polder, demanded where nothing else starts, starts. -/
theorem State.demand_portPolder {t : State} (hRole : (rolePolders t.role).contains (portPolder n) = true) (hPlan : t.servicePlan = false)
    (hOff : t.isOn (portPolder n) = false) (h4 : t.isOn 4 = true) (h1 : t.isOn 1 = true) (hBlocked : t.pwr.blocked = false)
    (hStarting : t.pwr.starting = []) (hQueue : t.pwr.queue = []) : (t.demand [portPolder n]).pwr.starting = [portPolder n] := by
  have hPolder : portPolder n = 5 ∨ portPolder n = 6 := by
    rw [portPolder]
    split
    · exact .inl rfl
    · exact .inr rfl
  have hWant : ∀ p, p = 5 ∨ p = 6 → t.isOn p = false →
      ([p].flatMap fun p => p :: polderNeeds p).filter (fun p => !t.isOn p && !t.pwr.starting.contains p) = [p] := by
    rintro p (rfl | rfl) hp <;> simp [polderNeeds, hp, h4, h1, hStarting]
  have hGroups : ∀ p, p = 5 ∨ p = 6 → groupsOf [p] = [[p]] := by
    rintro p (rfl | rfl) <;> rfl
  have hNeeds : [portPolder n].filter (fun p => (rolePolders t.role).contains p && !(t.servicePlan && serviceOff.contains p)) =
      [portPolder n] := by
    rw [List.filter_cons_of_pos (by rw [hRole, hPlan]; rfl), List.filter_nil]
  have hNext : [portPolder n].filter (fun p => !t.pwr.on.getLsbD p) = [portPolder n] := by
    rw [List.filter_cons_of_pos (by rw [show t.pwr.on.getLsbD (portPolder n) = false from hOff]; rfl), List.filter_nil]
  delta State.demand
  dsimp only
  rw [hNeeds, hWant _ hPolder hOff, hGroups _ hPolder, hQueue, List.nil_append, State.startNext, State.withPwr_pwr, if_neg (by simp [hBlocked]),
    if_pos (by simp [hStarting]), nextGroup]
  dsimp only
  rw [hNext]
  rfl

/-! ## The lane's request -/

set_option Elab.async false in
theorem exec_lane {c : Instr} (hOn : s.pwr.vcrest = true) (hn : n < 10) (hEn : natBit (s.cf F.PWR_WAKE_EN_LANE_EN) n = true)
    (hc : c = .laneWakeLatch n ∨ (c = .wakeDuringAwake (.lane n) ∧ s.awake = true)) :
    exec c s = .next (s.wake (.lane n)).settle := by
  have hArmed : s.armed (.lane n) = true := Bool.and_eq_true_iff.2 ⟨hEn, decide_eq_true hn⟩
  rcases hc with rfl | ⟨rfl, hAwake⟩
  · exact next_wake hOn hArmed
  · exact (if_pos hAwake).trans (next_wake hOn hArmed)

theorem State.wake_lane_asleep (hAwake : s.awake = false) : s.wake (.lane n) = s.laneNoted n := by
  rw [State.wake_lane, if_neg (Bool.eq_false_iff.1 hAwake)]

theorem State.wake_lane_awake (hAwake : s.awake = true) :
    s.wake (.lane n) = (((s.laneNoted n).laneHeard n).askRx n).demand [portPolder n] := by
  rw [State.wake_lane, if_pos hAwake]

/-- R473: what a device that is awake does with the request, at the port. -/
theorem laneAsked_port {u : State} (hn : n < 10) :
    (u.is (F.CUL_Pn_STATUS_RX_AWAKE n) = false →
      (((u.laneHeard n).askRx n).demand [portPolder n]).pends 19 = (u.isOn 1 || u.pends 19)) ∧
    (u.isOn (portPolder n) = false → (((u.laneHeard n).askRx n).demand [portPolder n]).pwr.laneRx.getLsbD n = true ∧
      (((u.laneHeard n).askRx n).demand [portPolder n]).cul = u.cul) ∧
    (u.isOn (portPolder n) = true → u.isStation = true →
      (((u.laneHeard n).askRx n).demand [portPolder n]).is (F.CUL_Pn_STATUS_RX_AWAKE n) = true) := by
  obtain ⟨q, st, hDemand⟩ := ((u.laneHeard n).askRx n).demand_only [portPolder n]
  have hHeard : u.InCulvert (u.laneHeard n) := u.laneHeard_inCulvert n
  have hOn : (u.laneHeard n).isOn (portPolder n) = u.isOn (portPolder n) := by rw [State.isOn, hHeard.pwr, State.isOn]
  rw [hDemand]
  refine ⟨fun hRx => ?_, fun hOff => ?_, fun hPort hStation => ?_⟩
  · have hRaise : u.laneHeard n = u.raiseInt 19 := if_neg (Bool.eq_false_iff.1 hRx)
    rw [State.pends_of_int (State.withPwr_int _ _), hRaise, ← u.raiseInt_pends_self (n := 19) (by decide) (by decide)]
    delta State.askRx
    split
    · exact State.wakeRx_pends _ (by decide) (by decide) (by omega)
    · rfl
  · have hAsk : (u.laneHeard n).askRx n = _ := if_neg (by rw [hOn, hOff]; exact Bool.false_ne_true)
    rw [hAsk]
    refine ⟨?_, ?_⟩
    · refine (getLsbD_setBit _ hn n).trans ?_
      rw [decide_eq_true rfl, Bool.or_true]
    · delta State.laneHeard
      split
      · rfl
      · exact u.raiseInt_cul 19
  · have hAsk : (u.laneHeard n).askRx n = _ := if_pos (by rw [hOn, hPort])
    rw [hAsk]
    refine State.wakeRx_awake (s := u.laneHeard n) ?_
    have hRole : (u.laneHeard n).isStation = u.isStation := by rw [State.isStation, State.role, hHeard.pwr]; rfl
    rw [State.unusedPort, hRole, hStation]
    rfl

theorem laneWakes (hOn : s.pwr.vcrest = true) (hn : n < 10) (hEn : natBit (s.cf F.PWR_WAKE_EN_LANE_EN) n = true) {c : Instr}
    (hc : c = .laneWakeLatch n ∨ (c = .wakeDuringAwake (.lane n) ∧ s.awake = true)) :
    ∃ t : State, exec c s = .next t.settle ∧ t.pwr.reqLane.getLsbD n = true ∧ natBit (t.get F.PWR_WAKE_CAUSE_LANE) n = true ∧
      (∀ a, a / 65536 ≠ 4 → a ≠ R.PWR_WAKE_CAUSE → t.word a = s.word a) ∧
      t = { s with regs := t.regs, cul := t.cul, int := t.int, str := t.str, pwr := { s.pwr with
        reqLane := s.pwr.reqLane ||| (1#10 <<< n), laneRx := t.pwr.laneRx, queue := t.pwr.queue, starting := t.pwr.starting } } ∧
      (s.awake = false → s.sameBits t [F.PWR_WAKE_CAUSE_LANE] ∧
        t = { s with regs := t.regs, pwr := { s.pwr with reqLane := t.pwr.reqLane } }) ∧
      (s.awake = true → s.is (F.CUL_Pn_STATUS_RX_AWAKE n) = false → t.pends 19 = (s.isOn 1 || s.pends 19)) ∧
      (s.awake = true → s.isOn (portPolder n) = false → t.pwr.laneRx.getLsbD n = true ∧ t.cul = s.cul) ∧
      (s.awake = true → s.isOn (portPolder n) = true → s.isStation = true → t.is (F.CUL_Pn_STATUS_RX_AWAKE n) = true) ∧
      (s.awake = true → (rolePolders s.role).contains (portPolder n) = true → s.servicePlan = false →
        s.isOn (portPolder n) = false → s.isOn 4 = true → s.isOn 1 = true → s.pwr.blocked = false →
        s.pwr.starting = [] → s.pwr.queue = [] → t.pwr.starting = [portPolder n]) := by
  refine ⟨s.wake (.lane n), exec_lane hOn hn hEn hc, ?_⟩
  cases hAwake : s.awake
  · rw [State.wake_lane_asleep hAwake]
    exact ⟨State.laneNoted_req hn, State.laneNoted_get hn, fun a _ ha => State.laneNoted_word ha, rfl,
      fun _ => ⟨State.laneNoted_sameBits, rfl⟩, fun h => absurd h (by decide), fun h => absurd h (by decide),
      fun h => absurd h (by decide), fun h => absurd h (by decide)⟩
  · rw [State.wake_lane_awake hAwake]
    obtain ⟨⟨r, c, i, x, l, hAsk⟩, hWords⟩ := (s.laneNoted n).laneHeard_askRx hn
    obtain ⟨hPends, hOff, hRx⟩ := laneAsked_port (u := s.laneNoted n) hn
    obtain ⟨q, st, hDemand⟩ := (((s.laneNoted n).laneHeard n).askRx n).demand_only [portPolder n]
    have hAddr : (F.CUL_Pn_STATUS_RX_AWAKE n).addr ≠ R.PWR_WAKE_CAUSE := by
      show 0x040000 + 0x100 * n ≠ 0x010004
      omega
    refine ⟨?_, ?_, ?_, ?_, fun h => absurd h (by decide), fun _ hAsleep => ?_, fun _ hPort => hOff hPort,
      fun _ hPort hStation => hRx hPort hStation, fun _ hRole hPlan hPort h4 h1 hBlocked hStarting hQueue => ?_⟩
    · rw [hDemand, hAsk]
      exact State.laneNoted_req hn
    · rw [hDemand, State.withPwr_get, State.get, hWords _ (by decide)]
      exact State.laneNoted_get hn
    · intro a h4 ha
      rw [hDemand, State.withPwr_word, hWords a h4, State.laneNoted_word ha]
    · rw [hDemand, hAsk]
      rfl
    · rw [hPends ((State.laneNoted_is hAddr).trans hAsleep)]
      rfl
    · have hPlan' : (((s.laneNoted n).laneHeard n).askRx n).servicePlan = s.servicePlan := by
        have hClk : (((s.laneNoted n).laneHeard n).askRx n).clk = s.clk := by rw [hAsk]; rfl
        rw [State.servicePlan, State.get, hWords _ (by decide), State.laneNoted_word (by decide), hClk, State.servicePlan, State.get]
      have hPwr : (((s.laneNoted n).laneHeard n).askRx n).pwr = { (s.laneNoted n).pwr with laneRx := l } := by rw [hAsk]; rfl
      refine State.demand_portPolder ?_ (hPlan'.trans hPlan) ?_ ?_ ?_ ?_ ?_ ?_
      · rw [State.role, hPwr]
        exact hRole
      · rw [State.isOn, hPwr]
        exact hPort
      · rw [State.isOn, hPwr]
        exact h4
      · rw [State.isOn, hPwr]
        exact h1
      · rw [hPwr]
        exact hBlocked
      · rw [hPwr]
        exact hStarting
      · rw [hPwr]
        exact hQueue

/-- R84: the other sources that wake a device in standby leave their request and record in one that is awake. -/
theorem wakeDuringAwake_armed (hOn : s.pwr.vcrest = true) (hAwake : s.awake = true) {w : WakeSource} (hArmed : s.armed w = true)
    (hLane : ∀ k, w ≠ .lane k) :
    ∃ t : State, exec (.wakeDuringAwake w) s = .next t.settle ∧
      t = { s with regs := t.regs, pwr := { s.pwr with
        reqWaken := t.pwr.reqWaken, reqDrip := t.pwr.reqDrip, reqGuard := t.pwr.reqGuard } } ∧
      s.sameBits t [F.PWR_WAKE_CAUSE_WAKEN, F.PWR_WAKE_CAUSE_DRIP_ALARM, F.PWR_WAKE_CAUSE_GUARD] ∧
      (w = .waken → t.pwr.reqWaken = true ∧ t.is F.PWR_WAKE_CAUSE_WAKEN = true) ∧
      (w = .drip → t.pwr.reqDrip = true ∧ t.is F.PWR_WAKE_CAUSE_DRIP_ALARM = true) ∧
      (w = .guard → t.pwr.reqGuard = true ∧ t.is F.PWR_WAKE_CAUSE_GUARD = true) := by
  refine ⟨s.wake w, (if_pos hAwake).trans (next_wake hOn hArmed), ?_⟩
  have hSame : ∀ (p : PowerSt) {f : Fld}, f ∈ [F.PWR_WAKE_CAUSE_WAKEN, F.PWR_WAKE_CAUSE_DRIP_ALARM, F.PWR_WAKE_CAUSE_GUARD] →
      s.sameBits ((s.withPwr p).put f 1) [F.PWR_WAKE_CAUSE_WAKEN, F.PWR_WAKE_CAUSE_DRIP_ALARM, F.PWR_WAKE_CAUSE_GUARD] :=
    fun p f hf => ((s.sameBits_refl _).of_regs rfl).put hf
  cases w with
  | waken => exact ⟨rfl, hSame _ (by simp), fun _ => ⟨rfl, State.is_put_same _ _ 1 rfl⟩, nofun, nofun⟩
  | drip => exact ⟨rfl, hSame _ (by simp), nofun, fun _ => ⟨rfl, State.is_put_same _ _ 1 rfl⟩, nofun⟩
  | guard => exact ⟨rfl, hSame _ (by simp), nofun, nofun, fun _ => ⟨rfl, State.is_put_same _ _ 1 rfl⟩⟩
  | lane k => exact absurd rfl (hLane k)

end

/-- Settles O10. -/
theorem supplyLossAndWakeEvents : Obligations.SupplyLossAndWakeEvents := by
  refine ⟨fun vio3 vio guards s hInv => supplyLoss hInv vio3 vio guards, fun s hOn => ⟨wakenLow_wakes hOn, dripAlarm_wakes hOn,
    dripAlarm_unarmed, fun land level => guardChange_wakes hOn, fun land level h => if_neg ?_, fun n hEn => ?_, fun guards => rfl,
    fun vio3 vio guards => supplyReturns hOn vio3 vio guards⟩, fun s n hOn hn hEn => ⟨fun c => laneWakes hOn hn hEn,
    fun w hAwake => wakeDuringAwake_armed hOn hAwake, fun w hAwake hArmed => ?_, fun w hAwake => if_neg (Bool.eq_false_iff.1 hAwake)⟩⟩
  · rcases h with h | h <;> simp [h]
  · exact next_settle (State.wakeEvent_unarmed (Bool.and_eq_false_iff.2 (.inl hEn)))
  · exact (if_pos hAwake).trans (next_settle (State.wakeEvent_unarmed hArmed))

end Sys2Proof.Machine
end

section
/-! PROOF. What a polder's initialisation leaves as it is: the keys, committed and in force, and the polders (R79). -/
namespace Sys2Proof.Machine

/-- The keys, the Vault, the Gallery, the polders on, those that start and those that wait are as before. -/
structure State.Inits (s t : State) : Prop where
  cfg : t.cfg = s.cfg
  eff : t.eff = s.eff
  vlt : t.vlt = s.vlt
  gal : t.gal = s.gal
  on : t.pwr.on = s.pwr.on
  starting : t.pwr.starting = s.pwr.starting
  queue : t.pwr.queue = s.pwr.queue

namespace State.Inits
variable {s t u : State}

theorem refl (s : State) : s.Inits s := ⟨rfl, rfl, rfl, rfl, rfl, rfl, rfl⟩

theorem trans (h : s.Inits t) (h' : t.Inits u) : s.Inits u :=
  ⟨h'.cfg.trans h.cfg, h'.eff.trans h.eff, h'.vlt.trans h.vlt, h'.gal.trans h.gal, h'.on.trans h.on, h'.starting.trans h.starting, h'.queue.trans h.queue⟩

theorem ite {c : Prop} [Decidable c] (ht : s.Inits t) (hu : s.Inits u) : s.Inits (if c then t else u) :=
  iteInduction (fun _ => ht) (fun _ => hu)

theorem pairSnd {α : Type} {a : α} (h : s.Inits t) : s.Inits (a, t).2 := h

theorem iteSnd {α : Type} {c : Prop} [Decidable c] {a b : α × State} (ha : s.Inits a.2) (hb : s.Inits b.2) :
    s.Inits (if c then a else b).2 :=
  iteInduction (motive := fun x : α × State => s.Inits x.2) (fun _ => ha) (fun _ => hb)

theorem foldl {α : Type} {f : State → α → State} {l : List α} (hf : ∀ u a, s.Inits u → s.Inits (f u a)) (h : s.Inits t) :
    s.Inits (l.foldl f t) := by
  induction l generalizing t with
  | nil => exact h
  | cons a l ih => exact ih (hf t a h)

/-! ## One part of the state replaced -/

theorem of_parts (h : s.Inits t) (hCfg : u.cfg = t.cfg) (hEff : u.eff = t.eff) (hVlt : u.vlt = t.vlt) (hGal : u.gal = t.gal)
    (hPwr : u.pwr = t.pwr) : s.Inits u :=
  h.trans ⟨hCfg, hEff, hVlt, hGal, by rw [hPwr], by rw [hPwr], by rw [hPwr]⟩

set_option Elab.async false in
theorem withPwr {v : PowerSt} (h : s.Inits t)
    (hv : v.on = t.pwr.on ∧ v.starting = t.pwr.starting ∧ v.queue = t.pwr.queue := by exact ⟨rfl, rfl, rfl⟩) : s.Inits (t.withPwr v) :=
  h.trans ⟨rfl, rfl, rfl, rfl, hv.1, hv.2.1, hv.2.2⟩

theorem withRegs {v : List (Nat × Word)} (h : s.Inits t) : s.Inits (t.withRegs v) := h.of_parts rfl rfl rfl rfl rfl
theorem withClk {v : ClockSt} (h : s.Inits t) : s.Inits (t.withClk v) := h.of_parts rfl rfl rfl rfl rfl
theorem withRve {v : ReeveSt} (h : s.Inits t) : s.Inits (t.withRve v) := h.of_parts rfl rfl rfl rfl rfl
theorem withFlt {v : FaultSt} (h : s.Inits t) : s.Inits (t.withFlt v) := h.of_parts rfl rfl rfl rfl rfl
theorem withInt {v : IntSt} (h : s.Inits t) : s.Inits (t.withInt v) := h.of_parts rfl rfl rfl rfl rfl
theorem withStr {v : StrataSt} (h : s.Inits t) : s.Inits (t.withStr v) := h.of_parts rfl rfl rfl rfl rfl
theorem withCul {v : CulvertSt} (h : s.Inits t) : s.Inits (t.withCul v) := h.of_parts rfl rfl rfl rfl rfl
theorem withMod {v : ModSt} (h : s.Inits t) : s.Inits (t.withMod v) := h.of_parts rfl rfl rfl rfl rfl
theorem withGdr {v : GdrSt} (h : s.Inits t) : s.Inits (t.withGdr v) := h.of_parts rfl rfl rfl rfl rfl
theorem withPins {v : PinSt} (h : s.Inits t) : s.Inits (t.withPins v) := h.of_parts rfl rfl rfl rfl rfl
theorem withWrd {v : WrdSt} (h : s.Inits t) : s.Inits (t.withWrd v) := h.of_parts rfl rfl rfl rfl rfl
theorem withNet {v : NetSt} (h : s.Inits t) : s.Inits (t.withNet v) := h.of_parts rfl rfl rfl rfl rfl
theorem withStm {v : StmSt} (h : s.Inits t) : s.Inits (t.withStm v) := h.of_parts rfl rfl rfl rfl rfl
theorem withTwn {v : TwinSt} (h : s.Inits t) : s.Inits (t.withTwn v) := h.of_parts rfl rfl rfl rfl rfl
theorem withWear {v : WearSt} (h : s.Inits t) : s.Inits (t.withWear v) := h.of_parts rfl rfl rfl rfl rfl

/-! ## The operations -/

set_option Elab.async false in
theorem setWord {a : Nat} {v : Word} (h : s.Inits t) : s.Inits (t.setWord a v) := h.withRegs

theorem put {f : Fld} {v : Nat} (h : s.Inits t) : s.Inits (t.put f v) := h.setWord

theorem flag {f : Fld} {b : Bool} (h : s.Inits t) : s.Inits (t.flag f b) := h.put

theorem bump {f : Fld} (h : s.Inits t) : s.Inits (t.bump f) := h.put

theorem setPend {n : Nat} (h : s.Inits t) : s.Inits (t.setPend n) := h.withInt

theorem raise167 (h : s.Inits t) : s.Inits t.raise167 := by
  delta State.raise167
  refine .ite ?_ ?_
  · extract_lets t1 _ t2
    have h1 : s.Inits t1 := h.setPend
    have h2 : s.Inits t2 := h1.withInt
    exact .ite h2.withStr h2
  exact h

theorem offerRaise {n : Nat} (h : s.Inits t) : s.Inits (t.offerRaise n) := by
  delta State.offerRaise
  extract_lets _ t1
  have h1 : s.Inits t1 := h.withStr
  exact .ite h1.raise167 h1

theorem raiseInt {n : Nat} (h : s.Inits t) : s.Inits (t.raiseInt n) := by
  delta State.raiseInt
  refine .ite ?_ ?_
  · extract_lets t1
    have h1 : s.Inits t1 := h.setPend
    exact .ite h1.offerRaise h1
  exact h

theorem armInt {n : Nat} (h : s.Inits t) : s.Inits (t.armInt n) := h.withInt

theorem setCport {p : Nat} {c : CulPort} (h : s.Inits t) : s.Inits (t.setCport p c) := h.withCul

theorem send {p : Nat} {t' : TxItem} (h : s.Inits t) : s.Inits (t.send p t') := h.setCport

theorem updateWraps (h : s.Inits t) : s.Inits t.updateWraps := by
  delta State.updateWraps
  refine .ite h ?_
  extract_lets
  exact h.flag.flag

theorem updateUsable {p : Nat} (h : s.Inits t) : s.Inits (t.updateUsable p) := by
  delta State.updateUsable
  extract_lets _ t1 _ t2
  have h1 : s.Inits t1 := h.flag
  have h2 : s.Inits t2 := .ite h1 h1.put.setCport
  exact .ite h2.updateWraps h2

theorem rxState {p v : Nat} (h : s.Inits t) : s.Inits (t.rxState p v) := by
  delta State.rxState
  extract_lets t1
  have h1 : s.Inits t1 := .ite h h.raiseInt
  exact h1.put.updateUsable

set_option Elab.async false in
theorem wakeTx {p : Nat} (h : s.Inits t) : s.Inits (t.wakeTx p) := .ite h h.put.send.raiseInt

theorem wakeRx {p : Nat} (h : s.Inits t) : s.Inits (t.wakeRx p) := .ite h h.put.rxState

theorem askTx {p : Nat} (h : s.Inits t) : s.Inits (t.askTx p) := .ite (h.wakeTx.withPwr (by simp)) h.withPwr

theorem askRx {p : Nat} (h : s.Inits t) : s.Inits (t.askRx p) := .ite (h.wakeRx.withPwr (by simp)) h.withPwr

theorem calStart {mask : Nat} (h : s.Inits t) : s.Inits (t.calStart mask) := by
  delta State.calStart
  extract_lets t1
  have h1 : s.Inits t1 := h.put
  exact .foldl (fun _ _ h2 => h2.put.put) h1

theorem setTrims {n : Nat} {t' : List Word} (h : s.Inits t) : s.Inits (t.setTrims n t') := by
  delta State.setTrims
  extract_lets t1
  have h1 : s.Inits t1 := h.setWord
  exact .foldl (fun _ _ h2 => h2.setWord) h1

theorem hbFault {n cause : Nat} (h : s.Inits t) : s.Inits (t.hbFault n cause) := by
  delta State.hbFault
  extract_lets t1 _ _ t2 t3 t4
  have h1 : s.Inits t1 := h.setWord
  have h2 : s.Inits t2 := .ite h1 h1.withGdr
  have h3 : s.Inits t3 := h2.bump
  have h4 : s.Inits t4 := h3.put
  exact .ite h2 h4.raiseInt

theorem uvloFaults (h : s.Inits t) : s.Inits t.uvloFaults := by
  delta State.uvloFaults
  refine .ite ?_ ?_
  · refine .foldl (fun _ _ h3 => ?_) h
    refine .ite h3 ?_
    extract_lets _ _ t1
    have h4 : s.Inits t1 := .ite h3.hbFault h3
    exact .ite h4.hbFault h4
  exact h

theorem setInputs {new : List HbLevel} (h : s.Inits t) : s.Inits (t.setInputs new) := by
  delta State.setInputs
  extract_lets _ _ _ _ t1
  have h1 : s.Inits t1 := h.withMod
  exact h1.withGdr

theorem notchesLeft (h : s.Inits t) : s.Inits t.notchesLeft := h.withGdr

theorem drive (h : s.Inits t) : s.Inits t.drive := by
  delta State.drive
  extract_lets _ t1 t2 _ t3 _ t4 t5 _ _ t6 t7 t8 _ t9
  have h1 : s.Inits t1 := .ite h.withMod h
  have h2 : s.Inits t2 := h1.notchesLeft
  have h3 : s.Inits t3 := h2.setInputs
  have h4 : s.Inits t4 := h3.withMod
  have h5 : s.Inits t5 := h4.uvloFaults
  have h6 : s.Inits t6 := h5.withPins
  have h7 : s.Inits t7 := h6.put
  have h8 : s.Inits t8 := h7.flag
  have h9 : s.Inits t9 := .ite h8.put h6
  exact .ite h9.flag h9

theorem showFunction (h : s.Inits t) : s.Inits t.showFunction := h.put

theorem tripLatch {t' : Nat} (h : s.Inits t) : s.Inits (t.tripLatch t') := by
  delta State.tripLatch
  extract_lets _ t1 t2 _ t3
  have h1 : s.Inits t1 := h.put
  have h2 : s.Inits t2 := h1.put
  have h3 : s.Inits t3 := h2.withMod
  exact .ite h h3.raiseInt.drive

theorem tripKey {t' : Nat} (h : s.Inits t) : s.Inits (t.tripKey t') := by
  delta State.tripKey
  extract_lets _ _ _ t1
  have h1 : s.Inits t1 := .ite h h.put
  exact .ite h1.tripLatch h1

set_option Elab.async false in
theorem tripKeys (h : s.Inits t) : s.Inits t.tripKeys := by
  delta State.tripKeys
  extract_lets _ t1
  have h1 : s.Inits t1 := .ite h.withGdr h
  exact .foldl (fun _ _ => tripKey) h1

theorem enqueue {p : Nat} {t' : TxFrame} (h : s.Inits t) : s.Inits (t.enqueue p t') := h.withNet

theorem svLaunch {p : Nat} {seq : Option Nat} {ws : List SvWait} (h : s.Inits t) : s.Inits (t.svLaunch p seq ws) := by
  delta State.svLaunch
  extract_lets _ _ _ t1 t2
  have h1 : s.Inits t1 := h.withNet
  have h2 : s.Inits t2 := by
    unfold t2
    split
    · exact h1.put
    · exact h1
  exact .ite h2.raiseInt h2

theorem netStart {p : Nat} (h : s.Inits t) : s.Inits (t.netStart p) := by
  delta State.netStart
  refine .ite h ?_
  extract_lets
  split
  · exact h
  · extract_lets t1
    have h1 : s.Inits t1 := by
      unfold t1
      split
      · exact h.svLaunch
      · exact h
    exact h1.withNet

theorem txLate {w : TxWhat} (h : s.Inits t) : s.Inits (t.txLate w) := by
  delta State.txLate
  extract_lets t1
  have h1 : s.Inits t1 := h.bump.raiseInt
  split
  · extract_lets
    exact h1.withNet
  · exact h1.bump
  · exact h1

theorem transmit {ports : List Nat} {cls : Nat} {launch : Option Nat} {w : TxWhat} (h : s.Inits t) : s.Inits (t.transmit ports cls launch w) :=
  by
  delta State.transmit
  split
  · exact .ite (.foldl (fun _ _ h1 => h1.enqueue.netStart) h) h.txLate
  · exact .foldl (fun _ _ h2 => h2.enqueue.netStart) h

theorem takeSeq (h : s.Inits t) : s.Inits t.takeSeq.2 := .iteSnd (.pairSnd h.withNet) (.pairSnd h)

theorem sendRedundant {cls : Nat} {launch : Option Nat} {w : Option Nat → TxWhat} (h : s.Inits t) : s.Inits (t.sendRedundant cls launch w) :=
  by
  delta State.sendRedundant
  extract_lets t1
  have h1 : s.Inits t1.2 := h.takeSeq
  exact h1.transmit

theorem setGsePub {g : Nat} {x : GsePub} (h : s.Inits t) : s.Inits (t.setGsePub g x) := h.withStm

theorem gseNew {g : Nat} (h : s.Inits t) : s.Inits (t.gseNew g) := by
  delta State.gseNew
  refine .ite ?_ ?_
  · extract_lets _ _ t1 _ _ t2 t3
    have h1 : s.Inits t1 := h.withNet
    have h2 : s.Inits t2 := h1.setGsePub
    have h3 : s.Inits t3 := h2.raiseInt
    exact h3.sendRedundant
  exact h

theorem demandReading (h : s.Inits t) : s.Inits t.demandReading := .ite h.put h

theorem loadWear (h : s.Inits t) : s.Inits t.loadWear := by
  delta State.loadWear
  refine .ite ?_ ?_
  · extract_lets _ t1 t2
    have h1 : s.Inits t1 := .foldl (fun _ _ h2 => h2.put) h
    have h3 : s.Inits t2 := h1.put.put
    exact h3.withWear
  exact h

theorem loadSwitching (h : s.Inits t) : s.Inits t.loadSwitching := by
  delta State.loadSwitching
  split
  · exact h.setWord.setWord.setWord.setWord.withWear
  · exact h

theorem twinSet {v : Nat} (h : s.Inits t) : s.Inits (t.twinSet v) := by
  delta State.twinSet
  refine .ite h ?_
  extract_lets t1 t2 _ t3
  have h1 : s.Inits t1 := h.put
  have h2 : s.Inits t2 := .ite h1.bump h1
  have h3 : s.Inits t3 := .ite h2.withTwn h2
  exact h3.raiseInt

set_option Elab.async false in
theorem twinEnable (h : s.Inits t) : s.Inits t.twinEnable := by
  delta State.twinEnable
  extract_lets
  exact .ite h (.ite h.withTwn.twinSet h.twinSet.withTwn)

theorem wput {b : Bool} {f : Fld} {v : Nat} (h : s.Inits t) : s.Inits (t.wput b f v) := h.put

theorem wflag {b : Bool} {f : Fld} {v : Bool} (h : s.Inits t) : s.Inits (t.wflag b f v) := h.flag

theorem setWch {b : Bool} {c : WrdChan} (h : s.Inits t) : s.Inits (t.setWch b c) := h.withWrd

theorem testedBoth {b : Bool} (h : s.Inits t) : s.Inits (t.testedBoth b) := .ite h.raiseInt h

theorem wardRetest {b : Bool} (h : s.Inits t) : s.Inits (t.wardRetest b) := by
  delta State.wardRetest
  extract_lets _ t1 t2 t3
  have h1 : s.Inits t1 := h.wflag
  have h2 : s.Inits t2 := h1.wflag
  have h3 : s.Inits t3 := .ite h2.wput h2
  exact h3.testedBoth

theorem copyWardB (h : s.Inits t) : s.Inits t.copyWardB := h.setWord

theorem wardInit {b : Bool} (h : s.Inits t) : s.Inits (t.wardInit b) := by
  delta State.wardInit
  extract_lets t1
  have h1 : s.Inits t1 := h.setWch
  exact (ite h1.copyWardB h1).wardRetest

theorem startCalibration (h : s.Inits t) : s.Inits t.startCalibration := by
  delta State.startCalibration
  extract_lets
  exact .ite (.ite h.withRve.withPwr.calStart h.withPwr) h

theorem portsInit {p : Nat} (h : s.Inits t) : s.Inits (t.portsInit p) := by
  delta State.portsInit
  refine .foldl (fun _ _ h2 => ?_) h
  extract_lets t1
  have h3 : s.Inits t1 := .ite h2.askTx h2
  exact .ite h3.askRx h3

theorem polderInit {p : Nat} (h : s.Inits t) : s.Inits (t.polderInit p) := by
  delta State.polderInit
  extract_lets _ t1 t2 t3
  have h1 : s.Inits t1 := h.withFlt
  have h2 : s.Inits t2 := h1.put
  have h3 : s.Inits t3 := by
    unfold t3
    split
    · exact h2.twinEnable.loadWear
    · exact h.portsInit
    · exact h.portsInit
    · exact h.armInt
    · exact .foldl (fun _ _ => gseNew) h
    · exact h.armInt
    · exact h.armInt.armInt.showFunction.tripKeys.loadSwitching
    · exact .foldl (fun _ _ h4 => h4.setWord) h
    · exact .foldl (fun _ _ h5 => h5.setTrims) h
    · exact h.drive
    · exact h.wardInit
    · exact h.wardInit
    · exact h
  exact h3.startCalibration

theorem beginLock {full : Bool} (h : s.Inits t) : s.Inits (t.beginLock full) := by
  delta State.beginLock
  extract_lets _ t1 t2 t3 t4
  have h1 : s.Inits t1 := h.withClk
  have h2 : s.Inits t2 := h1.put
  have h3 : s.Inits t3 := h2.put
  have h4 : s.Inits t4 := h3.put
  exact h4.put

theorem takeWiring (h : s.Inits t) : s.Inits t.takeWiring := h.withFlt

theorem wardLoad (h : s.Inits t) : s.Inits t.wardLoad := .ite h.copyWardB.wardRetest h

set_option Elab.async false in
theorem loadInit (h : s.Inits t) : s.Inits t.loadInit := h.takeWiring.wardLoad.loadWear.twinEnable

theorem waitInService (h : s.Inits t) : s.Inits t.waitInService := .ite h.withPwr h

theorem awaitP0 {full : Bool} (h : s.Inits t) : s.Inits (t.awaitP0 full) := h.put.put.withClk


end State.Inits
end Sys2Proof.Machine
end

section
/-! PROOF. Polders that start and stop (R79, R80, R81, R284). -/
namespace Sys2Proof.Machine

/-! ## Power-good -/

/-- A polder past power-good, its keys in force. -/
def State.poweredUp (s : State) (p : Nat) : State :=
  (s.withPwr { s.pwr with on := s.pwr.on ||| (1#16 <<< p), starting := s.pwr.starting.filter (· != p) }).applyKeys (fun a => polderOf a == p)

/-- What follows power-good in polder 2. -/
def State.firstReading (s : State) (p : Nat) (clock : Bool) : State :=
  let s := if p = 2 && s.pwr.phase == .starting then s.demandReading else s
  if p = 2 && s.pwr.phase == .starting then
    if s.isStation || clock then s.beginLock false else (s.awaitP0 false).waitInService
  else s

theorem State.firstReading_inits (s : State) (p : Nat) (clock : Bool) : s.Inits (s.firstReading p clock) := by
  delta State.firstReading
  extract_lets t
  have ht : s.Inits t := .ite (State.Inits.refl s).demandReading (.refl s)
  exact .ite (.ite ht.beginLock ht.awaitP0.waitInService) ht

theorem exec_polderPowerGood {s : State} {p : Nat} (h : s.pwr.starting.contains p = true) (clock : Bool) :
    exec (.polderPowerGood p clock) s = .next (((s.poweredUp p).polderInit p).firstReading p clock).startNext.settle := if_pos h

theorem State.poweredUp_isOn (s : State) {p : Nat} (hp : p < 16) (q : Nat) : (s.poweredUp p).isOn q = (s.isOn q || decide (q = p)) :=
  getLsbD_setBit s.pwr.on hp q

theorem nextGroup_off {on : BitVec 16} {p : Nat} (hOn : on.getLsbD p = true) (l : List (List Nat)) : (nextGroup on l).1.contains p = false := by
  induction l with
  | nil => rfl
  | cons g gs ih =>
    rw [nextGroup]
    split
    · exact ih
    · rw [List.contains_eq_mem, decide_eq_false_iff_not, List.mem_filter]
      rintro ⟨-, h⟩
      rw [hOn] at h
      exact Bool.false_ne_true h

/-- A polder that is on is not started. -/
theorem State.startNext_starting {s : State} {p : Nat} (hOn : s.isOn p = true) (h : s.pwr.starting.contains p = false) :
    s.startNext.pwr.starting.contains p = false := by
  delta State.startNext
  split
  · exact h
  · split
    · exact nextGroup_off hOn s.pwr.queue
    · exact h

theorem State.startNext_only (s : State) : ∃ q st, s.startNext = s.withPwr { s.pwr with queue := q, starting := st } := by
  delta State.startNext
  split
  · exact ⟨_, _, rfl⟩
  · split
    · exact ⟨_, _, rfl⟩
    · exact ⟨_, _, rfl⟩

theorem powerGood {s : State} (hInv : s.Inv) {p : Nat} (hp : p < 16) (h : s.pwr.starting.contains p = true) (clock : Bool) :
    ∃ u : State, exec (.polderPowerGood p clock) s = .next u.settle ∧
      u.isOn p = true ∧ (∀ q, q ≠ p → u.isOn q = s.isOn q) ∧ u.pwr.starting.contains p = false ∧
      (∀ a, polderOf a = p → u.effWord a = s.cfgWord a) ∧ u.cfg = s.cfg := by
  refine ⟨_, exec_polderPowerGood h clock, ?_⟩
  have hInit : (s.poweredUp p).Inits (((s.poweredUp p).polderInit p).firstReading p clock) :=
    (State.Inits.refl _).polderInit.trans (State.firstReading_inits _ p clock)
  generalize ((s.poweredUp p).polderInit p).firstReading p clock = t at hInit ⊢
  obtain ⟨q, st, hNext⟩ := t.startNext_only
  have hOn : ∀ q, t.isOn q = (s.isOn q || decide (q = p)) := fun q => by
    rw [← s.poweredUp_isOn hp q, State.isOn, hInit.on, State.isOn]
  have hStarting : t.pwr.starting.contains p = false := by
    rw [hInit.starting]
    show (s.pwr.starting.filter (· != p)).contains p = false
    simp
  refine ⟨?_, fun q hq => ?_, State.startNext_starting (by simp [hOn]) hStarting, fun a ha => ?_, ?_⟩
  · rw [hNext]
    exact (hOn p).trans (by simp)
  · rw [hNext]
    exact (hOn q).trans (by simp [hq])
  · rw [hNext]
    show t.effWord a = s.cfgWord a
    have hKeys := State.applyKeys_effWord (s := s.withPwr _) hInv.cfg hInv.eff (fun a => polderOf a == p) a
    rw [State.effWord, hInit.eff]
    exact hKeys.trans (if_pos (by simp [ha]))
  · rw [hNext]
    exact hInit.cfg

/-! ## A Culvert polder whose ports sleep -/

theorem foldl_setWord_word {α : Type} {f : State → α → State} {g : α → List Nat} (hf : ∀ t b a, (f t b).word a = if a ∈ g b then 0 else t.word a)
    (l : List α) (s : State) (a : Nat) : (l.foldl f s).word a = if ∃ b ∈ l, a ∈ g b then 0 else s.word a := by
  induction l generalizing s with
  | nil => simp
  | cons b l ih =>
    rw [List.foldl_cons, ih, hf]
    by_cases h1 : ∃ c ∈ l, a ∈ g c
    · simp [h1]
    · by_cases h2 : a ∈ g b <;> simp [h1, h2]

/-- R284: the outputs of the loop engine. -/
def lpeOutputs : List Nat := (List.range 32).map R.LPE_LOOPn_OUT ++ (List.range 8).map R.LPE_GRPg_OUT ++ (List.range 8).map R.LPE_GENg_OUT

theorem mem_lpeOutputs {a : Nat} : a ∈ lpeOutputs ↔
    (∃ g ∈ List.range 8, a ∈ [R.LPE_GRPg_OUT g, R.LPE_GENg_OUT g]) ∨ ∃ n ∈ List.range 32, a ∈ [R.LPE_LOOPn_OUT n] := by
  simp only [lpeOutputs, List.mem_append, List.mem_map, List.mem_cons, List.not_mem_nil, or_false]
  constructor
  · rintro ((⟨n, hn, rfl⟩ | ⟨g, hg, rfl⟩) | ⟨g, hg, rfl⟩)
    · exact .inr ⟨n, hn, rfl⟩
    · exact .inl ⟨g, hg, .inl rfl⟩
    · exact .inl ⟨g, hg, .inr rfl⟩
  · rintro (⟨g, hg, rfl | rfl⟩ | ⟨n, hn, rfl⟩)
    · exact .inl (.inr ⟨g, hg, rfl⟩)
    · exact .inr ⟨g, hg, rfl⟩
    · exact .inl (.inl ⟨n, hn, rfl⟩)

theorem State.lpeSilent_word {s : State} (h : s.isOn 11 = true) (a : Nat) :
    s.lpeSilent.word a = if a ∈ lpeOutputs then 0 else s.word a := by
  have hLoops := foldl_setWord_word (f := fun s n => s.setWord (R.LPE_LOOPn_OUT n) 0) (g := fun n => [R.LPE_LOOPn_OUT n])
    (fun t n a => by simp only [State.word_setWord, List.mem_singleton]) (List.range 32) s
  have hGroups := foldl_setWord_word (f := fun s g => (s.setWord (R.LPE_GRPg_OUT g) 0).setWord (R.LPE_GENg_OUT g) 0)
    (g := fun g => [R.LPE_GRPg_OUT g, R.LPE_GENg_OUT g]) (fun t g a => by
      simp only [State.word_setWord, List.mem_cons, List.not_mem_nil, or_false]
      by_cases h1 : a = R.LPE_GRPg_OUT g <;> by_cases h2 : a = R.LPE_GENg_OUT g <;> simp [h1, h2]) (List.range 8)
  delta State.lpeSilent
  rw [if_pos h]
  extract_lets t u
  have ht : t.word a = if ∃ n ∈ List.range 32, a ∈ [R.LPE_LOOPn_OUT n] then 0 else s.word a := hLoops a
  have hu : u.word a = if ∃ g ∈ List.range 8, a ∈ [R.LPE_GRPg_OUT g, R.LPE_GENg_OUT g] then 0 else t.word a := hGroups t a
  clear_value t u
  rw [State.withLpe_word, hu, ht]
  by_cases h1 : ∃ g ∈ List.range 8, a ∈ [R.LPE_GRPg_OUT g, R.LPE_GENg_OUT g]
  · rw [if_pos h1, if_pos (mem_lpeOutputs.2 (.inl h1))]
  · rw [if_neg h1]
    by_cases h2 : ∃ n ∈ List.range 32, a ∈ [R.LPE_LOOPn_OUT n]
    · rw [if_pos h2, if_pos (mem_lpeOutputs.2 (.inr h2))]
    · rw [if_neg h2, if_neg (fun hm => (mem_lpeOutputs.1 hm).elim h1 h2)]

/-- A Culvert polder that goes off leaves the Gallery. -/
theorem State.polderOff_gal (s : State) {p : Nat} (hp : p = 5 ∨ p = 6) : (s.polderOff p).gal = s.gal := by
  obtain ⟨w, hw⟩ := s.polderOff_eq p
  rw [hw]
  rcases hp with rfl | rfl
  · generalize hu : (s.withWear w).unpowered 5 = u
    obtain ⟨r, e, hSilent⟩ := (u.withCul (u.cul.without 5)).lpeSilent_only
    refine (congrArg State.gal hSilent).trans ?_
    rw [← hu]
    rfl
  · rfl

/-- R284: the registers as polder 5 goes off. -/
theorem State.polderOff_five_word {s : State} (hWf : SMap.wf s.regs = true) (a : Nat) :
    (s.polderOff 5).word a = if s.isOn 11 = true ∧ a ∈ lpeOutputs then 0 else if polderOf a = 5 then resetWord a else s.word a := by
  obtain ⟨w, hw⟩ := s.polderOff_eq 5
  have hFive : ∀ t : State, t.dropHidden 5 = (t.withCul (t.cul.without 5)).lpeSilent := fun _ => rfl
  have hOn : ((s.withWear w).unpowered 5).isOn 11 = s.isOn 11 :=
    (getLsbD_clearBit s.pwr.on 5 11).trans (by simp [State.isOn])
  have hWord : ((s.withWear w).unpowered 5).word a = if polderOf a = 5 then resetWord a else s.word a := by
    refine (SMap.getD_find_filter hWf (fun k => polderOf k != 5) a _).trans ?_
    by_cases ha : polderOf a = 5
    · simp [ha]
    · simp [ha, State.word]
  rw [hw, hFive]
  generalize (s.withWear w).unpowered 5 = t at hOn hWord ⊢
  cases h : s.isOn 11
  · rw [State.lpeSilent_off (s := t.withCul (t.cul.without 5)) (hOn.trans h), State.withCul_word, hWord]
    simp
  · rw [State.lpeSilent_word (s := t.withCul (t.cul.without 5)) (hOn.trans h), State.withCul_word, hWord]
    simp

set_option Elab.async false in
theorem lpeOutputs_polder {a : Nat} (ha : a ∈ lpeOutputs) : polderOf a = 11 := by
  revert a
  decide

theorem idleStop {s : State} (hInv : s.Inv) {p : Nat} (hp : p = 5 ∨ p = 6) (hOn : s.isOn p = true) (hAwake : s.awake = true)
    (hAsleep : s.portsAsleep p = true) :
    ∃ u : State, exec (.culvertPolderIdleStop p) s = .next u.settle ∧ u.isOn p = false ∧ (∀ q, q ≠ p → u.isOn q = s.isOn q) ∧
      (∀ a, polderOf a = p → u.word a = resetWord a ∧ u.effWord a = resetWord a) ∧
      (∀ a, polderOf a ≠ p → u.effWord a = s.effWord a ∧ (p = 6 ∨ polderOf a ≠ 11 → u.word a = s.word a)) ∧
      (p = 5 → s.isOn 11 = true → (∀ n, n < 32 → u.word (R.LPE_LOOPn_OUT n) = 0) ∧
        (∀ g, g < 8 → u.word (R.LPE_GRPg_OUT g) = 0 ∧ u.word (R.LPE_GENg_OUT g) = 0)) ∧ u.gal = s.gal ∧ u.cfg = s.cfg := by
  have hWord : ∀ a, ¬(p = 5 ∧ a ∈ lpeOutputs) → (s.polderOff p).word a = if polderOf a = p then resetWord a else s.word a := by
    intro a ha
    rcases hp with rfl | rfl
    · rw [State.polderOff_five_word hInv.regs, if_neg (fun h => ha ⟨rfl, h.2⟩)]
    · exact State.polderOff_word hInv.regs (fun h => absurd h (by decide)) a
  have hOut : p = 5 → s.isOn 11 = true → ∀ a ∈ lpeOutputs, (s.polderOff p).word a = 0 := by
    rintro rfl h11 a ha
    rw [State.polderOff_five_word hInv.regs, if_pos ⟨h11, ha⟩]
  have hNot : ∀ {a}, polderOf a ≠ 11 → ¬(p = 5 ∧ a ∈ lpeOutputs) := fun h hm => h (lpeOutputs_polder hm.2)
  refine ⟨s.polderOff p, if_pos ?_, ?_, fun q hq => ?_, fun a ha => ⟨?_, ?_⟩, fun a ha => ⟨?_, fun h => ?_⟩,
    fun h5 h11 => ⟨fun n hn => ?_, fun g hg => ⟨?_, ?_⟩⟩, ?_, (s.polderOff_stops p).cfg⟩
  · rcases hp with rfl | rfl <;> simp [hOn, hAwake, hAsleep]
  · rw [s.polderOff_isOn]
    simp
  · rw [s.polderOff_isOn]
    simp [hq]
  · rw [hWord a (hNot (by omega)), if_pos ha]
  · rw [State.polderOff_effWord hInv.eff, if_pos ha]
  · rw [State.polderOff_effWord hInv.eff, if_neg ha]
  · rw [hWord a (fun hm => h.elim (fun h6 => by omega) (fun h11 => hNot h11 hm)), if_neg ha]
  · exact hOut h5 h11 _ (mem_lpeOutputs.2 (.inr ⟨n, List.mem_range.2 hn, .head _⟩))
  · exact hOut h5 h11 _ (mem_lpeOutputs.2 (.inl ⟨g, List.mem_range.2 hg, .head _⟩))
  · exact hOut h5 h11 _ (mem_lpeOutputs.2 (.inl ⟨g, List.mem_range.2 hg, .tail _ (.head _)⟩))
  · exact s.polderOff_gal hp

/-- Settles O12. -/
theorem poldersStartAndStop : Obligations.PoldersStartAndStop := by
  intro s p h1 h15 hInv
  exact ⟨fun h clock => powerGood hInv (by omega) h clock, fun h => if_pos h,
    fun hp hOn hAwake hAsleep => idleStop hInv hp hOn hAwake hAsleep⟩

end Sys2Proof.Machine
end

section
/-! PROOF. Start-up (R12, R85, R102, R104, R386, R476). -/
namespace Sys2Proof.Machine

/-! ## Its conditions and its first polder -/

theorem startUpBegins {s : State} (hCrest : s.pwr.vcrest = true) (hGood : s.pwr.suppliesGood = true) (hReq : s.requested = true)
    (hPhase : s.pwr.phase = .crest) (hRole : s.role ≠ .none) :
    ∃ t : State, exec .startUp s = .next t ∧ t.pwr.phase = .starting ∧ t.pwr.startCause = false ∧ t.pwr.on = s.pwr.on ∧
      t = { s with pwr := t.pwr } ∧ (s.isOn 4 = false → t.pwr.starting = [4] ∧ t.pwr.queue = [[1, 3], [2, 15]]) := by
  have hCond : (s.pwr.vcrest && s.pwr.suppliesGood && s.requested && s.pwr.phase == .crest && s.role != .none) = true := by
    simp [hCrest, hGood, hReq, hPhase, hRole]
  refine ⟨_, if_pos hCond, rfl, rfl, rfl, rfl, fun h4 => ?_⟩
  have h4' : s.pwr.on[4] = false := h4
  simp [State.startNext, nextGroup, h4']

theorem startUpWaits {s : State}
    (h : s.pwr.vcrest = false ∨ s.pwr.suppliesGood = false ∨ s.requested = false ∨ s.pwr.phase ≠ .crest ∨ s.role = .none) :
    exec .startUp s = .next s := by
  refine if_neg (Bool.eq_false_iff.1 ?_)
  rcases h with h | h | h | h | h <;> simp [h]

/-! ## The configuration load -/

/-- One slot of the search for the best generation. -/
def VltSt.bestOf (v : VltSt) (p : SlotSt → Bool) (b : Option (Nat × SlotSt)) (i : Nat) : Option (Nat × SlotSt) :=
  match v.slots.getD i none with
  | some x =>
    if x.valid && p x then
      match b with
      | some y => if x.gen > y.2.gen then some (i, x) else b
      | none => some (i, x)
    else b
  | none => b

theorem VltSt.best_eq (v : VltSt) (p : SlotSt → Bool) : v.best p = [0, 1, 2, 3].foldl (v.bestOf p) none := rfl

/-- The slot `i` holds the generation `x`, valid and as `p` asks. -/
def VltSt.Offers (v : VltSt) (p : SlotSt → Bool) (i : Nat) (x : SlotSt) : Prop :=
  v.slots.getD i none = some x ∧ (x.valid && p x) = true

/-- `b` is the best of the slots in `l`. -/
structure VltSt.IsBest (v : VltSt) (p : SlotSt → Bool) (l : List Nat) (b : Option (Nat × SlotSt)) : Prop where
  offered : ∀ y, b = some y → y.1 ∈ l ∧ v.Offers p y.1 y.2
  highest : ∀ i ∈ l, ∀ x, v.Offers p i x → ∃ y, b = some y ∧ x.gen ≤ y.2.gen

theorem VltSt.IsBest.bestOf {v : VltSt} {p : SlotSt → Bool} {l : List Nat} {b : Option (Nat × SlotSt)} (h : v.IsBest p l b) (i : Nat) :
    v.IsBest p (l ++ [i]) (v.bestOf p b i) := by
  have hKept (hLess : ∀ x, v.Offers p i x → ∃ y, b = some y ∧ x.gen ≤ y.2.gen) : v.IsBest p (l ++ [i]) b := by
    refine ⟨fun y hy => ⟨List.mem_append_left _ (h.offered y hy).1, (h.offered y hy).2⟩, fun j hj x hx => ?_⟩
    rcases List.mem_append.1 hj with hj | hj
    · exact h.highest j hj x hx
    · obtain rfl := List.mem_singleton.1 hj
      exact hLess x hx
  have hTaken {x : SlotSt} (hx : v.Offers p i x) (hLess : ∀ y, b = some y → y.2.gen < x.gen) :
      v.IsBest p (l ++ [i]) (some (i, x)) := by
    refine ⟨fun y hy => ?_, fun j hj z hz => ⟨_, rfl, ?_⟩⟩
    · obtain rfl := Option.some.inj hy
      exact ⟨List.mem_append_right _ (.head _), hx⟩
    · rcases List.mem_append.1 hj with hj | hj
      · obtain ⟨y, hy, hle⟩ := h.highest j hj z hz
        exact Nat.le_of_lt (Nat.lt_of_le_of_lt hle (hLess y hy))
      · obtain rfl := List.mem_singleton.1 hj
        exact Nat.le_of_eq (congrArg SlotSt.gen (Option.some.inj (hz.1.symm.trans hx.1)))
  delta VltSt.bestOf
  split
  next x hSlot =>
    split
    next hValid =>
      split
      next y =>
        split
        next hGt => exact hTaken ⟨hSlot, hValid⟩ (fun z hz => Option.some.inj hz ▸ hGt)
        next hLe =>
          refine hKept fun z hz => ⟨y, rfl, ?_⟩
          rw [← Option.some.inj (hSlot.symm.trans hz.1)]
          exact Nat.not_lt.1 hLe
      next => exact hTaken ⟨hSlot, hValid⟩ nofun
    next hNot =>
      refine hKept fun z hz => absurd ?_ hNot
      rw [Option.some.inj (hSlot.symm.trans hz.1)]
      exact hz.2
  next hNone =>
    exact hKept fun z hz => nomatch hNone.symm.trans hz.1

theorem VltSt.best_isBest (v : VltSt) (p : SlotSt → Bool) : v.IsBest p [0, 1, 2, 3] (v.best p) := by
  have h : v.IsBest p [] none := ⟨nofun, nofun⟩
  exact (((h.bestOf 0).bestOf 1).bestOf 2).bestOf 3

/-- What a load leaves of a slot: `bad` spoils its words, `lost` takes its commit record. -/
def SlotSt.loaded (x : SlotSt) (bad lost : Bool) : SlotSt :=
  { x with spoilt := x.spoilt || bad, record := if lost then none else x.record }

theorem SlotSt.loaded_valid {x : SlotSt} {bad lost : Bool} :
    (x.loaded bad lost).valid = true ↔ x.valid = true ∧ bad = false ∧ lost = false := by
  obtain ⟨gen, count, role, cfg, record, spoilt⟩ := x
  cases lost
  · cases record with
    | none => exact ⟨nofun, fun h => nomatch h.1⟩
    | some r =>
      show (!(spoilt || bad) && _) = true ↔ (!spoilt && _) = true ∧ _
      cases spoilt <;> cases bad <;> simp; rfl
  · exact ⟨nofun, fun h => nomatch h.2.2⟩

/-- The slots as a load finds them. -/
def VltSt.loaded (v : VltSt) (bad lost : BitVec 4) : VltSt :=
  { v with slots := [0, 1, 2, 3].map (fun i => (v.slots.getD i none).map (fun x => x.loaded (bad.getLsbD i) (lost.getLsbD i))) }

theorem VltSt.loaded_slot (v : VltSt) (bad lost : BitVec 4) {i : Nat} (hi : i < 4) : (v.loaded bad lost).slots.getD i none =
    (v.slots.getD i none).map (fun x => x.loaded (bad.getLsbD i) (lost.getLsbD i)) := by
  rcases lt_four_cases hi with rfl | rfl | rfl | rfl <;> rfl

/-- A slot offers a generation to a load where it is valid, unspoilt and not lost. -/
theorem VltSt.loaded_offers {v : VltSt} {bad lost : BitVec 4} {i : Nat} (hi : i < 4) {x : SlotSt} :
    (v.loaded bad lost).Offers (fun _ => true) i x ↔
      v.slots.getD i none = some x ∧ x.valid = true ∧ bad.getLsbD i = false ∧ lost.getLsbD i = false := by
  rw [VltSt.Offers, v.loaded_slot bad lost hi, Bool.and_true, Option.map_eq_some_iff]
  have hSame : ∀ y : SlotSt, (y.loaded false false) = y := fun y => by
    rw [SlotSt.loaded, Bool.or_false]
    rfl
  constructor
  · rintro ⟨⟨y, hy, rfl⟩, hValid⟩
    obtain ⟨hy', hBad, hLost⟩ := SlotSt.loaded_valid.1 hValid
    rw [hBad, hLost, hSame]
    exact ⟨hy, hy', rfl, rfl⟩
  · rintro ⟨hSlot, hValid, hBad, hLost⟩
    exact ⟨⟨x, hSlot, by rw [hBad, hLost, hSame]⟩, hValid⟩

/-- The generation that `b` names is in force in `v`. -/
def VltSt.taking (v : VltSt) (b : Option (Nat × SlotSt)) : VltSt :=
  ({ v with gen := match b with | some x => x.2.gen | none => 0, slot := match b with | some x => x.1 | none => 0 }).dropVoid

theorem VltSt.dropVoid_gen (v : VltSt) : v.dropVoid.gen = v.gen := by
  delta VltSt.dropVoid
  split <;> rfl

theorem VltSt.dropVoid_journal (v : VltSt) {r : JRecord} (h : r ∈ v.dropVoid.journal) : r ∈ v.journal := by
  delta VltSt.dropVoid at h
  split at h
  · exact (List.mem_filter.1 h).1
  · exact h

theorem VltSt.taking_gen (v : VltSt) (b : Option (Nat × SlotSt)) : (v.taking b).gen = match b with | some x => x.2.gen | none => 0 :=
  VltSt.dropVoid_gen _

set_option Elab.async false in
theorem VltSt.taking_journal (v : VltSt) (b : Option (Nat × SlotSt)) {r : JRecord} (h : r ∈ (v.taking b).journal) : r ∈ v.journal := by
  have hKept := VltSt.dropVoid_journal _ h
  exact hKept

/-- A load takes the best generation offered, and beside that touches registers, interrupts and Strata. -/
theorem State.loadGeneration_only (s : State) (bad lost : BitVec 4) : ∃ r i x, s.loadGeneration bad lost =
    ((((s.withVlt ((s.vlt.loaded bad lost).taking ((s.vlt.loaded bad lost).best fun _ => true))).withCfg
      (match (s.vlt.loaded bad lost).best fun _ => true with | some x => x.2.cfg | none => [])).withRegs r).withInt i).withStr x := by
  generalize hu : (s.withVlt ((s.vlt.loaded bad lost).taking _)).withCfg _ = u
  obtain ⟨i, x, hRaise⟩ := (u.put F.VLT_STATUS_FALLBACK 1).raiseInt_only 201
  have hEither : ∀ c : Bool, ∃ r i x, (if c = true then (u.put F.VLT_STATUS_FALLBACK 1).raiseInt 201 else u) =
      ((u.withRegs r).withInt i).withStr x := by
    rintro (_ | _)
    · exact ⟨u.regs, u.int, u.str, rfl⟩
    · exact ⟨_, i, x, hRaise⟩
  rw [← hu]
  rw [← hu] at hEither
  exact hEither _

theorem State.waitInService_configDone (s : State) : s.waitInService.pwr.configDone = s.pwr.configDone := by
  delta State.waitInService
  split <;> rfl

theorem State.loadGeneration_pwr (s : State) (bad lost : BitVec 4) : (s.loadGeneration bad lost).pwr = s.pwr := by
  obtain ⟨r, i, x, h⟩ := s.loadGeneration_only bad lost
  rw [h]
  rfl

/-- R386: the generation in force after a load. -/
theorem loadGeneration_inForce (s : State) (bad lost : BitVec 4) :
    (∀ i x, i < 4 → s.vlt.slots.getD i none = some x → x.valid = true → bad.getLsbD i = false → lost.getLsbD i = false →
      x.gen ≤ (s.loadGeneration bad lost).vlt.gen) ∧
    ((∃ i x, i < 4 ∧ s.vlt.slots.getD i none = some x ∧ x.valid = true ∧ bad.getLsbD i = false ∧ lost.getLsbD i = false ∧
        (s.loadGeneration bad lost).vlt.gen = x.gen ∧ (s.loadGeneration bad lost).cfg = x.cfg) ∨
      ((∀ i x, i < 4 → s.vlt.slots.getD i none = some x → x.valid = true → bad.getLsbD i = true ∨ lost.getLsbD i = true) ∧
        (s.loadGeneration bad lost).vlt.gen = 0 ∧ (s.loadGeneration bad lost).cfg = [])) := by
  have hBest := (s.vlt.loaded bad lost).best_isBest (fun _ => true)
  obtain ⟨r, i, x, hLoad⟩ := s.loadGeneration_only bad lost
  have hMem : ∀ i, i ∈ [0, 1, 2, 3] ↔ i < 4 := fun i => by simp; omega
  generalize (s.vlt.loaded bad lost).best (fun _ => true) = b at hBest hLoad
  have hGen : (s.loadGeneration bad lost).vlt.gen = (b.map fun x => x.2.gen).getD 0 := by
    rw [hLoad]
    refine (VltSt.taking_gen _ b).trans ?_
    cases b <;> rfl
  have hCfg : (s.loadGeneration bad lost).cfg = (b.map fun x => x.2.cfg).getD [] := by
    rw [hLoad]
    cases b <;> rfl
  rw [hGen, hCfg]
  refine ⟨fun i x hi hSlot hValid hBad hLost => ?_, ?_⟩
  · obtain ⟨y, rfl, hle⟩ := hBest.highest i ((hMem i).2 hi) x ((VltSt.loaded_offers hi).2 ⟨hSlot, hValid, hBad, hLost⟩)
    exact hle
  · cases b with
    | some y =>
      obtain ⟨hi, hOffer⟩ := hBest.offered y rfl
      obtain ⟨hSlot, hValid, hBad, hLost⟩ := (VltSt.loaded_offers ((hMem _).1 hi)).1 hOffer
      exact .inl ⟨y.1, y.2, (hMem _).1 hi, hSlot, hValid, hBad, hLost, rfl, rfl⟩
    | none =>
      refine .inr ⟨fun i x hi hSlot hValid => ?_, rfl, rfl⟩
      refine Decidable.byContradiction fun hNot => ?_
      obtain ⟨hBad, hLost⟩ := not_or.1 hNot
      obtain ⟨y, hy, -⟩ := hBest.highest i ((hMem i).2 hi) x
        ((VltSt.loaded_offers hi).2 ⟨hSlot, hValid, Bool.eq_false_iff.2 hBad, Bool.eq_false_iff.2 hLost⟩)
      exact nomatch hy

theorem configLoads {s : State} (hInv : s.Inv) (bad : BitVec 4) (corrected : Nat) (lost : BitVec 4) (h2 : s.isOn 2 = true)
    (hDone : s.pwr.configDone = false) (hPhase : s.pwr.phase = .starting ∨ s.pwr.phase = .service) :
    ∃ u : State, exec (.configLoadComplete bad corrected lost) s = .next u.settle ∧ u.pwr.configDone = true ∧
      (∀ a, s.isOn (polderOf a) = true → u.effWord a = u.cfgWord a) ∧
      (∀ i x, i < 4 → s.vlt.slots.getD i none = some x → x.valid = true → bad.getLsbD i = false →
        lost.getLsbD i = false → x.gen ≤ u.vlt.gen) ∧
      ((∃ i x, i < 4 ∧ s.vlt.slots.getD i none = some x ∧ x.valid = true ∧ bad.getLsbD i = false ∧
          lost.getLsbD i = false ∧ u.vlt.gen = x.gen ∧ u.cfg = x.cfg) ∨
        ((∀ i x, i < 4 → s.vlt.slots.getD i none = some x → x.valid = true → bad.getLsbD i = true ∨
            lost.getLsbD i = true) ∧ u.vlt.gen = 0 ∧ u.cfg = [])) ∧
      (∀ r, r ∈ u.vlt.journal → r ∈ s.vlt.journal) ∧ u.pwr.on = s.pwr.on := by
  have hCond : (s.isOn 2 && !s.pwr.configDone && (s.pwr.phase == .starting || s.pwr.phase == .service)) = true := by
    rcases hPhase with h | h <;> simp [h2, hDone, h]
  refine ⟨_, if_pos hCond, ?_⟩
  dsimp only
  generalize ht : (s.loadGeneration bad lost).put F.VLT_COUNTS_ECC_CORR _ = t
  have hInvT : t.Inv := ht ▸ ((State.Keeps.refl s).loadGeneration.put).inv hInv
  have hPwr : t.pwr = s.pwr := by rw [← ht]; exact s.loadGeneration_pwr bad lost
  have hVlt : t.vlt = (s.loadGeneration bad lost).vlt := by rw [← ht]; rfl
  have hCfg : t.cfg = (s.loadGeneration bad lost).cfg := by rw [← ht]; rfl
  have hJournal : ∀ r ∈ (s.loadGeneration bad lost).vlt.journal, r ∈ s.vlt.journal := by
    obtain ⟨g, i, x, hLoad⟩ := s.loadGeneration_only bad lost
    rw [hLoad]
    exact fun r hr => (s.vlt.loaded bad lost).taking_journal _ hr
  have hForce := loadGeneration_inForce s bad lost
  rw [← hVlt, ← hCfg] at hForce
  rw [← hVlt] at hJournal
  clear ht hVlt hCfg
  have hEff := State.applyKeys_effWord hInvT.cfg hInvT.eff (fun a => t.isOn (polderOf a))
  have hKeys : (t.applyKeys fun a => t.isOn (polderOf a)).cfg = t.cfg ∧ (t.applyKeys fun a => t.isOn (polderOf a)).vlt = t.vlt ∧
      (t.applyKeys fun a => t.isOn (polderOf a)).pwr = t.pwr := ⟨rfl, rfl, rfl⟩
  generalize (t.applyKeys fun a => t.isOn (polderOf a)) = v at hEff hKeys ⊢
  have hInit : v.Inits (v.loadInit.withPwr { v.loadInit.pwr with configDone := true }).waitInService :=
    (State.Inits.refl v).loadInit.withPwr.waitInService
  have hSet : (v.loadInit.withPwr { v.loadInit.pwr with configDone := true }).waitInService.pwr.configDone = true :=
    State.waitInService_configDone _
  generalize (v.loadInit.withPwr { v.loadInit.pwr with configDone := true }).waitInService = u at hInit hSet ⊢
  obtain ⟨hCfg, hVlt, hOn⟩ := hKeys
  rw [hInit.vlt, hInit.cfg, hInit.on, hCfg, hVlt, hOn, hPwr]
  refine ⟨hSet, fun a ha => ?_, hForce.1, hForce.2, hJournal, rfl⟩
  rw [State.effWord, hInit.eff, State.cfgWord, hInit.cfg, hCfg]
  exact (hEff a).trans (if_pos (by rw [State.isOn, hPwr]; exact ha))

/-! ## The role's polders, the clock -/

/-- The polders that a demand for `ps` starts. -/
def demanded (role : Role) (plan : Bool) (on : BitVec 16) (starting ps : List Nat) : List Nat :=
  ((ps.filter (fun p => (rolePolders role).contains p && !(plan && serviceOff.contains p))).flatMap (fun p => p :: polderNeeds p)).filter
    (fun p => !on.getLsbD p && !starting.contains p)

theorem State.demand_eq (s : State) (ps : List Nat) : s.demand ps = (s.withPwr { s.pwr with
    queue := s.pwr.queue ++ groupsOf (demanded s.role s.servicePlan s.pwr.on s.pwr.starting ps) }).startNext := rfl

/-- The polders of a role beside those of its start. -/
def roleStart : List Nat := [14, 15, 9, 10, 11, 12, 13, 7, 8, 5, 6]

theorem roleStart_station : nextGroup 0x801F (groupsOf (demanded .station false 0x801F [] roleStart)) =
    ([14], [[9, 10, 11, 12], [13], [7], [8], [5, 6]]) := by decide

theorem roleStart_cell : nextGroup 0x801F (groupsOf (demanded .cell false 0x801F [] roleStart)) =
    ([14], [[9, 10, 11, 12], [13], [5]]) := by decide

theorem roleStart_port : nextGroup 0x801F (groupsOf (demanded .port false 0x801F [] roleStart)) =
    ([14], [[9, 10, 11, 12], [13], [5]]) := by decide

theorem State.demand_next {s : State} (hBlocked : s.pwr.blocked = false) (hStarting : s.pwr.starting = []) (hQueue : s.pwr.queue = [])
    (ps : List Nat) :
    (s.demand ps).pwr.starting = (nextGroup s.pwr.on (groupsOf (demanded s.role s.servicePlan s.pwr.on [] ps))).1 ∧
      (s.demand ps).pwr.queue = (nextGroup s.pwr.on (groupsOf (demanded s.role s.servicePlan s.pwr.on [] ps))).2 := by
  rw [State.demand_eq, State.startNext]
  simp [hBlocked, hStarting, hQueue]

theorem rolePoldersStart {s : State} (hPhase : s.pwr.phase = .starting) (hThermal : s.pwr.thermalDone = true)
    (hConfig : s.pwr.configDone = true) (hLock : s.is F.CLK_STATUS_LOCKED = true) (hCal : s.pwr.calStarted = false) :
    ∃ t : State, exec .startUpPoldersAndCalibration s = .next t ∧ t = { s with pwr := t.pwr } ∧
      t.pwr.calStarted = true ∧ t.pwr.on = s.pwr.on ∧ t.pwr.phase = .starting ∧
      (s.pwr.on = 0x801F → s.servicePlan = false → s.pwr.blocked = false → s.pwr.starting = [] → s.pwr.queue = [] →
        (s.role = .station → t.pwr.starting = [14] ∧ t.pwr.queue = [[9, 10, 11, 12], [13], [7], [8], [5, 6]]) ∧
        (s.role = .cell ∨ s.role = .port → t.pwr.starting = [14] ∧ t.pwr.queue = [[9, 10, 11, 12], [13], [5]])) := by
  have hCond : (s.pwr.phase == .starting && s.pwr.thermalDone && s.pwr.configDone && s.is F.CLK_STATUS_LOCKED
      && !s.pwr.calStarted) = true := by simp [hPhase, hThermal, hConfig, hLock, hCal]
  refine ⟨_, if_pos hCond, ?_⟩
  dsimp only
  generalize ht : s.withPwr { s.pwr with calStarted := true } = t
  obtain ⟨q, st, hDemand⟩ := t.demand_only roleStart
  rw [show t.demand [14, 15, 9, 10, 11, 12, 13, 7, 8, 5, 6] = t.demand roleStart from rfl]
  refine ⟨?_, ?_, ?_, ?_, fun hOn hPlan hBlocked hStarting hQueue => ?_⟩
  · rw [hDemand, ← ht]; rfl
  · rw [hDemand, ← ht]; rfl
  · rw [hDemand, ← ht]; rfl
  · rw [hDemand, ← ht]; exact hPhase
  · have hNext := State.demand_next (s := t) (by rw [← ht]; exact hBlocked) (by rw [← ht]; exact hStarting) (by rw [← ht]; exact hQueue) roleStart
    have hPlan' : t.servicePlan = false := by rw [← ht]; exact hPlan
    have hOn' : t.pwr.on = 0x801F := by rw [← ht]; exact hOn
    have hRole' : t.role = s.role := by rw [← ht]; rfl
    rw [hPlan', hOn', hRole'] at hNext
    refine ⟨fun hRole => ?_, fun hRole => ?_⟩
    · rw [hRole, roleStart_station] at hNext
      exact hNext
    · rcases hRole with hRole | hRole
      · rw [hRole, roleStart_cell] at hNext
        exact hNext
      · rw [hRole, roleStart_port] at hNext
        exact hNext

/-- A lock attempt: the clock's own state, and the bits of CLK_STATUS it shows. -/
theorem State.beginLock_only (s : State) (full : Bool) : ∃ c r,
    s.beginLock full = ((((s.withClk c).put F.CLK_STATUS_BUSY 1).put F.CLK_STATUS_HOLDOVER 0).put F.CLK_STATUS_LOCKED 0).put
      F.CLK_STATUS_SOURCE r ∧
    c = { s.clk with attempt := if !full && s.bandEligible then .stored else .full, retry := false, waitP0 := false, full := false,
                     stay := false, holdLong := false } := ⟨_, _, rfl, rfl⟩

theorem State.beginLock_busy (s : State) (full : Bool) : (s.beginLock full).get F.CLK_STATUS_BUSY = 1 := by
  obtain ⟨c, r, h, -⟩ := s.beginLock_only full
  rw [h, State.get_put_apart _ _ _ _ rfl rfl, State.get_put_apart _ _ _ _ rfl rfl, State.get_put_apart _ _ _ _ rfl rfl,
    State.get_put_same _ _ _ rfl]
  rfl

set_option Elab.async false in
theorem State.beginLock_refLost (s : State) (full : Bool) :
    (s.beginLock full).is F.CLK_STATUS_REF_LOST = s.is F.CLK_STATUS_REF_LOST := by
  obtain ⟨c, r, h, -⟩ := s.beginLock_only full
  rw [h, State.is_put_apart _ _ _ _ rfl rfl, State.is_put_apart _ _ _ _ rfl rfl, State.is_put_apart _ _ _ _ rfl rfl,
    State.is_put_apart _ _ _ _ rfl rfl, State.withClk_is]

/-- The stored band is eligible as before a write of a register that it does not read. -/
theorem State.put_bandEligible (s : State) {f : Fld} (v : Nat) (hBand : f.addr ≠ R.CLK_BAND) (hDie : f.addr ≠ R.THM_DIE) :
    (s.put f v).bandEligible = s.bandEligible := by
  have hApart : ∀ g : Fld, g.addr = R.CLK_BAND ∨ g.addr = R.THM_DIE → f.apart g = true := fun g hg =>
    Fld.apart_iff.2 (.inr (.inr fun h => hg.elim (fun hg => hBand (h.trans hg)) (fun hg => hDie (h.trans hg))))
  rw [State.bandEligible, State.dieTemp, State.is_put_apart _ _ _ _ rfl (hApart _ (.inl rfl)),
    State.getS_put_apart _ _ _ _ rfl (hApart _ (.inr rfl)), State.getS_put_apart _ _ _ _ rfl (hApart _ (.inl rfl))]
  rfl

theorem p0ClockLocks {s : State} (hWait : s.clk.waitP0 = true) (h2 : s.isOn 2 = true) :
    ∃ t : State, exec .p0ClockPresent s = .next t ∧
      t.get F.CLK_STATUS_BUSY = 1 ∧ t.is F.CLK_STATUS_REF_LOST = false ∧ t.clk.waitP0 = false ∧
      t.clk.attempt = (if !s.clk.full && s.bandEligible then .stored else .full) ∧
      t = { s with regs := t.regs, clk := t.clk } ∧
      s.sameBits t [F.CLK_STATUS_BUSY, F.CLK_STATUS_HOLDOVER, F.CLK_STATUS_LOCKED, F.CLK_STATUS_SOURCE, F.CLK_STATUS_REF_LOST] := by
  have hCond : (s.clk.waitP0 && s.isOn 2) = true := by simp [hWait, h2]
  have hBand := s.put_bandEligible (f := F.CLK_STATUS_REF_LOST) 0 (by decide) (by decide)
  refine ⟨_, if_pos hCond, State.beginLock_busy _ _, ?_, rfl, ?_, rfl, ?_⟩
  · rw [State.beginLock_refLost, State.is_put_same _ _ _ rfl]
    rfl
  · rw [← hBand]
    rfl
  · exact ((((((s.sameBits_refl _).put).of_regs rfl).put).put).put).put

/-! ## READY -/

/-- Directions of ports asked for: the registers of the Culvert, its ports and what the ports raise, and the requests that wait. Bit
203 of the interrupts stays; a direction that is awake stays awake, and one that wakes to transmit sends idles. -/
structure State.Idles (s t : State) : Prop where
  culvert : s.InCulvert (t.withPwr s.pwr)
  pwr : ∃ tx rx, t.pwr = { s.pwr with laneTx := tx, laneRx := rx }
  ready : t.pends 203 = s.pends 203
  ports : t.cul.ports.length = s.cul.ports.length
  receives : ∀ p, s.is (F.CUL_Pn_STATUS_RX_AWAKE p) = true → t.is (F.CUL_Pn_STATUS_RX_AWAKE p) = true
  sends : ∀ p, s.is (F.CUL_Pn_STATUS_TX_AWAKE p) = true → t.is (F.CUL_Pn_STATUS_TX_AWAKE p) = true ∧ (t.cport p).tx = (s.cport p).tx
  wakes : ∀ p, s.is (F.CUL_Pn_STATUS_TX_AWAKE p) = false → t.is (F.CUL_Pn_STATUS_TX_AWAKE p) = true → (t.cport p).tx = .idle

theorem State.InCulvert.withPwr {s t : State} (h : s.InCulvert t) (v : PowerSt) : (s.withPwr v).InCulvert (t.withPwr v) := by
  obtain ⟨⟨r, c, i, x, rfl⟩, hWords⟩ := h
  exact ⟨⟨r, c, i, x, rfl⟩, hWords⟩

namespace State.Idles
variable {s t u : State}

theorem refl (s : State) : s.Idles s where
  culvert := .refl s
  pwr := ⟨s.pwr.laneTx, s.pwr.laneRx, rfl⟩
  ready := rfl
  ports := rfl
  receives _ h := h
  sends _ h := ⟨h, rfl⟩
  wakes _ h h' := nomatch h.symm.trans h'

theorem trans (h : s.Idles t) (h' : t.Idles u) : s.Idles u where
  culvert := h.culvert.trans (h'.culvert.withPwr s.pwr)
  pwr := by
    obtain ⟨_, _, ht⟩ := h.pwr
    obtain ⟨tx, rx, hu⟩ := h'.pwr
    exact ⟨tx, rx, by rw [hu, ht]⟩
  ready := h'.ready.trans h.ready
  ports := h'.ports.trans h.ports
  receives p hp := h'.receives p (h.receives p hp)
  sends p hp := ⟨(h'.sends p (h.sends p hp).1).1, (h'.sends p (h.sends p hp).1).2.trans (h.sends p hp).2⟩
  wakes p hp hu := by
    cases ht : t.is (F.CUL_Pn_STATUS_TX_AWAKE p)
    · exact h'.wakes p ht hu
    · exact (h'.sends p ht).2.trans (h.wakes p hp ht)

end State.Idles

/-- A port given what it sent before sends what it sent. -/
theorem State.setCport_tx (s : State) {p : Nat} {c : CulPort} (h : c.tx = (s.cport p).tx) (q : Nat) :
    ((s.setCport p c).cport q).tx = (s.cport q).tx := by
  show ((s.cul.ports.set p c).getD q {}).tx = (s.cul.ports.getD q {}).tx
  rw [List.getD_eq_getElem?_getD, List.getElem?_set, List.getD_eq_getElem?_getD]
  split
  next hpq =>
    subst hpq
    split
    next => exact h.trans (by rw [State.cport, List.getD_eq_getElem?_getD])
    next hlen => rw [List.getElem?_eq_none (Nat.not_lt.1 hlen)]
  next => rfl

theorem State.setCport_cport (s : State) {p : Nat} (hp : p < s.cul.ports.length) (c : CulPort) : (s.setCport p c).cport p = c := by
  show (s.cul.ports.set p c).getD p {} = c
  rw [List.getD_eq_getElem?_getD, List.getElem?_set, if_pos rfl, if_pos hp]
  rfl

theorem State.setCport_other (s : State) {p q : Nat} (h : q ≠ p) (c : CulPort) : (s.setCport p c).cport q = s.cport q := by
  show (s.cul.ports.set p c).getD q {} = s.cul.ports.getD q {}
  rw [List.getD_eq_getElem?_getD, List.getElem?_set, if_neg (Ne.symm h), List.getD_eq_getElem?_getD]

theorem State.updateWraps_cul (s : State) : s.updateWraps.cul = s.cul := by
  delta State.updateWraps
  split <;> rfl

/-- Of what the ports send and how many there are, a change of usability changes nothing. -/
theorem State.updateUsable_tx (s : State) (p : Nat) :
    (∀ q, ((s.updateUsable p).cport q).tx = (s.cport q).tx) ∧ (s.updateUsable p).cul.ports.length = s.cul.ports.length := by
  have hSame : ∀ t : State, t.cul = s.cul → (∀ q, (t.cport q).tx = (s.cport q).tx) ∧ t.cul.ports.length = s.cul.ports.length :=
    fun t h => ⟨fun q => by rw [State.cport, h]; rfl, by rw [h]⟩
  delta State.updateUsable
  dsimp only
  generalize s.usable p = u
  generalize hv : (if u = true then s.flag (F.CUL_Pn_STATUS_USABLE p) u else _) = v
  have hPorts : (∀ q, (v.cport q).tx = (s.cport q).tx) ∧ v.cul.ports.length = s.cul.ports.length := by
    rw [← hv]
    split
    · exact hSame _ rfl
    · have hReset := hSame ((s.flag (F.CUL_Pn_STATUS_USABLE p) u).put (F.CUL_Pn_STATUS_READY p) 0) rfl
      generalize (s.flag (F.CUL_Pn_STATUS_USABLE p) u).put (F.CUL_Pn_STATUS_READY p) 0 = t at hReset ⊢
      have hFlag := (hSame (s.flag (F.CUL_Pn_STATUS_USABLE p) u) rfl).1 p
      generalize s.flag (F.CUL_Pn_STATUS_USABLE p) u = w at hFlag ⊢
      exact ⟨fun q => (State.setCport_tx t (c := { w.cport p with bothReady := 0 }) (hFlag.trans (hReset.1 p).symm) q).trans (hReset.1 q), List.length_set.trans hReset.2⟩
  split
  · exact ⟨fun q => by rw [State.cport, v.updateWraps_cul]; exact hPorts.1 q, by rw [v.updateWraps_cul]; exact hPorts.2⟩
  · exact hPorts

theorem State.rxState_txAwake (s : State) (p v q : Nat) : (s.rxState p v).is (F.CUL_Pn_STATUS_TX_AWAKE q) = s.is (F.CUL_Pn_STATUS_TX_AWAKE q) := by
  delta State.rxState
  extract_lets t
  have ht : t.is (F.CUL_Pn_STATUS_TX_AWAKE q) = s.is (F.CUL_Pn_STATUS_TX_AWAKE q) := by
    refine iteInduction (motive := fun t : State => t.is (F.CUL_Pn_STATUS_TX_AWAKE q) = _) (fun _ => rfl) (fun _ => ?_)
    exact s.raiseInt_is p _
  rw [State.is, State.updateUsable_get _ p rfl, ← State.is, State.is_put_apart, ht]
  · rfl
  all_goals exact Fld.apart_of_lo (by decide)

theorem State.rxState_tx (s : State) (p v : Nat) :
    (∀ q, ((s.rxState p v).cport q).tx = (s.cport q).tx) ∧ (s.rxState p v).cul.ports.length = s.cul.ports.length := by
  delta State.rxState
  extract_lets t
  have ht : t.cul = s.cul := by
    refine iteInduction (motive := fun t : State => t.cul = s.cul) (fun _ => rfl) (fun _ => ?_)
    obtain ⟨i, x, h⟩ := s.raiseInt_only p
    rw [h]
    rfl
  obtain ⟨hTx, hLength⟩ := (t.put (F.CUL_Pn_STATUS_RX_STATE p) v).updateUsable_tx p
  refine ⟨fun q => (hTx q).trans ?_, hLength.trans (congrArg (fun c : CulvertSt => c.ports.length) ht)⟩
  rw [State.cport, State.cport, ← ht]
  rfl

/-- A direction put awake keeps awake what was. -/
theorem State.put_one_is (s : State) {f g : Fld} (hfg : f = g ∨ f.apart g = true) (hf : f.fits = true) (hg : g.fits = true) (hw : 1 % 2 ^ f.w = 1)
    (h : s.is g = true) : (s.put f 1).is g = true := by
  rcases hfg with rfl | hApart
  · rw [State.is_put_same _ _ _ hf, hw]
    rfl
  · rw [State.is_put_apart _ _ _ _ hg hApart, h]

set_option Elab.async false in
theorem portStatus_ne {p q : Nat} (h : p ≠ q) : R.CUL_Pn_STATUS p ≠ R.CUL_Pn_STATUS q := by
  show 0x040000 + 0x100 * p ≠ 0x040000 + 0x100 * q
  omega

theorem txAwake_inj {p q : Nat} (h : F.CUL_Pn_STATUS_TX_AWAKE p = F.CUL_Pn_STATUS_TX_AWAKE q) : p = q := by
  refine Decidable.byContradiction fun hne => ?_
  exact portStatus_ne hne (congrArg Fld.addr h)

theorem txAwake_apart (p q : Nat) : F.CUL_Pn_STATUS_TX_AWAKE p = F.CUL_Pn_STATUS_TX_AWAKE q ∨
    (F.CUL_Pn_STATUS_TX_AWAKE p).apart (F.CUL_Pn_STATUS_TX_AWAKE q) = true := by
  by_cases h : p = q
  · exact .inl (h ▸ rfl)
  · exact .inr (Fld.apart_iff.2 (.inr (.inr (portStatus_ne h))))

theorem rxAwake_apart (p q : Nat) : F.CUL_Pn_STATUS_RX_AWAKE p = F.CUL_Pn_STATUS_RX_AWAKE q ∨
    (F.CUL_Pn_STATUS_RX_AWAKE p).apart (F.CUL_Pn_STATUS_RX_AWAKE q) = true := by
  by_cases h : p = q
  · exact .inl (h ▸ rfl)
  · exact .inr (Fld.apart_iff.2 (.inr (.inr (portStatus_ne h))))

theorem State.InCulvert.idles {s t : State} (h : s.InCulvert t) (hReady : t.pends 203 = s.pends 203)
    (hPorts : t.cul.ports.length = s.cul.ports.length)
    (hRx : ∀ p, s.is (F.CUL_Pn_STATUS_RX_AWAKE p) = true → t.is (F.CUL_Pn_STATUS_RX_AWAKE p) = true)
    (hTx : ∀ p, s.is (F.CUL_Pn_STATUS_TX_AWAKE p) = true → t.is (F.CUL_Pn_STATUS_TX_AWAKE p) = true ∧ (t.cport p).tx = (s.cport p).tx)
    (hWakes : ∀ p, s.is (F.CUL_Pn_STATUS_TX_AWAKE p) = false → t.is (F.CUL_Pn_STATUS_TX_AWAKE p) = true → (t.cport p).tx = .idle) : s.Idles t where
  culvert := h.withPwr s.pwr
  pwr := ⟨s.pwr.laneTx, s.pwr.laneRx, h.pwr⟩
  ready := hReady
  ports := hPorts
  receives := hRx
  sends := hTx
  wakes := hWakes

theorem State.wakeRx_idles (s : State) {p : Nat} (hp : p < 203) : s.Idles (s.wakeRx p) := by
  have hAll := s.wakeRx_inCulvert (p := p) (by omega)
  have hReady : (s.wakeRx p).pends 203 = s.pends 203 := s.wakeRx_pends (by decide) (by decide) (by omega)
  revert hAll hReady
  delta State.wakeRx
  split
  · exact fun _ _ => .refl s
  next =>
    generalize ht : s.put (F.CUL_Pn_STATUS_RX_AWAKE p) 1 = t
    intro hAll hReady
    obtain ⟨hTx, hLength⟩ := t.rxState_tx p 1
    have hKept : ∀ q, t.is (F.CUL_Pn_STATUS_TX_AWAKE q) = s.is (F.CUL_Pn_STATUS_TX_AWAKE q) := fun q => by
      rw [← ht, State.is_put_apart _ _ _ _ rfl (Fld.apart_of_lo (by decide))]
    have hCul : t.cul = s.cul := by rw [← ht]; rfl
    have hPort : ∀ q, ((t.rxState p 1).cport q).tx = (s.cport q).tx := fun q => (hTx q).trans (by rw [State.cport, State.cport, hCul])
    refine hAll.idles hReady (by rw [hLength, hCul]) (fun q h => ?_) (fun q h => ⟨?_, hPort q⟩) (fun q h h' => ?_)
    · rw [State.rxState_rxAwake, ← ht]
      exact s.put_one_is (rxAwake_apart p q) rfl rfl rfl h
    · rw [State.rxState_txAwake, hKept, h]
    · rw [State.rxState_txAwake, hKept, h] at h'
      exact nomatch h'

theorem State.wakeTx_idles (s : State) {p : Nat} (hLen : p < s.cul.ports.length) (hp : p < 203) : s.Idles (s.wakeTx p) := by
  delta State.wakeTx
  split
  · exact .refl s
  next hAsleep =>
    have hFrame : s.InCulvert (((s.put (F.CUL_Pn_STATUS_TX_AWAKE p) 1).send p .idle).raiseInt p) :=
      (((State.InCulvert.refl s).put (portStatus_block (by omega))).setCport).raiseInt
    have hReady := ((s.put (F.CUL_Pn_STATUS_TX_AWAKE p) 1).send p .idle).raiseInt_pends p (n := 203) (by decide) (by decide)
    obtain ⟨i, x, hRaise⟩ := ((s.put (F.CUL_Pn_STATUS_TX_AWAKE p) 1).send p .idle).raiseInt_only p
    refine hFrame.idles ?_ ?_ (fun q h => ?_) (fun q h => ⟨?_, ?_⟩) (fun q h h' => ?_)
    · rw [hReady, decide_eq_false (by omega), Bool.and_false, Bool.or_false]
      rfl
    · rw [hRaise]
      exact List.length_set
    · rw [State.raiseInt_is]
      exact (State.is_put_apart s _ _ 1 rfl (Fld.apart_of_lo (by decide))).trans h
    · rw [State.raiseInt_is]
      exact s.put_one_is (txAwake_apart p q) rfl rfl rfl h
    · have hne : q ≠ p := fun hq => hAsleep (hq ▸ h)
      rw [hRaise]
      exact congrArg CulPort.tx (State.setCport_other (s := s.put (F.CUL_Pn_STATUS_TX_AWAKE p) 1) hne _)
    · rw [State.raiseInt_is] at h'
      by_cases hq : q = p
      · rw [hq, hRaise]
        exact congrArg CulPort.tx (State.setCport_cport (s := s.put (F.CUL_Pn_STATUS_TX_AWAKE p) 1) hLen _)
      · have hKept := State.is_put_apart s (F.CUL_Pn_STATUS_TX_AWAKE p) (F.CUL_Pn_STATUS_TX_AWAKE q) 1 rfl
          ((txAwake_apart p q).resolve_left (fun hEq => hq (txAwake_inj hEq).symm))
        exact nomatch h.symm.trans (hKept.symm.trans h')

theorem State.Idles.lanes {s t : State} (h : s.Idles t) (tx rx : BitVec 10) :
    s.Idles (t.withPwr { s.pwr with laneTx := tx, laneRx := rx }) where
  culvert := h.culvert
  pwr := ⟨tx, rx, rfl⟩
  ready := h.ready
  ports := h.ports
  receives := h.receives
  sends := h.sends
  wakes := h.wakes

theorem State.askTx_idles (s : State) {p : Nat} (hLen : p < s.cul.ports.length) (hp : p < 203) : s.Idles (s.askTx p) := by
  delta State.askTx
  split
  · exact (s.wakeTx_idles hLen hp).lanes _ s.pwr.laneRx
  · exact (State.Idles.refl s).lanes _ s.pwr.laneRx

theorem State.askRx_idles (s : State) {p : Nat} (hp : p < 203) : s.Idles (s.askRx p) := by
  delta State.askRx
  split
  · exact (s.wakeRx_idles hp).lanes s.pwr.laneTx _
  · exact (State.Idles.refl s).lanes s.pwr.laneTx _

theorem State.txIdle_idles {s : State} {l : List Nat} (hLen : ∀ p ∈ l, p < s.cul.ports.length) (hl : ∀ p ∈ l, p < 203) :
    s.Idles (l.foldl (fun s p => (s.askTx p).askRx p) s) := by
  induction l generalizing s with
  | nil => exact .refl s
  | cons p l ih =>
    have hAsked : s.Idles ((s.askTx p).askRx p) :=
      (s.askTx_idles (hLen p (.head _)) (hl p (.head _))).trans (State.askRx_idles _ (hl p (.head _)))
    refine hAsked.trans (ih (fun q hq => ?_) fun q hq => hl q (.tail _ hq))
    rw [hAsked.ports]
    exact hLen q (.tail _ hq)

theorem State.Idles.isOn {s t : State} (h : s.Idles t) (p : Nat) : t.isOn p = s.isOn p := by
  obtain ⟨tx, rx, hPwr⟩ := h.pwr
  rw [State.isOn, hPwr]
  rfl

/-- Whether a device may transmit does not depend on the requests of its ports. -/
theorem State.Idles.noTransmit {s t : State} (h : s.Idles t) : t.noTransmit = s.noTransmit := by
  obtain ⟨tx, rx, hPwr⟩ := h.pwr
  have hWord : t.word R.CLK_STATUS = s.word R.CLK_STATUS := h.culvert.words _ (by decide)
  have hIs : ∀ f : Fld, f.addr = R.CLK_STATUS → t.is f = s.is f := fun f hf => by
    rw [State.is, State.get, hf, hWord, ← hf]
    rfl
  rw [State.noTransmit, State.pllRuns, hPwr, hIs _ rfl, hIs _ rfl]
  rfl

theorem State.Idles.unusedPort {s t : State} (h : s.Idles t) (p : Nat) : t.unusedPort p = s.unusedPort p := by
  obtain ⟨tx, rx, hPwr⟩ := h.pwr
  rw [State.unusedPort, State.isStation, State.role, hPwr]
  rfl

/-- A port asked for, in a polder that is on, is awake both ways where it may be. -/
theorem State.txIdle_awake {s : State} {l : List Nat} (hLen : ∀ p ∈ l, p < s.cul.ports.length) (hl : ∀ p ∈ l, p < 203) {p : Nat} (hp : p ∈ l)
    (hOn : s.isOn (portPolder p) = true) (hMay : s.noTransmit = false) (hUsed : s.unusedPort p = false) :
    (l.foldl (fun s p => (s.askTx p).askRx p) s).is (F.CUL_Pn_STATUS_TX_AWAKE p) = true ∧
      (l.foldl (fun s p => (s.askTx p).askRx p) s).is (F.CUL_Pn_STATUS_RX_AWAKE p) = true := by
  induction l generalizing s with
  | nil => exact nomatch hp
  | cons q l ih =>
    have hTxAsked : s.Idles (s.askTx q) := s.askTx_idles (hLen q (.head _)) (hl q (.head _))
    have hRxAsked : (s.askTx q).Idles ((s.askTx q).askRx q) := State.askRx_idles _ (hl q (.head _))
    have hAsked : s.Idles ((s.askTx q).askRx q) := hTxAsked.trans hRxAsked
    have hLen' : ∀ p ∈ l, p < ((s.askTx q).askRx q).cul.ports.length := fun p hp => by rw [hAsked.ports]; exact hLen p (.tail _ hp)
    rcases List.mem_cons.1 hp with rfl | hp
    · have hRest := State.txIdle_idles hLen' fun q hq => hl q (.tail _ hq)
      have hTx : (s.askTx p).is (F.CUL_Pn_STATUS_TX_AWAKE p) = true := by
        rw [State.askTx, if_pos (by simp [hOn, hMay]), State.withPwr_is, State.wakeTx]
        split
        · assumption
        · rw [State.raiseInt_is]
          exact State.is_put_same _ _ 1 rfl
      have hRx : ((s.askTx p).askRx p).is (F.CUL_Pn_STATUS_RX_AWAKE p) = true := by
        rw [State.askRx, if_pos (by rw [hTxAsked.isOn]; exact hOn), State.withPwr_is]
        exact State.wakeRx_awake (by rw [hTxAsked.unusedPort]; exact hUsed)
      exact ⟨(hRest.sends p (hRxAsked.sends p hTx).1).1, hRest.receives p hRx⟩
    · exact ih hLen' (fun q hq => hl q (.tail _ hq)) hp (by rw [hAsked.isOn]; exact hOn) (by rw [hAsked.noTransmit]; exact hMay)
        (by rw [hAsked.unusedPort]; exact hUsed)

set_option Elab.async false in
theorem usedPorts_lt {s : State} {p : Nat} (hp : p ∈ s.usedPorts) : p < 10 ∧ s.unusedPort p = false := by
  revert hp
  rw [State.usedPorts, State.unusedPort, State.isStation]
  generalize s.role = r
  cases r
  case station =>
    cases s.twn.operating <;> simp <;> omega
  all_goals simp
  all_goals omega

/-- READY, without the idles and the polders it asks for. -/
def State.entersReady (s : State) : State :=
  (((s.withPwr { s.pwr with phase := .ready }).withFlt { s.flt with readyOnce := true }).withClk { s.clk with restart := false }).withVlt
    { s.vlt with startWrite := none }

theorem exec_readyEntered {s : State} (hUp : ((rolePolders s.role).all (fun p => p == 5 || p == 6 || s.isOn p)) = true)
    (hStarting : s.pwr.starting = []) (hQueue : s.pwr.queue = []) (hLock : s.is F.CLK_STATUS_LOCKED = true) (hCal : s.pwr.calDone = true)
    (hPhase : s.pwr.phase = .starting) (hRelock : s.clk.relock = none) :
    exec .readyEntered s = .next (((s.entersReady.txIdle.demand [5, 6]).enAtReady).raiseInt 203).settle := by
  have hCond : ((rolePolders s.role).all (fun p => p == 5 || p == 6 || s.isOn p) && s.pwr.starting.isEmpty && s.pwr.queue.isEmpty &&
      s.is F.CLK_STATUS_LOCKED && s.pwr.calDone &&
      (s.pwr.phase == .starting || ((s.pwr.phase == .service || s.pwr.phase == .ready) && s.clk.restart))) = true := by
    simp [hUp, hStarting, hQueue, hLock, hCal, hPhase]
  refine (if_pos hCond).trans ?_
  simp only [State.entersReady, hPhase, State.withFlt_clk, State.withPwr_clk, hRelock]
  rfl

/-- Words of MOD_ apart, the enable at READY changes nothing. -/
theorem State.enAtReady_only (s : State) : ∃ r, s.enAtReady = s.withRegs r ∧ ∀ a, a / 65536 ≠ 7 → s.enAtReady.word a = s.word a := by
  delta State.enAtReady State.modEnable
  split
  · split
    · exact ⟨s.regs, rfl, fun _ _ => rfl⟩
    · refine ⟨_, rfl, fun a ha => ?_⟩
      rw [State.word_put_ne _ _ _ _, State.word_put_ne _ _ _ _]
      · rintro rfl
        exact ha (by decide)
      · rintro rfl
        exact ha (by decide)
  · exact ⟨s.regs, rfl, fun _ _ => rfl⟩

theorem readyEnters {s : State} (hInv : s.Inv) (hUp : ((rolePolders s.role).all (fun p => p == 5 || p == 6 || s.isOn p)) = true)
    (hStarting : s.pwr.starting = []) (hQueue : s.pwr.queue = []) (hLock : s.is F.CLK_STATUS_LOCKED = true) (hCal : s.pwr.calDone = true)
    (hPhase : s.pwr.phase = .starting) (hRelock : s.clk.relock = none) :
    ∃ u : State, exec .readyEntered s = .next u.settle ∧ u.pwr.phase = .ready ∧ u.pends 203 = (s.isOn 1 || s.pends 203) ∧
      u.flt.readyOnce = true ∧ (∀ p ∈ s.usedPorts, s.isOn (portPolder p) = true →
        u.is (F.CUL_Pn_STATUS_TX_AWAKE p) = true ∧ u.is (F.CUL_Pn_STATUS_RX_AWAKE p) = true ∧
        (s.is (F.CUL_Pn_STATUS_TX_AWAKE p) = false → (u.cport p).tx = .idle)) ∧
      u.gal = s.gal ∧ u.vlt = { s.vlt with startWrite := none } ∧ u.cfg = s.cfg := by
  refine ⟨_, exec_readyEntered hUp hStarting hQueue hLock hCal hPhase hRelock, ?_⟩
  have hUsed : s.entersReady.usedPorts = s.usedPorts := rfl
  have hLen : ∀ p ∈ s.entersReady.usedPorts, p < s.entersReady.cul.ports.length := fun p hp => by
    rw [show s.entersReady.cul = s.cul from rfl, hInv.ports]
    exact (usedPorts_lt hp).1
  have hLow : ∀ p ∈ s.entersReady.usedPorts, p < 203 := fun p hp => Nat.lt_trans (usedPorts_lt hp).1 (by decide)
  have hIdles : s.entersReady.Idles s.entersReady.txIdle := State.txIdle_idles hLen hLow
  have hMay : s.entersReady.noTransmit = false := by
    have hLock' : s.entersReady.is F.CLK_STATUS_LOCKED = true := hLock
    rw [State.noTransmit, State.pllRuns, hLock']
    rfl
  have hAwake : ∀ p ∈ s.usedPorts, s.isOn (portPolder p) = true → s.entersReady.txIdle.is (F.CUL_Pn_STATUS_TX_AWAKE p) = true ∧
      s.entersReady.txIdle.is (F.CUL_Pn_STATUS_RX_AWAKE p) = true :=
    fun p hp hOn => State.txIdle_awake hLen hLow hp hOn hMay (usedPorts_lt hp).2
  generalize hw : s.entersReady = w at hIdles hAwake ⊢
  obtain ⟨⟨⟨g, c, i, x, hFrame⟩, hWords⟩, ⟨tx, rx, hPwr⟩, hReady, hPorts, hRx, hTx, hWakes⟩ := hIdles
  generalize w.txIdle = t at *
  obtain ⟨q, st, hDemand⟩ := t.demand_only [5, 6]
  obtain ⟨r, hEn, hEnWords⟩ := (t.demand [5, 6]).enAtReady_only
  have hRaised := (t.demand [5, 6]).enAtReady.raiseInt_pends_self (n := 203) (by decide) (by decide)
  obtain ⟨i', x', hRaise⟩ := (t.demand [5, 6]).enAtReady.raiseInt_only 203
  have hEnWord : ∀ a, a / 65536 ≠ 7 → (t.demand [5, 6]).enAtReady.word a = t.word a := fun a ha => by
    rw [hEnWords a ha, hDemand]
    rfl
  have hIs : ∀ f : Fld, f.addr / 65536 ≠ 7 → ((t.demand [5, 6]).enAtReady.raiseInt 203).is f = t.is f := fun f hf => by
    rw [State.raiseInt_is, State.is, State.get, hEnWord _ hf]
    rfl
  have hParts : ((t.demand [5, 6]).enAtReady.raiseInt 203).flt = w.flt ∧ ((t.demand [5, 6]).enAtReady.raiseInt 203).gal = w.gal ∧
      ((t.demand [5, 6]).enAtReady.raiseInt 203).vlt = w.vlt ∧ ((t.demand [5, 6]).enAtReady.raiseInt 203).cfg = w.cfg ∧
      ((t.demand [5, 6]).enAtReady.raiseInt 203).cul = t.cul ∧ ((t.demand [5, 6]).enAtReady.raiseInt 203).pwr.phase = w.pwr.phase ∧
      (t.demand [5, 6]).enAtReady.isOn 1 = w.isOn 1 ∧ (t.demand [5, 6]).enAtReady.pends 203 = t.pends 203 := by
    have hFlt : t.flt = w.flt := (congrArg State.flt hFrame :)
    have hGal : t.gal = w.gal := (congrArg State.gal hFrame :)
    have hVlt : t.vlt = w.vlt := (congrArg State.vlt hFrame :)
    have hCfg : t.cfg = w.cfg := (congrArg State.cfg hFrame :)
    rw [hRaise, hEn, hDemand]
    exact ⟨hFlt, hGal, hVlt, hCfg, rfl,
      (congrArg PowerSt.phase hPwr :), (congrArg (fun v : PowerSt => v.on.getLsbD 1) hPwr :), rfl⟩
  obtain ⟨hFlt, hGal, hVlt, hCfg, hCul, hPhase', hOn, hPends⟩ := hParts
  refine ⟨?_, ?_, ?_, fun p hp hPort => ⟨?_, ?_, fun hAsleep => ?_⟩, ?_, ?_, ?_⟩
  · rw [hPhase', ← hw]; rfl
  · rw [hRaised, hOn, hPends, hReady, ← hw]; rfl
  · rw [hFlt, ← hw]; rfl
  · have hBlock := portStatus_block (p := p) (by have := (usedPorts_lt hp).1; omega)
    rw [hIs _ (by rw [show (F.CUL_Pn_STATUS_TX_AWAKE p).addr / 65536 = 4 from hBlock]; decide)]
    exact (hAwake p hp hPort).1
  · have hBlock := portStatus_block (p := p) (by have := (usedPorts_lt hp).1; omega)
    rw [hIs _ (by rw [show (F.CUL_Pn_STATUS_RX_AWAKE p).addr / 65536 = 4 from hBlock]; decide)]
    exact (hAwake p hp hPort).2
  · rw [State.cport, hCul]
    exact hWakes p (by rw [← hw]; exact hAsleep) (hAwake p hp hPort).1
  · rw [hGal, ← hw]; rfl
  · rw [hVlt, ← hw]; rfl
  · rw [hCfg, ← hw]; rfl

/-- Settles O11. -/
theorem startUpRuns : Obligations.StartUpRuns := by
  refine ⟨fun s => ⟨startUpBegins, startUpWaits⟩, fun s hInv => ⟨configLoads hInv, rolePoldersStart, p0ClockLocks, readyEnters hInv⟩⟩

end Sys2Proof.Machine
end

section
/-! PROOF. What an operation may touch: parts of the state, blocks of registers, interrupts. -/
namespace Sys2Proof.Machine

/-- A part of the state. -/
inductive Part where
  | regs | cfg | eff | pwr | clk | hdRead | bus | spiPort | spi | rve | flt | int | str | cul | adc | dpc | mod | gdr | pins | lpe | wrd | vlt | thm | tim | net | stm | gal | twn | spr | wear | dripLost | free | pending
  deriving DecidableEq

/-- The part is as before. -/
def State.same (s t : State) : Part → Prop
  | .regs => t.regs = s.regs
  | .cfg => t.cfg = s.cfg
  | .eff => t.eff = s.eff
  | .pwr => t.pwr = s.pwr
  | .clk => t.clk = s.clk
  | .hdRead => t.hdRead = s.hdRead
  | .bus => t.bus = s.bus
  | .spiPort => t.spiPort = s.spiPort
  | .spi => t.spi = s.spi
  | .rve => t.rve = s.rve
  | .flt => t.flt = s.flt
  | .int => t.int = s.int
  | .str => t.str = s.str
  | .cul => t.cul = s.cul
  | .adc => t.adc = s.adc
  | .dpc => t.dpc = s.dpc
  | .mod => t.mod = s.mod
  | .gdr => t.gdr = s.gdr
  | .pins => t.pins = s.pins
  | .lpe => t.lpe = s.lpe
  | .wrd => t.wrd = s.wrd
  | .vlt => t.vlt = s.vlt
  | .thm => t.thm = s.thm
  | .tim => t.tim = s.tim
  | .net => t.net = s.net
  | .stm => t.stm = s.stm
  | .gal => t.gal = s.gal
  | .twn => t.twn = s.twn
  | .spr => t.spr = s.spr
  | .wear => t.wear = s.wear
  | .dripLost => t.dripLost = s.dripLost
  | .free => t.free = s.free
  | .pending => t.pending = s.pending

/-- The parts of the state, the blocks of 64 KiB of registers and the interrupts that may change. -/
structure Scope where
  parts : List Part
  blocks : List Nat := []
  ints : List Nat := []

/-- Nothing in the one that is not in the other. -/
def Scope.le (f g : Scope) : Bool :=
  f.parts.all g.parts.contains && f.blocks.all g.blocks.contains && f.ints.all g.ints.contains

/-- Nothing outside the scope differs. -/
structure State.Within (s t : State) (f : Scope) : Prop where
  parts : ∀ p, f.parts.contains p = false → s.same t p
  words : ∀ a, f.blocks.contains (a / 65536) = false → t.word a = s.word a
  pends : ∀ n, n < 256 → n ≠ 167 → f.ints.contains n = false → t.pends n = s.pends n

/-- The state with the parts of the scope taken from another. -/
noncomputable def State.overlay (s t : State) (f : Scope) : State where
  regs := cond (f.parts.contains .regs) t.regs s.regs
  cfg := cond (f.parts.contains .cfg) t.cfg s.cfg
  eff := cond (f.parts.contains .eff) t.eff s.eff
  pwr := cond (f.parts.contains .pwr) t.pwr s.pwr
  clk := cond (f.parts.contains .clk) t.clk s.clk
  hdRead := cond (f.parts.contains .hdRead) t.hdRead s.hdRead
  bus := cond (f.parts.contains .bus) t.bus s.bus
  spiPort := cond (f.parts.contains .spiPort) t.spiPort s.spiPort
  spi := cond (f.parts.contains .spi) t.spi s.spi
  rve := cond (f.parts.contains .rve) t.rve s.rve
  flt := cond (f.parts.contains .flt) t.flt s.flt
  int := cond (f.parts.contains .int) t.int s.int
  str := cond (f.parts.contains .str) t.str s.str
  cul := cond (f.parts.contains .cul) t.cul s.cul
  adc := cond (f.parts.contains .adc) t.adc s.adc
  dpc := cond (f.parts.contains .dpc) t.dpc s.dpc
  mod := cond (f.parts.contains .mod) t.mod s.mod
  gdr := cond (f.parts.contains .gdr) t.gdr s.gdr
  pins := cond (f.parts.contains .pins) t.pins s.pins
  lpe := cond (f.parts.contains .lpe) t.lpe s.lpe
  wrd := cond (f.parts.contains .wrd) t.wrd s.wrd
  vlt := cond (f.parts.contains .vlt) t.vlt s.vlt
  thm := cond (f.parts.contains .thm) t.thm s.thm
  tim := cond (f.parts.contains .tim) t.tim s.tim
  net := cond (f.parts.contains .net) t.net s.net
  stm := cond (f.parts.contains .stm) t.stm s.stm
  gal := cond (f.parts.contains .gal) t.gal s.gal
  twn := cond (f.parts.contains .twn) t.twn s.twn
  spr := cond (f.parts.contains .spr) t.spr s.spr
  wear := cond (f.parts.contains .wear) t.wear s.wear
  dripLost := cond (f.parts.contains .dripLost) t.dripLost s.dripLost
  free := cond (f.parts.contains .free) t.free s.free
  pending := cond (f.parts.contains .pending) t.pending s.pending

theorem eq_cond {α : Type} {b : Bool} {x y : α} (h : b = false → x = y) : x = cond b x y := by
  cases b
  · exact h rfl
  · rfl

theorem State.eq_of_same {s t : State} (h : ∀ p, s.same t p) : t = s := by
  obtain ⟨⟩ := s
  obtain ⟨⟩ := t
  rw [State.mk.injEq]
  exact ⟨h .regs, h .cfg, h .eff, h .pwr, h .clk, h .hdRead, h .bus, h .spiPort, h .spi, h .rve, h .flt, h .int, h .str, h .cul, h .adc, h .dpc, h .mod, h .gdr, h .pins, h .lpe, h .wrd, h .vlt, h .thm, h .tim, h .net, h .stm, h .gal, h .twn, h .spr, h .wear, h .dripLost, h .free, h .pending⟩

theorem State.same_of_overlay {s t : State} {f : Scope} (h : t = s.overlay t f) {p : Part} (hp : f.parts.contains p = false) : s.same t p := by
  have hCond : ∀ {α : Type} {x y : α}, x = cond (f.parts.contains p) x y → x = y := fun h => by rwa [hp] at h
  cases p <;> exact hCond (congrArg _ h :)

namespace State.Within
variable {s t u : State} {f g : Scope}

theorem refl (s : State) (f : Scope) : s.Within s f :=
  ⟨fun p _ => by cases p <;> rfl, fun _ _ => rfl, fun _ _ _ _ => rfl⟩

theorem trans (h : s.Within t f) (h' : t.Within u f) : s.Within u f where
  parts p hp := by
    have hs := h.parts p hp
    have ht := h'.parts p hp
    cases p <;> exact ht.trans hs
  words a ha := (h'.words a ha).trans (h.words a ha)
  pends n hn h167 hf := (h'.pends n hn h167 hf).trans (h.pends n hn h167 hf)

theorem mono (h : s.Within t f) (hfg : f.le g = true) : s.Within t g := by
  simp only [Scope.le, Bool.and_eq_true, List.all_eq_true] at hfg
  obtain ⟨⟨hParts, hBlocks⟩, hInts⟩ := hfg
  have hNot : ∀ {α : Type} [BEq α] [LawfulBEq α] {l m : List α} {x : α}, (∀ y ∈ l, m.contains y = true) → m.contains x = false → l.contains x = false := by
    intro α _ _ l m x hlm hx
    rw [List.contains_eq_mem, decide_eq_false_iff_not]
    intro hMem
    rw [hlm x hMem] at hx
    exact nomatch hx
  exact ⟨fun p hp => h.parts p (hNot hParts hp), fun a ha => h.words a (hNot hBlocks ha), fun n hn h167 hn' => h.pends n hn h167 (hNot hInts hn')⟩

/-- A further operation, within a scope of its own. -/
theorem andThen (h : s.Within t f) (h' : t.Within u g) (hgf : g.le f = true := by decide) : s.Within u f := h.trans (h'.mono hgf)

theorem ite {c : Prop} [Decidable c] (ht : s.Within t f) (hu : s.Within u f) : s.Within (if c then t else u) f :=
  iteInduction (motive := fun x => s.Within x f) (fun _ => ht) (fun _ => hu)

theorem foldlMem {α : Type} {op : State → α → State} {l : List α} (hop : ∀ u, ∀ a ∈ l, s.Within u f → s.Within (op u a) f)
    (h : s.Within t f) : s.Within (l.foldl op t) f := by
  induction l generalizing t with
  | nil => exact h
  | cons a l ih => exact ih (fun u b hb => hop u b (.tail a hb)) (hop t a (.head l) h)

set_option Elab.async false in
theorem foldl {α : Type} {op : State → α → State} {l : List α} (hop : ∀ u a, s.Within u f → s.Within (op u a) f) (h : s.Within t f) :
    s.Within (l.foldl op t) f := h.foldlMem fun u a _ => hop u a

/-- A state within a scope is the first one with the parts of the scope taken from it. -/
theorem eq (h : s.Within t f) : t = s.overlay t f :=
  State.eq_of_same (s := s.overlay t f) fun p => by cases p <;> exact eq_cond (h.parts _)

/-! ## One part of the state replaced -/

/-- A part of the scope replaced, neither the registers nor the interrupts. -/
theorem one_part {p : Part} (h : s.Within t f) (hp : f.parts.contains p = true) (hOnly : u = t.overlay u ⟨[p], [], []⟩) (hRegs : p ≠ .regs := by decide)
    (hInt : p ≠ .int := by decide) : s.Within u f := by
  have hSame : ∀ q, q ≠ p → t.same u q := fun q hq => State.same_of_overlay hOnly (by simpa using hq)
  refine h.trans ⟨fun q hq => hSame q ?_, fun a _ => ?_, fun n _ _ _ => State.pends_of_int (hSame .int hInt.symm) n⟩
  · rintro rfl
    rw [hp] at hq
    exact nomatch hq
  · rw [State.word, State.word, show u.regs = t.regs from hSame .regs hRegs.symm]

theorem withCfg {v : List (Nat × Word)} (h : s.Within t f) (hp : f.parts.contains .cfg = true := by rfl) : s.Within (t.withCfg v) f :=
  h.one_part hp rfl

theorem withEff {v : List (Nat × Word)} (h : s.Within t f) (hp : f.parts.contains .eff = true := by rfl) : s.Within (t.withEff v) f :=
  h.one_part hp rfl

theorem withPwr {v : PowerSt} (h : s.Within t f) (hp : f.parts.contains .pwr = true := by rfl) : s.Within (t.withPwr v) f :=
  h.one_part hp rfl

theorem withClk {v : ClockSt} (h : s.Within t f) (hp : f.parts.contains .clk = true := by rfl) : s.Within (t.withClk v) f :=
  h.one_part hp rfl

theorem withHdRead {v : Option (BitVec 16)} (h : s.Within t f) (hp : f.parts.contains .hdRead = true := by rfl) : s.Within (t.withHdRead v) f :=
  h.one_part hp rfl

theorem withBus {v : PortSt} (h : s.Within t f) (hp : f.parts.contains .bus = true := by rfl) : s.Within (t.withBus v) f :=
  h.one_part hp rfl

theorem withSpiPort {v : PortSt} (h : s.Within t f) (hp : f.parts.contains .spiPort = true := by rfl) : s.Within (t.withSpiPort v) f :=
  h.one_part hp rfl

theorem withSpi {v : SpiSt} (h : s.Within t f) (hp : f.parts.contains .spi = true := by rfl) : s.Within (t.withSpi v) f :=
  h.one_part hp rfl

theorem withRve {v : ReeveSt} (h : s.Within t f) (hp : f.parts.contains .rve = true := by rfl) : s.Within (t.withRve v) f :=
  h.one_part hp rfl

theorem withFlt {v : FaultSt} (h : s.Within t f) (hp : f.parts.contains .flt = true := by rfl) : s.Within (t.withFlt v) f :=
  h.one_part hp rfl

theorem withStr {v : StrataSt} (h : s.Within t f) (hp : f.parts.contains .str = true := by rfl) : s.Within (t.withStr v) f :=
  h.one_part hp rfl

set_option Elab.async false in
theorem withCul {v : CulvertSt} (h : s.Within t f) (hp : f.parts.contains .cul = true := by rfl) : s.Within (t.withCul v) f :=
  h.one_part hp rfl

theorem withAdc {v : AdcSt} (h : s.Within t f) (hp : f.parts.contains .adc = true := by rfl) : s.Within (t.withAdc v) f :=
  h.one_part hp rfl

theorem withDpc {v : DpcSt} (h : s.Within t f) (hp : f.parts.contains .dpc = true := by rfl) : s.Within (t.withDpc v) f :=
  h.one_part hp rfl

theorem withMod {v : ModSt} (h : s.Within t f) (hp : f.parts.contains .mod = true := by rfl) : s.Within (t.withMod v) f :=
  h.one_part hp rfl

theorem withGdr {v : GdrSt} (h : s.Within t f) (hp : f.parts.contains .gdr = true := by rfl) : s.Within (t.withGdr v) f :=
  h.one_part hp rfl

theorem withPins {v : PinSt} (h : s.Within t f) (hp : f.parts.contains .pins = true := by rfl) : s.Within (t.withPins v) f :=
  h.one_part hp rfl

theorem withLpe {v : LpeSt} (h : s.Within t f) (hp : f.parts.contains .lpe = true := by rfl) : s.Within (t.withLpe v) f :=
  h.one_part hp rfl

theorem withWrd {v : WrdSt} (h : s.Within t f) (hp : f.parts.contains .wrd = true := by rfl) : s.Within (t.withWrd v) f :=
  h.one_part hp rfl

theorem withVlt {v : VltSt} (h : s.Within t f) (hp : f.parts.contains .vlt = true := by rfl) : s.Within (t.withVlt v) f :=
  h.one_part hp rfl

theorem withThm {v : ThmSt} (h : s.Within t f) (hp : f.parts.contains .thm = true := by rfl) : s.Within (t.withThm v) f :=
  h.one_part hp rfl

theorem withTim {v : TimeSt} (h : s.Within t f) (hp : f.parts.contains .tim = true := by rfl) : s.Within (t.withTim v) f :=
  h.one_part hp rfl

theorem withNet {v : NetSt} (h : s.Within t f) (hp : f.parts.contains .net = true := by rfl) : s.Within (t.withNet v) f :=
  h.one_part hp rfl

theorem withStm {v : StmSt} (h : s.Within t f) (hp : f.parts.contains .stm = true := by rfl) : s.Within (t.withStm v) f :=
  h.one_part hp rfl

theorem withGal {v : GallerySt} (h : s.Within t f) (hp : f.parts.contains .gal = true := by rfl) : s.Within (t.withGal v) f :=
  h.one_part hp rfl

set_option Elab.async false in
theorem withTwn {v : TwinSt} (h : s.Within t f) (hp : f.parts.contains .twn = true := by rfl) : s.Within (t.withTwn v) f :=
  h.one_part hp rfl

theorem withSpr {v : SpareSt} (h : s.Within t f) (hp : f.parts.contains .spr = true := by rfl) : s.Within (t.withSpr v) f :=
  h.one_part hp rfl

theorem withWear {v : WearSt} (h : s.Within t f) (hp : f.parts.contains .wear = true := by rfl) : s.Within (t.withWear v) f :=
  h.one_part hp rfl

theorem withDripLost {v : Bool} (h : s.Within t f) (hp : f.parts.contains .dripLost = true := by rfl) : s.Within (t.withDripLost v) f :=
  h.one_part hp rfl

theorem withFree {v : Nat} (h : s.Within t f) (hp : f.parts.contains .free = true := by rfl) : s.Within (t.withFree v) f :=
  h.one_part hp rfl

theorem setWord {a : Nat} {v : Word} (h : s.Within t f) (ha : f.blocks.contains (a / 65536) = true := by rfl)
    (hp : f.parts.contains .regs = true := by rfl) : s.Within (t.setWord a v) f := by
  have hOnly : t.setWord a v = t.overlay (t.setWord a v) ⟨[.regs], [], []⟩ := rfl
  refine h.trans ⟨fun q hq => State.same_of_overlay hOnly ?_, fun b hb => ?_, fun n _ _ _ => rfl⟩
  · have hne : q ≠ .regs := by
      rintro rfl
      rw [hp] at hq
      exact nomatch hq
    simpa using hne
  · have hne : b ≠ a := by
      rintro rfl
      rw [ha] at hb
      exact nomatch hb
    rw [State.word_setWord, if_neg hne]

theorem put {x : Fld} {v : Nat} (h : s.Within t f) (ha : f.blocks.contains (x.addr / 65536) = true := by rfl)
    (hp : f.parts.contains .regs = true := by rfl) : s.Within (t.put x v) f := h.setWord ha hp

theorem flag {x : Fld} {b : Bool} (h : s.Within t f) (ha : f.blocks.contains (x.addr / 65536) = true := by rfl)
    (hp : f.parts.contains .regs = true := by rfl) : s.Within (t.flag x b) f := h.setWord ha hp

theorem bump {x : Fld} (h : s.Within t f) (ha : f.blocks.contains (x.addr / 65536) = true := by rfl)
    (hp : f.parts.contains .regs = true := by rfl) : s.Within (t.bump x) f := h.setWord ha hp

theorem putS {x : Fld} {i : Int} (h : s.Within t f) (ha : f.blocks.contains (x.addr / 65536) = true := by rfl)
    (hp : f.parts.contains .regs = true := by rfl) : s.Within (t.putS x i) f := h.setWord ha hp

theorem raiseInt {k : Nat} (h : s.Within t f) (hk : f.ints.contains k = true := by rfl) (hInt : f.parts.contains .int = true := by rfl)
    (hStr : f.parts.contains .str = true := by rfl) : s.Within (t.raiseInt k) f := by
  obtain ⟨i, x, hRaise⟩ := t.raiseInt_only k
  have hOnly : t.raiseInt k = t.overlay (t.raiseInt k) ⟨[.int, .str], [], []⟩ := by rw [hRaise]; rfl
  refine h.trans ⟨fun q hq => State.same_of_overlay hOnly ?_, fun a _ => t.raiseInt_word k a, fun n hn h167 hf => ?_⟩
  · have hne : ∀ p, f.parts.contains p = true → q ≠ p := by
      rintro p hp rfl
      rw [hp] at hq
      exact nomatch hq
    simpa using ⟨hne _ hInt, hne _ hStr⟩
  · have hne : n ≠ k := by
      rintro rfl
      rw [hk] at hf
      exact nomatch hf
    rw [t.raiseInt_pends k hn h167, decide_eq_false hne, Bool.and_false, Bool.or_false]

theorem fault {n : Nat} (h : s.Within t f) (hp : f.parts.contains .flt = true := by rfl) : s.Within (t.fault n) f := by
  obtain ⟨v, hFault⟩ := t.fault_only n
  rw [hFault]
  exact h.withFlt hp

end State.Within

/-! ## The outputs -/

/-- What the outputs touch as they follow their causes. -/
def Scope.drive : Scope := ⟨[.regs, .mod, .gdr, .pins, .int, .str], [7, 9], [80, 81, 82, 83]⟩

/-- What a fault of a half-bridge touches. -/
def Scope.hbFaults : Scope := ⟨[.regs, .gdr, .int, .str], [9], [80, 81, 82, 83]⟩

theorem State.hbFault_within (s : State) {n : Nat} (hn : n < 4) (cause : Nat) : s.Within (s.hbFault n cause) .hbFaults := by
  have hBlock : Scope.hbFaults.blocks.contains (R.GDR_HBn_FAULT n / 65536) = true := by
    rw [show R.GDR_HBn_FAULT n / 65536 = 9 by simp only [R.GDR_HBn_FAULT]; omega]
    rfl
  have hInt : Scope.hbFaults.ints.contains (80 + n) = true := by
    rcases lt_four_cases hn with rfl | rfl | rfl | rfl <;> rfl
  delta State.hbFault
  extract_lets t1 _ _ t2 t3 t4
  have h1 : s.Within t1 .hbFaults := (State.Within.refl s _).setWord hBlock
  have h2 : s.Within t2 .hbFaults := .ite h1 h1.withGdr
  have h3 : s.Within t3 .hbFaults := h2.bump hBlock
  have h4 : s.Within t4 .hbFaults := h3.put
  exact .ite h2 (h4.raiseInt hInt)

theorem State.uvloFaults_within (s : State) : s.Within s.uvloFaults .hbFaults := by
  have h := State.Within.refl s .hbFaults
  delta State.uvloFaults
  refine .ite (.foldlMem (fun u n hn h1 => ?_) h) h
  have hHb : n < 4 := by simp at hn; omega
  refine .ite h1 ?_
  extract_lets _ _ t1
  have h2 : s.Within t1 .hbFaults := .ite (h1.andThen (u.hbFault_within hHb 3)) h1
  exact .ite (h2.andThen (t1.hbFault_within hHb 4)) h2

set_option Elab.async false in
theorem State.setInputs_within (s : State) (new : List HbLevel) : s.Within (s.setInputs new) .drive := by
  delta State.setInputs
  extract_lets _ _ _ _ t1
  have h1 : s.Within t1 .drive := (State.Within.refl s _).withMod
  exact h1.withGdr

theorem State.drive_within (s : State) : s.Within s.drive .drive := by
  have h := State.Within.refl s .drive
  delta State.drive
  extract_lets _ t1 t2 _ t3 _ t4 t5 _ _ t6 t7 t8 _ t9
  have h1 : s.Within t1 .drive := .ite h.withMod h
  have h2 : s.Within t2 .drive := h1.withGdr
  have h3 : s.Within t3 .drive := h2.andThen (t2.setInputs_within _)
  have h4 : s.Within t4 .drive := h3.withMod
  have h5 : s.Within t5 .drive := h4.andThen t4.uvloFaults_within
  have h6 : s.Within t6 .drive := h5.withPins
  have h7 : s.Within t7 .drive := h6.put
  have h8 : s.Within t8 .drive := h7.flag
  have h9 : s.Within t9 .drive := .ite h8.put h6
  exact .ite h9.flag h9

end Sys2Proof.Machine
end

section
/-! PROOF. The Reeve's mailboxes: commands taken, responses, resources held (R124 to R129). -/
namespace Sys2Proof.Machine

/-! ## One mailbox replaced -/

theorem State.mb_setMb_self (s : State) {n : Nat} (hn : n < s.rve.mb.length) (m : MbSt) : (s.setMb n m).mb n = m := by
  show (s.rve.mb.set n m).getD n {} = m
  rw [List.getD_eq_getElem?_getD, List.getElem?_set_self hn]
  rfl

theorem State.mb_setMb_of_ne (s : State) {n k : Nat} (h : k ≠ n) (m : MbSt) : (s.setMb n m).mb k = s.mb k := by
  show (s.rve.mb.set n m).getD k {} = s.rve.mb.getD k {}
  rw [List.getD_eq_getElem?_getD, List.getElem?_set_ne h.symm, List.getD_eq_getElem?_getD]

/-- The boxes of a state are those of its Reeve. -/
theorem State.mb_congr {s t : State} (h : t.rve.mb = s.rve.mb) (n : Nat) : t.mb n = s.mb n := by
  rw [State.mb, h]
  rfl

theorem State.mbState_congr {s t : State} (hMb : ∀ n, 4 ≤ n → t.mb n = s.mb n) (hWord : ∀ n, n < 4 → t.get (F.RVE_Mn_STATE_STATE n) = s.get (F.RVE_Mn_STATE_STATE n))
    (n : Nat) : t.mbState n = s.mbState n := by
  rw [State.mbState, State.mbState]
  split
  next h => exact hWord n h
  next h => rw [hMb n (Nat.not_lt.1 h)]

theorem mailboxes_lt {n : Nat} (h : mailboxes.contains n = true) : n < 11 := by
  have hAll : ∀ n ∈ mailboxes, n < 11 := by decide
  exact hAll n (List.contains_iff_mem.1 h)

/-- What a command needs to be taken from its mailbox. -/
theorem State.takes_iff {s : State} {n c : Nat} : s.takes n c = true ↔ s.isOn 2 = true ∧ s.mbState n = mbExecuting ∧ (s.mb n).code = c ∧
    (s.mb n).running = false ∧ (s.mb n).ready = false ∧ (s.mb n).hold = false ∧ mailboxes.contains n = true := by
  simp [State.takes, and_assoc]

theorem State.takes_lt {s : State} (hInv : s.Inv) {n c : Nat} (h : s.takes n c = true) : n < s.rve.mb.length := by
  obtain ⟨-, -, -, -, -, -, hn⟩ := State.takes_iff.1 h
  rw [hInv.mailboxes]
  exact mailboxes_lt hn

/-- What a command needs to run on. -/
theorem State.runs_iff {s : State} {n c : Nat} : s.runs n c = true ↔ s.isOn 2 = true ∧ s.mbState n = mbExecuting ∧ (s.mb n).code = c ∧
    (s.mb n).running = true ∧ (s.mb n).ready = false ∧ mailboxes.contains n = true := by
  simp [State.runs, and_assoc]

/-- A command runs on as before where polder 2, the boxes and their states are as before. -/
theorem State.runs_congr {s t : State} (hOn : t.isOn 2 = s.isOn 2) (hMb : t.rve.mb = s.rve.mb)
    (hWord : ∀ k, k < 4 → t.get (F.RVE_Mn_STATE_STATE k) = s.get (F.RVE_Mn_STATE_STATE k)) (n c : Nat) : t.runs n c = s.runs n c := by
  have hBox : ∀ k, t.mb k = s.mb k := State.mb_congr hMb
  rw [State.runs, hOn, hBox, State.mbState_congr (fun k _ => hBox k) hWord]
  rfl

/-- A field of another register than the mailboxes' states leaves them. -/
theorem mbState_apart {f : Fld} (hf : f.addr / 65536 ≠ 2) (k : Nat) (hk : k < 4) : f.apart (F.RVE_Mn_STATE_STATE k) = true := by
  refine Fld.apart_iff.2 (.inr (.inr fun h => hf ?_))
  rw [h]
  show (0x020084 + 0x100 * k) / 65536 = 2
  omega

theorem State.runOn_mb {s : State} {n : Nat} (hn : n < s.rve.mb.length) (r : BitVec 10) :
    (s.runOn n r).mb n = { s.mb n with running := true, held := r } := s.mb_setMb_self hn _

theorem State.runOn_mbState {s : State} {n : Nat} (hn : n < s.rve.mb.length) (r : BitVec 10) (k : Nat) : (s.runOn n r).mbState k = s.mbState k := by
  rw [State.mbState, State.mbState]
  split
  · rfl
  · by_cases hkn : k = n
    · rw [hkn, State.runOn_mb hn]
    · rw [State.runOn, s.mb_setMb_of_ne hkn]

/-- A command taken runs on once it is said to. -/
theorem State.runOn_runs {s : State} (hInv : s.Inv) {n c : Nat} (h : s.takes n c = true) (r : BitVec 10) : (s.runOn n r).runs n c = true := by
  obtain ⟨h2, hState, hCode, -, hReady, -, hBox⟩ := State.takes_iff.1 h
  have hLen := State.takes_lt hInv h
  have hSelf := State.runOn_mb hLen r
  rw [State.runs_iff, State.runOn_mbState hLen, hSelf]
  exact ⟨h2, hState, hCode, rfl, hReady, hBox⟩

/-! ## Responses and resources -/

/-- The box with its response formed. -/
def MbSt.answered (m : MbSt) (st : Status) (data : List Byte) : MbSt :=
  { m with rsp := [BitVec.ofNat 8 m.code, BitVec.ofNat 8 m.tag, BitVec.ofNat 8 st.code,
                   BitVec.ofNat 8 (if st = .ok then data.take 56 else []).length]
                  ++ padTo 56 (if st = .ok then data.take 56 else []) ++ padTo 4 (if st = .ok then [] else []),
           ready := true, running := false, held := 0 }

set_option Elab.async false in
theorem State.respond_eq (s : State) (n : Nat) (st : Status) (data : List Byte) :
    s.respond n st data = s.setMb n ((s.mb n).answered st data) := rfl

theorem MbSt.answered_status (m : MbSt) (st : Status) (data : List Byte) : (m.answered st data).rsp.getD 2 0 = BitVec.ofNat 8 st.code := rfl

theorem foldl_or_held (l : List MbSt) (v : BitVec 10) (k : Nat) :
    (l.foldl (fun h m => h ||| m.held) v).getLsbD k = (v.getLsbD k || l.any (fun m => m.held.getLsbD k)) := by
  induction l generalizing v with
  | nil => simp
  | cons m l ih => rw [List.foldl_cons, ih, BitVec.getLsbD_or, List.any_cons, Bool.or_assoc]

/-- A resource is held where the Reeve holds it itself, or a mailbox. -/
theorem State.held_bit (s : State) (k : Nat) :
    s.held.getLsbD k = (s.rve.autoHeld.getLsbD k || s.rve.mb.any (fun m => m.held.getLsbD k)) := foldl_or_held _ _ k

theorem State.held_of_mb {s : State} {n : Nat} (hn : n < s.rve.mb.length) {k : Nat} (h : (s.mb n).held.getLsbD k = true) :
    s.held.getLsbD k = true := by
  rw [s.held_bit, List.any_eq_true.2 ⟨s.mb n, ?_, h⟩, Bool.or_true]
  rw [State.mb, List.getD_eq_getElem?_getD, List.getElem?_eq_getElem hn]
  exact List.getElem_mem hn

end Sys2Proof.Machine
end

section
/-! PROOF. A Warden channel that goes to another state (R358). -/
namespace Sys2Proof.Machine

/-- What the Wardens touch as they go to another state. -/
def Scope.warden : Scope := ⟨[.regs, .wrd, .mod, .gdr, .pins, .int, .str], [7, 9, 10], [80, 81, 82, 83, 224, 225, 228]⟩

theorem State.wput_within {s t : State} (h : s.Within t .warden) (b : Bool) {f : Fld} (hf : f.addr / 65536 = 10 ∧ (f.addr + 0x100) / 65536 = 10)
    (v : Nat) : s.Within (t.wput b f v) .warden := by
  cases b
  · exact h.put (by rw [show (wrdFld false f).addr / 65536 = 10 from hf.1]; rfl)
  · exact h.put (by rw [show (wrdFld true f).addr / 65536 = 10 from hf.2]; rfl)

theorem State.wardOutputs_within (s : State) (b : Bool) : s.Within (s.wardOutputs b) .warden := by
  delta State.wardOutputs
  extract_lets st t
  have h : s.Within t .warden := State.wput_within (.refl s _) b ⟨rfl, rfl⟩ _
  exact (State.wput_within h b ⟨rfl, rfl⟩ _).andThen (State.drive_within _)

theorem State.wardGo_within (s : State) (b : Bool) (v : Nat) (auto : Bool) : s.Within (s.wardGo b v auto) .warden := by
  have h := State.Within.refl s .warden
  delta State.wardGo
  refine .ite h ?_
  extract_lets t₁ t₂ t₃ t₄ c t₅
  have h₁ : s.Within t₁ .warden := State.wput_within h b ⟨rfl, rfl⟩ v
  have h₂ : s.Within t₂ .warden := h₁.raiseInt (by cases b <;> rfl)
  have h₃ : s.Within t₃ .warden := .ite h₂.raiseInt h₂
  have h₄ : s.Within t₄ .warden := .ite h₃.bump.put h₃
  have h₅ : s.Within t₅ .warden := h₄.withWrd
  exact h₅.andThen (t₅.wardOutputs_within b)

theorem State.wardenStop_within (s : State) : s.Within s.wardenStop .warden :=
  .foldl (fun u b h => .ite (h.andThen (u.wardGo_within b wStart false)) h) (.refl s _)

/-- A field of a channel's registers lies as far from another as in channel A. -/
theorem wrdFld_apart {f g : Fld} (b : Bool) (h : f.apart g = true) : (wrdFld b f).apart (wrdFld b g) = true := by
  cases b
  · exact h
  · rw [Fld.apart_iff] at h ⊢
    exact h.imp_right (.imp_right fun hne heq => hne (Nat.add_right_cancel heq))

theorem State.wget_wput_apart (s : State) (b : Bool) {f g : Fld} (v : Nat) (hg : g.fits = true) (h : f.apart g = true) :
    (s.wput b f v).wget b g = s.wget b g :=
  State.get_put_apart s _ _ v (by cases b <;> exact hg) (wrdFld_apart b h)

theorem State.wget_wput_same (s : State) (b : Bool) {f : Fld} (v : Nat) (h : f.fits = true) : (s.wput b f v).wget b f = v % 2 ^ f.w := by
  cases b
  · exact s.get_put_same _ v h
  · exact s.get_put_same (wrdFld true f) v h

/-- Of a channel's state, the outputs change nothing. -/
theorem State.drive_wstate (s : State) (b : Bool) : s.drive.wstate b = s.wstate b := by
  have h := s.drive_within.words
  cases b
  · exact congrArg (bitsOf · _ _) (h R.WRD_A_STATUS rfl)
  · exact congrArg (bitsOf · _ _) (h (R.WRD_A_STATUS + 0x100) rfl)

/-- A write of a channel's register that shares no bit with STATE leaves both channels' states. -/
theorem State.wput_wstate (s : State) {b c : Bool} {f : Fld} (v : Nat) (h : (wrdFld b f).apart (wrdFld c F.WRD_A_STATUS_STATE) = true) :
    (s.wput b f v).wstate c = s.wstate c :=
  State.get_put_apart s _ _ v (by cases c <;> rfl) h

set_option Elab.async false in
theorem State.wardOutputs_wstate (s : State) (b c : Bool) : (s.wardOutputs b).wstate c = s.wstate c := by
  delta State.wardOutputs
  dsimp only
  refine (State.drive_wstate _ c).trans ((State.wput_wstate _ _ ?_).trans (State.wput_wstate _ _ ?_))
  · cases b <;> cases c <;> rfl
  · cases b <;> cases c <;> rfl

theorem State.setWch_wstate (s : State) (b c : Bool) (x : WrdChan) : (s.setWch b x).wstate c = s.wstate c := rfl

/-- What follows the new STATE leaves it. -/
theorem State.wardGo_wstate (s : State) (b c : Bool) {v : Nat} (auto : Bool) (hv : s.wstate b ≠ v) :
    (s.wardGo b v auto).wstate c = (s.wput b F.WRD_A_STATUS_STATE v).wstate c := by
  rw [State.wardGo, if_neg hv]
  dsimp only
  rw [State.wardOutputs_wstate, State.setWch_wstate]
  have hRaise : ∀ (t : State) (k : Nat), (t.raiseInt k).wstate c = t.wstate c := fun t k => t.raiseInt_get k _
  have hDemand : ∀ t : State, ((t.bump F.WRD_COUNTS_DEMANDS).put F.WRD_EVENTS_DEMAND_SEEN 1).wstate c = t.wstate c := fun t =>
    (State.get_put_apart _ _ _ _ (by cases c <;> rfl) (by cases c <;> rfl)).trans
      (State.get_put_apart _ _ _ _ (by cases c <;> rfl) (by cases c <;> rfl))
  split
  · rw [hDemand]
    split <;> simp only [hRaise]
  · split <;> simp only [hRaise]

theorem State.wardGo_wstate_self (s : State) (b : Bool) {v : Nat} (hv : v < 8) (auto : Bool) : (s.wardGo b v auto).wstate b = v := by
  by_cases h : s.wstate b = v
  · rw [State.wardGo, if_pos h, h]
  · rw [s.wardGo_wstate b b auto h]
    exact (s.wget_wput_same b v rfl).trans (Nat.mod_eq_of_lt hv)

theorem State.wardGo_wstate_other (s : State) (b : Bool) (v : Nat) (auto : Bool) : (s.wardGo b v auto).wstate (!b) = s.wstate (!b) := by
  by_cases h : s.wstate b = v
  · rw [State.wardGo, if_pos h]
  · rw [s.wardGo_wstate b (!b) auto h]
    exact s.wput_wstate v (by cases b <;> rfl)

end Sys2Proof.Machine
end

section
/-! PROOF. SLEEP, and the standby at the end of the stop sequence (R106 to R108, Tables 3-9 and 3-10). -/
namespace Sys2Proof.Machine

/-! ## Refusals -/

theorem sleep_busy {s : State} {n : Nat} (h : s.takes n 0x08 = true)
    (hBusy : (∃ m, m < 4 ∧ m ≠ n ∧ s.mbState m = mbExecuting) ∨ s.held &&& ~~~(resVault ||| resClock) ≠ 0) :
    exec (.sleep n) s = .next (s.respond n .busy []) := by
  refine (if_pos h).trans (if_pos ?_)
  rw [Bool.or_eq_true, List.any_eq_true]
  rcases hBusy with ⟨m, hm, hne, hEx⟩ | hHeld
  · refine .inl ⟨m, ?_, by simp [hne, hEx]⟩
    rcases lt_four_cases hm with rfl | rfl | rfl | rfl <;> decide
  · exact .inr (by simpa using hHeld)

/-- Nothing keeps SLEEP busy. -/
theorem sleep_idle {s : State} {n : Nat} (hOthers : ∀ m, m < 4 → m ≠ n → s.mbState m ≠ mbExecuting) (hHeld : s.held &&& ~~~(resVault ||| resClock) = 0) :
    ¬(([0, 1, 2, 3].any (fun m => m != n && s.mbState m == mbExecuting) || s.held &&& ~~~(resVault ||| resClock) != 0) = true) := by
  rw [Bool.or_eq_true, List.any_eq_true]
  rintro (⟨m, hm, hEx⟩ | hNot)
  · simp only [Bool.and_eq_true, bne_iff_ne, beq_iff_eq] at hEx
    exact hOthers m (by simp at hm; omega) hEx.1 hEx.2
  · exact absurd hHeld (by simpa using hNot)

/-- Table 3-9: what SLEEP refuses in the device's state. -/
theorem sleep_refuses {s : State} : ((s.isStation && !s.pulseBlocked) || (!s.isStation && !s.bridgesOff) || s.held &&& resVault != 0
      || s.held &&& resClock != 0 || s.twin = 2) = true ↔
    (s.isStation = true ∧ s.pulseBlocked = false) ∨ (s.isStation = false ∧ s.bridgesOff = false) ∨ s.held &&& resVault ≠ 0 ∨
        s.held &&& resClock ≠ 0 ∨ s.twin = 2 := by
  simp [or_assoc]

/-! ## Acceptance -/

/-- The channels of a polder that is on, but those locked out, are in START after the stop. -/
theorem State.wardenStop_wstate {s : State} {b : Bool} (hOn : s.isOn (wrdPolder b) = true) (hLock : s.wstate b ≠ wLockout) :
    s.wardenStop.wstate b = wStart := by
  have hStop : ∀ (t : State) (c : Bool), t.isOn (wrdPolder c) = true → t.wstate c ≠ wLockout →
      (if (t.isOn (wrdPolder c) && t.wstate c != wLockout) = true then t.wardGo c wStart false else t).wstate c = wStart := by
    intro t c hc hl
    rw [if_pos (by simp [hc, hl])]
    exact t.wardGo_wstate_self c (by decide) false
  have hOther : ∀ (t : State) (c : Bool),
      (if (t.isOn (wrdPolder c) && t.wstate c != wLockout) = true then t.wardGo c wStart false else t).wstate (!c) = t.wstate (!c) := by
    intro t c
    split
    · exact t.wardGo_wstate_other c wStart false
    · rfl
  have hKept : ∀ (t : State) (c : Bool) (p : Nat),
      (if (t.isOn (wrdPolder c) && t.wstate c != wLockout) = true then t.wardGo c wStart false else t).isOn p = t.isOn p := by
    intro t c p
    have h := State.Within.ite (c := (t.isOn (wrdPolder c) && t.wstate c != wLockout) = true) (t.wardGo_within c wStart false) (.refl t _)
    exact congrArg (fun v : PowerSt => v.on.getLsbD p) (h.parts .pwr rfl)
  cases b
  · exact (hOther _ true).trans (hStop s false hOn hLock)
  · refine hStop _ true ?_ ?_
    · rw [hKept]
      exact hOn
    · exact fun hl => hLock ((hOther s false).symm.trans hl)

/-- The wake latches cleared and armed again. -/
theorem State.clearWake_only (s : State) : ∃ r, s.clearWake = (s.withRegs r).withPwr { s.pwr with
      reqWaken := s.pwr.wakenLow, reqDrip := false, reqGuard := false, reqLane := 0, startCause := false } ∧
    ∀ a, a ≠ R.PWR_WAKE_CAUSE → s.clearWake.word a = s.word a := by
  delta State.clearWake
  dsimp only
  split
  · exact ⟨_, rfl, fun a ha => State.word_put_ne _ _ _ _ ha⟩
  · exact ⟨s.regs, rfl, fun _ _ => rfl⟩

theorem sleep_accepted {s : State} (hInv : s.Inv) {n : Nat} (h : s.takes n 0x08 = true)
    (hOthers : ∀ m, m < 4 → m ≠ n → s.mbState m ≠ mbExecuting) (hHeld : s.held &&& ~~~(resVault ||| resClock) = 0)
    (hStation : s.isStation = true → s.pulseBlocked = true) (hDevice : s.isStation = false → s.bridgesOff = true)
    (hVault : s.held &&& resVault = 0) (hClock : s.held &&& resClock = 0) (hTwin : s.twin ≠ 2) :
    ∃ u : State, exec (.sleep n) s = .next u.settle ∧ u.pwr.phase = .stopping ∧
      u.requested = s.pwr.wakenLow ∧ (u.mb n).ready = true ∧ (u.mb n).rsp.getD 2 0 = 0 ∧ u.held &&& resSleep ≠ 0 ∧
      (∀ b, s.isOn (wrdPolder b) = true → s.wstate b ≠ wLockout → u.wstate b = wStart) ∧ u.pwr.on = s.pwr.on ∧
      u.cfg = s.cfg ∧ u.vlt = s.vlt := by
  have hNot : ¬((s.isStation && !s.pulseBlocked) || (!s.isStation && !s.bridgesOff) || s.held &&& resVault != 0
      || s.held &&& resClock != 0 || s.twin = 2) = true := by
    rw [sleep_refuses]
    rintro (⟨hs, hb⟩ | ⟨hs, hb⟩ | hv | hc | ht)
    · exact nomatch (hStation hs).symm.trans hb
    · exact nomatch (hDevice hs).symm.trans hb
    · exact hv hVault
    · exact hc hClock
    · exact hTwin ht
  have hLen := State.takes_lt hInv h
  refine ⟨_, (if_pos h).trans ((if_neg (sleep_idle hOthers hHeld)).trans (if_neg hNot)), ?_⟩
  dsimp only
  obtain ⟨r, hClear, hWords⟩ := (s.withPwr { s.pwr with phase := .stopping }).clearWake_only
  generalize (s.withPwr { s.pwr with phase := .stopping }).clearWake = t at hClear hWords ⊢
  have hStop := t.wardenStop_within
  have hOn : ∀ p, t.isOn p = s.isOn p := fun p => by rw [hClear]; rfl
  have hState : ∀ b, t.wstate b = s.wstate b := fun b => by
    cases b
    · exact congrArg (bitsOf · _ _) (hWords R.WRD_A_STATUS (by decide))
    · exact congrArg (bitsOf · _ _) (hWords (R.WRD_A_STATUS + 0x100) (by decide))
  have hStart : ∀ b, s.isOn (wrdPolder b) = true → s.wstate b ≠ wLockout → t.wardenStop.wstate b = wStart := fun b hb hl =>
    State.wardenStop_wstate ((hOn _).trans hb) (by rw [hState]; exact hl)
  have hPwr : t.wardenStop.pwr = t.pwr := hStop.parts .pwr rfl
  have hRve : t.wardenStop.rve = s.rve := (hStop.parts .rve rfl).trans (by rw [hClear]; rfl)
  have hCfg : t.wardenStop.cfg = s.cfg := (hStop.parts .cfg rfl).trans (by rw [hClear]; rfl)
  have hVlt : t.wardenStop.vlt = s.vlt := (hStop.parts .vlt rfl).trans (by rw [hClear]; rfl)
  have hT : t.pwr.phase = .stopping ∧ t.requested = s.pwr.wakenLow ∧ t.pwr.on = s.pwr.on := by
    rw [hClear]
    refine ⟨rfl, ?_, rfl⟩
    show (false || s.pwr.wakenLow || false || false || false) = s.pwr.wakenLow
    simp
  obtain ⟨hPhase, hReq, hPwrOn⟩ := hT
  generalize t.wardenStop = u at *
  have hBox : n < (u.respond n .ok []).rve.mb.length := by
    show n < (u.rve.mb.set n _).length
    rw [List.length_set, hRve]
    exact hLen
  have hMb : (u.respond n .ok []).mb n = (u.mb n).answered .ok [] := u.mb_setMb_self (by rw [hRve]; exact hLen) _
  generalize hw : (u.respond n .ok []).withCul _ = w
  have hwMb : w.mb n = (u.mb n).answered .ok [] := by rw [← hw]; exact hMb
  have hwLen : n < w.rve.mb.length := by rw [← hw]; exact hBox
  have hwPwr : w.pwr = u.pwr := by rw [← hw]; rfl
  have hwState : ∀ b, w.wstate b = u.wstate b := fun b => by rw [← hw]; rfl
  have hwCfg : w.cfg = u.cfg := by rw [← hw]; rfl
  have hwVlt : w.vlt = u.vlt := by rw [← hw]; rfl
  have hSelf := w.mb_setMb_self hwLen { w.mb n with held := resSleep }
  refine ⟨?_, ?_, ?_, ?_, ?_, fun b hb hl => ?_, ?_, ?_, ?_⟩
  · exact (congrArg PowerSt.phase (hwPwr.trans hPwr)).trans hPhase
  · rw [← hReq]
    exact congrArg (fun v : PowerSt => v.startCause || v.reqWaken || v.reqDrip || v.reqGuard || v.reqLane != 0) (hwPwr.trans hPwr)
  · rw [hSelf, hwMb]; rfl
  · rw [hSelf, hwMb]; rfl
  · intro hNone
    have hBit : (w.setMb n { w.mb n with held := resSleep }).held.getLsbD 9 = true :=
      State.held_of_mb (by rw [show (w.setMb n _).rve.mb = w.rve.mb.set n _ from rfl, List.length_set]; exact hwLen)
        (by rw [hSelf]; exact (by decide : resSleep.getLsbD 9 = true))
    have hZero := congrArg (BitVec.getLsbD · 9) hNone
    rw [BitVec.getLsbD_and, hBit] at hZero
    exact absurd hZero (by decide)
  · exact (hwState b).trans (hStart b hb hl)
  · exact (congrArg PowerSt.on (hwPwr.trans hPwr)).trans hPwrOn
  · exact hwCfg.trans hCfg
  · exact hwVlt.trans hVlt

/-! ## The end of the stop sequence -/

theorem standbyReached {s : State} (hInv : s.Inv) (hPhase : s.pwr.phase = .stopping) (hReq : s.requested = false) :
    ∃ t : State, exec .crestStandbyReached s = .next t ∧
      t.pwr.phase = .crest ∧ t.pwr.on = 1 ∧ t.gatesOff ∧ (∀ a, 1 ≤ polderOf a → polderOf a ≤ 15 → t.word a = resetWord a) ∧
      (∀ a, polderOf a = 0 → t.word a = s.word a ∧ t.cfgWord a = s.cfgWord a ∧ t.effWord a = s.cfgWord a) ∧
      t.vlt.slots = s.vlt.slots ∧ t.vlt.journal = s.vlt.journal ∧ t.gal.mem = [] := by
  have hNone : s.toCrest.requested = false := by
    rw [State.requested, s.toCrest_pwr]
    exact hReq
  refine ⟨s.toCrest, (if_pos hPhase).trans (if_neg (Bool.eq_false_iff.1 hNone)), ?_, ?_, s.toCrest_lost.1, fun a h1 h15 => ?_, fun a ha => ⟨?_, ?_, ?_⟩,
    s.toCrest_vlt.1, s.toCrest_vlt.2, s.toCrest_lost.2⟩
  · rw [s.toCrest_pwr]; rfl
  · rw [s.toCrest_pwr]; rfl
  · rw [State.toCrest_word hInv.regs, if_pos ⟨h1, h15⟩]
  · rw [State.toCrest_word hInv.regs, if_neg (by omega)]
  · exact State.toCrest_cfgWord hInv.cfg ha
  · exact State.toCrest_effWord hInv.cfg hInv.eff ha

theorem startsAgain {s : State} (hPhase : s.pwr.phase = .stopping) (hReq : s.requested = true) (hCrest : s.pwr.vcrest = true)
    (hGood : s.pwr.suppliesGood = true) (hRole : s.role ≠ .none) :
    ∃ t : State, exec .crestStandbyReached s = .next t ∧ t.pwr.phase = .starting ∧ t.pwr.on = 1 ∧ t.pwr.starting = [4] ∧
      t.pwr.startCause = false := by
  have hPwr := s.toCrest_pwr
  have hReq' : s.toCrest.requested = true := by rw [State.requested, hPwr]; exact hReq
  have hRole' : s.toCrest.role ≠ .none := by rw [State.role, hPwr]; exact hRole
  obtain ⟨t, hExec, hStarting, hCause, hOn, -, hFirst⟩ := startUpBegins (s := s.toCrest) (by rw [hPwr]; exact hCrest)
    (by rw [hPwr]; exact hGood) hReq' (by rw [hPwr]; rfl) hRole'
  refine ⟨t, (if_pos hPhase).trans ((if_pos hReq').trans hExec), hStarting, hOn.trans (by rw [hPwr]; rfl), (hFirst ?_).1, hCause⟩
  rw [State.isOn, hPwr]
  exact (by decide : (1#16).getLsbD 4 = false)

/-- Settles O24. -/
theorem sleepAndStandby : Obligations.SleepAndStandby := by
  intro s n hInv
  refine ⟨fun h m hm hne hEx => sleep_busy h (.inl ⟨m, hm, hne, hEx⟩), fun h hHeld => sleep_busy h (.inr hHeld),
    fun h hOthers hHeld => ⟨fun hRefuse => ?_, sleep_accepted hInv h hOthers hHeld⟩, standbyReached hInv, startsAgain⟩
  exact (if_pos h).trans ((if_neg (sleep_idle hOthers hHeld)).trans (if_pos (sleep_refuses.2 hRefuse)))

end Sys2Proof.Machine
end

section
/-! PROOF. The on-die reading, and what follows at the shutdown temperature (R103, R131, R374, R375, R380). -/
namespace Sys2Proof.Machine

/-! ## Demands -/

set_option Elab.async false in
theorem State.demandReading_on {s : State} (h : s.pwr.vcrest = true) : s.demandReading = s.put F.THM_DIE_BUSY 1 := if_pos h

theorem thermalTimer {s : State} (hCrest : s.pwr.vcrest = true) (hPhase : s.pwr.phase = .ready) (hPeriod : s.cf F.THM_CONFIG_THM_DEMAND_PERIOD ≠ 0) :
    ∃ t : State, exec .thermalDemandTimer s = .next t ∧ t.get F.THM_DIE_BUSY = 1 ∧ s.onlyFields t [F.THM_DIE_BUSY] := by
  refine ⟨s.put F.THM_DIE_BUSY 1, ?_, s.get_put_same _ 1 rfl, rfl, (s.sameBits_refl _).put⟩
  refine (if_pos ?_).trans (by rw [State.demandReading_on hCrest])
  simp [hPhase, hPeriod]

theorem thermalMeasured {s : State} (hInv : s.Inv) (hCrest : s.pwr.vcrest = true) {n : Nat} (h : s.takes n 0x21 = true) :
    ∃ t : State, exec (.thermalMeasure n) s = .next t ∧ t.get F.THM_DIE_BUSY = 1 ∧
      t.runs n 0x21 = true ∧ (∀ m, m ≠ n → t.mb m = s.mb m) ∧
      t = { s with regs := t.regs, rve := { s.rve with mb := t.rve.mb } } ∧ s.sameBits t [F.THM_DIE_BUSY] := by
  refine ⟨(s.runOn n 0).put F.THM_DIE_BUSY 1, ?_, State.get_put_same _ _ 1 rfl, ?_, fun m hm => s.mb_setMb_of_ne hm _, rfl,
    ((s.sameBits_refl _).of_regs rfl).put⟩
  · exact (if_pos h).trans (by rw [State.demandReading_on (s := s.runOn n 0) hCrest])
  · rw [State.runs_congr (s := s.runOn n 0) (t := (s.runOn n 0).put F.THM_DIE_BUSY 1) rfl rfl fun k hk => State.get_put_apart _ _ _ 1 rfl (mbState_apart (by decide) k hk)]
    exact State.runOn_runs hInv h 0

/-! ## A reading taken -/

/-- R375: the reading as it is held. -/
def dieHeld (r : BitVec 16) : Int := clampInt (-960) 2800 (toSigned 16 r.toNat)

theorem dieHeld_range (r : BitVec 16) : -960 ≤ dieHeld r ∧ dieHeld r ≤ 2800 := by
  rw [dieHeld, clampInt]
  split
  · omega
  · split <;> omega

/-- The clamp keeps a reading on its side of the shutdown temperature. -/
theorem dieHeld_hot (r : BitVec 16) : thermalShutdown ≤ dieHeld r ↔ thermalShutdown ≤ toSigned 16 r.toNat := by
  have h : thermalShutdown = 2560 := rfl
  rw [h, dieHeld, clampInt]
  split
  · omega
  · split <;> omega

theorem toSigned_ofSigned {i : Int} (h : -960 ≤ i ∧ i ≤ 2800) : toSigned 16 (ofSigned 16 i % 2 ^ 16) = i := by
  have hMod : (i % ((2 ^ 16 : Nat) : Int)).toNat % 2 ^ 16 = (i % 65536).toNat := by omega
  have hHalf : 2 ^ (16 - 1) = 32768 := rfl
  rw [ofSigned, toSigned, hMod, hHalf]
  split <;> omega

/-- The die's register with a reading held. -/
def State.dieShows (s : State) (i : Int) : State := (((s.put F.THM_DIE_BUSY 0).put F.THM_DIE_VALID 1).putS F.THM_DIE_TEMP i).raiseInt 196

theorem State.dieShows_facts (s : State) {i : Int} (h : -960 ≤ i ∧ i ≤ 2800) :
    (s.dieShows i).dieTemp = i ∧ (s.dieShows i).is F.THM_DIE_VALID = true ∧ (s.dieShows i).is F.THM_DIE_BUSY = false ∧
      (s.dieShows i).pends 196 = (s.isOn 1 || s.pends 196) := by
  refine ⟨?_, ?_, ?_, State.raiseInt_pends_self _ (by decide) (by decide)⟩
  · rw [State.dieTemp, State.dieShows, State.raiseInt_getS, State.getS, State.putS_eq, State.get_put_same _ _ _ rfl]
    exact toSigned_ofSigned h
  · rw [State.dieShows, State.raiseInt_is, State.putS_eq, State.is_put_apart _ _ _ _ rfl rfl, State.is_put_same _ _ _ rfl]
    rfl
  · rw [State.dieShows, State.raiseInt_is, State.putS_eq, State.is_put_apart _ _ _ _ rfl rfl, State.is_put_apart _ _ _ _ rfl rfl,
      State.is_put_same _ _ _ rfl]
    rfl

/-- What a reading touches beside the die's register: the drift of the converters, the sensors and the commands that wait for it. -/
def Scope.reading : Scope := ⟨[.regs, .int, .str, .thm, .rve], [5], [63, 198]⟩

/-- What follows a reading held, before the Vault's. -/
def State.dieFollows (s : State) (i : Int) : State :=
  let s := s.driftCheck
  let s := if s.isStation && s.isOn 1 && !s.twn.operating then s.sensorTake 4 s.dieTele else s
  [0, 1, 2, 3].foldl (fun s n => if s.runs n 0x21 then s.respond n .ok (leBytes 4 (ofSigned 16 i)) else s) s

theorem State.takeReading_eq (s : State) (r : BitVec 16) :
    s.takeReading r = ((s.dieShows (dieHeld r)).dieFollows (dieHeld r)).gateReading (dieHeld r) := rfl

theorem State.sensorTake_within (s : State) (k v : Nat) : s.Within (s.sensorTake k v) .reading := by
  have h := State.Within.refl s .reading
  delta State.sensorTake
  split
  · exact .ite h h.withThm
  · refine .ite ?_ h.withThm
    split
    · exact h.withThm
    · exact h.withThm.raiseInt

theorem State.dieFollows_within (s : State) (i : Int) : s.Within (s.dieFollows i) .reading := by
  delta State.dieFollows
  extract_lets t u
  have ht : s.Within t .reading := .ite ((State.Within.refl s _).put.raiseInt) (.refl s _)
  have hu : s.Within u .reading := .ite (ht.andThen (t.sensorTake_within _ _)) ht
  exact .foldl (fun _ _ h => .ite h.withRve h) hu

theorem State.dieFollows_sameBits (s : State) (i : Int) : s.sameBits (s.dieFollows i) [F.ADC_CAL_STATUS_DRIFT] := by
  have hSensor : ∀ (t : State) (k v : Nat), (t.sensorTake k v).regs = t.regs := fun t k v => by
    delta State.sensorTake
    split
    · split <;> rfl
    · split
      · split
        · rfl
        · exact State.raiseInt_regs _ _
      · rfl
  have hAnswers : ∀ (l : List Nat) (t : State),
      (l.foldl (fun s n => if s.runs n 0x21 then s.respond n .ok (leBytes 4 (ofSigned 16 i)) else s) t).regs = t.regs := by
    intro l
    induction l with
    | nil => exact fun _ => rfl
    | cons n l ih =>
      intro t
      rw [List.foldl_cons, ih]
      split <;> rfl
  delta State.dieFollows
  extract_lets t u
  have ht : s.sameBits t [F.ADC_CAL_STATUS_DRIFT] := .ite ((s.sameBits_refl _).put.raiseInt) (s.sameBits_refl _)
  have hu : s.sameBits u [F.ADC_CAL_STATUS_DRIFT] := .ite (ht.of_regs (hSensor t _ _)) ht
  exact hu.of_regs (hAnswers _ u)

theorem readingHeld {s : State} (r : BitVec 16) (hCrest : s.pwr.vcrest = true) (hBusy : s.is F.THM_DIE_BUSY = true)
    (hDone : s.pwr.thermalDone = true) (hCool : toSigned 16 r.toNat < thermalShutdown) (hOp : s.vlt.op = none) :
    ∃ u : State, exec (.onDieReading r) s = .next u.settle ∧
      u.dieTemp = clampInt (-960) 2800 (toSigned 16 r.toNat) ∧ u.is F.THM_DIE_VALID = true ∧ u.is F.THM_DIE_BUSY = false ∧
      u.pends 196 = (s.isOn 1 || s.pends 196) ∧
      s.sameBits u [F.THM_DIE_TEMP, F.THM_DIE_VALID, F.THM_DIE_BUSY, F.ADC_CAL_STATUS_DRIFT] ∧
      u = { s with regs := u.regs, int := u.int, str := u.str, thm := u.thm, rve := u.rve } := by
  have hFollows := (s.dieShows (dieHeld r)).dieFollows_within (dieHeld r)
  have hBits := (s.dieShows (dieHeld r)).dieFollows_sameBits (dieHeld r)
  obtain ⟨hTemp, hValid, hIdle, hRaised⟩ := s.dieShows_facts (dieHeld_range r)
  have hTake : s.takeReading r = (s.dieShows (dieHeld r)).dieFollows (dieHeld r) := by
    rw [State.takeReading_eq, State.gateReading]
    have hNone : ((s.dieShows (dieHeld r)).dieFollows (dieHeld r)).vlt.op = none := by
      rw [hFollows.parts .vlt rfl, State.dieShows, State.raiseInt_vlt]
      exact hOp
    rw [hNone]
  have hAll : s.Within (s.dieShows (dieHeld r)) ⟨[.regs, .int, .str], [11], [196]⟩ :=
    ((((State.Within.refl s _).put).put).putS).raiseInt
  have hShows : s.sameBits (s.dieShows (dieHeld r)) [F.THM_DIE_TEMP, F.THM_DIE_VALID, F.THM_DIE_BUSY, F.ADC_CAL_STATUS_DRIFT] :=
    ((((s.sameBits_refl _).put).put).putS).raiseInt
  generalize (s.dieShows (dieHeld r)).dieFollows (dieHeld r) = u at hFollows hBits hTake
  have hWord : u.word R.THM_DIE = (s.dieShows (dieHeld r)).word R.THM_DIE := hFollows.words _ rfl
  have hDie : u.dieTemp = dieHeld r := Eq.trans (congrArg (fun w => toSigned 16 (bitsOf w 0 16)) hWord) hTemp
  have hNotHot : ¬ thermalShutdown ≤ u.dieTemp := by
    rw [hDie, dieHeld_hot]
    exact Int.not_le.2 hCool
  refine ⟨u, ?_, hDie, ?_, ?_, ?_, ?_, ?_⟩
  · refine (if_neg (by simp [hCrest, hBusy])).trans ((if_neg (by simp [hDone])).trans ?_)
    rw [hTake]
    exact (if_neg (by simp [hNotHot])).trans (if_neg (by simp [hNotHot]))
  · exact (congrArg (fun w => bitsOf w 31 1 != 0) hWord).trans hValid
  · exact (congrArg (fun w => bitsOf w 30 1 != 0) hWord).trans hIdle
  · exact (hFollows.pends 196 (by decide) (by decide) rfl).trans hRaised
  · exact State.sameBits_trans hShows (State.sameBits_mono hBits (by simp))
  · exact ((hAll.mono (g := ⟨[.regs, .int, .str, .thm, .rve], [5, 11], [63, 196, 198]⟩) (by decide)).andThen hFollows).eq

/-! ## A reading and the Vault -/

/-- What a commit that waits for a reading touches. -/
def Scope.vault : Scope := ⟨[.regs, .int, .str, .flt, .vlt, .rve, .free], [12], [199, 202]⟩

/-- What a reading leads to in the Vault: beside that, a further reading may be demanded; the held temperature stays. -/
structure State.Vaults (s t : State) : Prop where
  within : s.Within t ⟨[.regs, .int, .str, .flt, .vlt, .rve, .free], [11, 12], [199, 202]⟩
  temp : t.dieTemp = s.dieTemp

namespace State.Vaults
variable {s t u : State}

theorem refl (s : State) : s.Vaults s := ⟨.refl s _, rfl⟩

theorem andThen (h : s.Vaults t) (h' : t.Within u .vault) : s.Vaults u :=
  ⟨h.within.andThen h', (congrArg (fun w => toSigned 16 (bitsOf w 0 16)) (h'.words R.THM_DIE rfl)).trans h.temp⟩

set_option Elab.async false in
theorem demandReading (h : s.Vaults t) : s.Vaults t.demandReading := by
  delta State.demandReading
  split
  · exact ⟨h.within.put, (State.getS_put_apart t F.THM_DIE_BUSY F.THM_DIE_TEMP 1 rfl rfl).trans h.temp⟩
  · exact h

theorem ite {c : Prop} [Decidable c] (ht : s.Vaults t) (hu : s.Vaults u) : s.Vaults (if c then t else u) :=
  iteInduction (fun _ => ht) (fun _ => hu)

end State.Vaults

theorem State.recordTimes_within (s : State) (n now : Nat) : s.Within (State.recordTimes n now s).2 .vault := by
  induction n generalizing s now with
  | zero => exact .refl s _
  | succ n ih => exact ((State.Within.refl s .vault).withFree).andThen (ih (s.withFree (s.free + 1)) _)

theorem State.commitEnded_within (s : State) (c : CommitFor) (st : Status) (data : List Byte) : s.Within (s.commitEnded c st data) .vault := by
  have h := State.Within.refl s .vault
  delta State.commitEnded
  split
  · exact h.withRve
  · exact .ite h.withRve h.withRve
  · exact h.withVlt.withRve

theorem State.commitAbort_within (s : State) (o : VaultOp) : s.Within (s.commitAbort o) .vault := by
  delta State.commitAbort
  extract_lets _ t₁ t₂ t₃
  have h₁ : s.Within t₁ .vault := (State.Within.refl s _).withVlt
  have h₂ : s.Within t₂ .vault := h₁.bump
  have h₃ : s.Within t₃ .vault := h₂.fault.raiseInt
  exact h₃.andThen (t₃.commitEnded_within _ _ _)

theorem State.gateReading_vaults (s : State) (i : Int) : s.Vaults (s.gateReading i) := by
  have h := State.Vaults.refl s
  delta State.gateReading
  split
  · exact h
  next o _ =>
    refine .ite ?_ (.ite ?_ (.ite h.demandReading (h.andThen (s.commitAbort_within o))))
    · extract_lets t x u _ v
      have hDemand : s.Vaults t := h.demandReading
      have hTimes : s.Vaults u := by
        unfold u x
        split
        · exact hDemand.andThen (t.recordTimes_within _ _)
        · exact hDemand
      exact .ite hDemand (hTimes.andThen ((State.Within.refl u _).withVlt))
    · exact (h.andThen ((State.Within.refl s _).withVlt)).andThen (State.commitEnded_within _ _ _ _)

/-- A reading: its value held, power as before. -/
theorem State.takeReading_facts (s : State) (r : BitVec 16) :
    (s.takeReading r).dieTemp = dieHeld r ∧ (s.takeReading r).pwr = s.pwr := by
  have hFollows := (s.dieShows (dieHeld r)).dieFollows_within (dieHeld r)
  rw [State.takeReading_eq]
  have hVault := ((s.dieShows (dieHeld r)).dieFollows (dieHeld r)).gateReading_vaults (dieHeld r)
  constructor
  · exact hVault.temp.trans (Eq.trans (congrArg (fun w => toSigned 16 (bitsOf w 0 16)) (hFollows.words R.THM_DIE rfl))
      (s.dieShows_facts (dieHeld_range r)).1)
  · exact (hVault.within.parts .pwr rfl).trans ((hFollows.parts .pwr rfl).trans (State.raiseInt_pwr _ _))

/-- What a write opportunity of the start touches. -/
theorem State.writeOpportunity_vaults (s : State) :
    s.writeOpportunity.dieTemp = s.dieTemp ∧ ∃ x, s.writeOpportunity.pwr = { s.pwr with pendingShutdown := x } := by
  have hRoom : ∀ n, s.Within (s.makeRoom n) .vault := fun n => (State.Within.refl s _).withVlt
  have hAdd : ∀ (t : State) (g : Nat) (l : List JRecord), t.Within (t.addRecords g l) .vault := fun t g l => by
    delta State.addRecords
    extract_lets _ _ _ _ u
    have hu : t.Within u .vault := (State.Within.refl t _).withVlt
    exact .ite hu.raiseInt hu
  delta State.writeOpportunity
  extract_lets rs n t c d x u i v
  have ht : s.Vaults t := (State.Vaults.refl s).andThen (hRoom n)
  have hu : s.Vaults u := ht.andThen (t.recordTimes_within _ _)
  have hAdded : s.Vaults (u.addRecords 0 ((rs.zip x.1).map fun x => ownRecord x.2 d i x.1)) := hu.andThen (hAdd u 0 _)
  have hPwr : ∀ w : State, s.Vaults w → ∃ y, ((w.ownWritten.withVlt
      { w.ownWritten.vlt with startWrite := some (journalSector (w.ownWritten.vlt.next - 1)) }).demandReading).pwr =
        { s.pwr with pendingShutdown := y } := fun w hw => by
    refine ⟨none, ?_⟩
    rw [← hw.within.parts .pwr rfl]
    delta State.demandReading
    split <;> rfl
  have hTemp : ∀ w : State, s.Vaults w → ((w.ownWritten.withVlt
      { w.ownWritten.vlt with startWrite := some (journalSector (w.ownWritten.vlt.next - 1)) }).demandReading).dieTemp = s.dieTemp := fun w hw => by
    rw [← hw.temp]
    exact ((State.Vaults.refl (w.ownWritten.withVlt _)).demandReading).temp
  split
  · split
    · exact ⟨hTemp _ hAdded, hPwr _ hAdded⟩
    · exact ⟨rfl, s.pwr.pendingShutdown, rfl⟩
  · exact ⟨rfl, s.pwr.pendingShutdown, rfl⟩

theorem State.waitInService_facts (s : State) : s.waitInService.dieTemp = s.dieTemp ∧ ∃ p, s.waitInService.pwr = { s.pwr with phase := p } := by
  delta State.waitInService
  split
  · exact ⟨rfl, _, rfl⟩
  · exact ⟨rfl, s.pwr.phase, rfl⟩

theorem startUpReading {s : State} (r : BitVec 16) (h2 : s.isOn 2 = true) (hDone : s.pwr.thermalDone = false) (hPhase : s.pwr.phase = .starting)
    (hCool : toSigned 16 r.toNat < thermalShutdown) :
    ∃ u : State, exec (.startUpThermalReading r) s = .next u.settle ∧
      u.pwr.thermalDone = true ∧ u.dieTemp = clampInt (-960) 2800 (toSigned 16 r.toNat) ∧ u.pwr.on = s.pwr.on := by
  obtain ⟨hTemp, hPwr⟩ := s.takeReading_facts r
  refine ⟨_, (if_pos (by simp [h2, hDone, hPhase])).trans (if_neg (Int.not_le.2 hCool)), ?_⟩
  generalize s.takeReading r = t at *
  obtain ⟨hWrite, x, hWritten⟩ := (t.withPwr { t.pwr with thermalDone := true }).writeOpportunity_vaults
  obtain ⟨hWait, p, hWaited⟩ := (t.withPwr { t.pwr with thermalDone := true }).writeOpportunity.waitInService_facts
  refine ⟨?_, ?_, ?_⟩
  · rw [hWaited, hWritten]
    rfl
  · exact hWait.trans (hWrite.trans hTemp)
  · rw [hWaited, hWritten, ← hPwr]
    rfl

theorem startUpTooHot {s : State} (hInv : s.Inv) (r : BitVec 16) (h2 : s.isOn 2 = true) (hDone : s.pwr.thermalDone = false)
    (hPhase : s.pwr.phase = .starting) (hHot : thermalShutdown ≤ toSigned 16 r.toNat) :
    ∃ t : State, exec (.startUpThermalReading r) s = .next t ∧
      t.pwr.phase = .crest ∧ t.pwr.on = 1 ∧ t.is F.PWR_WAKE_CAUSE_THERMAL = true ∧ t.requested = false ∧
      t.pwr.pendingShutdown = some (BitVec.ofInt 16 (clampInt (-960) 2800 (toSigned 16 r.toNat))) ∧ t.gatesOff := by
  obtain ⟨hTemp, hPwr⟩ := s.takeReading_facts r
  have hWf : SMap.wf (s.takeReading r).regs = true := ((State.Keeps.refl s).takeReading.inv hInv).regs
  refine ⟨_, (if_pos (by simp [h2, hDone, hPhase])).trans (if_pos hHot), ?_⟩
  generalize s.takeReading r = t at *
  obtain ⟨o, l, hCut⟩ := t.cutCommit_only
  rw [hCut]
  generalize hu : ((t.withVlt _).put F.PWR_WAKE_CAUSE_THERMAL 1) = u
  have hWord : u.is F.PWR_WAKE_CAUSE_THERMAL = true := by
    rw [← hu]
    exact State.is_put_same _ _ 1 rfl
  have hDie : u.dieTemp = dieHeld r := by
    rw [← hTemp, ← hu]
    exact State.getS_put_apart _ F.PWR_WAKE_CAUSE_THERMAL F.THM_DIE_TEMP 1 rfl rfl
  have hRegs : SMap.wf u.regs = true := by
    rw [← hu]
    exact SMap.wf_set _ _ _ hWf
  have hKept : ((u.withPwr { u.pwr with pendingShutdown := some (BitVec.ofInt 16 u.dieTemp) }).dropWake).toCrest.word R.PWR_WAKE_CAUSE =
      u.word R.PWR_WAKE_CAUSE := by
    rw [State.toCrest_word (s := (u.withPwr { u.pwr with pendingShutdown := some (BitVec.ofInt 16 u.dieTemp) }).dropWake) hRegs,
      if_neg (by decide)]
    rfl
  have hCrest := ((u.withPwr { u.pwr with pendingShutdown := some (BitVec.ofInt 16 u.dieTemp) }).dropWake).toCrest_pwr
  refine ⟨?_, ?_, ?_, ?_, ?_, State.toCrest_lost _ |>.1⟩
  · rw [hCrest]; rfl
  · rw [hCrest]; rfl
  · rw [State.is, State.get, hKept]
    exact hWord
  · rw [State.requested, hCrest]; rfl
  · rw [hCrest]
    exact congrArg (fun i => some (BitVec.ofInt 16 i)) hDie

theorem runningTooHot {s : State} (r : BitVec 16) (hCrest : s.pwr.vcrest = true) (hBusy : s.is F.THM_DIE_BUSY = true)
    (hDone : s.pwr.thermalDone = true) (hPhase : s.pwr.phase = .ready) (hHot : thermalShutdown ≤ toSigned 16 r.toNat) :
    ∃ u : State, exec (.onDieReading r) s = .next u.settle ∧
      u.pwr.phase = .stopping ∧ u.gatesOff ∧
      u.pwr.pendingShutdown = some (BitVec.ofInt 16 (clampInt (-960) 2800 (toSigned 16 r.toNat))) := by
  obtain ⟨hTemp, hPwr⟩ := s.takeReading_facts r
  have hStops : thermalShutdown ≤ (s.takeReading r).dieTemp := by
    rw [hTemp, dieHeld_hot]
    exact hHot
  have hReady : (s.takeReading r).pwr.phase = .ready := by rw [hPwr, hPhase]
  refine ⟨_, (if_neg (by simp [hCrest, hBusy])).trans ((if_neg (by simp [hDone])).trans
    ((if_neg (by simp [hReady])).trans (if_pos (by simp [hStops, hReady])))), ?_⟩
  generalize s.takeReading r = t at *
  rw [hTemp]
  delta State.thermalStop
  dsimp only
  generalize hv : (t.withPwr { t.pwr with phase := .stopping, pendingShutdown := some (BitVec.ofInt 16 (dieHeld r)) }).withCul _ = v
  obtain ⟨g, hClear, -⟩ := v.clearWake_only
  have hSame : v.clearWake.wardenStop.drive.pwr = v.clearWake.pwr :=
    (State.drive_within _).parts .pwr rfl |>.trans ((State.wardenStop_within _).parts .pwr rfl)
  have hShown : (v.clearWake.wardenStop.drive.withPins { v.clearWake.wardenStop.drive.pins with gates := 0 }).pwr = v.clearWake.pwr := hSame
  refine ⟨?_, rfl, ?_⟩
  · rw [hShown, hClear, ← hv]
    rfl
  · rw [hShown, hClear, ← hv]
    rfl

/-- Settles O15. -/
theorem readingsAndThermalShutdown : Obligations.ReadingsAndThermalShutdown :=
  ⟨fun _ hInv hCrest => ⟨thermalTimer hCrest, fun _ => thermalMeasured hInv hCrest, fun r => readingHeld r hCrest⟩,
    fun _ r hInv => ⟨fun h2 hDone hPhase => ⟨startUpTooHot hInv r h2 hDone hPhase, startUpReading r h2 hDone hPhase⟩, runningTooHot r⟩⟩

end Sys2Proof.Machine
end

section
/-! PROOF. The clock: locks, holdover, SYNC_IN and CLOCK_RELOCK (R91 to R97, R101, R474, Tables 3-6 and 3-7). -/
namespace Sys2Proof.Machine

/-! ## A lock declared -/

/-- R91: the clock's registers as lock is declared. -/
def State.lockRegs (s : State) (edge lane : BitVec 6) : State :=
  let s := s.put F.CLK_STATUS_BUSY 0
  let s := s.put F.CLK_STATUS_LOCKED 1
  let s := s.put F.CLK_STATUS_HOLDOVER 0
  let s := s.put F.CLK_STATUS_REF_LOST 0
  let s := s.put F.CLK_STATUS_GATED 0
  let s := s.put F.CLK_STATUS_ON_SAFE 0
  let s := s.put F.CLK_BAND_BAND_EDGE edge.toNat
  let s := s.put F.CLK_BAND_BAND_LANE lane.toNat
  let s := s.put F.CLK_BAND_VALID 1
  s.putS F.CLK_BAND_BAND_TEMP s.dieTemp

/-- R91, R92: the clock's registers and state as lock is declared. -/
def State.lockShown (s : State) (edge lane : BitVec 6) : State :=
  (s.lockRegs edge lane).withClk { (s.lockRegs edge lane).clk with
    attempt := .none, noLock := false, holdLong := false, everLocked := true, startWait := false }

theorem State.lockShown_get (s : State) (edge lane : BitVec 6) (f : Fld) : (s.lockShown edge lane).get f = (s.lockRegs edge lane).get f :=
  State.withClk_get _ _ f

set_option Elab.async false in
theorem State.lockShown_status (s : State) (edge lane : BitVec 6) :
    (s.lockShown edge lane).get F.CLK_STATUS_LOCKED = 1 ∧ (s.lockShown edge lane).get F.CLK_STATUS_BUSY = 0 ∧
    (s.lockShown edge lane).get F.CLK_STATUS_HOLDOVER = 0 ∧ (s.lockShown edge lane).get F.CLK_STATUS_GATED = 0 ∧
    (s.lockShown edge lane).get F.CLK_STATUS_ON_SAFE = 0 ∧ (s.lockShown edge lane).get F.CLK_STATUS_REF_LOST = 0 := by
  simp (disch := decide) only [State.lockShown_get, State.lockRegs, State.putS_eq, State.get_put_apart, State.get_put_same]
  decide

theorem State.lockShown_band (s : State) (edge lane : BitVec 6) :
    (s.lockShown edge lane).get F.CLK_BAND_BAND_EDGE = edge.toNat ∧ (s.lockShown edge lane).get F.CLK_BAND_BAND_LANE = lane.toNat ∧
    (s.lockShown edge lane).get F.CLK_BAND_VALID = 1 ∧ (s.lockShown edge lane).get F.CLK_BAND_BAND_TEMP = ofSigned 16 s.dieTemp := by
  have hSix : ∀ v : BitVec 6, v.toNat % 2 ^ 6 = v.toNat := fun v => Nat.mod_eq_of_lt v.isLt
  have hTemp : ofSigned 16 s.dieTemp % 2 ^ 16 = ofSigned 16 s.dieTemp := by
    rw [ofSigned]
    omega
  simp (disch := decide) only [State.lockShown_get, State.lockRegs, State.putS_eq, State.dieTemp, State.getS_put_apart, State.get_put_apart, State.get_put_same]
  exact ⟨hSix edge, hSix lane, by decide, hTemp⟩

theorem State.lockShown_counts (s : State) (edge lane : BitVec 6) :
    (s.lockShown edge lane).get F.CLK_LOCK_COUNT_FAST = s.get F.CLK_LOCK_COUNT_FAST ∧
    (s.lockShown edge lane).get F.CLK_LOCK_COUNT_FULL = s.get F.CLK_LOCK_COUNT_FULL := by
  simp (disch := decide) only [State.lockShown_get, State.lockRegs, State.putS_eq, State.get_put_apart, and_self]

theorem State.lockShown_frame (s : State) (edge lane : BitVec 6) :
    s.lockShown edge lane = { s with regs := (s.lockShown edge lane).regs, clk := (s.lockShown edge lane).clk } ∧
      s.sameWords (s.lockShown edge lane) [R.CLK_STATUS, R.CLK_BAND] := by
  refine ⟨rfl, fun a ha => ?_⟩
  simp only [List.mem_cons, List.not_mem_nil, or_false, not_or] at ha
  show (s.lockRegs edge lane).word a = s.word a
  simp only [State.lockRegs, State.putS_eq, State.word_put, ha, if_false]

/-- The count of its kind advanced. -/
def State.lockCounted (s : State) (edge lane : BitVec 6) : State :=
  if s.clk.attempt = .stored then (s.lockShown edge lane).bump F.CLK_LOCK_COUNT_FAST else (s.lockShown edge lane).bump F.CLK_LOCK_COUNT_FULL

theorem satInc_lt (v : Nat) : satInc 16 v % 2 ^ 16 = satInc 16 v := by
  rw [satInc]
  split <;> omega

theorem State.lockCounted_counts (s : State) (edge lane : BitVec 6) :
    (s.lockCounted edge lane).get F.CLK_LOCK_COUNT_FAST = (if s.clk.attempt = .stored then satInc 16 (s.get F.CLK_LOCK_COUNT_FAST)
      else s.get F.CLK_LOCK_COUNT_FAST) ∧
    (s.lockCounted edge lane).get F.CLK_LOCK_COUNT_FULL = (if s.clk.attempt = .stored then s.get F.CLK_LOCK_COUNT_FULL
      else satInc 16 (s.get F.CLK_LOCK_COUNT_FULL)) := by
  obtain ⟨hFast, hFull⟩ := s.lockShown_counts edge lane
  delta State.lockCounted State.bump
  split
  · rw [State.get_put_same _ _ _ rfl, State.get_put_apart _ _ _ _ rfl rfl, hFast, hFull]
    exact ⟨satInc_lt _, rfl⟩
  · rw [State.get_put_same _ _ _ rfl, State.get_put_apart _ _ _ _ rfl rfl, hFast, hFull]
    exact ⟨rfl, satInc_lt _⟩

/-- The lock counts apart, the registers are those of the lock. -/
theorem State.lockCounted_only (s : State) (edge lane : BitVec 6) : ∃ r, s.lockCounted edge lane = (s.lockShown edge lane).withRegs r ∧
    ∀ a, a ≠ R.CLK_LOCK_COUNT → (s.lockCounted edge lane).word a = (s.lockShown edge lane).word a := by
  delta State.lockCounted State.bump
  split
  · exact ⟨_, rfl, fun a ha => State.word_put_ne _ _ _ _ ha⟩
  · exact ⟨_, rfl, fun a ha => State.word_put_ne _ _ _ _ ha⟩

/-- R474: a start that waited in SERVICE goes on. -/
def State.resumes (s : State) : State :=
  if s.pwr.phase == .service && !s.servicePlan && !s.clk.restart then s.withPwr { s.pwr with phase := .starting } else s

theorem State.resumes_only (s : State) : ∃ p, s.resumes = s.withPwr { s.pwr with phase := p } := by
  delta State.resumes
  split
  · exact ⟨_, rfl⟩
  · exact ⟨s.pwr.phase, rfl⟩

/-- Table 3-7: a CLOCK_RELOCK goes on at its lock. -/
def State.relocked (s : State) : State :=
  match s.clk.relock with
  | none => s
  | some (n, plan) =>
    if plan = 1 then
      let s := s.put F.CLK_STATUS_PLAN 1
      let s := (s.withPwr { s.pwr with phase := if s.pwr.phase = Phase.stopping then Phase.stopping else Phase.service }).withClk
        { s.clk with relock := none }
      s.respond n .ok []
    else if s.pwr.calStarted && (s.servicePlan || s.polderMissing) then
      let s := s.put F.CLK_STATUS_PLAN 0
      let s := (s.withClk { s.clk with restart := true }).withPwr { s.pwr with calDone := false }
      s.demand [14, 15, 9, 10, 11, 12, 13, 7, 8]
    else ((s.put F.CLK_STATUS_PLAN 0).respond n .ok []).withClk { s.clk with relock := none }

/-- What a lock leads to, by the attempt that ends with it. -/
def State.lockEnds (s : State) (edge lane : BitVec 6) : Attempt → Ans
  | .none => .next s
  | .reengage => .next (s.lockShown edge lane).settle
  | .stored => .next ((((s.lockShown edge lane).bump F.CLK_LOCK_COUNT_FAST).relocked.resumes.portsInit 5).portsInit 6).settle
  | .full => .next ((((s.lockShown edge lane).bump F.CLK_LOCK_COUNT_FULL).relocked.resumes.portsInit 5).portsInit 6).settle

theorem exec_pllLockDeclared (s : State) (edge lane : BitVec 6) : exec (.pllLockDeclared edge lane) s = s.lockEnds edge lane s.clk.attempt := by
  show execPllLockDeclared edge lane s = _
  delta execPllLockDeclared
  generalize s.clk.attempt = a
  cases a <;> rfl

theorem exec_lock {s : State} (edge lane : BitVec 6) (hTry : s.clk.attempt = .stored ∨ s.clk.attempt = .full) :
    exec (.pllLockDeclared edge lane) s = .next (((s.lockCounted edge lane).relocked.resumes.portsInit 5).portsInit 6).settle := by
  rw [exec_pllLockDeclared, State.lockCounted]
  rcases hTry with h | h
  · rw [h, if_pos rfl]
    rfl
  · rw [h, if_neg (by decide)]
    rfl

theorem State.relocked_none {s : State} (h : s.clk.relock = none) : s.relocked = s := by
  rw [State.relocked, h]

/-! ## Directions that waited for their polder -/

/-- Requests of the ports' directions that are met: the Culvert's registers and ports, and the requests themselves. -/
structure State.Asks (s t : State) : Prop where
  culvert : s.InCulvert (t.withPwr s.pwr)
  pwr : ∃ tx rx, t.pwr = { s.pwr with laneTx := tx, laneRx := rx }

namespace State.Asks
variable {s t u : State}

theorem refl (s : State) : s.Asks s := ⟨.refl s, s.pwr.laneTx, s.pwr.laneRx, rfl⟩

theorem trans (h : s.Asks t) (h' : t.Asks u) : s.Asks u where
  culvert := h.culvert.trans (h'.culvert.withPwr s.pwr)
  pwr := by
    obtain ⟨_, _, ht⟩ := h.pwr
    obtain ⟨tx, rx, hu⟩ := h'.pwr
    exact ⟨tx, rx, by rw [hu, ht]⟩

theorem ite {c : Prop} [Decidable c] (ht : s.Asks t) (hu : s.Asks u) : s.Asks (if c then t else u) :=
  iteInduction (fun _ => ht) (fun _ => hu)

set_option Elab.async false in
theorem foldl {l : List Nat} {f : State → Nat → State} (hf : ∀ u : State, ∀ p ∈ l, u.Asks (f u p)) (s : State) : s.Asks (l.foldl f s) := by
  induction l generalizing s with
  | nil => exact .refl s
  | cons p l ih => exact (hf s p (.head l)).trans (ih (fun u q hq => hf u q (.tail p hq)) _)

end State.Asks

theorem State.askTx_asks (s : State) {p : Nat} (hp : p < 256) : s.Asks (s.askTx p) := by
  have hWake : s.InCulvert (s.wakeTx p) := .ite (.refl s) (((State.InCulvert.refl s).put (portStatus_block hp)).setCport).raiseInt
  delta State.askTx
  split
  · exact ⟨hWake.withPwr s.pwr, _, s.pwr.laneRx, rfl⟩
  · exact ⟨.refl s, _, s.pwr.laneRx, rfl⟩

theorem State.askRx_asks (s : State) {p : Nat} (hp : p < 256) : s.Asks (s.askRx p) := by
  delta State.askRx
  split
  · exact ⟨(s.wakeRx_inCulvert hp).withPwr s.pwr, s.pwr.laneTx, _, rfl⟩
  · exact ⟨.refl s, s.pwr.laneTx, _, rfl⟩

theorem State.portsInit_asks (s : State) (p : Nat) : s.Asks (s.portsInit p) := by
  refine State.Asks.foldl (fun u n hn => ?_) s
  have hLow : n < 256 := by
    have := List.mem_range.1 (List.mem_filter.1 hn).1
    omega
  have hTx : u.Asks (if u.pwr.laneTx.getLsbD n then u.askTx n else u) := .ite (u.askTx_asks hLow) (.refl u)
  exact hTx.trans (.ite (State.askRx_asks _ hLow) (.refl _))

/-- Without a request nothing is met. -/
theorem State.portsInit_none {s : State} (hTx : s.pwr.laneTx = 0) (hRx : s.pwr.laneRx = 0) (p : Nat) : s.portsInit p = s := by
  have hStep : ∀ n, (fun (s : State) n => if (if s.pwr.laneTx.getLsbD n then s.askTx n else s).pwr.laneRx.getLsbD n then
      (if s.pwr.laneTx.getLsbD n then s.askTx n else s).askRx n else (if s.pwr.laneTx.getLsbD n then s.askTx n else s)) s n = s := fun n => by
    simp [hTx, hRx]
  delta State.portsInit
  generalize (List.range 10).filter (fun n => portPolder n == p) = l
  induction l with
  | nil => rfl
  | cons n l ih =>
    rw [List.foldl_cons]
    exact (congrArg (fun t => l.foldl _ t) (hStep n)).trans ih

theorem State.Asks.only {s t : State} (h : s.Asks t) : ∃ r c i x tx rx,
    t = ((((s.withRegs r).withCul c).withInt i).withStr x).withPwr { s.pwr with laneTx := tx, laneRx := rx } := by
  obtain ⟨⟨⟨r, c, i, x, hFrame⟩, -⟩, tx, rx, hPwr⟩ := h
  refine ⟨r, c, i, x, tx, rx, ?_⟩
  rw [← hPwr]
  exact congrArg (·.withPwr t.pwr) hFrame

theorem State.Asks.word {s t : State} (h : s.Asks t) {a : Nat} (ha : a / 65536 ≠ 4) : t.word a = s.word a := h.culvert.words a ha

theorem State.Asks.get {s t : State} (h : s.Asks t) {f : Fld} (hf : f.addr / 65536 ≠ 4) : t.get f = s.get f := by
  rw [State.get, h.word hf]
  rfl

/-- The clock's registers as lock is declared, after its count. -/
theorem State.lockCounted_get (s : State) (edge lane : BitVec 6) {f : Fld} (hf : f.addr ≠ R.CLK_LOCK_COUNT) :
    (s.lockCounted edge lane).get f = (s.lockShown edge lane).get f := by
  obtain ⟨r, -, hWords⟩ := s.lockCounted_only edge lane
  rw [State.get, hWords _ hf]
  rfl

theorem State.lockShown_plan (s : State) (edge lane : BitVec 6) : (s.lockShown edge lane).get F.CLK_STATUS_PLAN = s.get F.CLK_STATUS_PLAN := by
  simp (disch := decide) only [State.lockShown_get, State.lockRegs, State.putS_eq, State.get_put_apart]

theorem State.lockCounted_servicePlan (s : State) (edge lane : BitVec 6) : (s.lockCounted edge lane).servicePlan = s.servicePlan := by
  have hPlan := (s.lockCounted_get edge lane (f := F.CLK_STATUS_PLAN) (by decide)).trans (s.lockShown_plan edge lane)
  obtain ⟨r, hOnly, -⟩ := s.lockCounted_only edge lane
  rw [State.servicePlan, hPlan, hOnly]
  rfl

/-- R91, R92, R474: what a lock leads to outside a relock. -/
theorem lockDeclared {s : State} (edge lane : BitVec 6) (hTry : s.clk.attempt = .stored ∨ s.clk.attempt = .full) (hRelock : s.clk.relock = none) :
    ∃ u : State, exec (.pllLockDeclared edge lane) s = .next u.settle ∧
      u.get F.CLK_STATUS_LOCKED = 1 ∧ u.get F.CLK_STATUS_BUSY = 0 ∧ u.get F.CLK_STATUS_HOLDOVER = 0 ∧
      u.get F.CLK_STATUS_GATED = 0 ∧ u.get F.CLK_STATUS_ON_SAFE = 0 ∧ u.get F.CLK_STATUS_REF_LOST = 0 ∧ u.get F.CLK_BAND_BAND_EDGE = edge.toNat ∧
      u.get F.CLK_BAND_BAND_LANE = lane.toNat ∧ u.get F.CLK_BAND_VALID = 1 ∧
      u.get F.CLK_BAND_BAND_TEMP = ofSigned 16 s.dieTemp ∧
      u.get F.CLK_LOCK_COUNT_FAST = (if s.clk.attempt = .stored then satInc 16 (s.get F.CLK_LOCK_COUNT_FAST)
        else s.get F.CLK_LOCK_COUNT_FAST) ∧
      u.get F.CLK_LOCK_COUNT_FULL = (if s.clk.attempt = .stored then s.get F.CLK_LOCK_COUNT_FULL
        else satInc 16 (s.get F.CLK_LOCK_COUNT_FULL)) ∧
      u.clk.attempt = .none ∧ u.clk.noLock = false ∧ u.clk.startWait = false ∧
      (s.pwr.phase = .service → s.servicePlan = false → s.clk.restart = false → u.pwr.phase = .starting) ∧
      u = { s with regs := u.regs, clk := u.clk, cul := u.cul, int := u.int, str := u.str, pwr := { s.pwr with
        phase := u.pwr.phase, laneTx := u.pwr.laneTx, laneRx := u.pwr.laneRx } } ∧
      (∀ a, a / 65536 ≠ 4 → a ∉ [R.CLK_STATUS, R.CLK_BAND, R.CLK_LOCK_COUNT] → u.word a = s.word a) ∧
      (s.pwr.laneTx = 0 → s.pwr.laneRx = 0 → s.pwr.reqLane = 0 → u.cul = s.cul ∧ u.int = s.int ∧ u.str = s.str ∧
        s.sameWords u [R.CLK_STATUS, R.CLK_BAND, R.CLK_LOCK_COUNT]) := by
  obtain ⟨r, hCounted, hCountWords⟩ := s.lockCounted_only edge lane
  have hNone : (s.lockCounted edge lane).clk.relock = none := by rw [hCounted]; exact hRelock
  refine ⟨_, exec_lock edge lane hTry, ?_⟩
  rw [State.relocked_none hNone]
  obtain ⟨hLocked, hBusy, hHold, hGated, hSafe, hLost⟩ := s.lockShown_status edge lane
  obtain ⟨hEdge, hLane, hValid, hTemp⟩ := s.lockShown_band edge lane
  obtain ⟨hFast, hFull⟩ := s.lockCounted_counts edge lane
  have hGet := fun f => s.lockCounted_get (f := f) edge lane
  have hPlan := s.lockCounted_servicePlan edge lane
  obtain ⟨hShown, hShownWords⟩ := s.lockShown_frame edge lane
  have hClk : (s.lockCounted edge lane).clk.attempt = .none ∧ (s.lockCounted edge lane).clk.noLock = false ∧
      (s.lockCounted edge lane).clk.startWait = false ∧ (s.lockCounted edge lane).clk.restart = s.clk.restart := by
    rw [hCounted]
    exact ⟨rfl, rfl, rfl, rfl⟩
  have hWords : ∀ a, a ∉ [R.CLK_STATUS, R.CLK_BAND, R.CLK_LOCK_COUNT] → (s.lockCounted edge lane).word a = s.word a := fun a ha => by
    simp only [List.mem_cons, List.not_mem_nil, or_false, not_or] at ha
    rw [hCountWords a ha.2.2, hShownWords a (by simp [ha])]
  have hParts : ∃ r c, s.lockCounted edge lane = (s.withRegs r).withClk c := ⟨_, _, hCounted.trans (congrArg (·.withRegs r) hShown)⟩
  generalize s.lockShown edge lane = v at *
  generalize s.lockCounted edge lane = w at *
  obtain ⟨g, k, hParts⟩ := hParts
  obtain ⟨hNoAttempt, hLockSeen, hNoWait, hRestart⟩ := hClk
  obtain ⟨p, hResumes⟩ := w.resumes_only
  have hPhase : s.pwr.phase = .service → s.servicePlan = false → s.clk.restart = false → w.resumes.pwr.phase = .starting := by
    intro h₁ h₂ h₃
    have hw : w.pwr.phase = .service := by rw [hParts]; exact h₁
    rw [State.resumes, if_pos (by simp [hw, hPlan, h₂, hRestart, h₃])]
    rfl
  have hAsks := (w.resumes.portsInit_asks 5).trans (State.portsInit_asks _ 6)
  have hQuiet : s.pwr.laneTx = 0 → s.pwr.laneRx = 0 → (w.resumes.portsInit 5).portsInit 6 = w.resumes := by
    intro h₁ h₂
    have hTx : w.resumes.pwr.laneTx = 0 := by rw [hResumes, hParts]; exact h₁
    have hRx : w.resumes.pwr.laneRx = 0 := by rw [hResumes, hParts]; exact h₂
    rw [State.portsInit_none hTx hRx, State.portsInit_none hTx hRx]
  have hResumesGet : ∀ f, w.resumes.get f = w.get f := fun f => by rw [hResumes]; rfl
  have hSeen : ∀ f : Fld, f.addr / 65536 ≠ 4 → ((w.resumes.portsInit 5).portsInit 6).get f = w.get f :=
    fun f hf => (hAsks.get hf).trans (hResumesGet f)
  have hResumesWord : ∀ a, w.resumes.word a = w.word a := fun a => by rw [hResumes]; rfl
  have hSeenWord : ∀ a, a / 65536 ≠ 4 → a ∉ [R.CLK_STATUS, R.CLK_BAND, R.CLK_LOCK_COUNT] →
      ((w.resumes.portsInit 5).portsInit 6).word a = s.word a := fun a h₁ h₂ => (hAsks.word h₁).trans ((hResumesWord a).trans (hWords a h₂))
  have hQuietParts : w.resumes.cul = s.cul ∧ w.resumes.int = s.int ∧ w.resumes.str = s.str := by
    rw [hResumes, hParts]
    exact ⟨rfl, rfl, rfl⟩
  obtain ⟨r', c', i', x', tx, rx, hOnly⟩ := hAsks.only
  have hAskedClk : ((w.resumes.portsInit 5).portsInit 6).clk = w.clk := by
    rw [hOnly, hResumes]
    rfl
  have hAskedPhase : ((w.resumes.portsInit 5).portsInit 6).pwr.phase = w.resumes.pwr.phase := by rw [hOnly]; rfl
  generalize (w.resumes.portsInit 5).portsInit 6 = u at *
  refine ⟨?_, ?_, ?_, ?_, ?_, ?_, ?_, ?_, ?_, ?_, ?_, ?_, ?_, ?_, ?_, ?_, ?_, hSeenWord, fun h₁ h₂ _ => ?_⟩
  · rw [hSeen _ (by decide), hGet _ (by decide), hLocked]
  · rw [hSeen _ (by decide), hGet _ (by decide), hBusy]
  · rw [hSeen _ (by decide), hGet _ (by decide), hHold]
  · rw [hSeen _ (by decide), hGet _ (by decide), hGated]
  · rw [hSeen _ (by decide), hGet _ (by decide), hSafe]
  · rw [hSeen _ (by decide), hGet _ (by decide), hLost]
  · rw [hSeen _ (by decide), hGet _ (by decide), hEdge]
  · rw [hSeen _ (by decide), hGet _ (by decide), hLane]
  · rw [hSeen _ (by decide), hGet _ (by decide), hValid]
  · rw [hSeen _ (by decide), hGet _ (by decide), hTemp]
  · rw [hSeen _ (by decide), hFast]
  · rw [hSeen _ (by decide), hFull]
  · rw [hAskedClk, hNoAttempt]
  · rw [hAskedClk, hLockSeen]
  · rw [hAskedClk, hNoWait]
  · exact fun h₁ h₂ h₃ => hAskedPhase.trans (hPhase h₁ h₂ h₃)
  · rw [hOnly, hResumes, hParts]
    rfl
  · rw [hQuiet h₁ h₂]
    exact ⟨hQuietParts.1, hQuietParts.2.1, hQuietParts.2.2, fun a ha => (hResumesWord a).trans (hWords a ha)⟩

/-! ## Failed searches and retries -/

/-- R92: a full search ended without lock. -/
def State.noLockShown (s : State) : State :=
  (((s.put F.CLK_STATUS_BUSY 0).put F.CLK_STATUS_LOCKED 0).withClk { s.clk with attempt := .none, noLock := true })

/-- R474: a failed start waits in SERVICE. -/
def State.startWaits (s : State) (waits : Bool) : State :=
  if waits then (s.withPwr { s.pwr with phase := .service }).withClk { s.clk with retry := true, startWait := true } else s

/-- R474: the failed attempt is one of start-up. -/
def State.failsStart (s : State) : Bool :=
  s.pwr.phase == .starting || (s.pwr.phase == .service && (s.clk.startWait || (s.get F.CLK_STATUS_PLAN == 0 && !s.pwr.calStarted)))

/-- Table 3-6: a CLOCK_RELOCK that found no lock. -/
def State.relockFails (s : State) : State :=
  match s.clk.relock with
  | some r => (s.respond r.1 .timeout []).withClk { s.clk with relock := none }
  | none => s

theorem State.noLockShown_get (s : State) : s.noLockShown.get F.CLK_STATUS_BUSY = 0 ∧ s.noLockShown.get F.CLK_STATUS_LOCKED = 0 ∧
    s.noLockShown.get F.CLK_STATUS_PLAN = s.get F.CLK_STATUS_PLAN := by
  simp (disch := decide) only [State.noLockShown, State.withClk_get, State.get_put_apart, State.get_put_same]
  decide

theorem State.noLockShown_sameBits (s : State) : s.sameBits s.noLockShown [F.CLK_STATUS_BUSY, F.CLK_STATUS_LOCKED] :=
  ((s.sameBits_refl _).put.put).of_regs rfl

set_option Elab.async false in
theorem exec_pllNoLock {s : State} (h : s.clk.attempt = .full) :
    exec .pllNoLock s = .next (s.noLockShown.relockFails.startWaits s.noLockShown.failsStart).settle := if_pos h

theorem noLockFound {s : State} (h : s.clk.attempt = .full) (hRelock : s.clk.relock = none) :
    ∃ u : State, exec .pllNoLock s = .next u.settle ∧
      u.get F.CLK_STATUS_BUSY = 0 ∧ u.get F.CLK_STATUS_LOCKED = 0 ∧ u.clk.attempt = .none ∧ u.clk.noLock = true ∧
      (s.pwr.phase = .starting ∨ (s.pwr.phase = .service ∧
          (s.clk.startWait = true ∨ (s.get F.CLK_STATUS_PLAN = 0 ∧ s.pwr.calStarted = false))) →
        u.pwr.phase = .service ∧ u.clk.retry = true ∧ u.clk.startWait = true) ∧
      u = { s with regs := u.regs, clk := u.clk, pwr := { s.pwr with phase := u.pwr.phase } } ∧
      s.sameBits u [F.CLK_STATUS_BUSY, F.CLK_STATUS_LOCKED] := by
  refine ⟨_, exec_pllNoLock h, ?_⟩
  obtain ⟨hBusy, hLocked, hPlan⟩ := s.noLockShown_get
  have hFails : s.noLockShown.relockFails = s.noLockShown := by
    rw [State.relockFails, show s.noLockShown.clk.relock = none from hRelock]
  rw [hFails]
  have hWaits : (s.pwr.phase = .starting ∨ (s.pwr.phase = .service ∧
      (s.clk.startWait = true ∨ (s.get F.CLK_STATUS_PLAN = 0 ∧ s.pwr.calStarted = false)))) → s.noLockShown.failsStart = true := by
    rw [State.failsStart, hPlan]
    rintro (hp | ⟨hp, hw | ⟨hPlan', hCal⟩⟩)
    · simp [show s.noLockShown.pwr.phase = .starting from hp]
    · simp [show s.noLockShown.pwr.phase = .service from hp, show s.noLockShown.clk.startWait = true from hw]
    · simp [show s.noLockShown.pwr.phase = .service from hp, hPlan', show s.noLockShown.pwr.calStarted = false from hCal]
  cases hf : s.noLockShown.failsStart
  · exact ⟨hBusy, hLocked, rfl, rfl, fun hw => absurd ((hWaits hw).symm.trans hf) (by decide), rfl, s.noLockShown_sameBits⟩
  · exact ⟨hBusy, hLocked, rfl, rfl, fun _ => ⟨rfl, rfl, rfl⟩, rfl, s.noLockShown_sameBits⟩

theorem State.awaitP0_shows (s : State) (full : Bool) :
    (s.awaitP0 full).get F.CLK_STATUS_SOURCE = 3 ∧ (s.awaitP0 full).is F.CLK_STATUS_REF_LOST = true := by
  constructor
  · rw [State.awaitP0, State.withClk_get, State.get_put_apart _ _ _ _ rfl rfl, State.get_put_same _ _ _ rfl]
    rfl
  · rw [State.awaitP0, State.withClk_is, State.is_put_same _ _ _ rfl]
    rfl

theorem lockRetries {s : State} (hRetry : s.clk.retry = true) (hIdle : s.clk.attempt = .none) (clock : Bool) :
    ∃ t : State, exec (.lockRetry clock) s = .next t ∧
      ((s.isStation = true ∨ clock = true) → t.clk.attempt = .full ∧ t.get F.CLK_STATUS_BUSY = 1) ∧
      (s.isStation = false → clock = false → t.clk.waitP0 = true ∧ t.clk.full = true ∧ t.get F.CLK_STATUS_SOURCE = 3 ∧
        t.is F.CLK_STATUS_REF_LOST = true) ∧
      t.clk.retry = false ∧ t = { s with regs := t.regs, clk := t.clk } ∧
      s.sameBits t [F.CLK_STATUS_BUSY, F.CLK_STATUS_HOLDOVER, F.CLK_STATUS_LOCKED, F.CLK_STATUS_SOURCE, F.CLK_STATUS_REF_LOST] := by
  have hMay : (s.clk.retry && s.clk.attempt = .none) = true := by simp [hRetry, hIdle]
  by_cases hClock : s.isStation = true ∨ clock = true
  · refine ⟨s.beginLock true, (if_pos hMay).trans (if_pos (by simpa using hClock)), fun _ => ⟨rfl, s.beginLock_busy true⟩, fun h₁ h₂ => ?_, rfl, rfl,
      (((((s.sameBits_refl _).of_regs rfl).put).put).put).put⟩
    rcases hClock with h | h
    · exact nomatch h₁.symm.trans h
    · exact nomatch h₂.symm.trans h
  · exact ⟨s.awaitP0 true, (if_pos hMay).trans (if_neg (by simpa using hClock)), fun h => absurd h hClock,
      fun _ _ => ⟨rfl, rfl, (s.awaitP0_shows true).1, (s.awaitP0_shows true).2⟩, rfl, rfl, (((s.sameBits_refl _).put).put).of_regs rfl⟩

/-! ## Holdover (R93 to R95) and SYNC_IN (R101) -/

/-- A new alignment state: its field, and its interrupt. -/
theorem State.setAlign_only (s : State) (v : Nat) : (∃ r i x, s.setAlign v = ((s.withRegs r).withInt i).withStr x) ∧
    (∀ f : Fld, f.fits = true → F.CUL_ALIGN_STATE.apart f = true → (s.setAlign v).get f = s.get f) ∧
    ∀ {t : State} {l : List Fld}, t.sameBits s l → F.CUL_ALIGN_STATE ∈ l → t.sameBits (s.setAlign v) l := by
  delta State.setAlign
  split
  · exact ⟨⟨s.regs, s.int, s.str, rfl⟩, fun _ _ _ => rfl, fun h _ => h⟩
  · obtain ⟨i, x, h⟩ := (s.put F.CUL_ALIGN_STATE v).raiseInt_only 16
    refine ⟨⟨_, i, x, h⟩, fun f hf hApart => ?_, fun h hl => (h.put hl).raiseInt⟩
    rw [State.raiseInt_get, State.get_put_apart _ _ _ _ hf hApart]

/-- An operation that sets the alignment state or does nothing. -/
structure State.Aligns (s t : State) : Prop where
  only : ∃ r i x, t = ((s.withRegs r).withInt i).withStr x
  get : ∀ f : Fld, f.fits = true → F.CUL_ALIGN_STATE.apart f = true → t.get f = s.get f
  bits : ∀ {r : State} {l : List Fld}, r.sameBits s l → F.CUL_ALIGN_STATE ∈ l → r.sameBits t l

theorem State.aligns_ite (s : State) (v : Nat) (c : Prop) [Decidable c] : s.Aligns (if c then s.setAlign v else s) := by
  split
  · exact ⟨(s.setAlign_only v).1, (s.setAlign_only v).2.1, (s.setAlign_only v).2.2⟩
  · exact ⟨⟨s.regs, s.int, s.str, rfl⟩, fun _ _ _ => rfl, fun h _ => h⟩

theorem State.alignHoldover_aligns (s : State) : s.Aligns s.alignHoldover := s.aligns_ite 3 _

theorem State.alignReengaged_aligns (s : State) : s.Aligns s.alignReengaged := s.aligns_ite 2 _

theorem State.Aligns.is {s t : State} (h : s.Aligns t) {f : Fld} (hf : f.fits = true) (hApart : F.CUL_ALIGN_STATE.apart f = true) : t.is f = s.is f := by
  rw [State.is, h.get f hf hApart]
  rfl

theorem holdoverEnters {s : State} (lost : Bool) (h4 : s.isOn 4 = true) (hLocked : s.is F.CLK_STATUS_LOCKED = true) (hIdle : s.clk.attempt = .none) :
    ∃ u : State, exec (.pllHoldoverEntry lost) s = .next u.settle ∧ u.get F.CLK_STATUS_HOLDOVER = 1 ∧
      u.get F.CLK_STATUS_LOCKED = 0 ∧ u.is F.CLK_STATUS_REF_LOST = lost ∧
      u.get F.CLK_HOLD_COUNT_COUNT = satInc 16 (s.get F.CLK_HOLD_COUNT_COUNT) ∧
      u = { s with regs := u.regs, int := u.int, str := u.str } ∧
      s.sameBits u [F.CLK_STATUS_HOLDOVER, F.CLK_STATUS_LOCKED, F.CLK_STATUS_REF_LOST, F.CLK_HOLD_COUNT_COUNT,
        F.CUL_ALIGN_STATE] := by
  have hMay : (s.isOn 4 && s.is F.CLK_STATUS_LOCKED && s.clk.attempt = .none) = true := by simp [h4, hLocked, hIdle]
  refine ⟨s.holdover lost, if_pos hMay, ?_⟩
  rw [State.holdover, if_pos hMay]
  dsimp only
  have hBits : s.sameBits ((((s.put F.CLK_STATUS_HOLDOVER 1).put F.CLK_STATUS_LOCKED 0).flag F.CLK_STATUS_REF_LOST lost).bump F.CLK_HOLD_COUNT_COUNT)
      [F.CLK_STATUS_HOLDOVER, F.CLK_STATUS_LOCKED, F.CLK_STATUS_REF_LOST, F.CLK_HOLD_COUNT_COUNT, F.CUL_ALIGN_STATE] :=
    ((((s.sameBits_refl _).put).put).flag).bump
  generalize ht : (((s.put F.CLK_STATUS_HOLDOVER 1).put F.CLK_STATUS_LOCKED 0).flag F.CLK_STATUS_REF_LOST lost).bump F.CLK_HOLD_COUNT_COUNT = t at hBits ⊢
  have hShows : t.get F.CLK_STATUS_HOLDOVER = 1 ∧ t.get F.CLK_STATUS_LOCKED = 0 ∧ t.is F.CLK_STATUS_REF_LOST = lost ∧
      t.get F.CLK_HOLD_COUNT_COUNT = satInc 16 (s.get F.CLK_HOLD_COUNT_COUNT) := by
    rw [← ht]
    simp (disch := decide) only [State.bump, State.flag_eq, State.get_put_apart, State.is_put_apart, State.get_put_same, State.is_put_same]
    refine ⟨by decide, by decide, ?_, satInc_lt _⟩
    cases lost <;> rfl
  obtain ⟨hHold, hUnlocked, hLost, hCount⟩ := hShows
  have hAligns := t.alignHoldover_aligns
  obtain ⟨r, i, x, hOnly⟩ := hAligns.only
  refine ⟨?_, ?_, ?_, ?_, ?_, hAligns.bits hBits (by simp)⟩
  · rw [hAligns.get _ rfl rfl, hHold]
  · rw [hAligns.get _ rfl rfl, hUnlocked]
  · rw [hAligns.is rfl rfl, hLost]
  · rw [hAligns.get _ rfl rfl, hCount]
  · rw [hOnly, ← ht]
    rfl

theorem pllReengages {s : State} (hHold : s.is F.CLK_STATUS_HOLDOVER = true) (hStay : s.clk.stay = false) (hIdle : s.clk.attempt = .none) :
    ∃ t : State, exec .pllReengage s = .next t.settle ∧ t.get F.CLK_STATUS_BUSY = 1 ∧ t.get F.CLK_STATUS_REF_LOST = 0 ∧
      t.get F.CLK_STATUS_SOURCE = s.referenceSource % 4 ∧ t.is F.CLK_STATUS_HOLDOVER = true ∧
      t = { s with regs := t.regs, int := t.int, str := t.str, clk := { s.clk with attempt := .reengage } } ∧
      s.sameBits t [F.CLK_STATUS_BUSY, F.CLK_STATUS_REF_LOST, F.CLK_STATUS_SOURCE, F.CUL_ALIGN_STATE] := by
  refine ⟨_, if_pos (by simp [hHold, hStay, hIdle]), ?_⟩
  have hBits : s.sameBits (((s.put F.CLK_STATUS_BUSY 1).put F.CLK_STATUS_REF_LOST 0).put F.CLK_STATUS_SOURCE
      ((s.put F.CLK_STATUS_BUSY 1).put F.CLK_STATUS_REF_LOST 0).referenceSource)
      [F.CLK_STATUS_BUSY, F.CLK_STATUS_REF_LOST, F.CLK_STATUS_SOURCE, F.CUL_ALIGN_STATE] := (((s.sameBits_refl _).put).put).put
  generalize ht : ((s.put F.CLK_STATUS_BUSY 1).put F.CLK_STATUS_REF_LOST 0).put F.CLK_STATUS_SOURCE _ = t at hBits ⊢
  have hShows : t.get F.CLK_STATUS_BUSY = 1 ∧ t.get F.CLK_STATUS_REF_LOST = 0 ∧ t.get F.CLK_STATUS_SOURCE = s.referenceSource % 4 ∧
      t.is F.CLK_STATUS_HOLDOVER = true := by
    rw [← ht]
    simp (disch := decide) only [State.get_put_apart, State.is_put_apart, State.get_put_same, hHold]
    exact ⟨by decide, by decide, rfl, trivial⟩
  obtain ⟨hBusy, hLost, hSource, hHeld⟩ := hShows
  have hAligns := t.alignReengaged_aligns
  obtain ⟨r, i, x, hOnly⟩ := hAligns.only
  refine ⟨?_, ?_, ?_, ?_, ?_, (hAligns.bits hBits (by simp)).of_regs rfl⟩
  · exact (hAligns.get _ rfl rfl).trans hBusy
  · exact (hAligns.get _ rfl rfl).trans hLost
  · exact (hAligns.get _ rfl rfl).trans hSource
  · exact (hAligns.is rfl rfl).trans hHeld
  · rw [hOnly, ← ht]
    rfl

theorem reengageLocks {s : State} (edge lane : BitVec 6) (h : s.clk.attempt = .reengage) :
    ∃ u : State, exec (.pllLockDeclared edge lane) s = .next u.settle ∧
      u.is F.CLK_STATUS_HOLDOVER = false ∧ u.get F.CLK_STATUS_LOCKED = 1 ∧ u.get F.CLK_STATUS_BUSY = 0 ∧
      u.get F.CLK_BAND_BAND_EDGE = edge.toNat ∧ u.get F.CLK_BAND_BAND_LANE = lane.toNat ∧ u.clk.attempt = .none ∧
      u = { s with regs := u.regs, clk := u.clk } ∧ s.sameWords u [R.CLK_STATUS, R.CLK_BAND] := by
  obtain ⟨hLocked, hBusy, hHold, -, -, -⟩ := s.lockShown_status edge lane
  obtain ⟨hEdge, hLane, -, -⟩ := s.lockShown_band edge lane
  obtain ⟨hOnly, hWords⟩ := s.lockShown_frame edge lane
  refine ⟨s.lockShown edge lane, ?_, ?_, hLocked, hBusy, hEdge, hLane, rfl, hOnly, hWords⟩
  · rw [exec_pllLockDeclared, h]
    rfl
  · rw [State.is, hHold]
    rfl

theorem reengagementFails {s : State} (h : s.clk.attempt = .reengage) :
    ∃ u : State, exec .reengagementFailed s = .next (u.fault 4).settle ∧
      u.get F.CLK_STATUS_BUSY = 0 ∧
      u = { s with regs := u.regs, int := u.int, str := u.str, clk := { s.clk with attempt := .none, stay := true } } ∧
      s.sameBits u [F.CLK_STATUS_BUSY, F.CUL_ALIGN_STATE] := by
  refine ⟨_, if_pos h, ?_⟩
  generalize ht : (s.put F.CLK_STATUS_BUSY 0).withClk _ = t
  have hBits : s.sameBits t [F.CLK_STATUS_BUSY, F.CUL_ALIGN_STATE] := by
    rw [← ht]
    exact ((s.sameBits_refl _).put).of_regs rfl
  have hBusy : t.get F.CLK_STATUS_BUSY = 0 := by
    rw [← ht]
    exact s.get_put_same F.CLK_STATUS_BUSY 0 rfl
  have hAligns := t.alignHoldover_aligns
  obtain ⟨r, i, x, hOnly⟩ := hAligns.only
  refine ⟨(hAligns.get _ rfl rfl).trans hBusy, ?_, hAligns.bits hBits (by simp)⟩
  rw [hOnly, ← ht]
  rfl

theorem holdoverLong {s : State} (h : s.is F.CLK_STATUS_HOLDOVER = true) :
    ∃ u : State, exec .holdoverTooLong s = .next u.settle ∧
      u.get F.CLK_STATUS_HOLD_LONG = 1 ∧ u = { s with regs := u.regs, clk := { s.clk with holdLong := true } } ∧
      s.sameBits u [F.CLK_STATUS_HOLD_LONG] :=
  ⟨_, if_pos h, s.get_put_same F.CLK_STATUS_HOLD_LONG 1 rfl, rfl, ((s.sameBits_refl _).put).of_regs rfl⟩

set_option Elab.async false in
theorem syncEdge {s : State} (falling : Bool) (phase : BitVec 7) (hStation : s.isStation = true) (h4 : s.isOn 4 = true)
    (hEn : s.cfIs F.CLK_CONFIG_CLK_SYNC_EN = true) (hEdge : s.cfIs F.CLK_CONFIG_CLK_SYNC_EDGE = falling) :
    (s.is F.CLK_STATUS_GATED = true ∨ s.clk.everLocked = false →
      exec (.syncInEdge falling phase) s = .next { s with clk := { s.clk with anchored := true } }) ∧
    (s.is F.CLK_STATUS_GATED = false → s.clk.everLocked = true → ∃ t : State, exec (.syncInEdge falling phase) s = .next t ∧
      t.get F.CLK_SYNC_PHASE_PHASE = phase.toNat ∧ t.get F.CLK_STATUS_SYNC_SEEN = 1 ∧
      s.onlyFields t [F.CLK_SYNC_PHASE_PHASE, F.CLK_STATUS_SYNC_SEEN]) := by
  have hMay : (s.isStation && s.isOn 4 && s.cfIs F.CLK_CONFIG_CLK_SYNC_EN && s.cfIs F.CLK_CONFIG_CLK_SYNC_EDGE == falling) = true := by
    simp [hStation, h4, hEn, hEdge]
  refine ⟨fun h => (if_pos hMay).trans (if_pos ?_), fun hGated hLocked =>
    ⟨_, (if_pos hMay).trans (if_neg (by simp [hGated, hLocked])), ?_, State.get_put_same _ _ 1 rfl, rfl, ((s.sameBits_refl _).put).put⟩⟩
  · rcases h with h | h <;> simp [h]
  · rw [State.get_put_apart _ _ _ _ rfl rfl, State.get_put_same _ _ _ rfl]
    exact Nat.mod_eq_of_lt phase.isLt

theorem syncEdge_elsewhere {s : State} (falling : Bool) (phase : BitVec 7) (h : s.isStation = false) : exec (.syncInEdge falling phase) s = .next s :=
  if_neg (by simp [h])

/-! ## CLOCK_RELOCK (R96, R97, Tables 3-6 and 3-7) -/

/-- Table 3-6: arguments that CLOCK_RELOCK does not have. -/
theorem relockBadArg {s : State} {n : Nat} (h : s.takes n 0x28 = true) (hBad : (s.mb n).arg 0 1 % 4 ≥ 2 ∨ (s.mb n).arg 0 1 / 8 ≠ 0) :
    exec (.clockRelock n) s = .next (s.respond n .badArg []) := by
  refine (if_pos h).trans (if_pos ?_)
  rcases hBad with hBad | hBad <;> simp [hBad]

/-- Table 3-7: the domains on the safe clock with gated outputs. -/
def State.relockShown (s : State) (n plan : Nat) : State :=
  ((((s.put F.CLK_STATUS_GATED 1).put F.CLK_STATUS_ON_SAFE 1).put F.CLK_STATUS_TIMEBASE_DEGRADED 1).put F.CLK_STATUS_BUSY 1).withClk
    { s.clk with relock := some (n, plan), anchored := false }

/-- The lock attempt of a relock, which waits for the P0 clock where the device does. -/
def State.relockTries (s : State) (full : Bool) : State := if s.clk.waitP0 then s.awaitP0 full else s.beginLock full

/-- R88: the polders that the service plan keeps off. -/
def State.replans (s : State) (plan : Nat) : State := if plan = 1 && !s.servicePlan then s.toService else s

theorem exec_clockRelock {s : State} {n : Nat} (h : s.takes n 0x28 = true) (hZero : (s.mb n).arg 1 3 = 0) (hPlan : (s.mb n).arg 0 1 % 4 < 2)
    (hHigh : (s.mb n).arg 0 1 / 8 = 0) : exec (.clockRelock n) s =
      if (s.mb n).arg 0 1 % 4 = 1 && !s.isStation then .next (s.respond n .notInRole [])
      else if s.clk.attempt != .none || s.held &&& resClock != 0 then .next (s.respond n .busy [])
      else if s.anyTxAwake || !s.pulseBlocked then .next (s.respond n .refusedState [])
      else .next (((((s.runOn n resClock).replans ((s.mb n).arg 0 1 % 4)).relockShown n ((s.mb n).arg 0 1 % 4)).relockTries
        (natBit ((s.mb n).arg 0 1) 2)).settle) := by
  refine (if_pos h).trans (if_neg ?_)
  have hNot : ¬ (s.mb n).arg 0 1 % 4 ≥ 2 := by omega
  simp [hNot, hHigh, hZero]

theorem exec_relock {s : State} {n : Nat} (h : s.takes n 0x28 = true) (hZero : (s.mb n).arg 1 3 = 0) (hPlan : (s.mb n).arg 0 1 % 4 < 2)
    (hHigh : (s.mb n).arg 0 1 / 8 = 0) (hRole : (s.mb n).arg 0 1 % 4 = 1 → s.isStation = true) (hIdle : s.clk.attempt = .none)
    (hFree : s.held &&& resClock = 0) (hTx : s.anyTxAwake = false) (hBlocked : s.pulseBlocked = true) :
    exec (.clockRelock n) s = .next (((((s.runOn n resClock).replans ((s.mb n).arg 0 1 % 4)).relockShown n ((s.mb n).arg 0 1 % 4)).relockTries
        (natBit ((s.mb n).arg 0 1) 2)).settle) := by
  rw [exec_clockRelock h hZero hPlan hHigh, if_neg, if_neg, if_neg]
  · simp [hTx, hBlocked]
  · simp [hIdle, hFree]
  · simpa using hRole

theorem State.relockShown_get (s : State) (n plan : Nat) :
    (s.relockShown n plan).get F.CLK_STATUS_GATED = 1 ∧ (s.relockShown n plan).get F.CLK_STATUS_ON_SAFE = 1 ∧
    (s.relockShown n plan).get F.CLK_STATUS_TIMEBASE_DEGRADED = 1 ∧ (s.relockShown n plan).get F.CLK_STATUS_BUSY = 1 := by
  simp (disch := decide) only [State.relockShown, State.withClk_get, State.get_put_apart, State.get_put_same]
  decide

theorem State.relockTries_get (s : State) (full : Bool) :
    (s.relockTries full).get F.CLK_STATUS_GATED = s.get F.CLK_STATUS_GATED ∧ (s.relockTries full).get F.CLK_STATUS_ON_SAFE = s.get F.CLK_STATUS_ON_SAFE ∧
    (s.relockTries full).get F.CLK_STATUS_TIMEBASE_DEGRADED = s.get F.CLK_STATUS_TIMEBASE_DEGRADED ∧
    (s.get F.CLK_STATUS_BUSY = 1 → (s.relockTries full).get F.CLK_STATUS_BUSY = 1) ∧ (s.relockTries full).clk.relock = s.clk.relock := by
  delta State.relockTries
  split
  · simp (disch := decide) only [State.awaitP0, State.withClk_get, State.get_put_apart, State.withClk_clk, true_and]
    exact ⟨id, trivial⟩
  · obtain ⟨c, r, h, hc⟩ := s.beginLock_only full
    refine ⟨?_, ?_, ?_, fun _ => s.beginLock_busy full, ?_⟩
    · simp (disch := decide) only [h, State.withClk_get, State.get_put_apart]
    · simp (disch := decide) only [h, State.withClk_get, State.get_put_apart]
    · simp (disch := decide) only [h, State.withClk_get, State.get_put_apart]
    · rw [h, hc]
      rfl

theorem relockWords (s : State) (n plan : Nat) (full : Bool) : s.sameWords ((s.relockShown n plan).relockTries full) [R.CLK_STATUS] := by
  intro a ha
  have hne : a ≠ R.CLK_STATUS := fun h => ha (h ▸ .head _)
  have hShown : (s.relockShown n plan).word a = s.word a := by
    simp only [State.relockShown, State.withClk_word, State.word_put, hne, if_false]
  rw [← hShown, State.relockTries]
  split
  · simp only [State.awaitP0, State.withClk_word, State.word_put, hne, if_false]
  · obtain ⟨c, r, h, -⟩ := (s.relockShown n plan).beginLock_only full
    simp only [h, State.withClk_word, State.word_put, hne, if_false]

/-- The command runs on, whatever the attempt shows. -/
theorem relockRuns {s : State} (hInv : s.Inv) {n : Nat} (h : s.takes n 0x28 = true) (plan : Nat) (full : Bool) :
    ((((s.runOn n resClock)).relockShown n plan).relockTries full).runs n 0x28 = true ∧
      ((((s.runOn n resClock)).relockShown n plan).relockTries full).held &&& resClock ≠ 0 := by
  have hRve : ((((s.runOn n resClock)).relockShown n plan).relockTries full).rve = (s.runOn n resClock).rve ∧
      ((((s.runOn n resClock)).relockShown n plan).relockTries full).pwr = (s.runOn n resClock).pwr := by
    rw [State.relockTries]
    split <;> exact ⟨rfl, rfl⟩
  have hWords := relockWords (s.runOn n resClock) n plan full
  generalize ((s.runOn n resClock).relockShown n plan).relockTries full = u at hRve hWords ⊢
  obtain ⟨hRve, hPwr⟩ := hRve
  have hLen := State.takes_lt hInv h
  constructor
  · refine (State.runs_congr (s := s.runOn n resClock) ?_ (congrArg ReeveSt.mb hRve) (fun k hk => ?_) n 0x28).trans (State.runOn_runs hInv h _)
    · rw [State.isOn, hPwr]
      rfl
    · have hWord : u.word (R.RVE_Mn_STATE k) = (s.runOn n resClock).word (R.RVE_Mn_STATE k) := by
        refine hWords _ ?_
        simp only [List.mem_singleton]
        show ¬ 0x020084 + 0x100 * k = 0x010100
        omega
      exact congrArg (bitsOf · 0 2) hWord
  · intro hNone
    have hSelf : u.mb n = { s.mb n with running := true, held := resClock } :=
      (State.mb_congr (congrArg ReeveSt.mb hRve) n).trans (State.runOn_mb hLen _)
    have hBit : u.held.getLsbD 1 = true := by
      refine State.held_of_mb (n := n) ?_ ?_
      · rw [hRve]
        show n < (s.rve.mb.set n _).length
        rw [List.length_set]
        exact hLen
      · rw [hSelf]
        exact (by decide : resClock.getLsbD 1 = true)
    have hZero := congrArg (BitVec.getLsbD · 1) hNone
    rw [BitVec.getLsbD_and, hBit] at hZero
    exact absurd hZero (by decide)

theorem relock_args (full : Bool) : b2n full * 4 % 4 = 0 ∧ b2n full * 4 / 8 = 0 ∧ natBit (b2n full * 4) 2 = full := by
  cases full <;> decide

/-- Table 3-6: the statuses of a relock to the run plan. -/
theorem relockRefused {s : State} {n : Nat} (h : s.takes n 0x28 = true) (hZero : (s.mb n).arg 1 3 = 0) {full : Bool}
    (hArg : (s.mb n).arg 0 1 = b2n full * 4) :
    (s.clk.attempt ≠ .none ∨ s.held &&& resClock ≠ 0 → exec (.clockRelock n) s = .next (s.respond n .busy [])) ∧
    (s.clk.attempt = .none → s.held &&& resClock = 0 → s.anyTxAwake = true ∨ s.pulseBlocked = false →
      exec (.clockRelock n) s = .next (s.respond n .refusedState [])) := by
  obtain ⟨hPlan, hHigh, -⟩ := relock_args full
  rw [← hArg] at hPlan hHigh
  have hRun : ¬ ((s.mb n).arg 0 1 % 4 = 1 && !s.isStation) = true := by simp [hPlan]
  have hExec := exec_clockRelock h hZero (by omega) hHigh
  rw [if_neg hRun] at hExec
  refine ⟨fun hBusy => hExec.trans (if_pos (by rw [Bool.or_eq_true, bne_iff_ne, bne_iff_ne]; exact hBusy)), fun hIdle hFree hNot => hExec.trans ((if_neg (by simp [hIdle, hFree])).trans (if_pos ?_))⟩
  rcases hNot with hNot | hNot <;> simp [hNot]

theorem relockAccepted {s : State} (hInv : s.Inv) {n : Nat} (h : s.takes n 0x28 = true) (hZero : (s.mb n).arg 1 3 = 0) {full : Bool}
    (hArg : (s.mb n).arg 0 1 = b2n full * 4) (hIdle : s.clk.attempt = .none) (hFree : s.held &&& resClock = 0) (hTx : s.anyTxAwake = false)
    (hBlocked : s.pulseBlocked = true) :
    (s.clk.waitP0 = true →
      ∃ u : State, exec (.clockRelock n) s = .next u.settle ∧ u.get F.CLK_STATUS_GATED = 1 ∧ u.get F.CLK_STATUS_ON_SAFE = 1 ∧
        u.get F.CLK_STATUS_BUSY = 1 ∧ u.clk.relock = some (n, 0) ∧ u.clk.waitP0 = true ∧ u.clk.full = full ∧ u.get F.CLK_STATUS_SOURCE = 3 ∧
        u.clk.attempt = .none ∧ u.runs n 0x28 = true ∧ s.sameWords u [R.CLK_STATUS]) ∧
    (s.clk.waitP0 = false →
      ∃ u : State, exec (.clockRelock n) s = .next u.settle ∧ u.get F.CLK_STATUS_GATED = 1 ∧ u.get F.CLK_STATUS_ON_SAFE = 1 ∧
        u.get F.CLK_STATUS_TIMEBASE_DEGRADED = 1 ∧ u.get F.CLK_STATUS_LOCKED = 0 ∧ u.get F.CLK_STATUS_BUSY = 1 ∧
        u.clk.relock = some (n, 0) ∧ (full = true → u.clk.attempt = .full) ∧ u.runs n 0x28 = true ∧ u.held &&& resClock ≠ 0 ∧
        u = { s with regs := u.regs, clk := u.clk, rve := u.rve } ∧ s.sameWords u [R.CLK_STATUS]) := by
  obtain ⟨hPlan, hHigh, hFull⟩ := relock_args full
  rw [← hArg] at hPlan hHigh hFull
  have hExec := exec_relock h hZero (by omega) hHigh (fun h => by omega) hIdle hFree hTx hBlocked
  rw [hPlan, hFull, State.replans, if_neg (by simp)] at hExec
  obtain ⟨hRuns, hHeld⟩ := relockRuns hInv h 0 full
  have hWords : s.sameWords (((s.runOn n resClock).relockShown n 0).relockTries full) [R.CLK_STATUS] := relockWords (s.runOn n resClock) n 0 full
  obtain ⟨hGated, hSafe, hDegraded, hBusy⟩ := (s.runOn n resClock).relockShown_get n 0
  obtain ⟨hGated', hSafe', hDegraded', hBusy', hRelock⟩ := ((s.runOn n resClock).relockShown n 0).relockTries_get full
  constructor
  · intro hWait
    have hTries : ((s.runOn n resClock).relockShown n 0).relockTries full = ((s.runOn n resClock).relockShown n 0).awaitP0 full := if_pos hWait
    refine ⟨_, hExec, hGated'.trans hGated, hSafe'.trans hSafe, hBusy' hBusy, hRelock, ?_, ?_, ?_, ?_, hRuns, hWords⟩
    · rw [hTries]; rfl
    · rw [hTries]; rfl
    · rw [hTries]; exact (State.awaitP0_shows _ full).1
    · rw [hTries]; exact hIdle
  · intro hWait
    have hTries : ((s.runOn n resClock).relockShown n 0).relockTries full = ((s.runOn n resClock).relockShown n 0).beginLock full :=
      if_neg (Bool.eq_false_iff.1 hWait)
    obtain ⟨c, r, hBegin, hc⟩ := ((s.runOn n resClock).relockShown n 0).beginLock_only full
    refine ⟨_, hExec, hGated'.trans hGated, hSafe'.trans hSafe, hDegraded'.trans hDegraded, ?_, hBusy' hBusy, hRelock, fun hf => ?_, hRuns,
      hHeld, ?_, hWords⟩
    · rw [hTries, hBegin]
      simp (disch := decide) [State.get_put_apart, State.get_put_same]
    · rw [hTries, hBegin, hc, hf]
      rfl
    · rw [hTries, hBegin]
      rfl

/-- R88: the service plan's polders go off. -/
theorem State.toService_facts (s : State) :
    (∀ p, s.toService.isOn p = (s.isOn p && !serviceOff.contains p)) ∧ s.toService.gatesOff := by
  have hOff : ∀ t : State, (∀ p, (t.poldersOff [13, 10, 12, 8, 7, 6, 5]).isOn p = (t.isOn p && !serviceOff.contains p)) ∧
      (t.poldersOff [13, 10, 12, 8, 7, 6, 5]).pins.gates = 0 := by
    intro t
    have hGates : (t.polderOff 13).pins.gates = 0 := rfl
    have hRest := ((t.polderOff 13).poldersOff_stops [10, 12, 8, 7, 6, 5]).gates hGates
    have hFirst : t.poldersOff [13, 10, 12, 8, 7, 6, 5] = (t.polderOff 13).poldersOff [10, 12, 8, 7, 6, 5] := by
      rw [State.poldersOff, List.foldl_cons, ← State.poldersOff]
    refine ⟨fun p => ?_, by rw [hFirst]; exact hRest⟩
    refine (t.poldersOff_isOn [13, 10, 12, 8, 7, 6, 5] p).trans (congrArg (t.isOn p && ·) ?_)
    have hTo : ∀ p ∈ [13, 10, 12, 8, 7, 6, 5], p ∈ serviceOff := by decide
    have hFrom : ∀ p ∈ serviceOff, p ∈ [13, 10, 12, 8, 7, 6, 5] := by decide
    have hSame : p ∈ [13, 10, 12, 8, 7, 6, 5] ↔ p ∈ serviceOff := ⟨hTo p, hFrom p⟩
    rw [List.contains_eq_mem, decide_not, decide_eq_decide.2 hSame]
  have hPlan : ∀ t : State, t.isOn = s.isOn → ∀ u, u = t.poldersOff [13, 10, 12, 8, 7, 6, 5] → ∀ q : List (List Nat),
      (∀ p, (u.withPwr { u.pwr with queue := q }).isOn p = (s.isOn p && !serviceOff.contains p)) ∧
      (u.withPwr { u.pwr with queue := q }).gatesOff := by
    rintro t ht u hu q
    obtain ⟨hOn, hGates⟩ := hOff t
    rw [← hu, ht] at hOn
    rw [← hu] at hGates
    exact ⟨hOn, hGates⟩
  delta State.toService
  dsimp only
  split
  next n _ => exact hPlan (s.respond n .refusedState []) rfl _ rfl _
  next => exact hPlan s rfl _ rfl _

theorem relockService {s : State} {n : Nat} (h : s.takes n 0x28 = true) (hZero : (s.mb n).arg 1 3 = 0)
    (hArg : (s.mb n).arg 0 1 = 1) (hStation : s.isStation = true) (hPlan : s.servicePlan = false) (hIdle : s.clk.attempt = .none)
    (hFree : s.held &&& resClock = 0) (hTx : s.anyTxAwake = false) (hBlocked : s.pulseBlocked = true) :
    ∃ u : State, exec (.clockRelock n) s = .next u.settle ∧
      (∀ p, u.isOn p = (s.isOn p && !serviceOff.contains p)) ∧ u.clk.relock = some (n, 1) ∧ u.get F.CLK_STATUS_BUSY = 1 ∧
      u.gatesOff := by
  have hExec := exec_relock h hZero (by omega) (by omega) (fun _ => hStation) hIdle hFree hTx hBlocked
  have hReplans : (s.runOn n resClock).replans 1 = (s.runOn n resClock).toService := if_pos (by rw [decide_eq_true rfl, Bool.true_and, show (s.runOn n resClock).servicePlan = s.servicePlan from rfl, hPlan]; rfl)
  rw [hArg] at hExec
  rw [hReplans] at hExec
  obtain ⟨hOn, hGates⟩ := (s.runOn n resClock).toService_facts
  generalize (s.runOn n resClock).toService = t at hExec hOn hGates
  obtain ⟨-, -, -, hBusy⟩ := t.relockShown_get n 1
  obtain ⟨-, -, -, hBusy', hRelock⟩ := (t.relockShown n 1).relockTries_get (natBit 1 2)
  have hParts : ((t.relockShown n 1).relockTries (natBit 1 2)).pwr = t.pwr ∧ ((t.relockShown n 1).relockTries (natBit 1 2)).pins = t.pins := by
    rw [State.relockTries]
    split <;> exact ⟨rfl, rfl⟩
  refine ⟨_, hExec, fun p => ?_, hRelock, hBusy' hBusy, (congrArg PinSt.gates hParts.2).trans hGates⟩
  rw [State.isOn, hParts.1]
  exact hOn p

/-! ## How a relock ends (Table 3-7) -/

/-- Table 3-7: the relock's plan shown, and its response. -/
theorem State.relocked_facts {s : State} {n plan : Nat} (hn : n < s.rve.mb.length) (hRelock : s.clk.relock = some (n, plan))
    (hPlan : plan = 1 ∨ (plan = 0 ∧ s.pwr.calStarted = false)) :
    s.relocked.get F.CLK_STATUS_PLAN = plan ∧ s.relocked.get F.CLK_STATUS_LOCKED = s.get F.CLK_STATUS_LOCKED ∧ s.relocked.clk.relock = none ∧
      s.relocked.mb n = (s.mb n).answered .ok [] ∧ s.relocked.vlt = s.vlt ∧ s.relocked.cfg = s.cfg ∧
      (plan = 1 → s.pwr.phase ≠ .stopping → s.relocked.pwr.phase = .service) := by
  have hMb : ∀ t : State, t.rve = s.rve → (t.respond n .ok []).mb n = (s.mb n).answered .ok [] := fun t ht => by
    rw [State.respond_eq, State.mb_setMb_self _ (by rw [ht]; exact hn), State.mb, ht]
    rfl
  delta State.relocked
  rw [hRelock]
  dsimp only
  rcases hPlan with rfl | ⟨rfl, hCal⟩
  · rw [if_pos rfl]
    refine ⟨s.get_put_same F.CLK_STATUS_PLAN 1 rfl, s.get_put_apart F.CLK_STATUS_PLAN F.CLK_STATUS_LOCKED 1 rfl rfl, rfl, ?_, rfl, rfl, fun _ hNot => if_neg hNot⟩
    exact hMb (((s.put F.CLK_STATUS_PLAN 1).withPwr _).withClk _) rfl
  · rw [if_neg (by decide), if_neg (by simp [hCal])]
    refine ⟨s.get_put_same F.CLK_STATUS_PLAN 0 rfl, s.get_put_apart F.CLK_STATUS_PLAN F.CLK_STATUS_LOCKED 0 rfl rfl, rfl, ?_, rfl, rfl, fun h => nomatch h⟩
    exact hMb (s.put F.CLK_STATUS_PLAN 0) rfl

/-- Under the service plan nothing resumes. -/
theorem State.resumes_service {s : State} (h : s.get F.CLK_STATUS_PLAN = 1) : s.resumes = s := by
  refine if_neg ?_
  rw [State.servicePlan, h]
  simp

set_option Elab.async false in
theorem relockLocks {s : State} (hInv : s.Inv) {n plan : Nat} (hn : n < 4) (hRelock : s.clk.relock = some (n, plan)) (edge lane : BitVec 6)
    (hTry : s.clk.attempt = .stored ∨ s.clk.attempt = .full) (hPlan : plan = 1 ∨ (plan = 0 ∧ s.pwr.calStarted = false)) :
    ∃ u : State, exec (.pllLockDeclared edge lane) s = .next u.settle ∧ u.get F.CLK_STATUS_LOCKED = 1 ∧
      u.get F.CLK_STATUS_PLAN = plan ∧ u.clk.relock = none ∧ (u.mb n).ready = true ∧ (u.mb n).rsp.getD 2 0 = 0 ∧
      (plan = 1 → s.pwr.phase ≠ .stopping → u.pwr.phase = .service) ∧ u.vlt = s.vlt ∧ u.cfg = s.cfg := by
  refine ⟨_, exec_lock edge lane hTry, ?_⟩
  obtain ⟨r, hCounted, -⟩ := s.lockCounted_only edge lane
  have hCount := (s.lockCounted_get edge lane (f := F.CLK_STATUS_LOCKED) (by decide)).trans (s.lockShown_status edge lane).1
  have hParts : (s.lockCounted edge lane).rve = s.rve ∧ (s.lockCounted edge lane).pwr = s.pwr ∧ (s.lockCounted edge lane).clk.relock = s.clk.relock ∧
      (s.lockCounted edge lane).vlt = s.vlt ∧ (s.lockCounted edge lane).cfg = s.cfg := by
    rw [hCounted]
    exact ⟨rfl, rfl, rfl, rfl, rfl⟩
  generalize s.lockCounted edge lane = c at *
  obtain ⟨hRve, hPwr, hRel, hVlt, hCfg⟩ := hParts
  obtain ⟨hPlanShown, hLocked, hNone, hMb, hVlt', hCfg', hPhase⟩ := State.relocked_facts (s := c) (n := n) (plan := plan)
    (by rw [hRve, hInv.mailboxes]; omega) (hRel.trans hRelock) (hPlan.imp_right (.imp_right (hPwr ▸ ·)))
  generalize c.relocked = v at *
  obtain ⟨p, hResumes⟩ := v.resumes_only
  have hAsks := (v.resumes.portsInit_asks 5).trans (State.portsInit_asks _ 6)
  have hGet : ∀ f : Fld, f.addr / 65536 ≠ 4 → ((v.resumes.portsInit 5).portsInit 6).get f = v.get f := fun f hf =>
    (hAsks.get hf).trans (by rw [hResumes]; rfl)
  obtain ⟨g, k, i, x, tx, rx, hOnly⟩ := hAsks.only
  generalize (v.resumes.portsInit 5).portsInit 6 = u at *
  have hRest : u.clk = v.clk ∧ u.rve = v.rve ∧ u.vlt = v.vlt ∧ u.cfg = v.cfg ∧ u.pwr.phase = v.resumes.pwr.phase := by
    rw [hOnly, hResumes]
    exact ⟨rfl, rfl, rfl, rfl, rfl⟩
  obtain ⟨hClkU, hRveU, hVltU, hCfgU, hPhaseU⟩ := hRest
  have hBox : u.mb n = (c.mb n).answered .ok [] := (State.mb_congr (congrArg ReeveSt.mb hRveU) n).trans hMb
  refine ⟨?_, ?_, ?_, ?_, ?_, fun h₁ hNot => ?_, hVltU.trans (hVlt'.trans hVlt), hCfgU.trans (hCfg'.trans hCfg)⟩
  · rw [hGet _ (by decide), hLocked, hCount]
  · rw [hGet _ (by decide), hPlanShown]
  · rw [hClkU, hNone]
  · rw [hBox]; rfl
  · rw [hBox]; rfl
  · rw [hPhaseU, State.resumes_service (by rw [hPlanShown, h₁])]
    exact hPhase h₁ (by rw [hPwr]; exact hNot)

theorem relockTimesOut {s : State} (hInv : s.Inv) {n plan : Nat} (hn : n < 4) (hRelock : s.clk.relock = some (n, plan)) (h : s.clk.attempt = .full) :
    ∃ u : State, exec .pllNoLock s = .next u.settle ∧ u.get F.CLK_STATUS_LOCKED = 0 ∧
      u.clk.relock = none ∧ u.clk.noLock = true ∧ (u.mb n).ready = true ∧
      (u.mb n).rsp.getD 2 0 = BitVec.ofNat 8 Status.timeout.code ∧ s.sameBits u [F.CLK_STATUS_BUSY, F.CLK_STATUS_LOCKED] := by
  refine ⟨_, exec_pllNoLock h, ?_⟩
  have hFails : s.noLockShown.relockFails = (s.noLockShown.respond n .timeout []).withClk { s.noLockShown.clk with relock := none } := by
    rw [State.relockFails, show s.noLockShown.clk.relock = some (n, plan) from hRelock]
  have hSelf : (s.noLockShown.respond n .timeout []).mb n = (s.noLockShown.mb n).answered .timeout [] :=
    State.mb_setMb_self _ (by rw [show s.noLockShown.rve = s.rve from rfl, hInv.mailboxes]; omega) _
  rw [hFails]
  generalize hv : (s.noLockShown.respond n .timeout []).withClk _ = v
  have hMb : v.mb n = (s.noLockShown.mb n).answered .timeout [] := by rw [← hv]; exact hSelf
  have hClk : v.clk.relock = none ∧ v.clk.noLock = true := by rw [← hv]; exact ⟨rfl, rfl⟩
  have hRegs : v.regs = s.noLockShown.regs := by rw [← hv]; rfl
  have hWaits : ∀ b : Bool, (v.startWaits b).regs = v.regs ∧ (v.startWaits b).rve = v.rve ∧ (v.startWaits b).clk.relock = v.clk.relock ∧
      (v.startWaits b).clk.noLock = v.clk.noLock := by
    rintro (_ | _) <;> exact ⟨rfl, rfl, rfl, rfl⟩
  obtain ⟨hRegs', hRve', hRelock', hNoLock'⟩ := hWaits s.noLockShown.failsStart
  generalize v.startWaits s.noLockShown.failsStart = u at *
  have hBox : u.mb n = (s.noLockShown.mb n).answered .timeout [] := (State.mb_congr (congrArg ReeveSt.mb hRve') n).trans hMb
  refine ⟨?_, hRelock'.trans hClk.1, hNoLock'.trans hClk.2, ?_, ?_, s.noLockShown_sameBits.of_regs (hRegs'.trans hRegs)⟩
  · rw [State.get, State.word, hRegs', hRegs]
    exact s.noLockShown_get.2.1
  · rw [hBox]; rfl
  · rw [hBox]; rfl

/-- Settles O14. -/
theorem clockControl : Obligations.ClockControl := by
  refine ⟨fun s => ⟨fun edge lane => lockDeclared edge lane, fun h => if_pos h, noLockFound, fun h h' clock => lockRetries h h' clock⟩,
    fun s => ⟨fun lost => holdoverEnters lost, pllReengages, fun edge lane => reengageLocks edge lane, reengagementFails, holdoverLong,
      fun falling phase => syncEdge falling phase, fun falling phase => syncEdge_elsewhere falling phase⟩,
    fun s n hInv h hZero => ⟨?_, fun full hArg => ⟨(relockRefused h hZero hArg).1, (relockRefused h hZero hArg).2,
      fun hIdle hFree hTx hBlocked => (relockAccepted hInv h hZero hArg hIdle hFree hTx hBlocked).1,
      fun hIdle hFree hTx hBlocked => (relockAccepted hInv h hZero hArg hIdle hFree hTx hBlocked).2⟩,
      fun hArg hStation hPlan hIdle hFree hTx hBlocked _ => relockService h hZero hArg hStation hPlan hIdle hFree hTx hBlocked⟩,
    fun s n plan hInv hn hRelock => ⟨fun edge lane => relockLocks hInv hn hRelock edge lane, relockTimesOut hInv hn hRelock⟩⟩
  rintro a rfl
  refine ⟨fun hBad => relockBadArg h hBad, fun hArg hDevice => ?_⟩
  rw [exec_clockRelock h hZero (by omega) (by omega)]
  exact if_pos (by rcases hArg with hArg | hArg <;> simp [hArg, hDevice])

end Sys2Proof.Machine
end

section
/-! PROOF. What a transmission over Ethernet touches, and the answers of the mailboxes (R129, R395). -/
namespace Sys2Proof.Machine

/-- `t` differs from `s` as a transmission may make it: the network's own state, registers from the network's on, its interrupts. -/
structure State.Sends (s t : State) : Prop where
  parts : t = { s with regs := t.regs, net := t.net, int := t.int, str := t.str }
  low : ∀ a, a < 0x0D0000 → t.word a = s.word a
  pends : ∀ n, n < 256 → n ≠ 138 → n ≠ 139 → n ≠ 167 → t.pends n = s.pends n

namespace State.Sends
variable {s t u : State}

theorem refl (s : State) : s.Sends s := ⟨rfl, fun _ _ => rfl, fun _ _ _ _ _ => rfl⟩

theorem trans (h : s.Sends t) (h' : t.Sends u) : s.Sends u where
  parts := by
    have hu := h'.parts
    rw [h.parts] at hu
    exact hu
  low a ha := (h'.low a ha).trans (h.low a ha)
  pends n hn h138 h139 h167 := (h'.pends n hn h138 h139 h167).trans (h.pends n hn h138 h139 h167)

theorem ite {c : Prop} [Decidable c] (ht : s.Sends t) (hu : s.Sends u) : s.Sends (if c then t else u) :=
  iteInduction (motive := s.Sends) (fun _ => ht) (fun _ => hu)

theorem foldl {α : Type} {f : State → α → State} {l : List α} (hf : ∀ u a, s.Sends u → s.Sends (f u a)) (h : s.Sends t) :
    s.Sends (l.foldl f t) := by
  induction l generalizing t with
  | nil => exact h
  | cons a l ih => exact ih (hf t a h)

theorem withNet {v : NetSt} (h : s.Sends t) : s.Sends (t.withNet v) := h.trans ⟨rfl, fun _ _ => rfl, fun _ _ _ _ _ => rfl⟩

theorem setWord {a : Nat} {v : Word} (h : s.Sends t) (ha : 0x0D0000 ≤ a) : s.Sends (t.setWord a v) := by
  refine h.trans ⟨rfl, fun b hb => ?_, fun _ _ _ _ _ => rfl⟩
  rw [State.word_setWord, if_neg (Nat.ne_of_lt (Nat.lt_of_lt_of_le hb ha))]

theorem put {f : Fld} {v : Nat} (h : s.Sends t) (ha : 0x0D0000 ≤ f.addr) : s.Sends (t.put f v) := h.setWord ha
theorem bump {f : Fld} (h : s.Sends t) (ha : 0x0D0000 ≤ f.addr) : s.Sends (t.bump f) := h.setWord ha

theorem raiseInt {k : Nat} (h : s.Sends t) (hk : k = 138 ∨ k = 139) : s.Sends (t.raiseInt k) := by
  obtain ⟨i, x, hRaise⟩ := t.raiseInt_only k
  refine h.trans ⟨by rw [hRaise]; rfl, fun a _ => t.raiseInt_word k a, fun n hn h138 h139 h167 => ?_⟩
  have hne : n ≠ k := by omega
  rw [t.raiseInt_pends k hn h167, decide_eq_false hne, Bool.and_false, Bool.or_false]

theorem enqueue {p : Nat} {x : TxFrame} (h : s.Sends t) : s.Sends (t.enqueue p x) := h.withNet

theorem svStatus (p : Nat) : 0x0D0000 ≤ R.SV_PUBp_STATUS p := by
  simp only [R.SV_PUBp_STATUS]
  omega

set_option Elab.async false in
theorem svLaunch {p : Nat} {seq : Option Nat} {ws : List SvWait} (h : s.Sends t) : s.Sends (t.svLaunch p seq ws) := by
  delta State.svLaunch
  extract_lets _ _ _ t1 t2
  have h1 : s.Sends t1 := h.withNet
  have h2 : s.Sends t2 := by
    unfold t2
    split
    · exact h1.put (svStatus p)
    · exact h1
  exact .ite (h2.raiseInt (.inr rfl)) h2

theorem netStart {p : Nat} (h : s.Sends t) : s.Sends (t.netStart p) := by
  delta State.netStart
  refine .ite h ?_
  extract_lets
  split
  · exact h
  · extract_lets t1
    have h1 : s.Sends t1 := by
      unfold t1
      split
      · exact h.svLaunch
      · exact h
    exact h1.withNet

theorem txLate {w : TxWhat} (h : s.Sends t) : s.Sends (t.txLate w) := by
  delta State.txLate
  extract_lets t1
  have h1 : s.Sends t1 := (h.bump (by decide)).raiseInt (.inl rfl)
  split
  · exact h1.withNet
  · exact h1.bump (svStatus _)
  · exact h1

theorem transmit {ports : List Nat} {cls : Nat} {launch : Option Nat} {w : TxWhat} (h : s.Sends t) :
    s.Sends (t.transmit ports cls launch w) := by
  delta State.transmit
  split
  · exact .ite (.foldl (fun _ _ h1 => h1.enqueue.netStart) h) h.txLate
  · exact .foldl (fun _ _ h2 => h2.enqueue.netStart) h

theorem takeSeq (h : s.Sends t) : s.Sends t.takeSeq.2 := by
  delta State.takeSeq
  split
  · exact h.withNet
  · exact h

theorem sendRedundant {cls : Nat} {launch : Option Nat} {w : Option Nat → TxWhat} (h : s.Sends t) :
    s.Sends (t.sendRedundant cls launch w) := h.takeSeq.transmit

theorem mgmtResponse {rsp : List Byte} (h : s.Sends t) : s.Sends (t.mgmtResponse rsp) := .ite h.sendRedundant h

end State.Sends

/-! ## Sixteen words filled -/

theorem State.fillWords_only (s : State) (a : Nat) (bs : List Byte) : s.fillWords a bs = { s with regs := (s.fillWords a bs).regs } := by
  have hFold : ∀ (l : List Nat) (t : State), ∃ r, l.foldl (fun s k => s.setWord (a + 4 * k) (BitVec.ofNat 32 (leAt bs (4 * k) 4))) t = t.withRegs r := by
    intro l
    induction l with
    | nil => exact fun t => ⟨t.regs, rfl⟩
    | cons k l ih => exact fun t => ih _
  obtain ⟨r, hr⟩ := hFold (List.range 16) s
  rw [State.fillWords, hr]
  rfl

theorem State.fillWords_word (s : State) (a : Nat) (bs : List Byte) (b : Nat) :
    (s.fillWords a bs).word b = if b ∈ (List.range 16).map (a + 4 * ·) then BitVec.ofNat 32 (leAt bs (b - a) 4) else s.word b := by
  have hFold : ∀ (l : List Nat) (t : State), (l.foldl (fun s k => s.setWord (a + 4 * k) (BitVec.ofNat 32 (leAt bs (4 * k) 4))) t).word b =
      if b ∈ l.map (a + 4 * ·) then BitVec.ofNat 32 (leAt bs (b - a) 4) else t.word b := by
    intro l
    induction l with
    | nil => exact fun t => rfl
    | cons k l ih =>
      intro t
      rw [List.foldl_cons, ih, State.word_setWord, List.map_cons]
      by_cases hl : b ∈ l.map (a + 4 * ·)
      · rw [if_pos hl, if_pos (List.mem_cons_of_mem _ hl)]
      · rw [if_neg hl]
        by_cases hb : b = a + 4 * k
        · rw [if_pos hb, if_pos (hb ▸ List.mem_cons_self), hb, Nat.add_sub_cancel_left]
        · rw [if_neg hb, if_neg (by simpa [hb] using hl)]
  exact hFold _ s

end Sys2Proof.Machine
end

section
/-! PROOF. A complete response in its buffer (R129). -/
namespace Sys2Proof.Machine

/-- The box after its response has been shown. -/
def MbSt.shown (m : MbSt) : MbSt := { m with ready := false, rsp := [], copied := false, hold := false, partner := none }

/-- The registers with the response `b` in the buffer of mailbox `n` and the state DONE. -/
def State.responseWords (s : State) (n : Nat) (b : List Byte) : State :=
  (s.fillWords (R.RVE_Mn_RSPk n 0) b).put (F.RVE_Mn_STATE_STATE n) mbDone

/-- The response shown, its source raised. -/
def State.responseShown (s : State) (n : Nat) (b : List Byte) : State :=
  ((s.responseWords n b).setMb n (s.mb n).shown).raiseInt (192 + n)

/-- A response to a management request goes out over Ethernet, one to REMOTE over the rings. -/
def State.responseSent (t : State) (n : Nat) (b : List Byte) : State :=
  let t := if n = 2 then t.mgmtResponse b else t
  if n = 3 && !t.cul.msg.silent then
    t.withCul { t.cul with msg := { t.cul.msg with out := b, outAt := [], phase := .sending 0, tries := 0 } } else t

theorem MbSt.answer_of_own {m : MbSt} (h : m.copied = false) : m.answer = m.rsp := by
  rw [MbSt.answer, h]
  split <;> rfl

theorem execResponseComplete_next {s : State} {n : Nat} (hn : n < 4) (h2 : s.isOn 2 = true) (hReady : (s.mb n).ready = true)
    (hState : s.mbState n = mbExecuting) (hOwn : (s.mb n).copied = false) :
    exec (.responseComplete n) s = .next ((s.responseShown n (s.mb n).rsp).responseSent n (s.mb n).rsp).settle := by
  have hCond : (s.isOn 2 && decide (n < 4) && (s.mb n).ready && s.mbState n == mbExecuting && !s.waitsPartner (s.mb n)) = true := by
    simp [h2, hn, hReady, hState, State.waitsPartner, hOwn]
  have hNext : exec (.responseComplete n) s = .next ((s.responseShown n (s.mb n).answer).responseSent n (s.mb n).answer).settle := if_pos hCond
  rw [hNext, MbSt.answer_of_own hOwn]

/-! ## The response shown -/

theorem State.responseWords_only (s : State) (n : Nat) (b : List Byte) : ∃ r, s.responseWords n b = s.withRegs r := by
  rw [State.responseWords, s.fillWords_only]
  exact ⟨_, rfl⟩

/-- The words of a mailbox's response and its state. -/
def responseAddrs (n : Nat) : List Nat := R.RVE_Mn_STATE n :: (List.range 16).map (R.RVE_Mn_RSPk n)

theorem State.responseWords_rsp (s : State) (n : Nat) (b : List Byte) {k : Nat} (hk : k < 16) :
    (s.responseWords n b).word (R.RVE_Mn_RSPk n k) = BitVec.ofNat 32 (leAt b (4 * k) 4) := by
  have hState : R.RVE_Mn_RSPk n k ≠ R.RVE_Mn_STATE n := by
    simp only [R.RVE_Mn_RSPk, R.RVE_Mn_STATE]
    omega
  have hMem : R.RVE_Mn_RSPk n k ∈ (List.range 16).map (R.RVE_Mn_RSPk n 0 + 4 * ·) := List.mem_map_of_mem (List.mem_range.2 hk)
  rw [State.responseWords, State.word_put_ne _ _ _ _ hState, State.fillWords_word, if_pos hMem,
    show R.RVE_Mn_RSPk n k - R.RVE_Mn_RSPk n 0 = 4 * k from Nat.add_sub_cancel_left ..]

theorem State.responseWords_apart (s : State) (n : Nat) (b : List Byte) : s.sameWords (s.responseWords n b) (responseAddrs n) := by
  intro a ha
  rw [responseAddrs, List.mem_cons, not_or] at ha
  obtain ⟨hState, hRsp⟩ := ha
  rw [State.responseWords, State.word_put_ne _ _ _ _ hState, State.fillWords_word]
  exact if_neg hRsp

set_option Elab.async false in
theorem State.responseWords_state (s : State) (n : Nat) (b : List Byte) : (s.responseWords n b).get (F.RVE_Mn_STATE_STATE n) = mbDone :=
  State.get_put_same _ _ _ rfl

theorem State.responseShown_only (s : State) (n : Nat) (b : List Byte) : ∃ r i x,
    s.responseShown n b = (((s.withRegs r).setMb n (s.mb n).shown).withInt i).withStr x ∧ (s.responseWords n b).regs = r := by
  obtain ⟨r, hRegs⟩ := s.responseWords_only n b
  obtain ⟨i, x, hRaise⟩ := ((s.withRegs r).setMb n (s.mb n).shown).raiseInt_only (192 + n)
  exact ⟨r, i, x, by rw [State.responseShown, hRegs, hRaise], by rw [hRegs]; rfl⟩

theorem State.responseShown_word (s : State) (n : Nat) (b : List Byte) (a : Nat) : (s.responseShown n b).word a = (s.responseWords n b).word a := by
  obtain ⟨r, i, x, hShown, hRegs⟩ := s.responseShown_only n b
  rw [hShown, State.word, State.word, hRegs]
  rfl

theorem State.responseShown_pends (s : State) {n : Nat} (hn : n < 4) (b : List Byte) :
    (s.responseShown n b).pends (192 + n) = (s.isOn 1 || s.pends (192 + n)) := by
  obtain ⟨r, hRegs⟩ := s.responseWords_only n b
  rw [State.responseShown, State.raiseInt_pends_self _ (by omega) (by omega), hRegs]
  rfl

theorem State.responseShown_mb {s : State} {n : Nat} (hn : n < s.rve.mb.length) (b : List Byte) : (s.responseShown n b).mb n = (s.mb n).shown := by
  obtain ⟨r, i, x, hShown, -⟩ := s.responseShown_only n b
  rw [hShown]
  exact s.mb_setMb_self hn _

/-! ## The response sent -/

/-- What the sending of the response leaves. -/
theorem State.responseSent_keeps (t : State) (n : Nat) (b : List Byte) : (∀ a, a < 0x0D0000 → (t.responseSent n b).word a = t.word a) ∧
    (t.responseSent n b).rve = t.rve ∧ ∀ k, 192 ≤ k → k < 256 → (t.responseSent n b).pends k = t.pends k := by
  have hMgmt : t.Sends (if n = 2 then t.mgmtResponse b else t) := .ite (.mgmtResponse (.refl t)) (.refl t)
  have hWire : ∀ u : State, t.Sends u → ∀ c, (∀ a, a < 0x0D0000 → (u.withCul c).word a = t.word a) ∧ (u.withCul c).rve = t.rve ∧
      ∀ k, 192 ≤ k → k < 256 → (u.withCul c).pends k = t.pends k := fun u hu c =>
    ⟨hu.low, by rw [hu.parts]; rfl, fun k h192 h256 => hu.pends k h256 (by omega) (by omega) (by omega)⟩
  unfold State.responseSent
  extract_lets u
  have hu : t.Sends u := hMgmt
  split
  · exact hWire _ hu _
  · exact hWire _ hu u.cul

theorem State.responseSent_host {t : State} {n : Nat} (hn : n < 2) (b : List Byte) : t.responseSent n b = t := by
  have h2 : n ≠ 2 := by omega
  have h3 : n ≠ 3 := by omega
  simp [State.responseSent, h2, h3]

theorem State.responseSent_remote (t : State) (b : List Byte) : t.responseSent 3 b = if t.cul.msg.silent then t else
    t.withCul { t.cul with msg := { t.cul.msg with out := b, outAt := [], phase := .sending 0, tries := 0 } } := by
  cases h : t.cul.msg.silent <;> simp [State.responseSent, h]

/-! ## The response formed -/

theorem padTo_of_le {n : Nat} {l : List Byte} (h : l.length ≤ n) : padTo n l = l ++ List.replicate (n - l.length) 0 := by
  rw [padTo, List.take_append, List.take_of_length_le h, List.take_replicate, Nat.min_eq_left (Nat.sub_le ..)]

/-- The bytes of a response of at most 56 data bytes. -/
theorem MbSt.answered_rsp (m : MbSt) (st : Status) {data : List Byte} (h : data.length ≤ 56) :
    (m.answered st data).rsp = [BitVec.ofNat 8 m.code, BitVec.ofNat 8 m.tag, BitVec.ofNat 8 st.code,
      BitVec.ofNat 8 (if st = .ok then data else []).length] ++ (if st = .ok then data else []) ++
      List.replicate (60 - (if st = .ok then data else []).length) 0 := by
  have hTake : (if st = .ok then data.take 56 else []) = if st = .ok then data else [] := by rw [List.take_of_length_le h]
  have hLen : (if st = .ok then data else []).length ≤ 56 := by
    split
    · exact h
    · exact Nat.zero_le _
  have hPad : 60 - (if st = .ok then data else []).length = (56 - (if st = .ok then data else []).length) + 4 := by omega
  rw [MbSt.answered, hTake, padTo_of_le hLen, ite_self, hPad, ← List.replicate_append_replicate]
  simp only [List.append_assoc]
  rfl

/-- Settles O20: the shown response and its raise, and the bytes that `respond` forms. -/
theorem responses : Obligations.Responses := by
  refine ⟨fun s n hInv hn h2 hReady hState hOwn => ?_, fun s n st data hInv hn hLen => ?_⟩
  · have hBox : n < s.rve.mb.length := by rw [hInv.mailboxes]; omega
    obtain ⟨hWord, hRve, hPends⟩ := (s.responseShown n (s.mb n).rsp).responseSent_keeps n (s.mb n).rsp
    obtain ⟨r, i, x, hShown, hRegs⟩ := s.responseShown_only n (s.mb n).rsp
    have hLow : ∀ a, a < 0x0D0000 → ((s.responseShown n (s.mb n).rsp).responseSent n (s.mb n).rsp).word a = (s.responseWords n (s.mb n).rsp).word a :=
      fun a ha => (hWord a ha).trans (s.responseShown_word n _ a)
    refine ⟨_, execResponseComplete_next hn h2 hReady hState hOwn, ?_, ?_, ?_, ?_, ?_, ?_, ?_⟩
    · have hAddr : R.RVE_Mn_STATE n < 0x0D0000 := by simp only [R.RVE_Mn_STATE]; omega
      rw [State.mbState, if_pos hn, State.get, hLow _ hAddr]
      exact s.responseWords_state n _
    · rw [State.mb, hRve]
      exact congrArg MbSt.ready (State.responseShown_mb hBox _)
    · exact (hPends _ (by omega) (by omega)).trans (s.responseShown_pends hn _)
    · intro k hk
      have hAddr : R.RVE_Mn_RSPk n k < 0x0D0000 := by simp only [R.RVE_Mn_RSPk]; omega
      rw [hLow _ hAddr, s.responseWords_rsp n _ hk]
    · intro hHost
      rw [State.responseSent_host hHost]
      refine ⟨fun a ha => (s.responseShown_word n _ a).trans (s.responseWords_apart n _ a ha), ?_⟩
      rw [hShown]
      rfl
    · rintro rfl hLoud
      have hSilent : (s.responseShown 3 (s.mb 3).rsp).cul.msg.silent = false := by rw [hShown]; exact hLoud
      rw [State.responseSent_remote, hSilent]
      exact ⟨rfl, rfl⟩
    · rintro rfl hQuiet
      have hSilent : (s.responseShown 3 (s.mb 3).rsp).cul.msg.silent = true := by rw [hShown]; exact hQuiet
      rw [State.responseSent_remote, hSilent, if_pos rfl, hShown]
      rfl
  · have hBox : n < s.rve.mb.length := by rw [hInv.mailboxes]; omega
    have hSelf : (s.respond n st data).mb n = (s.mb n).answered st data := by
      rw [s.respond_eq]
      exact s.mb_setMb_self hBox _
    have hRsp := (s.mb n).answered_rsp st hLen
    have hShort : (if st = .ok then data else []).length ≤ 56 := by
      split
      · exact hLen
      · exact Nat.zero_le _
    refine ⟨by rw [hSelf]; exact hRsp, ?_, by rw [hSelf]; rfl, by rw [hSelf]; rfl, by rw [hSelf]; rfl, fun m hm => s.mb_setMb_of_ne hm _, rfl⟩
    rw [hSelf, hRsp]
    simp only [List.length_append, List.length_cons, List.length_nil, List.length_replicate]
    omega

end Sys2Proof.Machine
end

section
/-! PROOF. The immediate commands (R130, R470). -/
namespace Sys2Proof.Machine

/-- Four bytes hold a number modulo 2^32. -/
theorem leBytes_four_mod (v : Nat) : leBytes 4 (v % 2 ^ 32) = leBytes 4 v := by
  have hBytes : ∀ w, leBytes 4 w = [BitVec.ofNat 8 w, BitVec.ofNat 8 (w / 256), BitVec.ofNat 8 (w / 256 / 256),
      BitVec.ofNat 8 (w / 256 / 256 / 256)] := fun _ => rfl
  have hByte : ∀ a b : Nat, a % 256 = b % 256 → BitVec.ofNat 8 a = BitVec.ofNat 8 b := fun a b h =>
    BitVec.eq_of_toNat_eq (by rwa [BitVec.toNat_ofNat, BitVec.toNat_ofNat])
  rw [hBytes, hBytes]
  simp only [List.cons.injEq, and_true]
  exact ⟨hByte _ _ (by omega), hByte _ _ (by omega), hByte _ _ (by omega), hByte _ _ (by omega)⟩

theorem leBytes_word (v : Nat) : leBytes 4 (BitVec.ofNat 32 v).toNat = leBytes 4 v := by
  rw [BitVec.toNat_ofNat, leBytes_four_mod]

theorem isEmpty_filter_addr (l : List StagedKey) (a : Nat) : (!(l.filter (fun k => k.addr == a)).isEmpty) = l.any (fun k => k.addr == a) := by
  induction l with
  | nil => rfl
  | cons k l ih => cases h : k.addr == a <;> simp [h, ← ih]

namespace State
variable {s : State} {n : Nat}

/-! ## CONFIG_READ of the word in force -/

set_option Elab.async false in
theorem configRead_foreign {a : Nat} (h : s.foreignBlock a = true) : s.configRead a 0 = .error .notInRole := if_pos h

theorem configRead_bad {a : Nat} (h : s.foreignBlock a = false) (hKey : a % 4 ≠ 0 ∨ isCfgReg s.role a = false) :
    s.configRead a 0 = .error .badArg := by
  have hBad : (a % 4 != 0 || !isCfgReg s.role a || decide (0 = 3)) = true := by
    rcases hKey with hKey | hKey <;> simp [hKey]
  rw [State.configRead, if_neg (by simp [h]), if_pos hBad]

theorem configRead_key {a : Nat} (h : s.foreignBlock a = false) (hAlign : a % 4 = 0) (hKey : isCfgReg s.role a = true) :
    s.configRead a 0 = .ok (leBytes 4 (s.cfgWord a).toNat ++ leBytes 4 (b2n (s.rve.staged.any (fun k => k.addr == a)))) := by
  have hGood : ¬(a % 4 != 0 || !isCfgReg s.role a || decide (0 = 3)) = true := by simp [hAlign, hKey]
  rw [← isEmpty_filter_addr s.rve.staged a]
  exact (if_neg (by simp [h])).trans (if_neg hGood)

theorem execConfigRead_ok {a : Nat} {d : List Byte} (h : s.takes n 0x11 = true) (hFlags : (s.mb n).flags = 0) (ha : (s.mb n).arg 0 4 = a)
    (hRead : s.configRead a 0 = .ok d) : exec (.configRead n) s = .next (s.respond n .ok d) := by
  refine (if_pos h).trans ?_
  rw [ha, hFlags, hRead]

theorem execConfigRead_error {a : Nat} {st : Status} (h : s.takes n 0x11 = true) (hFlags : (s.mb n).flags = 0) (ha : (s.mb n).arg 0 4 = a)
    (hRead : s.configRead a 0 = .error st) : exec (.configRead n) s = .next (s.respond n st []) := by
  refine (if_pos h).trans ?_
  rw [ha, hFlags, hRead]

end State

/-- Settles O21: each command's row for a mailbox whose command is taken. -/
theorem immediateAnswers : Obligations.ImmediateAnswers := by
  intro s n straps _
  refine ⟨fun h => ⟨_, if_pos h, ?_⟩, fun h => ⟨_, if_pos h, ?_⟩, fun a h hFlags ha => ⟨fun hOwn hAlign hKey => ?_, fun hOwn hKey => ?_, fun hForeign => ?_⟩,
    fun corrected h => ⟨fun hHeld => ?_, fun hFree hOld => ?_, fun hFree hNew => ?_⟩⟩
  · simp only [List.flatMap_cons, List.flatMap_nil, List.append_nil, List.append_assoc]
  · simp only [List.flatMap_cons, List.flatMap_nil, List.append_nil, List.append_assoc, leBytes_word]
  · exact State.execConfigRead_ok h hFlags ha (State.configRead_key hOwn hAlign hKey)
  · exact State.execConfigRead_error h hFlags ha (State.configRead_bad hOwn hKey)
  · exact State.execConfigRead_error h hFlags ha (State.configRead_foreign hForeign)
  · exact (if_pos h).trans (if_pos (bne_iff_ne.2 hHeld))
  · exact (if_pos h).trans ((if_neg (by simp [hFree])).trans (if_pos hOld))
  · exact (if_pos h).trans ((if_neg (by simp [hFree])).trans (if_neg (Nat.not_lt.2 hNew)))

end Sys2Proof.Machine
end

section
/-! PROOF. RUN and LPE_FE_CLEAR writes (R247, R297, R444). -/
namespace Sys2Proof.Machine

/-! ## Loops released -/

/-- `t` differs from `s` as releases of loops other than `n` may make it. -/
structure State.Releases (n : Nat) (s t : State) : Prop where
  parts : t = { s with regs := t.regs, lpe := { s.lpe with loops := t.lpe.loops }, int := t.int, str := t.str }
  length : t.lpe.loops.length = s.lpe.loops.length
  loop : t.loop n = s.loop n
  flags : t.word (R.LPE_LOOPn_FLAGS n) = s.word (R.LPE_LOOPn_FLAGS n)
  pends : t.pends (96 + n) = s.pends (96 + n)

/-- A release sets the loop, its flag and its source. -/
theorem State.feRelease_latched {s : State} {n : Nat} (h : (s.loop n).latched = true) : s.feRelease n =
    ((s.setLoop n (s.released n (s.loop n))).put (F.LPE_LOOPn_FLAGS_FE_LATCHED n) 0).raiseInt (96 + n) := if_pos h

theorem State.feRelease_free {s : State} {n : Nat} (h : (s.loop n).latched = false) : s.feRelease n = s := if_neg (by simp [h])

theorem State.feRelease_only (s : State) (n : Nat) : ∃ r l i x,
    s.feRelease n = { s with regs := r, lpe := { s.lpe with loops := l }, int := i, str := x } ∧ l.length = s.lpe.loops.length := by
  cases h : (s.loop n).latched
  · exact ⟨s.regs, s.lpe.loops, s.int, s.str, State.feRelease_free h, rfl⟩
  · obtain ⟨i, x, hRaise⟩ := ((s.setLoop n (s.released n (s.loop n))).put (F.LPE_LOOPn_FLAGS_FE_LATCHED n) 0).raiseInt_only (96 + n)
    exact ⟨(s.put (F.LPE_LOOPn_FLAGS_FE_LATCHED n) 0).regs, s.lpe.loops.set n (s.released n (s.loop n)), i, x,
      (State.feRelease_latched h).trans hRaise, List.length_set ..⟩

theorem State.loop_setLoop_of_ne (s : State) {n k : Nat} (h : k ≠ n) (l : LoopSt) : (s.setLoop n l).loop k = s.loop k := by
  show (s.lpe.loops.set n l).getD k {} = s.lpe.loops.getD k {}
  rw [List.getD_eq_getElem?_getD, List.getElem?_set_ne h.symm, List.getD_eq_getElem?_getD]

theorem State.loop_setLoop_self (s : State) {n : Nat} (hn : n < s.lpe.loops.length) (l : LoopSt) : (s.setLoop n l).loop n = l := by
  show (s.lpe.loops.set n l).getD n {} = l
  rw [List.getD_eq_getElem?_getD, List.getElem?_set_self hn]
  rfl

theorem State.feRelease_apart (s : State) {n k : Nat} (hn : n < 32) (h : n ≠ k) : State.Releases n s (s.feRelease k) := by
  obtain ⟨r, l, i, x, hParts, hLen⟩ := s.feRelease_only k
  have hFrame : s.feRelease k = { s with
      regs := (s.feRelease k).regs, lpe := { s.lpe with loops := (s.feRelease k).lpe.loops }
      int := (s.feRelease k).int, str := (s.feRelease k).str } := by rw [hParts]
  have hLength : (s.feRelease k).lpe.loops.length = s.lpe.loops.length := by rw [hParts]; exact hLen
  cases hLatched : (s.loop k).latched
  · rw [State.feRelease_free hLatched] at hFrame hLength ⊢
    exact ⟨hFrame, hLength, rfl, rfl, rfl⟩
  · refine ⟨hFrame, hLength, ?_, ?_, ?_⟩
    · rw [State.feRelease_latched hLatched, State.loop, State.raiseInt_lpe]
      exact s.loop_setLoop_of_ne h _
    · have hAddr : R.LPE_LOOPn_FLAGS n ≠ R.LPE_LOOPn_FLAGS k := by
        simp only [R.LPE_LOOPn_FLAGS]
        omega
      rw [State.feRelease_latched hLatched, State.raiseInt_word, State.word_put_ne _ _ _ _ hAddr]
      rfl
    · have hSource : 96 + n ≠ 96 + k := by omega
      rw [State.feRelease_latched hLatched, State.raiseInt_pends _ _ (by omega) (by omega), decide_eq_false hSource, Bool.and_false, Bool.or_false]
      rfl

namespace State.Releases
variable {s t u : State} {n : Nat}

theorem refl (n : Nat) (s : State) : State.Releases n s s := ⟨rfl, rfl, rfl, rfl, rfl⟩

theorem trans (h : State.Releases n s t) (h' : State.Releases n t u) : State.Releases n s u where
  parts := by
    have hu := h'.parts
    rw [h.parts] at hu
    exact hu
  length := h'.length.trans h.length
  loop := h'.loop.trans h.loop
  flags := h'.flags.trans h.flags
  pends := h'.pends.trans h.pends

set_option Elab.async false in
theorem foldl (hn : n < 32) (l : List Nat) (hl : n ∉ l) (s : State) : State.Releases n s (l.foldl State.feRelease s) := by
  induction l generalizing s with
  | nil => exact refl n s
  | cons k l ih =>
    rw [List.mem_cons, not_or] at hl
    exact (s.feRelease_apart hn hl.1).trans (ih hl.2 _)

end State.Releases

/-- A latched loop of the list is released and its source raised, whatever other loops are. -/
theorem State.foldl_feRelease_mem {s : State} {n : Nat} (hn : n < 32) (hLoop : n < s.lpe.loops.length) (hLatched : (s.loop n).latched = true)
    {l : List Nat} (hNodup : l.Nodup) (hl : n ∈ l) :
    (l.foldl State.feRelease s).loop n = s.released n (s.loop n) ∧
    (l.foldl State.feRelease s).is (F.LPE_LOOPn_FLAGS_FE_LATCHED n) = false ∧
    (l.foldl State.feRelease s).pends (96 + n) = (s.isOn 1 || s.pends (96 + n)) := by
  obtain ⟨l₁, l₂, rfl⟩ := List.append_of_mem hl
  have hApart := List.nodup_append.1 hNodup
  have h₁ : n ∉ l₁ := fun h => hApart.2.2 n h n List.mem_cons_self rfl
  have h₂ : n ∉ l₂ := (List.nodup_cons.1 hApart.2.1).1
  rw [List.foldl_append, List.foldl_cons]
  obtain ⟨hParts, hLength, hSame, -, hPends⟩ := State.Releases.foldl hn l₁ h₁ s
  generalize l₁.foldl State.feRelease s = t at *
  have hAfter := State.Releases.foldl hn l₂ h₂ (t.feRelease n)
  have hTaken : (t.loop n).latched = true := by rw [hSame, hLatched]
  have hReleased : t.released n (t.loop n) = s.released n (s.loop n) := by
    rw [hSame, hParts]
    rfl
  refine ⟨?_, ?_, ?_⟩
  · rw [hAfter.loop, State.feRelease_latched hTaken, State.loop, State.raiseInt_lpe, hReleased]
    exact t.loop_setLoop_self (hLength ▸ hLoop) _
  · rw [State.is, State.get, hAfter.flags, State.feRelease_latched hTaken, State.raiseInt_word]
    exact State.is_put_same _ (F.LPE_LOOPn_FLAGS_FE_LATCHED n) 0 rfl
  · rw [hAfter.pends, State.feRelease_latched hTaken, State.raiseInt_pends_self _ (by omega) (by omega), ← hPends]
    have hOn : t.isOn 1 = s.isOn 1 := by
      rw [hParts]
      rfl
    rw [← hOn]
    rfl

theorem State.foldl_feRelease_only (s : State) (l : List Nat) : l.foldl State.feRelease s = { s with
    regs := (l.foldl State.feRelease s).regs, lpe := { s.lpe with loops := (l.foldl State.feRelease s).lpe.loops }
    int := (l.foldl State.feRelease s).int, str := (l.foldl State.feRelease s).str } := by
  induction l generalizing s with
  | nil => rfl
  | cons k l ih =>
    obtain ⟨r, m, i, x, hOnly, -⟩ := s.feRelease_only k
    have hRest := ih (s.feRelease k)
    rw [List.foldl_cons]
    generalize l.foldl State.feRelease (s.feRelease k) = t at hRest ⊢
    rw [hOnly] at hRest
    exact hRest

/-- A loop that is not of the mask, or not latched, is left as it is. -/
theorem State.feRelease_foldl_free {s : State} {n : Nat} (hn : n < 32) (hFree : (s.loop n).latched = false) (l : List Nat) :
    (l.foldl State.feRelease s).loop n = s.loop n ∧ (l.foldl State.feRelease s).word (R.LPE_LOOPn_FLAGS n) = s.word (R.LPE_LOOPn_FLAGS n) := by
  induction l generalizing s with
  | nil => exact ⟨rfl, rfl⟩
  | cons k l ih =>
    have hStep : (s.feRelease k).loop n = s.loop n ∧ (s.feRelease k).word (R.LPE_LOOPn_FLAGS n) = s.word (R.LPE_LOOPn_FLAGS n) := by
      by_cases hk : n = k
      · rw [← hk, State.feRelease_free hFree]
        exact ⟨rfl, rfl⟩
      · exact ⟨(s.feRelease_apart hn hk).loop, (s.feRelease_apart hn hk).flags⟩
    obtain ⟨hLoop, hWord⟩ := ih (s := s.feRelease k) (by rw [hStep.1, hFree])
    exact ⟨hLoop.trans hStep.1, hWord.trans hStep.2⟩

/-! ## Writes of RUN -/

theorem State.twinWrite_alone {s : State} (h : s.twn.operating = false) (a : Nat) (v : Word) (effect : State → State) :
    s.twinWrite a v effect = effect s := if_neg (by simp [h])

theorem State.twinWrite_active {s : State} (h : s.twn.operating = true) (hTwin : s.twin = 2) (a : Nat) (v : Word) (effect : State → State) :
    s.twinWrite a v effect = { s with twn := { s.twn with queueOut := s.twn.queueOut ++ [⟨1, a, v⟩] } } := (if_pos h).trans (if_pos hTwin)

theorem State.twinWrite_other {s : State} (h : s.twn.operating = true) (hTwin : s.twin ≠ 2) (a : Nat) (v : Word) (effect : State → State) :
    s.twinWrite a v effect = s := (if_pos h).trans (if_neg hTwin)

theorem execRunWrite_next {s : State} (h : s.gridRuns = true) (value : Bool) :
    exec (.runWrite value) s = .next (s.twinWrite R.DPC_CTRL (BitVec.ofNat 32 (b2n value)) (·.writeRun value)).settle :=
  next_settle (if_pos h)

theorem execFeClear_next {s : State} (h : s.isOn 11 = true) (mask : Word) :
    exec (.feClear mask) s = .next (s.twinWrite R.LPE_FE_CLEAR mask (·.feClear mask.toNat)).settle := next_settle (if_pos h)

theorem State.writeRun_taken {s : State} (h : s.gridRuns = true) {v : Bool} (hv : v = false ∨ s.ctl = 0) : s.writeRun v = s.flag F.DPC_CTRL_RUN v :=
  if_pos (by rcases hv with rfl | hv <;> simp [*])

theorem State.writeRun_refused {s : State} {v : Bool} (hv : v = true) (hCtl : s.ctl ≠ 0) : s.writeRun v = s := if_neg (by simp [hv, hCtl])

/-- Settles O54: the write takes effect in a device alone; of a pair, the active twin queues it. -/
theorem runTimeWrites : Obligations.RunTimeWrites := by
  intro s
  refine ⟨fun value hGrid hAlone => ⟨fun hv => ?_, fun hv hCtl => ?_⟩, fun value hGrid hTwin => ⟨fun hActive => ?_, fun hOther => ?_⟩,
    fun mask h11 hAlone => ?_, fun mask h11 hTwin => ⟨fun hActive => ?_, fun hOther => ?_⟩⟩
  · refine ⟨s.flag F.DPC_CTRL_RUN value, ?_, s.is_flag_same _ value rfl rfl, rfl, (s.sameBits_refl _).flag⟩
    rw [execRunWrite_next hGrid, State.twinWrite_alone hAlone, State.writeRun_taken hGrid hv]
  · rw [execRunWrite_next hGrid, State.twinWrite_alone hAlone, State.writeRun_refused hv hCtl]
  · rw [execRunWrite_next hGrid, State.twinWrite_active hTwin hActive]
  · rw [execRunWrite_next hGrid, State.twinWrite_other hTwin hOther]
  · have hNext : exec (.feClear mask) s = .next (State.settle (((List.range 32).filter (natBit mask.toNat)).foldl State.feRelease s)) := by
      rw [execFeClear_next h11, State.twinWrite_alone hAlone, State.feClear, if_pos h11]
    have hMem : ∀ n, n < 32 → (n ∈ (List.range 32).filter (natBit mask.toNat) ↔ mask.getLsbD n = true) := by
      intro n hn
      rw [List.mem_filter, List.mem_range, natBit_eq_testBit]
      exact and_iff_right hn
    refine ⟨_, hNext, fun n hn hLoop hMask hLatched => ?_, fun n hn hFree => ?_, s.foldl_feRelease_only _⟩
    · obtain ⟨hSelf, hFlag, hPends⟩ := State.foldl_feRelease_mem hn hLoop hLatched (List.nodup_range.filter _) ((hMem n hn).2 hMask)
      rw [hSelf]
      exact ⟨rfl, rfl, rfl, rfl, hFlag, hPends⟩
    · rcases hFree with hMask | hFree
      · have hApart := State.Releases.foldl hn _ (fun h => absurd ((hMem n hn).1 h) (by simp [hMask])) s
        exact ⟨hApart.loop, hApart.flags⟩
      · exact State.feRelease_foldl_free hn hFree _
  · rw [execFeClear_next h11, State.twinWrite_active hTwin hActive]
  · rw [execFeClear_next h11, State.twinWrite_other hTwin hOther]

end Sys2Proof.Machine
end

section
/-! PROOF. The Strata log: its arbiter, marks and reads (R349, R350, R352, R471). -/
namespace Sys2Proof.Machine

/-! ## Raises leave the log -/

theorem State.raise167_log (s : State) : s.raise167.str.log = s.str.log ∧ s.raise167.str.overrun = s.str.overrun := by
  have hRaise : (Machine.offerRaise s.str 167).1.log = s.str.log ∧ (Machine.offerRaise s.str 167).1.overrun = s.str.overrun := by
    rw [Machine.offerRaise]
    split
    · exact ⟨rfl, rfl⟩
    · exact ⟨rfl, rfl⟩
  unfold State.raise167
  split
  · dsimp only
    split
    · exact hRaise
    · exact ⟨rfl, rfl⟩
  · exact ⟨rfl, rfl⟩

theorem State.offerRaise_log (s : State) (n : Nat) : (s.offerRaise n).str.log = s.str.log ∧ (s.offerRaise n).str.overrun = s.str.overrun := by
  have hRaise : (Machine.offerRaise s.str n).1.log = s.str.log ∧ (Machine.offerRaise s.str n).1.overrun = s.str.overrun := by
    rw [Machine.offerRaise]
    split
    · exact ⟨rfl, rfl⟩
    · exact ⟨rfl, rfl⟩
  unfold State.offerRaise
  dsimp only
  split
  · obtain ⟨hLog, hOverrun⟩ := (s.withStr (Machine.offerRaise s.str n).1).raise167_log
    exact ⟨hLog.trans hRaise.1, hOverrun.trans hRaise.2⟩
  · exact hRaise

set_option Elab.async false in
theorem State.raiseInt_log (s : State) (n : Nat) : (s.raiseInt n).str.log = s.str.log ∧ (s.raiseInt n).str.overrun = s.str.overrun := by
  unfold State.raiseInt
  split
  · dsimp only
    split
    · exact (s.setPend n).offerRaise_log n
    · exact ⟨rfl, rfl⟩
  · exact ⟨rfl, rfl⟩

theorem State.raiseFirst_log (s : State) (n : Nat) : (s.raiseFirst n).str.log = s.str.log ∧ (s.raiseFirst n).str.overrun = s.str.overrun := by
  unfold State.raiseFirst
  split
  · exact State.raiseInt_log _ n
  · exact ⟨rfl, rfl⟩

/-! ## The arbiter -/

/-- The lowest port that waits offers its first entry. -/
theorem takeOffer_first {qs : List (List StrataOffer)} {q : Nat} {e : StrataOffer} {l : List StrataOffer} (h : qs.getD q [] = e :: l)
    (hLower : ∀ k, k < q → qs.getD k [] = []) : takeOffer qs = some (e, qs.set q l) := by
  induction qs generalizing q with
  | nil => simp at h
  | cons x qs ih =>
    cases q with
    | zero =>
      obtain rfl : x = e :: l := h
      rfl
    | succ q =>
      obtain rfl : x = [] := hLower 0 (Nat.succ_pos q)
      have hRest : takeOffer qs = some (e, qs.set q l) := ih h fun k hk => hLower (k + 1) (Nat.succ_lt_succ hk)
      rw [takeOffer, hRest]
      rfl

theorem State.acceptEntry_room {s : State} (e : StrataOffer) (h : s.str.log.length < 4096) :
    s.acceptEntry e = s.withStr { s.str with log := s.str.log ++ [entryBits e s.nowNs] } := if_pos h

theorem State.acceptEntry_full {s : State} (e : StrataOffer) (h : ¬s.str.log.length < 4096) : s.acceptEntry e =
    (s.withStr { s.str with log := s.str.log.drop 1 ++ [entryBits e s.nowNs], overrun := satInc 16 s.str.overrun }).raiseFirst 166 := if_neg h

theorem execStrataEntryAccepted_next {s : State} (h1 : s.isOn 1 = true) {e : StrataOffer} {qs : List (List StrataOffer)}
    (h : takeOffer s.str.queues = some (e, qs)) :
    exec .strataEntryAccepted s = .next ((s.withStr { s.str with queues := qs }).acceptEntry e).settle := by
  show execStrataEntryAccepted s = _
  rw [execStrataEntryAccepted, h]
  exact if_pos h1

/-! ## Reads of the log -/

theorem findReg_strataLo : ∃ r, findReg R.STR_DATA_LO = some r ∧ r.roles = 7 ∧ r.polder = 1 ∧ r.words = 2 := ⟨_, rfl, rfl, rfl, rfl⟩

theorem findReg_strataHi : ∃ r, findReg R.STR_DATA_HI = some r ∧ r.roles = 7 ∧ r.polder = 1 := ⟨_, rfl, rfl, rfl⟩

/-- A register of polder 1 and of every role is there while polder 1 is on. -/
theorem State.hostHas_common {s : State} (h1 : s.isOn 1 = true) (hRole : s.role ≠ .none) {r : RegRow} (hRoles : r.roles = 7) (hPolder : r.polder = 1) :
    s.hostHas r = true := by
  have hIn : inRole 7 s.role = true := by
    cases h : s.role with
    | none => exact absurd h hRole
    | _ => rfl
  rw [State.hostHas, hRoles, hPolder, h1, hIn]
  rfl

theorem State.hostWord_strataLo {s : State} (h1 : s.isOn 1 = true) (hRole : s.role ≠ .none) (now : Straps) :
    s.hostWord now R.STR_DATA_LO = ((s.str.log.headD 0).extractLsb' 0 32, s) := by
  obtain ⟨r, hFind, hRoles, hPolder, -⟩ := findReg_strataLo
  have hHas := State.hostHas_common h1 hRole hRoles hPolder
  refine (if_neg (by decide)).trans ((if_neg (by decide)).trans ?_)
  rw [hFind]
  exact if_neg (by simp [hHas])

theorem State.hostWord_strataHi {s : State} (h1 : s.isOn 1 = true) (hRole : s.role ≠ .none) (now : Straps) :
    s.hostWord now R.STR_DATA_HI = ((s.str.log.headD 0).extractLsb' 32 32, s) := by
  obtain ⟨r, hFind, hRoles, hPolder⟩ := findReg_strataHi
  have hHas := State.hostHas_common h1 hRole hRoles hPolder
  refine (if_neg (by decide)).trans ((if_neg (by decide)).trans ?_)
  rw [hFind]
  exact if_neg (by simp [hHas])

/-- The two words of the oldest entry. -/
def strataWords (x : BitVec 64) : List Word := [x.extractLsb' 0 32, x.extractLsb' 32 32]

theorem State.itemWords_strata {s : State} (h1 : s.isOn 1 = true) (hRole : s.role ≠ .none) (now : Straps) :
    s.itemWords now R.STR_DATA_LO 2 = (strataWords (s.str.log.headD 0), s) := by
  have hHi : s.hostWord now (R.STR_DATA_LO + 4) = ((s.str.log.headD 0).extractLsb' 32 32, s) := State.hostWord_strataHi h1 hRole now
  simp only [State.itemWords, State.hostWord_strataLo h1 hRole now, hHi]
  rfl

theorem itemAt_strata : itemAt R.STR_DATA_LO = (R.STR_DATA_LO, 2) := by
  obtain ⟨r, hFind, -, -, hWords⟩ := findReg_strataLo
  rw [itemAt, hFind]
  show (if r.words = 0 then (R.STR_DATA_LO - 4, 2) else (R.STR_DATA_LO, r.words)) = _
  rw [hWords]
  rfl

/-- The first unit of STR_DATA is captured anew. -/
theorem State.capture_strata {s : State} (h1 : s.isOn 1 = true) (hRole : s.role ≠ .none) (p : Port) (now : Straps) :
    ∃ v, s.capture p now R.STR_DATA_LO = (⟨R.STR_DATA_LO, strataWords (s.str.log.headD 0), v, true⟩,
      s.setPort p { snap := some (R.STR_DATA_LO, strataWords (s.str.log.headD 0), 1) }) := by
  have hItem : itemAt (R.STR_DATA_LO - R.STR_DATA_LO % 4) = (R.STR_DATA_LO, 2) := itemAt_strata
  have hUnit : (R.STR_DATA_LO - R.STR_DATA_LO) / (p.unit / 8) = 0 := by
    rw [Nat.sub_self, Nat.zero_div]
  refine ⟨unitOf p (strataWords (s.str.log.headD 0)) 0, ?_⟩
  unfold State.capture
  rw [hItem]
  dsimp only
  rw [hUnit, State.itemWords_strata h1 hRole]
  split
  · exact if_neg (by simp)
  · rfl

set_option Elab.async false in
theorem State.readEffects_strata {s : State} (h1 : s.isOn 1 = true) : s.readEffects R.STR_DATA_LO (strataWords (s.str.log.headD 0)) =
    s.withStr { s.str with log := s.str.log.tail } := by
  refine (if_pos rfl).trans ?_
  cases hLog : s.str.log with
  | nil =>
    have hSelf : { s.str with log := ([] : List (BitVec 64)).tail } = s.str := by rw [List.tail_nil, ← hLog]
    rw [hSelf]
    rfl
  | cons e l => exact if_pos (by simp [h1])

theorem State.portRead_strata {s : State} (h1 : s.isOn 1 = true) (hRole : s.role ≠ .none) (p : Port) (now : Straps) :
    (s.portRead p now R.STR_DATA_LO).2 = (s.setPort p { snap := some (R.STR_DATA_LO, strataWords (s.str.log.headD 0), 1) }).withStr
      { s.str with log := s.str.log.tail } := by
  obtain ⟨v, hCapture⟩ := State.capture_strata h1 hRole p now
  rw [State.portRead, hCapture]
  cases p with
  | bus => exact (s.withBus _).readEffects_strata h1
  | spi => exact (s.withSpiPort _).readEffects_strata h1

/-! ## Marks -/

theorem State.offer_room {s : State} (h1 : s.isOn 1 = true) {q : Nat} (e : StrataOffer) (h : (s.str.queues.getD q []).length < 16) :
    s.offer q e = s.withStr { s.str with queues := s.str.queues.set q (s.str.queues.getD q [] ++ [e]) } := by
  have hCore := (offerCore_cases s.str q e).resolve_right fun hFull => hFull.1 h
  rw [State.offer, if_pos h1, hCore.2]
  rfl

theorem State.offer_dropped {s : State} (h1 : s.isOn 1 = true) {q : Nat} (e : StrataOffer) (h : ¬(s.str.queues.getD q []).length < 16) :
    s.offer q e = (s.withStr { s.str with drop := satInc 16 s.str.drop }).raise167 := by
  have hCore := (offerCore_cases s.str q e).resolve_left fun hRoom => h hRoom.1
  rw [State.offer, if_pos h1, hCore.2]
  rfl

/-- Settles O42: the arbiter takes the first waiting port, a mark is offered to port 3, a read takes the oldest entry. -/
theorem strataLog : Obligations.StrataLog := by
  intro s h1 hInv
  refine ⟨fun q e l hq hFirst hLower => ?_, fun v => ?_, fun port hRole => ?_⟩
  · have hNext := execStrataEntryAccepted_next h1 (takeOffer_first hFirst hLower)
    by_cases hRoom : s.str.log.length < 4096
    · rw [State.acceptEntry_room (s := s.withStr { s.str with queues := s.str.queues.set q l }) e hRoom] at hNext
      exact ⟨_, hNext, fun _ => ⟨rfl, rfl, rfl, rfl⟩, fun hFull => absurd hFull (Nat.ne_of_lt hRoom), rfl⟩
    · rw [State.acceptEntry_full (s := s.withStr { s.str with queues := s.str.queues.set q l }) e hRoom] at hNext
      refine ⟨_, hNext, fun h => absurd h hRoom, fun _ => ?_, ?_⟩
      · exact State.raiseFirst_log ..
      · generalize hFull : (s.withStr { s.str with queues := s.str.queues.set q l }).withStr _ = t
        obtain ⟨i, x, hRaise⟩ := t.raiseFirst_only 166
        rw [hRaise, ← hFull]
        rfl
  · have hNext : exec (.strataMark v) s = .next (s.offer 3 ⟨3, 0, false, false, v.toNat⟩).settle := by
      have hMod : v.toNat % 65536 = v.toNat := Nat.mod_eq_of_lt v.isLt
      exact (if_pos h1).trans (by rw [State.hostMark, hMod])
    refine ⟨_, hNext, ?_, fun hRoom => ?_, fun hFull hArm => ?_⟩
    · obtain ⟨i, x, hOffer⟩ := s.offer_only 3 ⟨3, 0, false, false, v.toNat⟩
      rw [hOffer]
      rfl
    · rw [State.offer_room h1 _ hRoom]
      exact ⟨rfl, rfl⟩
    · have hKept : (s.withStr { s.str with drop := satInc 16 s.str.drop }).raise167 = s.withStr { s.str with drop := satInc 16 s.str.drop } :=
        if_neg (by simpa using hArm)
      rw [State.offer_dropped h1 _ (by omega), hKept]
      exact ⟨rfl, rfl⟩
  · have hNext : exec (.strataDataRead port) s = .next ((s.spaced port.kind).portRead port s.pwr.straps R.STR_DATA_LO).2.settle := if_pos h1
    rw [State.portRead_strata (s := s.spaced port.kind) h1 hRole] at hNext
    refine ⟨_, hNext, rfl, ?_, fun e l hLog => ?_⟩
    · cases port <;> rfl
    · have hHead : (s.spaced port.kind).str.log.headD 0 = e := by
        show s.str.log.headD 0 = e
        rw [hLog]
        rfl
      rw [hHead]
      cases port <;> rfl

end Sys2Proof.Machine
end

section
/-! PROOF. The time reached by an event that carries its own (`State.reach`), and what comes due with it. -/
namespace Sys2Proof.Machine

/-- What comes due as time passes: duplicate entries of redundancy, notches, the races of the host. -/
def Scope.due : Scope := ⟨[.regs, .net, .gdr, .mod, .pins, .int, .str, .adc], [7, 9, 13], [80, 81, 82, 83, 130]⟩

/-- What the passing of time touches. -/
def Scope.reach : Scope := ⟨[.tim, .regs, .net, .gdr, .mod, .pins, .int, .str, .adc], [7, 9, 13], [80, 81, 82, 83, 130]⟩

theorem State.Within.raiseFirst {s t : State} {f : Scope} {k : Nat} (h : s.Within t f) (hk : f.ints.contains k = true := by rfl)
    (hInt : f.parts.contains .int = true := by rfl) (hStr : f.parts.contains .str = true := by rfl) : s.Within (t.raiseFirst k) f := by
  have hArmed : ∀ v : BitVec 256, t.Within (t.withInt { t.int with arm := v }) f := fun v =>
    ⟨fun q hq => by
      cases q
      case int => rw [hInt] at hq; exact nomatch hq
      all_goals rfl, fun _ _ => rfl, fun _ _ _ _ => rfl⟩
  exact .ite ((h.trans (hArmed _)).raiseInt hk hInt hStr) h

theorem State.dupExpire_within (s : State) : s.Within s.dupExpire .due := by
  delta State.dupExpire
  refine .foldl (fun u e h => ?_) (State.Within.refl s .due).withNet
  exact .ite h.bump.raiseFirst (.ite h.bump.raiseFirst h)

theorem State.mgmtExpire_within (s : State) : s.Within s.mgmtExpire .due := by
  have h := State.Within.refl s .due
  delta State.mgmtExpire
  split
  · exact .ite h.withNet h
  · exact h

theorem State.notchEdge_within (s : State) (n : Nat) : s.Within (s.notchEdge n) .drive := by
  have h := State.Within.refl s .drive
  unfold State.notchEdge
  split
  · exact h
  · exact .ite (h.withGdr.andThen (State.drive_within _)) h

theorem State.notchTo_within (s : State) : s.Within s.notchTo .drive := by
  have h := State.Within.refl s .drive
  refine .ite (.foldl (fun u n hu => ?_) h) h
  exact ((hu.andThen (u.notchEdge_within n)).andThen (State.notchEdge_within _ n)).andThen (State.notchEdge_within _ n)

/-- Without the pending bits nothing of the interrupts matters to a scope. -/
theorem State.clocksPassed_within (s : State) : s.Within s.clocksPassed .due :=
  ⟨fun q hq => by
    cases q
    case int => exact nomatch hq
    case adc => exact nomatch hq
    all_goals rfl, fun _ _ => rfl, fun _ _ _ _ => rfl⟩

/-- The state once its time has been set. -/
def State.comeDue (s : State) (far : Bool) : State := if far then s.netExpire.notchTo.clocksPassed else s.netExpire.notchTo

theorem State.comeDue_within (s : State) (far : Bool) : s.Within (s.comeDue far) .due := by
  have hExpire : s.Within s.netExpire .due := s.dupExpire_within.andThen s.dupExpire.mgmtExpire_within
  have hNotch : s.Within s.netExpire.notchTo .due := hExpire.andThen s.netExpire.notchTo_within
  exact .ite (hNotch.andThen (State.clocksPassed_within _)) hNotch

theorem State.reach_eq (s : State) (t : Nat) : ∃ far, s.reach t =
    if laterThan t s.nowNs then (s.withTim { s.tim with now := t % 2 ^ 32 * 2 ^ 32 }).comeDue far else s := ⟨_, rfl⟩

theorem State.reach_within (s : State) (t : Nat) : s.Within (s.reach t) .reach := by
  obtain ⟨far, hReach⟩ := s.reach_eq t
  rw [hReach]
  exact .ite ((State.Within.refl s .reach).withTim.andThen (State.comeDue_within _ far)) (.refl s _)

/-- The time reached. -/
theorem State.reach_nowNs (s : State) (t : Nat) : (s.reach t).nowNs = if laterThan t s.nowNs then t % 2 ^ 32 else s.nowNs := by
  obtain ⟨far, hReach⟩ := s.reach_eq t
  rw [hReach]
  split
  · have hTim : ((s.withTim { s.tim with now := t % 2 ^ 32 * 2 ^ 32 }).comeDue far).tim = { s.tim with now := t % 2 ^ 32 * 2 ^ 32 } :=
      (State.comeDue_within _ far).parts .tim rfl
    rw [State.nowNs, hTim]
    show t % 2 ^ 32 * 2 ^ 32 / 2 ^ 32 % 2 ^ 32 = _
    rw [Nat.mul_div_cancel _ (by decide), Nat.mod_mod]
  · rfl

set_option Elab.async false in
theorem laterThan_self_mod (t : Nat) : laterThan t (t % 2 ^ 32) = false := by
  have hGap : (t % 2 ^ 32 + 2 ^ 32 - t % 2 ^ 32 % 2 ^ 32) % 2 ^ 32 = 0 := by omega
  rw [laterThan, hGap]
  rfl

/-- An event's own time has come once it is reached. -/
theorem State.reach_timeCame (s : State) (t : Nat) : (s.reach t).timeCame t = true := by
  rw [State.timeCame, s.reach_nowNs]
  split
  next => rw [laterThan_self_mod]; rfl
  next h => simpa using h

/-- A word of another block than 7, 9 and 13 is as before. -/
theorem State.reach_word (s : State) (t : Nat) {a : Nat} (ha : Scope.reach.blocks.contains (a / 65536) = false := by rfl) :
    (s.reach t).word a = s.word a := (s.reach_within t).words a ha

end Sys2Proof.Machine
end

section
/-! PROOF. Subscriptions that expire, and the GOOSE trips that follow them (R414, R419, R420). -/
namespace Sys2Proof.Machine

/-! ## The trips follow their subscriptions -/

/-- The held signal of a valid subscription's trip. -/
def State.tripKept (s : State) (k : Nat) : State :=
  if (s.gseSub (s.cf (F.GSE_TRIPk_SUB k))).valid then s.withStm { s.stm with tripHeld := setBit8 s.stm.tripHeld k (s.tripSignal k) } else s

/-- Trip `k` takes its signal. -/
def State.tripStep (s : State) (k : Nat) : State :=
  if (s.tripKept k).stm.trips.getLsbD k == s.tripSignal k then s.tripKept k
  else ((s.tripKept k).withStm { (s.tripKept k).stm with trips := (s.tripKept k).stm.trips ^^^ (1#8 <<< k) }).raiseInt (144 + k)

theorem State.tripsFollow_eq (s : State) : s.tripsFollow = (List.range 8).foldl State.tripStep s := rfl

/-- `t` differs from `s` as trips that follow may make it. -/
structure State.TripsMoved (s t : State) : Prop where
  parts : t = { s with stm := { s.stm with trips := t.stm.trips, tripHeld := t.stm.tripHeld }, int := t.int, str := t.str }
  held : ∀ k, (s.gseSub (s.cf (F.GSE_TRIPk_SUB k))).valid = false → t.stm.tripHeld.getLsbD k = s.stm.tripHeld.getLsbD k
  pends : ∀ n, n < 256 → n ≠ 167 → (n < 144 ∨ 152 ≤ n) → t.pends n = s.pends n
  stays : ∀ n, n < 256 → n ≠ 167 → s.pends n = true → t.pends n = true

namespace State.TripsMoved
variable {s t u : State}

theorem refl (s : State) : s.TripsMoved s := ⟨rfl, fun _ _ => rfl, fun _ _ _ _ => rfl, fun _ _ _ h => h⟩

theorem gseSub (h : s.TripsMoved t) (i : Nat) : t.gseSub i = s.gseSub i := by
  rw [h.parts]
  rfl

theorem cf (h : s.TripsMoved t) (f : Fld) : t.cf f = s.cf f := by
  rw [h.parts]
  rfl

theorem isOn (h : s.TripsMoved t) (p : Nat) : t.isOn p = s.isOn p := by
  rw [h.parts]
  rfl

theorem word (h : s.TripsMoved t) (a : Nat) : t.word a = s.word a := by
  rw [h.parts]
  rfl

theorem trans (h : s.TripsMoved t) (h' : t.TripsMoved u) : s.TripsMoved u where
  parts := by
    have hu := h'.parts
    rw [h.parts] at hu
    exact hu
  held k hk := (h'.held k (by rw [h.cf, h.gseSub]; exact hk)).trans (h.held k hk)
  pends n hn h167 hTrip := (h'.pends n hn h167 hTrip).trans (h.pends n hn h167 hTrip)
  stays n hn h167 hPends := h'.stays n hn h167 (h.stays n hn h167 hPends)

/-- The signals do not depend on the trips. -/
theorem tripSignal (h : s.TripsMoved t) (k : Nat) : t.tripSignal k = s.tripSignal k := by
  have hIs : t.cfIs (F.GSE_TRIPk_EN k) = s.cfIs (F.GSE_TRIPk_EN k) := by rw [h.parts]; rfl
  have hPol : t.cfIs (F.GSE_TRIPk_POL k) = s.cfIs (F.GSE_TRIPk_POL k) := by rw [h.parts]; rfl
  have hInvalid : t.cfIs (F.GSE_TRIPk_INVALID_TRIP k) = s.cfIs (F.GSE_TRIPk_INVALID_TRIP k) := by rw [h.parts]; rfl
  cases hValid : (s.gseSub (s.cf (F.GSE_TRIPk_SUB k))).valid
  · simp only [State.tripSignal, h.cf, h.gseSub, h.isOn, hIs, hInvalid, hValid, Bool.false_eq_true, if_false, h.held k hValid]
  · simp only [State.tripSignal, h.cf, h.gseSub, h.isOn, hIs, hPol, hValid, if_true, h.word]

end State.TripsMoved

theorem getLsbD_xorBit {n : Nat} (v : BitVec n) {k : Nat} (hk : k < n) (i : Nat) :
    (v ^^^ 1#n <<< k).getLsbD i = (v.getLsbD i ^^ decide (i = k)) := by
  rw [BitVec.getLsbD_xor, getLsbD_bit]
  by_cases hi : i < n
  · rw [decide_eq_true hi, Bool.true_and]
  · have hne : i ≠ k := by omega
    rw [decide_eq_false hi, decide_eq_false hne, Bool.false_and]

theorem setBit8_apart (v : BitVec 8) {i k : Nat} (b : Bool) (hk : k < 8) (h : i ≠ k) : (setBit8 v k b).getLsbD i = v.getLsbD i := by
  rw [setBit8]
  split
  · rfl
  · rw [getLsbD_xorBit v hk, decide_eq_false h, Bool.xor_false]

theorem State.tripKept_moved (s : State) {k : Nat} (hk : k < 8) : s.TripsMoved (s.tripKept k) := by
  cases hValid : (s.gseSub (s.cf (F.GSE_TRIPk_SUB k))).valid
  · rw [State.tripKept, if_neg (by simp [hValid])]
    exact .refl s
  · rw [State.tripKept, if_pos hValid]
    refine ⟨rfl, fun j hj => ?_, fun _ _ _ _ => rfl, fun _ _ _ h => h⟩
    have hne : j ≠ k := by
      rintro rfl
      rw [hValid] at hj
      exact nomatch hj
    exact setBit8_apart _ _ hk hne

set_option Elab.async false in
theorem State.tripKept_trips (s : State) (k : Nat) : (s.tripKept k).stm.trips = s.stm.trips := by
  rw [State.tripKept]
  split <;> rfl

theorem State.tripKept_isOn (s : State) (k p : Nat) : (s.tripKept k).isOn p = s.isOn p := by
  rw [State.tripKept]
  split <;> rfl

/-- A trip that differs from its signal flips and raises its source. -/
theorem State.tripFlip_moved (s : State) {k : Nat} (hk : k < 8) :
    s.TripsMoved ((s.withStm { s.stm with trips := s.stm.trips ^^^ (1#8 <<< k) }).raiseInt (144 + k)) := by
  generalize hFlip : s.withStm { s.stm with trips := s.stm.trips ^^^ (1#8 <<< k) } = u
  obtain ⟨i, x, hRaise⟩ := u.raiseInt_only (144 + k)
  have hPends : ∀ n, u.pends n = s.pends n := fun n => by rw [← hFlip]; rfl
  refine ⟨?_, fun j _ => ?_, fun n hn h167 hTrip => ?_, fun n hn h167 hOld => ?_⟩
  · rw [hRaise, ← hFlip]
    rfl
  · rw [State.raiseInt_stm, ← hFlip]
    rfl
  · have hne : n ≠ 144 + k := by omega
    rw [u.raiseInt_pends _ hn h167, decide_eq_false hne, Bool.and_false, Bool.or_false, hPends]
  · rw [u.raiseInt_pends _ hn h167, hPends, hOld, Bool.true_or]

/-- What one trip's step does. -/
theorem State.tripStep_facts (s : State) {k : Nat} (hk : k < 8) : s.TripsMoved (s.tripStep k) ∧
    (s.tripStep k).stm.trips.getLsbD k = s.tripSignal k ∧
    (∀ j, j ≠ k → (s.tripStep k).stm.trips.getLsbD j = s.stm.trips.getLsbD j) ∧
    (s.stm.trips.getLsbD k ≠ s.tripSignal k → s.isOn 1 = true → (s.tripStep k).pends (144 + k) = true) := by
  have hKept := s.tripKept_moved hk
  have hTrips := s.tripKept_trips k
  have hOn := s.tripKept_isOn k 1
  unfold State.tripStep
  generalize s.tripKept k = u at hKept hTrips hOn ⊢
  by_cases hSame : (u.stm.trips.getLsbD k == s.tripSignal k) = true
  · rw [if_pos hSame]
    have hBit := beq_iff_eq.1 hSame
    exact ⟨hKept, hBit, fun j _ => by rw [hTrips], fun hDiff => absurd (hTrips ▸ hBit) hDiff⟩
  · rw [if_neg hSame]
    have hBit : u.stm.trips.getLsbD k ≠ s.tripSignal k := fun h => hSame (beq_iff_eq.2 h)
    have hFlip : ∀ j, (u.stm.trips ^^^ (1#8 <<< k)).getLsbD j = (s.stm.trips.getLsbD j ^^ decide (j = k)) := fun j => by
      rw [getLsbD_xorBit _ hk, hTrips]
    refine ⟨hKept.trans (u.tripFlip_moved hk), ?_, fun j hj => ?_, fun _ h1 => ?_⟩
    · rw [State.raiseInt_stm]
      refine (hFlip k).trans ?_
      rw [hTrips] at hBit
      rw [decide_eq_true rfl, Bool.xor_true]
      exact (Bool.eq_not.2 hBit.symm).symm
    · rw [State.raiseInt_stm]
      refine (hFlip j).trans ?_
      rw [decide_eq_false hj, Bool.xor_false]
    · rw [State.raiseInt_pends_self _ (by omega) (by omega)]
      exact (congrArg (· || _) (hOn.trans h1)).trans (Bool.true_or _)

/-- After the steps of a list each trip of it has its signal, the others are as before. -/
theorem State.tripSteps_facts {l : List Nat} (hNodup : l.Nodup) (hl : ∀ k ∈ l, k < 8) (s : State) : s.TripsMoved (l.foldl State.tripStep s) ∧
    (∀ k ∈ l, (l.foldl State.tripStep s).stm.trips.getLsbD k = s.tripSignal k ∧
      (s.stm.trips.getLsbD k ≠ s.tripSignal k → s.isOn 1 = true → (l.foldl State.tripStep s).pends (144 + k) = true)) ∧
    ∀ k, k ∉ l → (l.foldl State.tripStep s).stm.trips.getLsbD k = s.stm.trips.getLsbD k := by
  induction l generalizing s with
  | nil => exact ⟨.refl s, nofun, fun _ _ => rfl⟩
  | cons k l ih =>
    rw [List.nodup_cons] at hNodup
    have hk := hl k (.head _)
    obtain ⟨hMoved, hSelf, hOther, hRaised⟩ := s.tripStep_facts hk
    obtain ⟨hMoved', hIn, hOut⟩ := ih hNodup.2 (fun j hj => hl j (.tail _ hj)) (s.tripStep k)
    rw [List.foldl_cons]
    generalize l.foldl State.tripStep (s.tripStep k) = u at hMoved' hIn hOut ⊢
    refine ⟨hMoved.trans hMoved', fun j hj => ?_, fun j hj => ?_⟩
    · rcases List.mem_cons.1 hj with rfl | hj
      · exact ⟨(hOut j hNodup.1).trans hSelf, fun hDiff h1 => hMoved'.stays _ (by omega) (by omega) (hRaised hDiff h1)⟩
      · have hne : j ≠ k := fun h => hNodup.1 (h ▸ hj)
        obtain ⟨hBit, hPend⟩ := hIn j hj
        rw [hMoved.tripSignal, hOther j hne, hMoved.isOn] at *
        exact ⟨hBit, hPend⟩
    · rw [List.mem_cons, not_or] at hj
      rw [hOut j hj.2, hOther j hj.1]

theorem State.tripsFollow_facts (s : State) : s.TripsMoved s.tripsFollow ∧ ∀ k, k < 8 →
    s.tripsFollow.stm.trips.getLsbD k = s.tripsFollow.tripSignal k ∧
    (s.tripsFollow.stm.trips.getLsbD k ≠ s.stm.trips.getLsbD k → s.isOn 1 = true → s.tripsFollow.pends (144 + k) = true) := by
  obtain ⟨hMoved, hIn, -⟩ := State.tripSteps_facts List.nodup_range (fun k hk => List.mem_range.1 hk) s
  rw [s.tripsFollow_eq]
  refine ⟨hMoved, fun k hk => ?_⟩
  obtain ⟨hBit, hPend⟩ := hIn k (List.mem_range.2 hk)
  refine ⟨hBit.trans (hMoved.tripSignal k).symm, fun hDiff => hPend ?_⟩
  rw [hBit] at hDiff
  exact hDiff.symm

/-! ## One subscription replaced -/

theorem State.svSub_setSvSub_of_ne (s : State) {i j : Nat} (h : j ≠ i) (x : SvSub) : (s.setSvSub i x).svSub j = s.svSub j := by
  show (s.stm.sub.set i x).getD j {} = s.stm.sub.getD j {}
  rw [List.getD_eq_getElem?_getD, List.getElem?_set_ne h.symm, List.getD_eq_getElem?_getD]

theorem State.svSub_setSvSub_self (s : State) {i : Nat} (h : i < s.stm.sub.length) (x : SvSub) : (s.setSvSub i x).svSub i = x := by
  show (s.stm.sub.set i x).getD i {} = x
  rw [List.getD_eq_getElem?_getD, List.getElem?_set_self h]
  rfl

theorem State.gseSub_setGseSub_of_ne (s : State) {i j : Nat} (h : j ≠ i) (x : GseSub) : (s.setGseSub i x).gseSub j = s.gseSub j := by
  show (s.stm.gsub.set i x).getD j {} = s.stm.gsub.getD j {}
  rw [List.getD_eq_getElem?_getD, List.getElem?_set_ne h.symm, List.getD_eq_getElem?_getD]

theorem State.gseSub_setGseSub_self (s : State) {i : Nat} (h : i < s.stm.gsub.length) (x : GseSub) : (s.setGseSub i x).gseSub i = x := by
  show (s.stm.gsub.set i x).getD i {} = x
  rw [List.getD_eq_getElem?_getD, List.getElem?_set_self h]
  rfl

/-! ## A subscription made invalid -/

theorem State.svValid_ends {s : State} {i : Nat} (h : (s.svSub i).valid = true) : s.svValid i false =
    ((s.setSvSub i { s.svSub i with valid := false, was := (s.svSub i).was || false, run := 0 }).flag (F.SV_SUBs_STATUS_VALID i) false).raiseInt 140 :=
  if_neg (by simp [h])

theorem State.gseValid_ends {s : State} {i : Nat} (h : (s.gseSub i).valid = true) : s.gseValid i false =
    (((s.setGseSub i { s.gseSub i with valid := false, was := (s.gseSub i).was || false }).flag (F.GSE_SUBs_STATUS_VALID i) false).raiseInt 142).tripsFollow :=
  congrArg State.tripsFollow (if_neg (by simp [h]))

end Sys2Proof.Machine
end

section
/-! PROOF. Subscriptions that time out or pass their deadline (R414, R419, R420). -/
namespace Sys2Proof.Machine

/-- The subscription that timed out. -/
def State.svExpired (s : State) (i : Nat) : State :=
  ((s.put (F.SV_SUBs_STATUS_TIMEOUT i) 1).setSvSub i { s.svSub i with valid := false, was := (s.svSub i).was || false, run := 0 }).flag
    (F.SV_SUBs_STATUS_VALID i) false

theorem execSvSubscriptionTimeout_next {s : State} {i : Nat} (h8 : s.isOn 8 = true) (hValid : (s.svSub i).valid = true) :
    exec (.svSubscriptionTimeout i) s = .next ((s.svExpired i).raiseInt 140).settle := by
  have hNext : exec (.svSubscriptionTimeout i) s = .next ((s.put (F.SV_SUBs_STATUS_TIMEOUT i) 1).svValid i false).settle :=
    if_pos (by rw [h8, hValid]; rfl)
  rw [hNext, State.svValid_ends (s := s.put (F.SV_SUBs_STATUS_TIMEOUT i) 1) hValid]
  rfl

theorem State.svExpired_bits (s : State) (i : Nat) : s.sameBits (s.svExpired i) [F.SV_SUBs_STATUS_VALID i, F.SV_SUBs_STATUS_TIMEOUT i] := by
  have hPut : s.sameBits (s.put (F.SV_SUBs_STATUS_TIMEOUT i) 1) [F.SV_SUBs_STATUS_VALID i, F.SV_SUBs_STATUS_TIMEOUT i] := (s.sameBits_refl _).put
  exact (State.sameBits.of_regs hPut rfl).flag

set_option Elab.async false in
theorem State.svExpired_timeout (s : State) (i : Nat) : (s.svExpired i).is (F.SV_SUBs_STATUS_TIMEOUT i) = true := by
  have hApart : (F.SV_SUBs_STATUS_VALID i).apart (F.SV_SUBs_STATUS_TIMEOUT i) = true := Fld.apart_iff.2 (.inl (Nat.le_of_ble_eq_true rfl))
  rw [State.svExpired, State.flag_eq, State.is_put_apart _ _ _ _ rfl hApart]
  exact s.is_put_same (F.SV_SUBs_STATUS_TIMEOUT i) 1 rfl

/-- The subscription whose deadline has passed, at the time `now`. -/
def State.gseExpired (now : State) (i : Nat) : State :=
  ((now.put (F.GSE_SUBs_STATUS_EXPIRED i) 1).setGseSub i { now.gseSub i with valid := false, was := (now.gseSub i).was || false }).flag
    (F.GSE_SUBs_STATUS_VALID i) false

theorem State.gseValid_expired {now : State} {i : Nat} (h : (now.gseSub i).valid = true) :
    (now.put (F.GSE_SUBs_STATUS_EXPIRED i) 1).gseValid i false = ((now.gseExpired i).raiseInt 142).tripsFollow :=
  State.gseValid_ends (s := now.put (F.GSE_SUBs_STATUS_EXPIRED i) 1) h

theorem execGooseDeadlinePassed_next {s : State} {i : Nat} (h8 : s.isOn 8 = true) (hValid : (s.gseSub i).valid = true)
    (hReach : (s.reach (s.gseSub i).deadline).gseSub i = s.gseSub i) :
    exec (.gooseDeadlinePassed i) s = .next (((s.reach (s.gseSub i).deadline).gseExpired i).raiseInt 142).tripsFollow.settle := by
  have hNext : exec (.gooseDeadlinePassed i) s =
      .next (((s.reach (s.gseSub i).deadline).put (F.GSE_SUBs_STATUS_EXPIRED i) 1).gseValid i false).settle :=
    if_pos (by rw [h8, hValid]; rfl)
  rw [hNext, State.gseValid_expired (by rw [hReach, hValid])]

theorem State.gseExpired_bits (s : State) (i : Nat) : s.sameBits (s.gseExpired i) [F.GSE_SUBs_STATUS_VALID i, F.GSE_SUBs_STATUS_EXPIRED i] := by
  have hPut : s.sameBits (s.put (F.GSE_SUBs_STATUS_EXPIRED i) 1) [F.GSE_SUBs_STATUS_VALID i, F.GSE_SUBs_STATUS_EXPIRED i] := (s.sameBits_refl _).put
  exact (State.sameBits.of_regs hPut rfl).flag

theorem State.gseExpired_flag (s : State) (i : Nat) : (s.gseExpired i).is (F.GSE_SUBs_STATUS_EXPIRED i) = true := by
  have hApart : (F.GSE_SUBs_STATUS_VALID i).apart (F.GSE_SUBs_STATUS_EXPIRED i) = true := Fld.apart_iff.2 (.inl (Nat.le_of_ble_eq_true rfl))
  rw [State.gseExpired, State.flag_eq, State.is_put_apart _ _ _ _ rfl hApart]
  exact s.is_put_same (F.GSE_SUBs_STATUS_EXPIRED i) 1 rfl

/-- What the expiry of a valid GOOSE subscription at the time `now` does. -/
structure State.GooseEnds (i : Nat) (now u : State) : Prop where
  parts : u = { now with regs := u.regs, int := u.int, str := u.str
                         stm := { now.stm with gsub := u.stm.gsub, trips := u.stm.trips, tripHeld := u.stm.tripHeld } }
  valid : (u.gseSub i).valid = false
  others : ∀ j, j ≠ i → u.gseSub j = now.gseSub j
  bits : now.sameBits u [F.GSE_SUBs_STATUS_VALID i, F.GSE_SUBs_STATUS_EXPIRED i]
  shown : u.is (F.GSE_SUBs_STATUS_VALID i) = false
  expired : u.is (F.GSE_SUBs_STATUS_EXPIRED i) = true
  raised : u.pends 142 = (now.isOn 1 || now.pends 142)
  trips : ∀ k, k < 8 → u.stm.trips.getLsbD k = u.tripSignal k ∧
    (u.stm.trips.getLsbD k ≠ now.stm.trips.getLsbD k → now.isOn 1 = true → u.pends (144 + k) = true)
  held : ∀ k, now.cf (F.GSE_TRIPk_SUB k) = i → u.stm.tripHeld.getLsbD k = now.stm.tripHeld.getLsbD k

theorem State.gooseEnds {now : State} {i : Nat} (hi : i < now.stm.gsub.length) :
    State.GooseEnds i now ((now.gseExpired i).raiseInt 142).tripsFollow := by
  obtain ⟨v, x, hRaise⟩ := (now.gseExpired i).raiseInt_only 142
  have hParts : (now.gseExpired i).raiseInt 142 = { now with
      regs := (now.gseExpired i).regs, int := v, str := x
      stm := { now.stm with gsub := now.stm.gsub.set i { now.gseSub i with valid := false, was := (now.gseSub i).was || false } } } := hRaise
  have hSub : ((now.gseExpired i).raiseInt 142).gseSub i = { now.gseSub i with valid := false, was := (now.gseSub i).was || false } := by
    rw [hParts]
    exact State.gseSub_setGseSub_self now hi _
  have hOthers : ∀ j, j ≠ i → ((now.gseExpired i).raiseInt 142).gseSub j = now.gseSub j := fun j hj => by
    rw [hParts]
    exact State.gseSub_setGseSub_of_ne now hj _
  have hBits : now.sameBits ((now.gseExpired i).raiseInt 142) [F.GSE_SUBs_STATUS_VALID i, F.GSE_SUBs_STATUS_EXPIRED i] :=
    (now.gseExpired_bits i).raiseInt
  have hShown : ((now.gseExpired i).raiseInt 142).is (F.GSE_SUBs_STATUS_VALID i) = false := by
    rw [State.raiseInt_is]
    exact State.is_flag_same _ (F.GSE_SUBs_STATUS_VALID i) false rfl rfl
  have hExpired : ((now.gseExpired i).raiseInt 142).is (F.GSE_SUBs_STATUS_EXPIRED i) = true := by
    rw [State.raiseInt_is]
    exact now.gseExpired_flag i
  have hRaised : ((now.gseExpired i).raiseInt 142).pends 142 = (now.isOn 1 || now.pends 142) :=
    State.raiseInt_pends_self _ (by decide) (by decide)
  have hTripsBefore : ((now.gseExpired i).raiseInt 142).stm.trips = now.stm.trips := by rw [hParts]
  have hHeldBefore : ((now.gseExpired i).raiseInt 142).stm.tripHeld = now.stm.tripHeld := by rw [hParts]
  have hOn : ((now.gseExpired i).raiseInt 142).isOn 1 = now.isOn 1 := by rw [hParts]; rfl
  have hCf : ∀ f, ((now.gseExpired i).raiseInt 142).cf f = now.cf f := fun f => by rw [hParts]; rfl
  obtain ⟨hMoved, hTrips⟩ := ((now.gseExpired i).raiseInt 142).tripsFollow_facts
  generalize ((now.gseExpired i).raiseInt 142).tripsFollow = u at hMoved hTrips ⊢
  generalize (now.gseExpired i).raiseInt 142 = t at *
  have hRegs : u.regs = t.regs := by rw [hMoved.parts]
  have hWord : ∀ a, u.word a = t.word a := fun a => by rw [State.word, State.word, hRegs]
  have hInvalid : (u.gseSub i).valid = false := by rw [hMoved.gseSub, hSub]
  refine ⟨?_, hInvalid, fun j hj => (hMoved.gseSub j).trans (hOthers j hj), State.sameBits.of_regs hBits hRegs, ?_, ?_, ?_, fun k hk => ?_, fun k hk => ?_⟩
  · have hu := hMoved.parts
    rw [hParts] at hu
    rw [hu]
  · rw [← hShown, State.is, State.get, hWord, ← State.get, ← State.is]
  · rw [← hExpired, State.is, State.get, hWord, ← State.get, ← State.is]
  · rw [hMoved.pends 142 (by decide) (by decide) (.inl (by decide)), hRaised]
  · rw [← hTripsBefore, ← hOn]
    exact hTrips k hk
  · have hOwn : (t.gseSub (t.cf (F.GSE_TRIPk_SUB k))).valid = false := by rw [hCf, hk, hSub]
    rw [hMoved.held k hOwn, hHeldBefore]

/-- The trip of an invalid subscription. -/
theorem State.tripSignal_invalid {s : State} {k : Nat} (h8 : s.isOn 8 = true) (hEn : s.cfIs (F.GSE_TRIPk_EN k) = true)
    (hInvalid : (s.gseSub (s.cf (F.GSE_TRIPk_SUB k))).valid = false) :
    s.tripSignal k = (s.cfIs (F.GSE_TRIPk_INVALID_TRIP k) || s.stm.tripHeld.getLsbD k) := by
  rw [State.tripSignal, h8, hEn, hInvalid]
  rfl

/-- The time at which a deadline passes, as far as a GOOSE subscription sees it. -/
structure State.GooseTime (s now : State) : Prop where
  stm : now.stm = s.stm
  isOn : ∀ p, now.isOn p = s.isOn p
  cf : ∀ f, now.cf f = s.cf f
  pends : now.pends 142 = s.pends 142

theorem State.reach_gooseTime (s : State) (t : Nat) : s.GooseTime (s.reach t) := by
  have hWithin := s.reach_within t
  have hPwr : (s.reach t).pwr = s.pwr := hWithin.parts .pwr rfl
  have hEff : (s.reach t).eff = s.eff := hWithin.parts .eff rfl
  exact ⟨hWithin.parts .stm rfl, fun p => by rw [State.isOn, hPwr, State.isOn], fun f => by rw [State.cf, State.effWord, hEff]; rfl,
    hWithin.pends 142 (by decide) (by decide) rfl⟩

theorem State.timeCame_congr {s t : State} (h : t.tim = s.tim) (x : Nat) : t.timeCame x = s.timeCame x := by
  rw [State.timeCame, State.nowNs, h]
  rfl

theorem State.GooseEnds.tim {now u : State} {i : Nat} (h : State.GooseEnds i now u) : u.tim = now.tim := by
  rw [h.parts]

/-- The trips of the expired subscription show INVALID_TRIP or what they held. -/
theorem State.GooseEnds.ownTrip {s now u : State} {i : Nat} (h : State.GooseEnds i now u) (hTime : s.GooseTime now) (h8 : s.isOn 8 = true) {k : Nat}
    (hk : k < 8) (hEn : s.cfIs (F.GSE_TRIPk_EN k) = true) (hOwn : s.cf (F.GSE_TRIPk_SUB k) = i) :
    u.stm.trips.getLsbD k = (s.cfIs (F.GSE_TRIPk_INVALID_TRIP k) || s.stm.tripHeld.getLsbD k) := by
  have hCf : ∀ f, u.cf f = s.cf f := fun f => by
    rw [← hTime.cf f, h.parts]
    rfl
  have hOn : u.isOn 8 = true := by
    rw [← h8, ← hTime.isOn 8, h.parts]
    rfl
  have hSub : u.cf (F.GSE_TRIPk_SUB k) = i := (hCf _).trans hOwn
  have hSignal := State.tripSignal_invalid (k := k) hOn (by rw [State.cfIs, hCf]; exact hEn) (by rw [hSub]; exact h.valid)
  rw [(h.trips k hk).1, hSignal, h.held k ((hTime.cf _).trans hOwn), hTime.stm, State.cfIs, hCf, State.cfIs]

/-- Settles O48: an expired subscription is invalid, and the trips take their signals. -/
theorem subscriptionsExpire : Obligations.SubscriptionsExpire := by
  intro s i hInv h8
  refine ⟨fun hi hValid => ?_, fun hInvalid => if_neg (by simp [hInvalid]), fun hi hValid => ?_, fun hInvalid => if_neg (by simp [hInvalid])⟩
  · have hLen : i < s.stm.sub.length := by rw [hInv.svSubscriptions]; exact hi
    obtain ⟨v, x, hRaise⟩ := (s.svExpired i).raiseInt_only 140
    refine ⟨_, execSvSubscriptionTimeout_next h8 hValid, ?_, ?_, ?_, ?_, fun j hj => ?_, (s.svExpired_bits i).raiseInt, ?_⟩
    · rw [hRaise]
      exact congrArg SvSub.valid (State.svSub_setSvSub_self s hLen _)
    · rw [State.raiseInt_is]
      exact State.is_flag_same _ (F.SV_SUBs_STATUS_VALID i) false rfl rfl
    · rw [State.raiseInt_is]
      exact s.svExpired_timeout i
    · exact State.raiseInt_pends_self _ (by decide) (by decide)
    · rw [hRaise]
      exact State.svSub_setSvSub_of_ne s hj _
    · rw [hRaise]
      rfl
  · have hTime := s.reach_gooseTime (s.gseSub i).deadline
    have hSub : ∀ j, (s.reach (s.gseSub i).deadline).gseSub j = s.gseSub j := fun j => by rw [State.gseSub, hTime.stm, State.gseSub]
    have hEnds := State.gooseEnds (now := s.reach (s.gseSub i).deadline) (i := i) (by rw [hTime.stm, hInv.gooseSubscriptions]; exact hi)
    refine ⟨_, execGooseDeadlinePassed_next h8 hValid (hSub i), ?_, hEnds.valid, hEnds.shown, hEnds.expired, ?_,
      fun j hj => (hEnds.others j hj).trans (hSub j), fun k hk => ⟨(hEnds.trips k hk).1, fun hDiff h1 => ?_, hEnds.ownTrip hTime h8 hk⟩, hEnds.bits, ?_⟩
    · rw [State.timeCame_congr hEnds.tim]
      exact s.reach_timeCame _
    · rw [hEnds.raised, hTime.isOn, hTime.pends]
    · rw [← hTime.stm] at hDiff
      exact (hEnds.trips k hk).2 hDiff ((hTime.isOn 1).trans h1)
    · have hParts := hEnds.parts
      rw [hTime.stm] at hParts
      exact hParts

end Sys2Proof.Machine
end

section
/-! PROOF. A write of MOD_CTRL EN = 0 may leave gates on: keys that waited for it come into force with it (R247 to R253), and a trip that
they enable is active, latches at once (R274) and forces its safe levels. -/
namespace Sys2Proof.Machine

/-- A station with EN set and polder 1 off, whose committed keys enable trip 0, safe level LOW of half-bridge 0, while its land is active. -/
def tripWaits : State :=
  let s : State := State.reset.withPwr { State.reset.pwr with on := 0xE400 }
  let s := ((s.put F.MOD_CTRL_EN 1).put F.WRD_A_STATUS_ENABLE 1).put F.WRD_B_STATUS_ENABLE 1
  (s.withCfg [(R.MOD_TRIPt_CFG 0, 0x80010000#32)]).withPins { s.pins with trips := 1 }

/-- What follows a command leaves the polders on. -/
theorem State.settle_on (s : State) : s.settle.pwr.on = s.pwr.on := by
  rw [(State.Settles.refl s).settle.parts]
  rfl

/-- Without polder 1 there is no fault event, and the gates stay. -/
theorem State.settle_pins {s : State} (h : s.isOn 1 = false) : s.settle.pins = s.pins := by
  have hAnswers : ∀ (l : List Nat) (t : State), t.pins = s.pins →
      (l.foldl (fun s n => if (s.mb n).ready then (s.twinSay 2 (s.mb n).rsp n).setMb n {} else s) t).pins = s.pins := by
    intro l
    induction l with
    | nil => exact fun t ht => ht
    | cons n l ih =>
      intro t ht
      refine ih _ ?_
      dsimp only
      split
      · exact ht
      · exact ht
  have hCollect : s.collect = s := if_neg (by simp [h])
  have hAlive : ∀ t : State, t.aliveFollow.pins = t.pins := fun t => by
    rw [State.aliveFollow]
    split <;> rfl
  show s.collect.answerPartner.aliveFollow.pins = s.pins
  rw [hCollect, hAlive]
  exact hAnswers copyMailboxes s rfl

/-- The trip latches as EN is cleared, and turns on the low switch of half-bridge 0. -/
theorem tripWaits_gates : (tripWaits.writeEn false).pins.gates = 2#9 := by decide +kernel

set_option Elab.async false in
theorem tripWaits_starts : tripWaits.isOn 10 = true ∧ tripWaits.mod.frozen = false ∧ tripWaits.is F.MOD_CTRL_EN = true ∧
    tripWaits.get F.MOD_TRIP_STATUS_LATCHED = 0 ∧ tripWaits.mod.releasing = 0 ∧ (tripWaits.writeEn false).isOn 1 = false := by decide +kernel

/-- Refutes O35: the clear of EN applies keys that enable an active trip, which then forces a gate on, though none was latched. -/
theorem not_enableAndFreeze : ¬ Obligations.EnableAndFreeze := by
  intro h
  obtain ⟨h10, hRuns, hEn, hLatched, hReleasing, h1⟩ := tripWaits_starts
  obtain ⟨-, -, hClear, -⟩ := h tripWaits h10
  obtain ⟨u, hNext, -, -, -, hGates⟩ := hClear hRuns hEn
  have hSettled : (tripWaits.writeEn false).settle = u.settle := Host.Outcome.next.inj hNext
  have hOn : u.isOn 1 = false := by
    rw [State.isOn, ← u.settle_on, ← hSettled, State.settle_on]
    exact h1
  have hPins : u.pins = (tripWaits.writeEn false).pins := by rw [← State.settle_pins hOn, ← hSettled, State.settle_pins h1]
  have hOff : u.pins.gates = 0 := hGates hLatched hReleasing
  rw [hPins, tripWaits_gates] at hOff
  exact absurd hOff (by decide)

end Sys2Proof.Machine
end

section
/-! PROOF. The outputs as they follow their causes (R252 to R281, R304): the fields they show, and what else an operation of the
modulators touches. -/
namespace Sys2Proof.Machine

/-! ## Fields apart from those written -/

/-- A field that shares no bit with those written is as before. -/
theorem State.sameBits.get {s t : State} {l : List Fld} (h : s.sameBits t l) {f : Fld} (hf : f.fits = true) (hl : l.all (·.apart f) = true) :
    t.get f = s.get f := by
  refine State.get_of_sameBits h f (Fld.fits_iff.1 hf) fun g hg => ?_
  have hApart := Fld.apart_iff.1 (List.all_eq_true.1 hl g hg)
  exact hApart.elim (fun h => .inr (.inl h)) (·.elim (fun h => .inr (.inr h)) .inl)

theorem State.sameBits.is {s t : State} {l : List Fld} (h : s.sameBits t l) {f : Fld} (hf : f.fits = true) (hl : l.all (·.apart f) = true) :
    t.is f = s.is f := by
  rw [State.is, h.get hf hl, State.is]

/-! ## The outputs follow -/

/-- What the outputs show as they follow their causes. -/
def gateFields : List Fld :=
  [⟨R.GDR_HBn_FAULT 0, 0, 32⟩, ⟨R.GDR_HBn_FAULT 1, 0, 32⟩, ⟨R.GDR_HBn_FAULT 2, 0, 32⟩, ⟨R.GDR_HBn_FAULT 3, 0, 32⟩,
   F.GDR_STATUS_HB_HOLD, F.GDR_CH_STATUS_ON, F.GDR_STATUS_CHOP_ON, F.GDR_STATUS_BS_WARN, F.MOD_AFE_STATE_BLOCKED]

/-- `t` differs from `s` as outputs that follow may make it, as far as the modulators and the registers go. -/
structure State.Drives (s t : State) (l : List Fld) : Prop where
  bits : s.sameBits t l
  mode : t.mod = { s.mod with inp := t.mod.inp, inp8 := t.mod.inp8, offAt := t.mod.offAt, func := t.mod.func, afeOn := t.mod.afeOn }

namespace State.Drives
variable {s t u : State} {l : List Fld}

theorem refl (s : State) (l : List Fld) : s.Drives s l := ⟨s.sameBits_refl l, rfl⟩

theorem trans (h : s.Drives t l) (h' : t.Drives u l) : s.Drives u l where
  bits := State.sameBits_trans h.bits h'.bits
  mode := by
    have hu := h'.mode
    rw [h.mode] at hu
    exact hu

theorem of_parts (h : s.Drives t l) (hRegs : u.regs = t.regs) (hMod : u.mod = { t.mod with
    inp := u.mod.inp, inp8 := u.mod.inp8, offAt := u.mod.offAt, func := u.mod.func, afeOn := u.mod.afeOn }) : s.Drives u l :=
  h.trans ⟨(State.sameBits_refl t l).of_regs hRegs, hMod⟩

theorem ite {c : Prop} [Decidable c] (ht : s.Drives t l) (hu : s.Drives u l) : s.Drives (if c then t else u) l :=
  iteInduction (motive := fun x => s.Drives x l) (fun _ => ht) (fun _ => hu)

theorem foldlMem {α : Type} {op : State → α → State} {xs : List α} (hop : ∀ u, ∀ a ∈ xs, s.Drives u l → s.Drives (op u a) l)
    (h : s.Drives t l) : s.Drives (xs.foldl op t) l := by
  induction xs generalizing t with
  | nil => exact h
  | cons a xs ih => exact ih (fun u b hb => hop u b (.tail a hb)) (hop t a (.head xs) h)

theorem put (h : s.Drives t l) {f : Fld} {v : Nat} (hf : f ∈ l := by simp [gateFields]) : s.Drives (t.put f v) l := ⟨h.bits.put hf, h.mode⟩

theorem flag (h : s.Drives t l) {f : Fld} {b : Bool} (hf : f ∈ l := by simp [gateFields]) : s.Drives (t.flag f b) l := h.put hf

theorem raiseInt (h : s.Drives t l) {n : Nat} : s.Drives (t.raiseInt n) l := by
  obtain ⟨i, x, hRaise⟩ := t.raiseInt_only n
  rw [hRaise]
  exact h.of_parts rfl rfl

theorem withGdr {v : GdrSt} (h : s.Drives t l) : s.Drives (t.withGdr v) l := h.of_parts rfl rfl
theorem withPins {v : PinSt} (h : s.Drives t l) : s.Drives (t.withPins v) l := h.of_parts rfl rfl

set_option Elab.async false in
theorem mono {k : List Fld} (h : s.Drives t l) (hk : ∀ f ∈ l, f ∈ k) : s.Drives t k := ⟨State.sameBits_mono h.bits hk, h.mode⟩

end State.Drives

theorem gateFields_fault {n : Nat} (hn : n < 4) : (⟨R.GDR_HBn_FAULT n, 0, 32⟩ : Fld) ∈ gateFields := by
  rcases lt_four_cases hn with rfl | rfl | rfl | rfl <;> simp [gateFields]

theorem State.hbFault_drives (s : State) {n : Nat} (hn : n < 4) (cause : Nat) : s.Drives (s.hbFault n cause) gateFields := by
  have hSet : ∀ (t : State) (v : Word), t.Drives (t.setWord (R.GDR_HBn_FAULT n) v) gateFields := fun t v =>
    ⟨(t.sameBits_refl _).setWord (gateFields_fault hn), rfl⟩
  delta State.hbFault
  extract_lets t1 _ _ t2 t3 t4
  have h1 : s.Drives t1 gateFields := hSet s _
  have h2 : s.Drives t2 gateFields := .ite h1 h1.withGdr
  have h3 : s.Drives t3 gateFields := h2.trans (hSet t2 _)
  have h4 : s.Drives t4 gateFields := h3.put
  exact .ite h2 h4.raiseInt

theorem State.uvloFaults_drives (s : State) : s.Drives s.uvloFaults gateFields := by
  have h := State.Drives.refl s gateFields
  delta State.uvloFaults
  refine .ite (.foldlMem (fun u n hn h1 => ?_) h) h
  have hHb : n < 4 := by simp at hn; omega
  refine .ite h1 ?_
  extract_lets _ _ t1
  have h2 : s.Drives t1 gateFields := .ite (h1.trans (u.hbFault_drives hHb 3)) h1
  exact .ite (h2.trans (t1.hbFault_drives hHb 4)) h2

theorem State.drive_drives (s : State) : s.Drives s.drive gateFields := by
  have h := State.Drives.refl s gateFields
  delta State.drive
  extract_lets _ t1 t2 _ t3 _ t4 t5 _ _ t6 t7 t8 _ t9
  have h1 : s.Drives t1 gateFields := .ite (h.of_parts rfl rfl) h
  have h2 : s.Drives t2 gateFields := h1.withGdr
  have h3 : s.Drives t3 gateFields := h2.of_parts rfl rfl
  have h4 : s.Drives t4 gateFields := h3.of_parts rfl rfl
  have h5 : s.Drives t5 gateFields := h4.trans t4.uvloFaults_drives
  have h6 : s.Drives t6 gateFields := h5.withPins
  have h7 : s.Drives t7 gateFields := h6.put
  have h8 : s.Drives t8 gateFields := h7.flag
  have h9 : s.Drives t9 gateFields := .ite h8.put h6
  exact .ite h9.flag h9

/-! ## EN goes off, and the keys that waited for it -/

/-- What the modulators show besides: trips and keys in force. -/
def modeFields : List Fld :=
  gateFields ++ [F.MOD_TRIP_STATUS_ACTIVE, F.MOD_TRIP_STATUS_LATCHED, F.MOD_STATUS_TRIPPED, F.MOD_STATUS_PENDING, F.MOD_STATUS_FUNCTION]

/-- `t` differs from `s` as keys that come into force may make it: EN stays as it is. -/
structure State.Rekeys (s t : State) : Prop where
  bits : s.sameBits t modeFields
  en : t.mod.en = s.mod.en
  frozen : t.mod.frozen = s.mod.frozen

namespace State.Rekeys
variable {s t u : State}

theorem refl (s : State) : s.Rekeys s := ⟨s.sameBits_refl _, rfl, rfl⟩

theorem trans (h : s.Rekeys t) (h' : t.Rekeys u) : s.Rekeys u :=
  ⟨State.sameBits_trans h.bits h'.bits, h'.en.trans h.en, h'.frozen.trans h.frozen⟩

theorem ite {c : Prop} [Decidable c] (ht : s.Rekeys t) (hu : s.Rekeys u) : s.Rekeys (if c then t else u) :=
  iteInduction (motive := s.Rekeys) (fun _ => ht) (fun _ => hu)

theorem foldl {α : Type} {op : State → α → State} {xs : List α} (hop : ∀ u a, s.Rekeys u → s.Rekeys (op u a)) (h : s.Rekeys t) :
    s.Rekeys (xs.foldl op t) := by
  induction xs generalizing t with
  | nil => exact h
  | cons a xs ih => exact ih (hop t a h)

theorem of_parts (h : s.Rekeys t) (hRegs : u.regs = t.regs) (hEn : u.mod.en = t.mod.en) (hFrozen : u.mod.frozen = t.mod.frozen) : s.Rekeys u :=
  h.trans ⟨(State.sameBits_refl t _).of_regs hRegs, hEn, hFrozen⟩

theorem put (h : s.Rekeys t) {f : Fld} {v : Nat} (hf : f ∈ modeFields := by simp [modeFields]) : s.Rekeys (t.put f v) := ⟨h.bits.put hf, h.en, h.frozen⟩

theorem raiseInt (h : s.Rekeys t) {n : Nat} : s.Rekeys (t.raiseInt n) := by
  obtain ⟨i, x, hRaise⟩ := t.raiseInt_only n
  rw [hRaise]
  exact h.of_parts rfl rfl rfl

theorem drive (h : s.Rekeys t) : s.Rekeys t.drive := by
  obtain ⟨hBits, hMode⟩ := t.drive_drives
  refine h.trans ⟨State.sameBits_mono hBits fun f hf => List.mem_append_left _ hf, ?_, ?_⟩
  · rw [hMode]
  · rw [hMode]

theorem tripLatch {k : Nat} (h : s.Rekeys t) : s.Rekeys (t.tripLatch k) := by
  delta State.tripLatch
  extract_lets _ t1 t2 _ t3
  have h1 : s.Rekeys t1 := h.put
  have h2 : s.Rekeys t2 := h1.put
  have h3 : s.Rekeys t3 := h2.of_parts rfl rfl rfl
  exact .ite h h3.raiseInt.drive

set_option Elab.async false in
theorem tripKey {k : Nat} (h : s.Rekeys t) : s.Rekeys (t.tripKey k) := by
  delta State.tripKey
  extract_lets _ _ _ t1
  have h1 : s.Rekeys t1 := .ite h h.put
  exact .ite h1.tripLatch h1

theorem tripKeys (h : s.Rekeys t) : s.Rekeys t.tripKeys := by
  delta State.tripKeys
  extract_lets _ t1
  have h1 : s.Rekeys t1 := .ite (h.of_parts rfl rfl rfl) h
  exact .foldl (fun _ _ => tripKey) h1

theorem applyModKeys (h : s.Rekeys t) : s.Rekeys t.applyModKeys := by
  delta State.applyModKeys
  extract_lets _ t1
  have h1 : s.Rekeys t1 := h.of_parts rfl rfl rfl
  exact .ite (h1.of_parts rfl rfl rfl) h1

theorem applyHeld (h : s.Rekeys t) : s.Rekeys t.applyHeld := by
  delta State.applyHeld
  refine .ite ?_ h
  extract_lets t1 t2
  have h1 : s.Rekeys t1 := h.applyModKeys
  have h2 : s.Rekeys t2 := h1.put
  have h3 : s.Rekeys t2.showFunction := h2.put
  exact h3.tripKeys.raiseInt.drive

end State.Rekeys

/-- EN goes off, and its transition with it. -/
theorem State.modDisable_off (s : State) : s.modDisable.is F.MOD_CTRL_EN = false ∧ s.modDisable.is F.MOD_STATUS_ENABLED = false ∧
    s.modDisable.mod.en = false ∧ s.modDisable.mod.frozen = s.mod.frozen := by
  obtain ⟨hBits, hEn, hFrozen⟩ := (State.Rekeys.refl (((s.put F.MOD_CTRL_EN 0).put F.MOD_STATUS_ENABLED 0).withMod { s.mod with en := false })).drive.applyHeld
  refine ⟨(hBits.is (f := F.MOD_CTRL_EN) rfl rfl).trans ?_, (hBits.is (f := F.MOD_STATUS_ENABLED) rfl rfl).trans ?_, hEn, hFrozen⟩
  · show ((s.put F.MOD_CTRL_EN 0).put F.MOD_STATUS_ENABLED 0).is F.MOD_CTRL_EN = false
    rw [State.is_put_apart _ _ _ _ rfl rfl]
    exact s.is_put_same _ 0 rfl
  · exact State.is_put_same _ F.MOD_STATUS_ENABLED 0 rfl

/-! ## The scope of it -/

/-- What the modulators and their outputs touch as their keys come into force. -/
def Scope.modes : Scope := ⟨[.regs, .eff, .mod, .gdr, .pins, .int, .str], [7, 9], [64, 65, 66, 67, 74, 80, 81, 82, 83]⟩

theorem State.tripLatch_within (s : State) {k : Nat} (hk : k < 4) : s.Within (s.tripLatch k) .modes := by
  have h := State.Within.refl s .modes
  have hInt : Scope.modes.ints.contains (64 + k) = true := by rcases lt_four_cases hk with rfl | rfl | rfl | rfl <;> rfl
  delta State.tripLatch
  extract_lets _ t1 t2 _ t3
  have h1 : s.Within t1 .modes := h.put
  have h2 : s.Within t2 .modes := h1.put
  have h3 : s.Within t3 .modes := h2.withMod
  exact .ite h ((h3.raiseInt hInt).andThen (State.drive_within _))

theorem State.tripKey_within (s : State) {k : Nat} (hk : k < 4) : s.Within (s.tripKey k) .modes := by
  have h := State.Within.refl s .modes
  delta State.tripKey
  extract_lets _ _ _ t1
  have h1 : s.Within t1 .modes := .ite h h.put
  exact .ite (h1.andThen (t1.tripLatch_within hk)) h1

theorem State.tripKeys_within (s : State) : s.Within s.tripKeys .modes := by
  have h := State.Within.refl s .modes
  delta State.tripKeys
  extract_lets _ t1
  have h1 : s.Within t1 .modes := .ite h.withGdr h
  exact .foldlMem (fun u k hk hu => hu.andThen (u.tripKey_within (by simp at hk; omega))) h1

theorem State.applyModKeys_within (s : State) : s.Within s.applyModKeys .modes := by
  delta State.applyModKeys
  extract_lets _ t1
  have h1 : s.Within t1 .modes := (State.Within.refl s .modes).withEff
  exact .ite h1.withMod h1

theorem State.applyHeld_within (s : State) : s.Within s.applyHeld .modes := by
  have h := State.Within.refl s .modes
  delta State.applyHeld
  refine .ite ?_ h
  extract_lets t1 t2
  have h1 : s.Within t1 .modes := h.andThen s.applyModKeys_within
  have h2 : s.Within t2 .modes := h1.put
  have h3 : s.Within t2.showFunction .modes := h2.put
  exact ((h3.andThen (State.tripKeys_within _)).raiseInt).andThen (State.drive_within _)

theorem State.modDisable_within (s : State) : s.Within s.modDisable .modes := by
  delta State.modDisable
  extract_lets t1 _ t2
  have h1 : s.Within t1 .modes := (State.Within.refl s .modes).put.put
  have h2 : s.Within t2 .modes := h1.withMod
  exact (h2.andThen (State.drive_within _)).andThen (State.applyHeld_within _)

end Sys2Proof.Machine
end

section
/-! PROOF. What triggers of the Gallery touch (R426 to R430), and a fault event as a whole (R328, R330, R331, R334). -/
namespace Sys2Proof.Machine

/-- What triggers and records of the Gallery touch. -/
def Scope.gallery : Scope := ⟨[.regs, .gal, .cul, .int, .str], [15], [168, 169, 170, 171, 172, 173, 174, 175, 176, 177, 178, 179, 180]⟩

section
variable {s t : State} {p : Nat}

theorem galStatus_block : Scope.gallery.blocks.contains (R.GAL_STATUS / 65536) = true := rfl

theorem galProf_block (hp : p < 4) : Scope.gallery.blocks.contains (R.GAL_PROFp_COUNTS p / 65536) = true ∧
    Scope.gallery.blocks.contains (R.GAL_PROFp_LAST p / 65536) = true := by
  rcases lt_four_cases hp with rfl | rfl | rfl | rfl <;> exact ⟨rfl, rfl⟩

theorem gallery_int (hp : p < 4) : Scope.gallery.ints.contains (168 + p) = true ∧ Scope.gallery.ints.contains (172 + p) = true ∧
    Scope.gallery.ints.contains (176 + p) = true := by
  rcases lt_four_cases hp with rfl | rfl | rfl | rfl <;> exact ⟨rfl, rfl, rfl⟩

set_option Elab.async false in
theorem State.Within.galState {v : Nat} (h : s.Within t .gallery) : s.Within (t.galState p v) .gallery := by
  have hGp : s.Within (t.setGp p { t.gp p with state := v }) .gallery := h.withGal
  exact hGp.setWord galStatus_block

theorem State.Within.fillSlot {i : Nat} (h : s.Within t .gallery) : s.Within (t.fillSlot p i) .gallery := by
  delta State.fillSlot
  extract_lets _ _ _ _ t1 _ t2
  have h1 : s.Within t1 .gallery := .foldl (fun _ _ hu => hu.withGal) h.withGal
  have h2 : s.Within t2 .gallery := h1.withGal
  exact h2.galState

theorem State.Within.holdOver (h : s.Within t .gallery) (hp : p < 4) : s.Within (t.holdOver p) .gallery :=
  State.holdOver_cases (P := fun u => s.Within u .gallery) (fun _ => h.fillSlot) (h.galState.raiseInt (gallery_int hp).2.1)

theorem State.Within.coincident {c : Nat} (h : s.Within t .gallery) (hp : p < 4) : s.Within (t.coincident p c) .gallery := by
  have hRecord : s.Within (t.galRecord p (seenBits c)) .gallery := h.withGal
  exact hRecord.bump (galProf_block hp).1

theorem State.Within.galToken {x : GalInstant} {frac : Nat} (h : s.Within t .gallery) (hp : p < 4) : s.Within (t.galToken p x frac) .gallery := by
  delta State.galToken
  extract_lets _ _ _ _ _ _ t1 t2
  have h1 : s.Within t1 .gallery := h.withGal
  have h2 : s.Within t2 .gallery := .ite h1.withCul h1
  exact h2.raiseInt (gallery_int hp).2.2

theorem State.Within.galAccept {x : GalTrigger} (h : s.Within t .gallery) (hp : p < 4) : s.Within (t.galAccept p x) .gallery := by
  delta State.galAccept
  extract_lets _ _ _ _ _ _ _ _ _ _ t1 t2 t3 _ t4
  have h1 : s.Within t1 .gallery := h.withGal
  have h2 : s.Within t2 .gallery := h1.put
  have h3 : s.Within t3 .gallery := (h2.put (galProf_block hp).2).put (galProf_block hp).2
  have h4 : s.Within t4 .gallery := State.Within.galState (t := t3.setGp p _) h3.withGal
  exact .ite (h4.galToken hp) h4

theorem State.Within.galTrigger {x : GalTrigger} (h : s.Within t .gallery) (hp : p < 4) : s.Within (t.galTrigger p x) .gallery := by
  delta State.galTrigger
  extract_lets _ t1 _ t2
  have h1 : s.Within t1 .gallery := (h.bump (galProf_block hp).1).raiseFirst
  have h2 : s.Within t2 .gallery := h1.withGal
  exact .ite h (.ite (h.coincident hp) (.ite (h.galAccept hp) (.ite (.ite (h2.holdOver hp) h2) h1)))

theorem State.Within.galNow {cause : Nat} (h : s.Within t .gallery) (hp : p < 4) : s.Within (t.galNow p cause) .gallery :=
  .ite (h.galTrigger hp) (h.galTrigger hp)

theorem State.Within.galComplete (h : s.Within t .gallery) (hp : p < 4) : s.Within (t.galComplete p) .gallery := by
  delta State.galComplete
  extract_lets t1 _ t2
  have h1 : s.Within t1 .gallery := State.Within.raiseInt (t := t.galRecord p _) h.withGal (gallery_int hp).1
  have h2 : s.Within t2 .gallery := State.Within.galState (t := t1.setGp p _) h1.withGal
  exact .ite h1.galState (.ite (h2.holdOver hp) h2)

end

theorem State.galFault_within (s : State) (c : Nat) : s.Within (s.galFault c) .gallery := by
  have h := State.Within.refl s .gallery
  exact .ite (.foldlMem (fun _ p hp hu => .ite (hu.galNow (by simp at hp; omega)) hu) h) h

theorem State.galDone_within (s : State) : s.Within s.galDone .gallery := by
  have h := State.Within.refl s .gallery
  exact .ite (.foldlMem (fun _ p hp hu => .ite (hu.galComplete (by simp at hp; omega)) hu) h) h

/-! ## What an event does outside the collector -/

/-- What an event below Breach touches outside the collector. -/
def Scope.event : Scope := ⟨[.regs, .gal, .cul, .int, .str], [15],
  [160, 161, 162, 163, 165, 168, 169, 170, 171, 172, 173, 174, 175, 176, 177, 178, 179, 180]⟩

theorem State.offer_within (s : State) (q : Nat) (e : StrataOffer) {f : Scope} (hInt : f.parts.contains .int = true) (hStr : f.parts.contains .str = true) :
    s.Within (s.offer q e) f := by
  obtain ⟨i, x, hOffer⟩ := s.offer_only q e
  refine ⟨fun r hr => ?_, fun a _ => ?_, fun n hn h167 _ => s.offer_pends q e hn h167⟩
  · rw [hOffer]
    cases r
    case int => rw [hInt] at hr; exact nomatch hr
    case str => rw [hStr] at hr; exact nomatch hr
    all_goals rfl
  · rw [hOffer]
    rfl

/-- The Breach flag, and the outputs of a powered modulator with it. -/
def State.breached (s : State) : State :=
  let t := s.withPwr { s.pwr with breach := true }
  if t.isOn 10 then t.modDisable else t

theorem State.reportEvent_eq (s : State) (n c : Nat) (up inj : Bool) : s.reportEvent n c up inj =
    (if c = 3 then (s.offer 0 ⟨0, c, up, inj, n⟩).breached else s.offer 0 ⟨0, c, up, inj, n⟩).galFault c := by
  rw [State.reportEvent]
  by_cases hc : c = 3
  · simp only [hc, if_pos, decide_true, Bool.true_and]
    rfl
  · simp only [hc, if_false, decide_false, Bool.false_and, Bool.false_eq_true]

theorem State.breached_within (s : State) : s.Within s.breached ⟨[.pwr, .regs, .eff, .mod, .gdr, .pins, .int, .str], [7, 9], [64, 65, 66, 67, 74, 80, 81, 82, 83]⟩ := by
  have h : s.Within (s.withPwr { s.pwr with breach := true }) ⟨[.pwr, .regs, .eff, .mod, .gdr, .pins, .int, .str], [7, 9], [64, 65, 66, 67, 74, 80, 81, 82, 83]⟩ :=
    (State.Within.refl s _).withPwr
  exact .ite (h.andThen (State.modDisable_within _)) h

set_option Elab.async false in
theorem State.breached_pwr (s : State) : s.breached.pwr = { s.pwr with breach := true } := by
  rw [State.breached]
  split
  · exact (State.modDisable_within _).parts .pwr rfl
  · rfl

theorem State.breached_off {s : State} (h10 : s.isOn 10 = true) : s.breached.is F.MOD_CTRL_EN = false ∧ s.breached.mod.en = false := by
  obtain ⟨hEn, -, hMod, -⟩ := (s.withPwr { s.pwr with breach := true }).modDisable_off
  have hOff : s.breached = (s.withPwr { s.pwr with breach := true }).modDisable := if_pos h10
  rw [hOff]
  exact ⟨hEn, hMod⟩

/-- The raises of an event. -/
theorem State.raiseEvent_pends (s : State) {c : Nat} (hc : c ≤ 3) (up : Bool) (h1 : s.isOn 1 = true) :
    (s.raiseEvent c up).pends (160 + c) = true ∧ (up = true → (s.raiseEvent c up).pends 165 = true) := by
  have hSelf : (s.raiseInt (160 + c)).pends (160 + c) = true := by
    rw [s.raiseInt_pends_self (by omega) (by omega), h1, Bool.true_or]
  have hOn : (s.raiseInt (160 + c)).isOn 1 = true := by rw [State.isOn, State.raiseInt_pwr]; exact h1
  cases up
  · exact ⟨hSelf, nofun⟩
  · refine ⟨?_, fun _ => ?_⟩
    · show ((s.raiseInt (160 + c)).raiseInt 165).pends (160 + c) = true
      rw [State.raiseInt_pends _ _ (by omega) (by omega), hSelf, Bool.true_or]
    · show ((s.raiseInt (160 + c)).raiseInt 165).pends 165 = true
      rw [State.raiseInt_pends_self _ (by decide) (by decide), hOn, Bool.true_or]

theorem State.raiseEvent_only (s : State) (c : Nat) (up : Bool) : ∃ i x, s.raiseEvent c up = (s.withInt i).withStr x := by
  obtain ⟨i, x, hRaise⟩ := s.raiseInt_only (160 + c)
  cases up
  · exact ⟨i, x, hRaise⟩
  · obtain ⟨j, y, hAgain⟩ := (s.raiseInt (160 + c)).raiseInt_only 165
    refine ⟨j, y, ?_⟩
    show (s.raiseInt (160 + c)).raiseInt 165 = _
    rw [hAgain, hRaise]
    rfl

/-! ## The collector after an event -/

theorem State.recordEvent_facts (s : State) (n b : Nat) : ∃ f : FaultSt, s.recordEvent n b = s.withFlt f ∧
    f.sticky = s.flt.sticky ||| (1#128 <<< n) ∧ f.events = s.flt.events.set (s.eventClass b) (satInc 16 (s.flt.events.getD (s.eventClass b) 0)) ∧
    f.pulses = s.flt.pulses ∧ f.prev = s.flt.prev ∧ f.injected = s.flt.injected := by
  rw [State.recordEvent]
  dsimp only
  split
  · exact ⟨_, rfl, rfl, rfl, rfl, rfl, rfl⟩
  · exact ⟨_, rfl, rfl, rfl, rfl, rfl, rfl⟩

theorem State.faultEvent_none {s : State} {n : Nat} (h : s.baseClass n = none) : s.faultEvent n = s := by
  unfold State.faultEvent
  rw [h]

section
variable {s : State} {n b : Nat} (h : s.baseClass n = some b)
include h

theorem State.faultEvent_sticky : (s.faultEvent n).flt.sticky = s.flt.sticky ||| (1#128 <<< n) := by
  obtain ⟨f, hRecord, hSticky, -⟩ := s.recordEvent_facts n b
  rw [State.faultEvent_flt h, hRecord]
  exact hSticky

theorem State.faultEvent_events : (s.faultEvent n).flt.events =
    s.flt.events.set (s.eventClass b) (satInc 16 (s.flt.events.getD (s.eventClass b) 0)) := by
  obtain ⟨f, hRecord, -, hEvents, -⟩ := s.recordEvent_facts n b
  rw [State.faultEvent_flt h, hRecord]
  exact hEvents

theorem State.faultEvent_pends (h1 : s.isOn 1 = true) : (s.faultEvent n).pends (160 + s.eventClass b) = true ∧
    (s.stickyAt b = true → (s.faultEvent n).pends 165 = true) := by
  have hClass := s.eventClass_le (State.baseClass_le h)
  obtain ⟨f, hRecord, -⟩ := s.recordEvent_facts n b
  have hOn : (s.recordEvent n b).isOn 1 = true := by rw [hRecord]; exact h1
  obtain ⟨hSelf, hUp⟩ := State.raiseEvent_pends (s.recordEvent n b) hClass (s.stickyAt b) hOn
  have hKeeps := fun t : State => (t.reportEvent_keepsFaults n (s.eventClass b) (s.stickyAt b) (s.flt.injected.getLsbD n)).2
  rw [State.faultEvent_eq h]
  exact ⟨(hKeeps _ _ (by omega) (by omega)).trans hSelf, fun hSticky => (hKeeps _ _ (by decide) (by decide)).trans (hUp hSticky)⟩

/-- The state as the event is reported: recorded, raised and offered to Strata. -/
theorem State.faultEvent_reported : ∃ v : State, s.faultEvent n = (if s.eventClass b = 3 then v.breached else v).galFault (s.eventClass b) ∧
    ∃ f i x, v = ((s.withFlt f).withInt i).withStr x := by
  obtain ⟨f, hRecord, -⟩ := s.recordEvent_facts n b
  obtain ⟨i, x, hRaise⟩ := (s.withFlt f).raiseEvent_only (s.eventClass b) (s.stickyAt b)
  obtain ⟨j, y, hOffer⟩ := (((s.withFlt f).withInt i).withStr x).offer_only 0 ⟨0, s.eventClass b, s.stickyAt b, s.flt.injected.getLsbD n, n⟩
  refine ⟨_, ?_, f, j, y, hOffer⟩
  rw [State.faultEvent_eq h, State.reportEvent_eq, hRecord, hRaise]

end

end Sys2Proof.Machine
end

section
/-! PROOF. Fault events are classed, and signals and pulses become events (R328, R330, R331, R334). -/
namespace Sys2Proof.Machine

/-! ## The class of a source stays through other events -/

theorem State.faultEvent_kept (s : State) (n : Nat) : (s.faultEvent n).flt.pulses = s.flt.pulses ∧ (s.faultEvent n).flt.prev = s.flt.prev ∧
    ∀ m, s.flt.sticky.getLsbD m = true → (s.faultEvent n).flt.sticky.getLsbD m = true := by
  cases h : s.baseClass n with
  | none =>
    rw [State.faultEvent_none h]
    exact ⟨rfl, rfl, fun _ hm => hm⟩
  | some b =>
    obtain ⟨f, hRecord, -, -, hPulses, hPrev, -⟩ := s.recordEvent_facts n b
    refine ⟨?_, ?_, fun m hm => ?_⟩
    · rw [State.faultEvent_flt h, hRecord]
      exact hPulses
    · rw [State.faultEvent_flt h, hRecord]
      exact hPrev
    · rw [State.faultEvent_sticky h, BitVec.getLsbD_or, hm, Bool.true_or]

/-- What the class of a source outside the trips rests on: the role and its own keys in force. -/
theorem State.Settles.baseClass {s t : State} (h : s.Settles t) (hEff : SMap.wf s.eff = true) {n : Nat} (hn : n < 76 ∨ 80 ≤ n) :
    t.baseClass n = s.baseClass n := by
  have hLatch : t.pwr.latch = s.pwr.latch := by rw [h.parts]; rfl
  have hRole : t.role = s.role := by rw [State.role, hLatch, State.role]
  have hCf : ∀ f : Fld, f.addr / 65536 ≠ 7 → f.addr / 65536 ≠ 9 → t.cf f = s.cf f := fun f h7 h9 => by
    rw [State.cf, (h.keys hEff).2 _ h7 h9]
    rfl
  have hTrip : ¬(76 ≤ n ∧ n ≤ 79) := by omega
  have hWindow : 32 ≤ n ∧ n ≤ 63 → t.cf (F.ADC_WINw_CONFIG_FCLASS (n - 32)) = s.cf (F.ADC_WINw_CONFIG_FCLASS (n - 32)) := fun hw =>
    hCf _ (by simp only [R.ADC_WINw_CONFIG]; omega) (by simp only [R.ADC_WINw_CONFIG]; omega)
  have hGoose : 112 ≤ n ∧ n ≤ 119 → t.cf (F.GSE_TRIPk_FCLASS (n - 112)) = s.cf (F.GSE_TRIPk_FCLASS (n - 112)) := fun hg =>
    hCf _ (by simp only [R.GSE_TRIPk]; omega) (by simp only [R.GSE_TRIPk]; omega)
  unfold State.baseClass
  simp only [State.isStation, State.isCell, State.isPort, hRole, if_neg hTrip]
  by_cases hw : 32 ≤ n ∧ n ≤ 63
  · simp only [if_pos hw, hWindow hw]
  · by_cases hg : 112 ≤ n ∧ n ≤ 119
    · simp only [if_neg hw, if_pos hg, hGoose hg]
    · simp only [if_neg hw, if_neg hg]
      rfl

/-! ## The collector takes its signals -/

/-- The events of the sources of `v`, in turn. -/
def State.eventsOf (s : State) (v : BitVec 128) (l : List Nat) : State := l.foldl (fun s n => if v.getLsbD n then s.faultEvent n else s) s

theorem State.eventsOf_settles (s : State) (v : BitVec 128) (l : List Nat) : s.Settles (s.eventsOf v l) :=
  .foldl (fun _ _ h => .ite h.faultEvent h) (.refl s)

theorem State.eventsOf_kept (s : State) (v : BitVec 128) (l : List Nat) : (s.eventsOf v l).flt.pulses = s.flt.pulses ∧
    (s.eventsOf v l).flt.prev = s.flt.prev ∧ ∀ m, s.flt.sticky.getLsbD m = true → (s.eventsOf v l).flt.sticky.getLsbD m = true := by
  induction l generalizing s with
  | nil => exact ⟨rfl, rfl, fun _ h => h⟩
  | cons n l ih =>
    have hStep : (if v.getLsbD n then s.faultEvent n else s).flt.pulses = s.flt.pulses ∧ (if v.getLsbD n then s.faultEvent n else s).flt.prev = s.flt.prev ∧
        ∀ m, s.flt.sticky.getLsbD m = true → (if v.getLsbD n then s.faultEvent n else s).flt.sticky.getLsbD m = true := by
      split
      · exact s.faultEvent_kept n
      · exact ⟨rfl, rfl, fun _ h => h⟩
    obtain ⟨hPulses, hPrev, hSticky⟩ := hStep
    obtain ⟨hPulses', hPrev', hSticky'⟩ := ih (if v.getLsbD n then s.faultEvent n else s)
    exact ⟨hPulses'.trans hPulses, hPrev'.trans hPrev, fun m hm => hSticky' m (hSticky m hm)⟩

/-- A source with a class becomes sticky where it is among them. -/
theorem State.eventsOf_sticky {s : State} (hEff : SMap.wf s.eff = true) {v : BitVec 128} {n : Nat} (hv : v.getLsbD n = true) (hn : n < 76 ∨ 80 ≤ n)
    (hRange : n < 128) (hClass : s.baseClass n ≠ none) {l : List Nat} (hl : n ∈ l) : (s.eventsOf v l).flt.sticky.getLsbD n = true := by
  obtain ⟨l₁, l₂, rfl⟩ := List.append_of_mem hl
  have hBefore := (s.eventsOf_settles v l₁).baseClass hEff hn
  have hSplit : s.eventsOf v (l₁ ++ n :: l₂) = ((s.eventsOf v l₁).faultEvent n).eventsOf v l₂ := by
    rw [State.eventsOf, List.foldl_append, List.foldl_cons, if_pos hv]
    rfl
  obtain ⟨b, hb⟩ := Option.ne_none_iff_exists'.1 hClass
  rw [hSplit]
  refine (State.eventsOf_kept _ v l₂).2.2 n ?_
  rw [State.faultEvent_sticky (hBefore.trans hb), BitVec.getLsbD_or, getLsbD_bit, decide_eq_true hRange, decide_eq_true rfl, Bool.and_self, Bool.or_true]

/-- The collector without the signals of broken wires held: its signals and pulses that were not there before are events. -/
def State.collected (s : State) : State :=
  (s.withFlt { s.flt with wiring := false, prev := s.levelSignals, pulses := 0, latched := 0 }).eventsOf ((s.levelSignals ||| s.flt.pulses) &&& ~~~s.flt.prev)
    (List.range 128)

set_option Elab.async false in
theorem State.collect_eq {s : State} (h1 : s.isOn 1 = true) (hWiring : s.flt.wiring = false) :
    s.collect = (s.collected.withFlt { s.collected.flt with injected := 0 }).galDone := by
  unfold State.collect
  rw [if_pos h1]
  simp only [hWiring, Bool.false_eq_true, if_false]
  rfl

/-- Settles O39: an event is recorded, raised and reported; the collector makes events of new signals and pulses. -/
theorem faultEventsAreClassed : Obligations.FaultEventsAreClassed := by
  intro s n hn hInv
  refine ⟨State.faultEvent_none, fun b hb => ?_, fun h1 hWiring hPrev hClass hSource hSignal => ?_⟩
  · intro up c t
    have hc : c = s.eventClass b := rfl
    obtain ⟨v, hReported, f, i, x, hv⟩ := State.faultEvent_reported hb
    have hGal := State.galFault_within (if s.eventClass b = 3 then v.breached else v) (s.eventClass b)
    rw [← hReported] at hGal
    have hLen : c < s.flt.events.length := by
      rw [hInv.counts, hc]
      exact Nat.lt_succ_of_le (s.eventClass_le (State.baseClass_le hb))
    have hEvents : t.flt.events = s.flt.events.set c (satInc 16 (s.flt.events.getD c 0)) := State.faultEvent_events hb
    refine ⟨State.faultEvent_sticky hb, State.faultEvent_effClass_same hb hn, fun m hm hne => State.faultEvent_effClass_other hb hm hne, ?_, fun k hk => ?_,
      State.faultEvent_pends hb, fun h3 => ?_, fun h3 => ?_, ?_, ?_⟩
    · rw [hEvents, List.getD_eq_getElem?_getD, List.getElem?_set_self hLen]
      rfl
    · rw [hEvents, List.getD_eq_getElem?_getD, List.getElem?_set_ne hk.symm, List.getD_eq_getElem?_getD]
    · rw [if_pos (hc ▸ h3)] at hGal
      refine ⟨?_, fun h10 => ?_⟩
      · rw [show t.pwr = v.breached.pwr from hGal.parts .pwr rfl, v.breached_pwr]
      · have hOn : v.isOn 10 = true := by rw [hv]; exact h10
        obtain ⟨hEn, hMod⟩ := State.breached_off hOn
        refine ⟨?_, ?_⟩
        · rw [State.is, State.get, hGal.words (F.MOD_CTRL_EN).addr rfl]
          exact hEn
        · rw [show t.mod = v.breached.mod from hGal.parts .mod rfl, hMod]
    · rw [if_neg (hc ▸ h3)] at hGal
      refine ⟨?_, ?_, ?_⟩
      · rw [show t.pwr = v.pwr from hGal.parts .pwr rfl, hv]
        rfl
      · rw [show t.mod = v.mod from hGal.parts .mod rfl, hv]
        rfl
      · rw [show t.pins = v.pins from hGal.parts .pins rfl, hv]
        rfl
    · have hCfg : (if s.eventClass b = 3 then v.breached else v).cfg = v.cfg := by
        split
        · exact v.breached_within.parts .cfg rfl
        · rfl
      rw [show t.cfg = _ from hGal.parts .cfg rfl, hCfg, hv]
      rfl
    · have hRve : (if s.eventClass b = 3 then v.breached else v).rve = v.rve := by
        split
        · exact v.breached_within.parts .rve rfl
        · rfl
      rw [show t.rve = _ from hGal.parts .rve rfl, hRve, hv]
      rfl
  · have hNew : ((s.levelSignals ||| s.flt.pulses) &&& ~~~s.flt.prev).getLsbD n = true := by
      rw [BitVec.getLsbD_and, BitVec.getLsbD_or, BitVec.getLsbD_not, hPrev, decide_eq_true hn]
      rcases hSignal with h | h <;> simp [h]
    have hFlt : s.collect.flt = { s.collected.flt with injected := 0 } := by
      rw [State.collect_eq h1 hWiring]
      exact (State.galDone_within _).parts .flt rfl
    have hKept := (s.withFlt { s.flt with wiring := false, prev := s.levelSignals, pulses := 0, latched := 0 }).eventsOf_kept
      ((s.levelSignals ||| s.flt.pulses) &&& ~~~s.flt.prev) (List.range 128)
    have hSticky : s.collected.flt.sticky.getLsbD n = true := State.eventsOf_sticky (s := s.withFlt
      { s.flt with wiring := false, prev := s.levelSignals, pulses := 0, latched := 0 }) hInv.eff hNew hSource hn hClass (List.mem_range.2 hn)
    rw [hFlt]
    exact ⟨hSticky, hKept.1, hKept.2.1⟩

end Sys2Proof.Machine
end

section
/-! PROOF. The inputs of the channels and the gates (R304): what the outputs take from the causes. -/
namespace Sys2Proof.Machine

/-- An AFE that may not run goes off. -/
def State.afeFollow (s : State) : State :=
  if s.isCell && s.mod.afeOn && !s.mod.frozen && s.afeHeld then
    s.withMod { s.mod with afeOn := false, func := (s.mod.func.set 0 .off).set 1 .off } else s

/-- The inputs of the channels as their causes are. -/
def State.inputsFollow (s : State) : State :=
  let t := s.afeFollow.notchesLeft
  let u := t.setInputs ([0, 1, 2, 3].map t.inputLevel)
  u.withMod { u.mod with inp8 := t.inputGd8 }

/-- The gates as the channels give them. -/
def State.gatesShown (s : State) : State :=
  let g := s.gateBits
  let s := s.withPins { s.pins with gates := BitVec.ofNat 9 g }
  let s := if s.isOn 13 then
      let s := s.put F.GDR_CH_STATUS_ON g
      let s := s.flag F.GDR_STATUS_CHOP_ON (natBit g 8)
      let w := s.get F.GDR_STATUS_BS_WARN
      s.put F.GDR_STATUS_BS_WARN
        ([0, 1, 2, 3].foldl (fun b n => if natBit w n && natBit g (2 * n) then b + 2 ^ n else b) 0)
    else s
  if s.isOn 10 && s.isCell then s.flag F.MOD_AFE_STATE_BLOCKED (g % 16 == 0) else s

theorem State.drive_eq (s : State) : s.drive = s.inputsFollow.uvloFaults.gatesShown := rfl

theorem State.gatesShown_within (s : State) : s.Within s.gatesShown ⟨[.regs, .pins], [7, 9], []⟩ := by
  delta State.gatesShown
  extract_lets _ _ t1 t2 t3 _ t4
  have h1 : s.Within t1 ⟨[.regs, .pins], [7, 9], []⟩ := (State.Within.refl s _).withPins
  have h2 : s.Within t2 ⟨[.regs, .pins], [7, 9], []⟩ := h1.put
  have h3 : s.Within t3 ⟨[.regs, .pins], [7, 9], []⟩ := h2.flag
  have h4 : s.Within t4 ⟨[.regs, .pins], [7, 9], []⟩ := .ite h3.put h1
  exact .ite h4.flag h4

theorem State.gatesShown_gates (s : State) : s.gatesShown.pins.gates = BitVec.ofNat 9 s.gateBits := by
  have hPut : ∀ (t : State) (f : Fld) (v : Nat), (t.put f v).pins = t.pins := fun _ _ _ => rfl
  have hFlag : ∀ (t : State) (f : Fld) (b : Bool), (t.flag f b).pins = t.pins := fun _ _ _ => rfl
  have hIte : ∀ (c : Prop) [Decidable c] (t u : State), t.pins = u.pins → (if c then t else u).pins = u.pins := by
    intro c _ t u h
    split
    · exact h
    · rfl
  delta State.gatesShown
  extract_lets _ _ t1 t2 t3 _ t4
  have h4 : t4.pins = t1.pins := hIte _ _ _ (by rw [hPut, hFlag, hPut])
  refine (congrArg PinSt.gates ((hIte _ _ _ (hFlag _ _ _)).trans h4)).trans rfl

/-- The gates are those of the inputs, after the undervoltage faults that they meet. -/
theorem State.drive_gates (s : State) : s.drive.pins.gates = BitVec.ofNat 9 s.inputsFollow.uvloFaults.gateBits := by
  rw [s.drive_eq, State.gatesShown_gates]

theorem State.drive_mod (s : State) : s.drive.mod = s.inputsFollow.mod := by
  rw [s.drive_eq]
  exact ((State.gatesShown_within _).parts .mod rfl).trans (s.inputsFollow.uvloFaults_within.parts .mod rfl)

/-- Parts that neither the outputs nor their faults touch. -/
theorem State.drive_cf (s : State) (f : Fld) : s.drive.cf f = s.cf f := by
  rw [State.cf, State.effWord, show s.drive.eff = s.eff from s.drive_within.parts .eff rfl]
  rfl

theorem State.drive_isOn (s : State) (p : Nat) : s.drive.isOn p = s.isOn p := by
  rw [State.isOn, show s.drive.pwr = s.pwr from s.drive_within.parts .pwr rfl, State.isOn]

theorem State.afeFollow_idle {s : State} (h : s.mod.afeOn = false) : s.afeFollow = s := if_neg (by simp [h])

/-- An AFE that is off stays so, and no function changes with the outputs. -/
theorem State.drive_idle {s : State} (h : s.mod.afeOn = false) : s.drive.mod.afeOn = false ∧ s.drive.mod.func = s.mod.func := by
  rw [s.drive_mod, State.inputsFollow, State.afeFollow_idle h]
  exact ⟨h, rfl⟩

/-! ## Trips that force -/

theorem State.tripLevel_congr {s t : State} (hLatched : t.get F.MOD_TRIP_STATUS_LATCHED = s.get F.MOD_TRIP_STATUS_LATCHED)
    (hReleasing : t.mod.releasing = s.mod.releasing) (hCf : ∀ f, t.cf f = s.cf f) (n : Nat) : t.tripLevel n = s.tripLevel n := by
  have hForces : t.tripForces = s.tripForces := by
    funext k
    rw [State.tripForces, hLatched, hReleasing, State.tripForces]
  rw [State.tripLevel, State.tripCodes, hForces]
  simp only [hCf]
  rfl

theorem State.drive_releasing (s : State) : s.drive.mod.releasing = s.mod.releasing := by rw [s.drive_drives.mode]

theorem State.drive_tripLevel (s : State) (n : Nat) : s.drive.tripLevel n = s.tripLevel n :=
  State.tripLevel_congr (s.drive_drives.bits.get rfl rfl) s.drive_releasing s.drive_cf n

set_option Elab.async false in
theorem State.afeFollow_tripLevel (s : State) (n : Nat) : s.afeFollow.notchesLeft.tripLevel n = s.tripLevel n := by
  rw [State.afeFollow]
  split
  · exact State.tripLevel_congr rfl rfl (fun _ => rfl) n
  · exact State.tripLevel_congr rfl rfl (fun _ => rfl) n

theorem State.afeFollow_parts (s : State) : s.afeFollow.notchesLeft.isOn = s.isOn ∧ s.afeFollow.notchesLeft.placed = s.placed := by
  rw [State.afeFollow]
  split <;> exact ⟨rfl, rfl⟩

/-- The inputs that the outputs take. -/
theorem State.drive_inp (s : State) {n : Nat} (hn : n < 4) : s.drive.mod.inp.getD n .off = s.afeFollow.notchesLeft.inputLevel n := by
  rw [s.drive_mod]
  rcases lt_four_cases hn with rfl | rfl | rfl | rfl <;> rfl

/-- The level that trips force is the input of its half-bridge at once. -/
theorem State.drive_forced {s : State} (h10 : s.isOn 10 = true) (hPlaced : s.placed = true) {n : Nat} (hn : n < 4) {l : HbLevel}
    (h : s.drive.tripLevel n = some l) : s.drive.mod.inp.getD n .off = l := by
  obtain ⟨hOn, hPlace⟩ := s.afeFollow_parts
  rw [s.drive_tripLevel] at h
  rw [s.drive_inp hn, State.inputLevel, hOn, hPlace, h10, hPlaced, s.afeFollow_tripLevel, h]
  rfl

end Sys2Proof.Machine
end

section
/-! PROOF. Trips and missing commands (R265, R270, R274 to R277). -/
namespace Sys2Proof.Machine

/-! ## Four bits -/

theorem State.get_lt (s : State) (f : Fld) : s.get f < 2 ^ f.w :=
  Nat.mod_lt _ (Nat.two_pow_pos _)

/-- A clear bit of four is set by adding it. -/
theorem natBit_add_bit : ∀ l < 16, ∀ t < 4, ∀ k < 4, natBit l t = false → natBit ((l + 2 ^ t) % 2 ^ 4) k = (natBit l k || decide (k = t)) := by decide

/-- A set bit of four is cleared by subtracting it. -/
theorem natBit_sub_bit : ∀ l < 16, ∀ t < 4, ∀ k < 4, natBit l t = true → natBit ((l - 2 ^ t) % 2 ^ 4) k = (natBit l k && !decide (k = t)) := by decide

theorem natBit_or_bit : ∀ l < 16, ∀ t < 4, natBit ((l ||| 2 ^ t) % 2 ^ 4) t = true := by decide

/-! ## Lands of trips -/

theorem State.moveTrip_land (s : State) {t : Nat} (ht : t < 4) (active : Bool) : (s.moveTrip t active).tripLand t = active := by
  have hPol : (s.moveTrip t active).cfIs (F.MOD_TRIPt_CFG_POL t) = s.cfIs (F.MOD_TRIPt_CFG_POL t) := rfl
  have hBit : (s.moveTrip t active).pins.trips.getLsbD t = (active != s.cfIs (F.MOD_TRIPt_CFG_POL t)) := by
    show (if active != s.cfIs (F.MOD_TRIPt_CFG_POL t) then s.pins.trips ||| (1#4 <<< t) else s.pins.trips &&& ~~~(1#4 <<< t)).getLsbD t = _
    split
    next h => rw [getLsbD_setBit _ ht, decide_eq_true rfl, Bool.or_true, h]
    next h => rw [getLsbD_clearBit, decide_eq_true rfl, Bool.not_true, Bool.and_false, Bool.eq_false_iff.2 h]
  rw [State.tripLand, hBit, hPol]
  cases active <;> cases s.cfIs (F.MOD_TRIPt_CFG_POL t) <;> rfl

theorem State.moveTrip_others (s : State) {t k : Nat} (ht : t < 4) (h : k ≠ t) (active : Bool) :
    (s.moveTrip t active).pins.trips.getLsbD k = s.pins.trips.getLsbD k := by
  show (if active != s.cfIs (F.MOD_TRIPt_CFG_POL t) then s.pins.trips ||| (1#4 <<< t) else s.pins.trips &&& ~~~(1#4 <<< t)).getLsbD k = _
  split
  · rw [getLsbD_setBit _ ht, decide_eq_false h, Bool.or_false]
  · rw [getLsbD_clearBit, decide_eq_false h, Bool.not_false, Bool.and_true]

theorem State.moveTrip_seen (s : State) (t : Nat) (active : Bool) : (s.moveTrip t active).tripSeen t = s.tripSeen t := rfl

/-! ## A trip latches -/

/-- The trip shown and latched, before its outputs follow. -/
def State.tripShown (s : State) (t : Nat) : State :=
  let s := (s.put F.MOD_TRIP_STATUS_LATCHED (s.get F.MOD_TRIP_STATUS_LATCHED + 2 ^ t)).put F.MOD_STATUS_TRIPPED 1
  s.withMod { s.mod with releasing := s.mod.releasing &&& ~~~(1#4 <<< t) }

theorem State.tripLatch_new {s : State} {t : Nat} (h : natBit (s.get F.MOD_TRIP_STATUS_LATCHED) t = false) :
    s.tripLatch t = ((s.tripShown t).raiseInt (64 + t)).drive := if_neg (by simp [h])

theorem State.tripShown_get (s : State) (t : Nat) : (s.tripShown t).get F.MOD_TRIP_STATUS_ACTIVE = s.get F.MOD_TRIP_STATUS_ACTIVE ∧
    (s.tripShown t).get F.MOD_TRIP_STATUS_LATCHED = (s.get F.MOD_TRIP_STATUS_LATCHED + 2 ^ t) % 2 ^ 4 ∧ (s.tripShown t).is F.MOD_STATUS_TRIPPED = true := by
  simp only [State.tripShown, State.withMod_get, State.withMod_is]
  refine ⟨?_, ?_, ?_⟩
  · rw [State.get_put_apart _ _ _ _ rfl rfl, State.get_put_apart _ _ _ _ rfl rfl]
  · rw [State.get_put_apart _ _ _ _ rfl rfl, State.get_put_same _ _ _ rfl]
  · exact State.is_put_same _ F.MOD_STATUS_TRIPPED 1 rfl

theorem tripInt_apart {t : Nat} (ht : t < 4) : Scope.drive.ints.contains (64 + t) = false := by
  rcases lt_four_cases ht with rfl | rfl | rfl | rfl <;> rfl

/-- What a trip that latches shows, and the levels it forces. -/
theorem State.tripLatch_facts {s : State} {t : Nat} (ht : t < 4) (h : natBit (s.get F.MOD_TRIP_STATUS_LATCHED) t = false) :
    (s.tripLatch t).get F.MOD_TRIP_STATUS_ACTIVE = s.get F.MOD_TRIP_STATUS_ACTIVE ∧
    (s.tripLatch t).get F.MOD_TRIP_STATUS_LATCHED = (s.get F.MOD_TRIP_STATUS_LATCHED + 2 ^ t) % 2 ^ 4 ∧
    (s.tripLatch t).is F.MOD_STATUS_TRIPPED = true ∧ (s.tripLatch t).pends (64 + t) = (s.isOn 1 || s.pends (64 + t)) ∧
    (s.isOn 10 = true → s.placed = true → ∀ n l, n < 4 → (s.tripLatch t).tripLevel n = some l → (s.tripLatch t).mod.inp.getD n .off = l) := by
  obtain ⟨hActive, hLatched, hTripped⟩ := s.tripShown_get t
  have hBits := ((s.tripShown t).raiseInt (64 + t)).drive_drives.bits
  rw [State.tripLatch_new h]
  refine ⟨?_, ?_, ?_, ?_, fun h10 hPlaced n l hn hl => State.drive_forced ?_ ?_ hn hl⟩
  · rw [hBits.get rfl rfl, State.raiseInt_get, hActive]
  · rw [hBits.get rfl rfl, State.raiseInt_get, hLatched]
  · rw [hBits.is rfl rfl, State.raiseInt_is, hTripped]
  · rw [(State.drive_within _).pends _ (by omega) (by omega) (tripInt_apart ht), State.raiseInt_pends_self _ (by omega) (by omega)]
    rfl
  · rw [State.isOn, State.raiseInt_pwr]
    exact h10
  · obtain ⟨i, x, hRaise⟩ := (s.tripShown t).raiseInt_only (64 + t)
    rw [hRaise]
    exact hPlaced

/-! ## A trip cleared -/

/-- The latch cleared, before its outputs follow. -/
def State.tripLeft (s : State) (t : Nat) : State :=
  let u := (s.put F.MOD_TRIP_STATUS_LATCHED (s.get F.MOD_TRIP_STATUS_LATCHED - 2 ^ t)).flag F.MOD_STATUS_TRIPPED (s.get F.MOD_TRIP_STATUS_LATCHED != 2 ^ t)
  u.withMod { u.mod with releasing := u.mod.releasing ||| (1#4 <<< t) }

set_option Elab.async false in
theorem State.tripRelease_left {s : State} {t : Nat} (hLatched : natBit (s.get F.MOD_TRIP_STATUS_LATCHED) t = true)
    (hActive : natBit (s.get F.MOD_TRIP_STATUS_ACTIVE) t = false) : s.tripRelease t = ((s.tripLeft t).drive, true) :=
  (if_neg (by simp [hLatched])).trans (if_neg (by simp [hActive]))

theorem State.tripRelease_refused {s : State} {t : Nat} (hLatched : natBit (s.get F.MOD_TRIP_STATUS_LATCHED) t = true)
    (hActive : natBit (s.get F.MOD_TRIP_STATUS_ACTIVE) t = true) : s.tripRelease t =
      (((s.put F.MOD_TRIP_STATUS_REFUSED (s.get F.MOD_TRIP_STATUS_REFUSED ||| 2 ^ t)).raiseInt 68).fault 80, false) :=
  (if_neg (by simp [hLatched])).trans (if_pos hActive)

theorem State.tripRelease_none {s : State} {t : Nat} (h : natBit (s.get F.MOD_TRIP_STATUS_LATCHED) t = false) : s.tripRelease t = (s, true) :=
  if_pos (by simp [h])

theorem State.tripLeft_get (s : State) (t : Nat) : (s.tripLeft t).get F.MOD_TRIP_STATUS_LATCHED = (s.get F.MOD_TRIP_STATUS_LATCHED - 2 ^ t) % 2 ^ 4 ∧
    (s.tripLeft t).is F.MOD_STATUS_TRIPPED = (s.get F.MOD_TRIP_STATUS_LATCHED != 2 ^ t) := by
  simp only [State.tripLeft, State.withMod_get, State.withMod_is]
  refine ⟨?_, State.is_flag_same _ _ _ rfl rfl⟩
  rw [State.flag_eq, State.get_put_apart _ _ _ _ rfl rfl, State.get_put_same _ _ _ rfl]

/-- A write of one bit of MOD_TRIP_CLEAR. -/
theorem execTripClear_one {s : State} (h10 : s.isOn 10 = true) (hRuns : s.mod.frozen = false) {t : Nat} (ht : t < 4) :
    exec (.tripClear (1#4 <<< t)) s = .next (s.tripRelease t).1.settle := by
  have hOne : [0, 1, 2, 3].filter (natBit (1#4 <<< t).toNat) = [t] := by rcases lt_four_cases ht with rfl | rfl | rfl | rfl <;> rfl
  have hClears : s.tripClears (1#4 <<< t).toNat = (s.tripRelease t).1 := by
    rw [State.tripClears, if_pos (by simp [h10, hRuns]), hOne]
    rfl
  exact next_settle hClears

/-! ## The commands -/

theorem State.tripSeen_iff {s : State} {t : Nat} (h : s.tripSeen t = true) : s.isOn 10 = true := by
  simp only [State.tripSeen, Bool.and_eq_true] at h
  exact h.1.1.1

/-- The trip's land active and shown so. -/
def State.tripNoted (s : State) (t : Nat) : State :=
  let u := s.moveTrip t true
  if natBit (s.get F.MOD_TRIP_STATUS_ACTIVE) t then u else u.put F.MOD_TRIP_STATUS_ACTIVE (s.get F.MOD_TRIP_STATUS_ACTIVE + 2 ^ t)

theorem execTripActive_seen {s : State} {t : Nat} (h : s.tripSeen t = true) : exec (.tripActive t) s = .next ((s.tripNoted t).tripLatch t).settle :=
  next_settle (if_pos h)

theorem State.tripNoted_get (s : State) {t : Nat} (ht : t < 4) : natBit ((s.tripNoted t).get F.MOD_TRIP_STATUS_ACTIVE) t = true ∧
    (s.tripNoted t).get F.MOD_TRIP_STATUS_LATCHED = s.get F.MOD_TRIP_STATUS_LATCHED := by
  cases hBit : natBit (s.get F.MOD_TRIP_STATUS_ACTIVE) t
  · rw [State.tripNoted, if_neg (by simp [hBit]), State.get_put_same _ _ _ rfl, State.get_put_apart _ _ _ _ rfl rfl]
    refine ⟨?_, rfl⟩
    rw [natBit_add_bit _ (s.get_lt F.MOD_TRIP_STATUS_ACTIVE) t ht t ht hBit, decide_eq_true rfl, Bool.or_true]
  · rw [State.tripNoted, if_pos hBit]
    exact ⟨hBit, rfl⟩

theorem State.tripNoted_only (s : State) (t : Nat) : ∃ r, s.tripNoted t = (s.moveTrip t true).withRegs r := by
  rw [State.tripNoted]
  split
  · exact ⟨s.regs, rfl⟩
  · exact ⟨_, rfl⟩

theorem execTripInactive_seen {s : State} {t : Nat} (h : s.tripSeen t = true) (hActive : natBit (s.get F.MOD_TRIP_STATUS_ACTIVE) t = true) :
    exec (.tripInactive t) s = .next ((s.moveTrip t false).put F.MOD_TRIP_STATUS_ACTIVE (s.get F.MOD_TRIP_STATUS_ACTIVE - 2 ^ t)).settle :=
  next_settle (if_pos (by
    show (s.tripSeen t && natBit (s.get F.MOD_TRIP_STATUS_ACTIVE) t) = true
    rw [h, hActive]
    rfl))

/-- A land that no enabled trip sees moves alone. -/
theorem execTrip_unseen {s : State} {t : Nat} (h : s.tripSeen t = false) (active : Bool) :
    exec (if active then .tripActive t else .tripInactive t) s = .next (s.moveTrip t active).settle := by
  have hSeen : ∀ b, (s.moveTrip t b).tripSeen t = false := fun b => h
  cases active
  · exact next_settle (if_neg (by simp [hSeen]))
  · exact next_settle (if_neg (by simp [hSeen]))

/-! ## Missing commands -/

theorem execCommandLoss_lost {s : State} (hRuns : s.modRuns = true) (hRole : s.isCell = true ∨ s.isPort = true)
    (hFirst : s.is F.MOD_STATUS_CMD_LOST = false) (hMissing : s.cf F.MOD_AFE_CFG_MOD_CMD_LOSS ≤ s.mod.missing) : exec .commandLoss s =
      .next (if ((s.put F.MOD_STATUS_CMD_LOST 1).raiseInt 71).isCell then ((s.put F.MOD_STATUS_CMD_LOST 1).raiseInt 71).afeOff.drive
        else (s.put F.MOD_STATUS_CMD_LOST 1).raiseInt 71).settle := by
  have hCond : (s.modRuns && (s.isCell || s.isPort) && !s.is F.MOD_STATUS_CMD_LOST && decide (s.mod.missing ≥ s.cf F.MOD_AFE_CFG_MOD_CMD_LOSS)) = true := by
    rcases hRole with h | h <;> simp [hRuns, h, hFirst, hMissing]
  exact if_pos hCond

theorem execCommandLoss_not {s : State} (h : s.modRuns = false ∨ s.is F.MOD_STATUS_CMD_LOST = true ∨ s.mod.missing < s.cf F.MOD_AFE_CFG_MOD_CMD_LOSS) :
    exec .commandLoss s = .next s := by
  refine if_neg ?_
  rcases h with h | h | h
  · simp [h]
  · simp [h]
  · simp [Nat.not_le.2 h]

/-- The AFE legs off. -/
theorem State.afeOff_func {s : State} (hLen : s.mod.func.length = 4) : s.afeOff.mod.afeOn = false ∧ s.afeOff.mod.func.getD 0 .off = .off ∧
    s.afeOff.mod.func.getD 1 .off = .off := by
  have hFunc : s.afeOff.mod.func = (s.mod.func.set 0 .off).set 1 .off := rfl
  rw [hFunc]
  match h : s.mod.func, hLen with
  | [a, b, c, d], _ => exact ⟨rfl, rfl, rfl⟩

/-- Settles O36: latches, releases and the outputs that follow them. -/
theorem tripsAndCommandLoss : Obligations.TripsAndCommandLoss := by
  refine ⟨fun s t ht => ⟨fun hSeen hFresh => ?_, fun hSeen hActive => ?_, fun active hUnseen => ?_, fun mask hMask h10 hRuns => ?_⟩,
    fun s => ⟨fun hRuns hRole hFirst hInv hMissing => ?_, execCommandLoss_not⟩⟩
  · obtain ⟨hNoted, hLatched⟩ := s.tripNoted_get ht
    obtain ⟨r, hOnly⟩ := s.tripNoted_only t
    have hClear : natBit ((s.tripNoted t).get F.MOD_TRIP_STATUS_LATCHED) t = false := by rw [hLatched]; exact hFresh
    obtain ⟨hActive, hLatch, hTripped, hPends, hForced⟩ := State.tripLatch_facts ht hClear
    have hBits : ∀ k, k < 4 → natBit (((s.tripNoted t).tripLatch t).get F.MOD_TRIP_STATUS_LATCHED) k =
        (natBit (s.get F.MOD_TRIP_STATUS_LATCHED) k || decide (k = t)) := fun k hk => by
      rw [hLatch, hLatched, natBit_add_bit _ (s.get_lt F.MOD_TRIP_STATUS_LATCHED) t ht k hk hFresh]
    refine ⟨_, execTripActive_seen hSeen, by rw [hActive, hNoted], ?_, hTripped, ?_, fun n l hn hPlaced hl => ?_, fun k hk hne => ?_⟩
    · rw [hBits t ht, decide_eq_true rfl, Bool.or_true]
    · rw [hPends, hOnly]
      rfl
    · refine hForced ?_ ?_ n l hn hl
      · rw [hOnly]
        exact State.tripSeen_iff hSeen
      · rw [hOnly]
        exact hPlaced
    · rw [hBits k hk, decide_eq_false hne, Bool.or_false]
  · refine ⟨_, execTripInactive_seen hSeen hActive, ?_, s.moveTrip_land ht false, fun k hk => s.moveTrip_others ht hk false,
      ((s.sameBits_refl _).of_regs rfl).put, rfl⟩
    rw [State.get_put_same _ _ _ rfl, natBit_sub_bit _ (s.get_lt F.MOD_TRIP_STATUS_ACTIVE) t ht t ht hActive, decide_eq_true rfl, Bool.not_true, Bool.and_false]
  · exact ⟨_, execTrip_unseen hUnseen active, s.moveTrip_land ht active, rfl⟩
  · have hNext := execTripClear_one h10 hRuns ht
    rw [← hMask] at hNext
    refine ⟨fun hNone => ?_, fun hLatched hActive => ?_, fun hLatched hActive => ?_⟩
    · rw [hNext, State.tripRelease_none hNone]
    · rw [State.tripRelease_refused hLatched hActive] at hNext
      obtain ⟨i, x, hRaise⟩ := (s.put F.MOD_TRIP_STATUS_REFUSED (s.get F.MOD_TRIP_STATUS_REFUSED ||| 2 ^ t)).raiseInt_only 68
      refine ⟨_, hNext, ?_, ?_, State.raiseInt_pends_self _ (by decide) (by decide), (s.sameBits_refl _).put.raiseInt, ?_⟩
      · rw [State.raiseInt_get, State.get_put_same _ _ _ rfl]
        exact natBit_or_bit _ (s.get_lt F.MOD_TRIP_STATUS_REFUSED) t ht
      · rw [State.raiseInt_get, State.get_put_apart _ _ _ _ rfl rfl]
      · rw [hRaise]
        rfl
    · rw [State.tripRelease_left hLatched hActive] at hNext
      obtain ⟨hLeft, hTripped⟩ := s.tripLeft_get t
      have hBits := (s.tripLeft t).drive_drives.bits
      have hReleasing : (s.tripLeft t).drive.mod.releasing.getLsbD t = true := by
        rw [State.drive_releasing]
        show (s.mod.releasing ||| (1#4 <<< t)).getLsbD t = true
        rw [getLsbD_setBit _ ht, decide_eq_true rfl, Bool.or_true]
      refine ⟨_, hNext, ?_, hReleasing, ?_, ?_⟩
      · rw [hBits.get rfl rfl, hLeft, natBit_sub_bit _ (s.get_lt F.MOD_TRIP_STATUS_LATCHED) t ht t ht hLatched, decide_eq_true rfl, Bool.not_true, Bool.and_false]
      · rw [State.tripForces, hReleasing, Bool.or_true]
      · rw [hBits.is rfl rfl, hTripped, bne_iff_ne]
  · have hNext := execCommandLoss_lost hRuns hRole hFirst hMissing
    obtain ⟨i, x, hRaise⟩ := (s.put F.MOD_STATUS_CMD_LOST 1).raiseInt_only 71
    have hRoles : ((s.put F.MOD_STATUS_CMD_LOST 1).raiseInt 71).isCell = s.isCell := by rw [hRaise]; rfl
    have hShown : ((s.put F.MOD_STATUS_CMD_LOST 1).raiseInt 71).is F.MOD_STATUS_CMD_LOST = true := by
      rw [State.raiseInt_is]
      exact s.is_put_same F.MOD_STATUS_CMD_LOST 1 rfl
    have hPends : ((s.put F.MOD_STATUS_CMD_LOST 1).raiseInt 71).pends 71 = (s.isOn 1 || s.pends 71) := State.raiseInt_pends_self _ (by decide) (by decide)
    cases hCell : s.isCell
    · rw [hRoles, hCell] at hNext
      refine ⟨_, hNext, hShown, hPends, nofun, fun _ => ⟨?_, ?_⟩⟩
      · show { ((s.put F.MOD_STATUS_CMD_LOST 1).raiseInt 71) with int := s.int, str := s.str } = _
        rw [hRaise]
        rfl
      · exact ((s.sameBits_refl _).put.raiseInt (n := 71)).of_regs rfl
    · rw [hRoles, hCell] at hNext
      have hPort : s.isPort = false := by
        rw [State.isCell, beq_iff_eq] at hCell
        rw [State.isPort, hCell]
        rfl
      generalize hLost : (s.put F.MOD_STATUS_CMD_LOST 1).raiseInt 71 = v at *
      have hLen : v.mod.func.length = 4 := by rw [hRaise]; exact hInv.functions
      obtain ⟨hOff, hFirstLeg, hSecondLeg⟩ := State.afeOff_func hLen
      obtain ⟨hStays, hFunc⟩ := State.drive_idle hOff
      refine ⟨v.afeOff.drive, hNext, ?_, ?_, fun _ => ⟨hStays, by rw [hFunc, hFirstLeg], by rw [hFunc, hSecondLeg]⟩, fun h => absurd h (by simp [hPort])⟩
      · rw [v.afeOff.drive_drives.bits.is rfl rfl]
        exact hShown
      · rw [v.afeOff.drive_within.pends 71 (by decide) (by decide) rfl]
        exact hPends

end Sys2Proof.Machine
end

section
/-! PROOF. Echo paths and takeovers (R441, R450, R451). -/
namespace Sys2Proof.Machine

/-! ## A fault pulse and a raise do not see each other -/

set_option Elab.async false in
theorem State.raise167_withFlt (s : State) (f : FaultSt) : (s.withFlt f).raise167 = s.raise167.withFlt f := by
  unfold State.raise167
  dsimp only
  rw [apply_ite (State.withFlt · f), apply_ite (State.withFlt · f)]
  rfl

theorem State.offerRaise_withFlt (s : State) (n : Nat) (f : FaultSt) : (s.withFlt f).offerRaise n = (s.offerRaise n).withFlt f := by
  unfold State.offerRaise
  dsimp only
  rw [apply_ite (State.withFlt · f), ← State.raise167_withFlt]
  rfl

theorem State.raiseInt_withFlt (s : State) (n : Nat) (f : FaultSt) : (s.withFlt f).raiseInt n = (s.raiseInt n).withFlt f := by
  unfold State.raiseInt
  dsimp only
  rw [apply_ite (State.withFlt · f), apply_ite (State.withFlt · f), ← State.offerRaise_withFlt]
  rfl

theorem State.fault_raiseInt (s : State) (n k : Nat) : (s.fault n).raiseInt k = (s.raiseInt k).fault n := by
  unfold State.fault
  rw [apply_ite (State.raiseInt · k), State.raiseInt_withFlt, State.raiseInt_flt, State.raiseInt_isOn]

/-- An operation that leaves the fault collector alone takes place before a pulse as well as after it. -/
theorem State.fault_apply {op : State → State} {s : State} {n : Nat} (hFlt : ∀ f, op (s.withFlt f) = (op s).withFlt f) (hSame : (op s).flt = s.flt)
    (hOn : (op s).isOn 1 = s.isOn 1) : op (s.fault n) = (op s).fault n := by
  unfold State.fault
  rw [apply_ite op, hFlt, hSame, hOn]

theorem State.fault_fault (s : State) (n k : Nat) : (s.fault n).fault k = (s.fault k).fault n := by
  by_cases h : s.isOn 1 = true
  · simp only [State.fault, h, State.withFlt_isOn, if_true, State.withFlt_flt]
    rw [BitVec.or_assoc, BitVec.or_comm (1#128 <<< n), ← BitVec.or_assoc]
    rfl
  · simp only [State.fault, h, if_false, Bool.false_eq_true]

/-! ## A silent path -/

section
variable {s : State} {f : Fld}

theorem State.echoLost_lit (h : s.is f = true) : s.echoLost f = (s.put f 0).raiseInt 233 := if_pos h

/-- What a lost path may touch. -/
def Scope.echo : Scope := ⟨[.regs, .int, .str], [16], [233]⟩

theorem State.echoLost_within (s : State) (hf : f.addr / 65536 = 16) : s.Within (s.echoLost f) .echo :=
  have h := State.Within.refl s .echo
  .ite ((h.put (by rw [hf]; rfl)).raiseInt) h

theorem State.echoLost_bits (s : State) (f : Fld) : s.sameBits (s.echoLost f) [f] := .ite (s.sameBits_refl _).put.raiseInt (s.sameBits_refl _)

theorem State.echoLost_dark (s : State) (hf : f.fits = true) : (s.echoLost f).is f = false := by
  unfold State.echoLost
  split
  next => rw [State.raiseInt_is, s.is_put_same f 0 hf, Nat.zero_mod]; rfl
  next h => exact Bool.eq_false_iff.2 h

theorem State.echoLost_flt (s : State) (f : Fld) : (s.echoLost f).flt = s.flt := (iteInduction (motive := fun t : State => t.flt = s.flt)
  (fun _ => State.raiseInt_flt ..) (fun _ => rfl))

end

/-- R441: a silent path shows in its bit. -/
theorem echoPathSilent (s : State) (ring : Bool) :
    let f := if ring then F.TWN_STATUS_RING_ECHO else F.TWN_STATUS_LINK_ECHO
    (s.echoSilent ring = true → s.is f = true → ∃ u : State, exec (.echoPathSilent ring) s = .next u.settle ∧
      u.is f = false ∧ u.pends 233 = (s.isOn 1 || s.pends 233) ∧ s.sameBits u [f] ∧ u = { s with regs := u.regs, int := u.int, str := u.str }) ∧
    (s.echoSilent ring = false → exec (.echoPathSilent ring) s = .next s) := by
  intro f
  have hFits : f.fits = true := by cases ring <;> rfl
  have hBlock : f.addr / 65536 = 16 := by cases ring <;> exact Nat.div_eq_of_lt_le (by decide) (by decide)
  refine ⟨fun hSilent hLit => ⟨s.echoLost f, if_pos hSilent, s.echoLost_dark hFits, ?_, s.echoLost_bits f, (s.echoLost_within hBlock).eq⟩,
    fun hHeard => if_neg (by simp [hHeard])⟩
  rw [State.echoLost_lit hLit]
  exact State.raiseInt_pends_self _ (by decide) (by decide)

/-! ## The takeover -/

/-- The twin in control, before the pulse of fault 122. -/
def State.tookOver (s : State) : State :=
  ((((s.put F.TWN_STATUS_STATE 2).raiseInt 232).raiseInt 238).bump F.TWN_COUNTS_TAKEOVERS).withTwn { s.twn with tookOver := true }

/-- The control of a diverged twin that takes over. -/
def State.falls (s : State) : State :=
  if s.trkValid then ((s.toFallback).bump F.DPC_COUNTS_LOSSES).fault 72 else (s.setCtl 3).fault 73

theorem State.twinSet_active {s : State} (h : s.twin ≠ 2) : s.twinSet 2 = (s.put F.TWN_STATUS_STATE 2).raiseInt 232 := if_neg h

theorem State.tookOver_fault (s : State) : ((((((s.put F.TWN_STATUS_STATE 2).raiseInt 232).fault 122).raiseInt 238).bump F.TWN_COUNTS_TAKEOVERS).withTwn
    { ((((((s.put F.TWN_STATUS_STATE 2).raiseInt 232).fault 122).raiseInt 238).bump F.TWN_COUNTS_TAKEOVERS)).twn with tookOver := true }) =
      s.tookOver.fault 122 := by
  have hTwn : ((((((s.put F.TWN_STATUS_STATE 2).raiseInt 232).fault 122).raiseInt 238).bump F.TWN_COUNTS_TAKEOVERS)).twn = s.twn := by
    simp only [State.bump_eq, State.put_twn, State.raiseInt_twn, State.fault_twn]
  rw [hTwn, State.fault_raiseInt]
  exact State.fault_apply (op := fun t => (t.bump F.TWN_COUNTS_TAKEOVERS).withTwn { s.twn with tookOver := true }) (fun _ => rfl) rfl rfl

/-- What a twin that takes over shows (R450). -/
def State.Became (s u : State) : Prop := u.twin = 2 ∧ u.is F.TWN_STATUS_LINK_ECHO = false ∧
    u.is F.TWN_STATUS_RING_ECHO = false ∧ u.pends 232 = (s.isOn 1 || s.pends 232) ∧
    u.pends 238 = (s.isOn 1 || s.pends 238) ∧
    u.get F.TWN_COUNTS_TAKEOVERS = satInc 4 (s.get F.TWN_COUNTS_TAKEOVERS) ∧
    u.twn = { s.twn with tookOver := true } ∧ u.cfg = s.cfg ∧ u.eff = s.eff

/-- Both paths shown as silent. -/
def State.echoesLost (s : State) : State := (s.echoLost F.TWN_STATUS_LINK_ECHO).echoLost F.TWN_STATUS_RING_ECHO

set_option Elab.async false in
theorem State.echoesLost_within (s : State) : s.Within s.echoesLost .echo :=
  (s.echoLost_within (Nat.div_eq_of_lt_le (by decide) (by decide))).andThen
    ((s.echoLost F.TWN_STATUS_LINK_ECHO).echoLost_within (Nat.div_eq_of_lt_le (by decide) (by decide)))

theorem State.echoesLost_bits (s : State) : s.sameBits s.echoesLost [F.TWN_STATUS_LINK_ECHO, F.TWN_STATUS_RING_ECHO] := by
  have hLink : s.sameBits (s.echoLost F.TWN_STATUS_LINK_ECHO) [F.TWN_STATUS_LINK_ECHO, F.TWN_STATUS_RING_ECHO] :=
    .ite (s.sameBits_refl _).put.raiseInt (s.sameBits_refl _)
  exact .ite hLink.put.raiseInt hLink

theorem State.echoesLost_dark (s : State) :
    s.echoesLost.is F.TWN_STATUS_LINK_ECHO = false ∧ s.echoesLost.is F.TWN_STATUS_RING_ECHO = false :=
  ⟨(((s.echoLost F.TWN_STATUS_LINK_ECHO).echoLost_bits F.TWN_STATUS_RING_ECHO).is rfl rfl).trans (s.echoLost_dark rfl), State.echoLost_dark _ rfl⟩

theorem State.tookOver_bits (s : State) : s.sameBits s.tookOver [F.TWN_STATUS_STATE, F.TWN_COUNTS_TAKEOVERS] :=
  ((s.sameBits_refl _).put.raiseInt.raiseInt.bump).of_regs rfl

theorem State.tookOver_parts (s : State) : ∃ r i x, s.tookOver = { s with regs := r, int := i, str := x, twn := { s.twn with tookOver := true } } := by
  obtain ⟨i, x, hFirst⟩ := (s.put F.TWN_STATUS_STATE 2).raiseInt_only 232
  obtain ⟨j, y, hNext⟩ := ((s.put F.TWN_STATUS_STATE 2).raiseInt 232).raiseInt_only 238
  rw [State.tookOver, hNext, hFirst]
  exact ⟨_, _, _, rfl⟩

/-- A count that saturates fits its field. -/
theorem satInc_mod (w v : Nat) : satInc w v % 2 ^ w = satInc w v := by
  refine Nat.mod_eq_of_lt ?_
  have := Nat.two_pow_pos w
  unfold satInc
  split <;> omega

/-- The takeover shows from a state in which both paths are dark. -/
theorem State.became_tookOver (s : State) : s.Became s.echoesLost.tookOver := by
  have hWithin := s.echoesLost_within
  obtain ⟨hLink, hRing⟩ := s.echoesLost_dark
  have hPends : ∀ n, n < 256 → n ≠ 167 → n ≠ 233 → s.echoesLost.pends n = s.pends n := fun n hn h167 h =>
    hWithin.pends n hn h167 (by simpa [Scope.echo] using h)
  have hOn : s.echoesLost.isOn 1 = s.isOn 1 := congrArg (fun v => v.on.getLsbD 1) (hWithin.parts .pwr rfl : s.echoesLost.pwr = s.pwr)
  have hTwn : s.echoesLost.twn = s.twn := hWithin.parts .twn rfl
  have hCount : s.echoesLost.get F.TWN_COUNTS_TAKEOVERS = s.get F.TWN_COUNTS_TAKEOVERS := s.echoesLost_bits.get rfl rfl
  have hCfg : s.echoesLost.cfg = s.cfg := hWithin.parts .cfg rfl
  have hEff : s.echoesLost.eff = s.eff := hWithin.parts .eff rfl
  generalize s.echoesLost = t at hLink hRing hPends hOn hTwn hCount hCfg hEff ⊢
  have hBits := t.tookOver_bits
  have h232 : t.tookOver.pends 232 = (s.isOn 1 || s.pends 232) := by
    show (((t.put F.TWN_STATUS_STATE 2).raiseInt 232).raiseInt 238).pends 232 = _
    rw [State.raiseInt_pends _ 238 (by decide) (by decide), State.raiseInt_pends_self _ (by decide) (by decide), decide_eq_false (by decide),
      Bool.and_false, Bool.or_false, State.put_isOn, State.put_pends, hOn, hPends 232 (by decide) (by decide) (by decide)]
  have h238 : t.tookOver.pends 238 = (s.isOn 1 || s.pends 238) := by
    show (((t.put F.TWN_STATUS_STATE 2).raiseInt 232).raiseInt 238).pends 238 = _
    rw [State.raiseInt_pends_self _ (by decide) (by decide), State.raiseInt_pends _ 232 (by decide) (by decide), decide_eq_false (by decide),
      Bool.and_false, Bool.or_false, State.raiseInt_isOn, State.put_isOn, State.put_pends, hOn, hPends 238 (by decide) (by decide) (by decide)]
  have hRaised : (((t.put F.TWN_STATUS_STATE 2).raiseInt 232).raiseInt 238).get F.TWN_COUNTS_TAKEOVERS = s.get F.TWN_COUNTS_TAKEOVERS := by
    rw [State.raiseInt_get, State.raiseInt_get, State.get_put_apart _ _ _ _ rfl rfl, hCount]
  have hTaken : t.tookOver.get F.TWN_COUNTS_TAKEOVERS = satInc 4 (s.get F.TWN_COUNTS_TAKEOVERS) := by
    show ((((t.put F.TWN_STATUS_STATE 2).raiseInt 232).raiseInt 238).put F.TWN_COUNTS_TAKEOVERS _).get F.TWN_COUNTS_TAKEOVERS = _
    rw [State.get_put_same _ _ _ rfl, hRaised]
    exact satInc_mod 4 _
  have hTwin : t.tookOver.twin = 2 := by
    show ((((t.put F.TWN_STATUS_STATE 2).raiseInt 232).raiseInt 238).put F.TWN_COUNTS_TAKEOVERS _).get F.TWN_STATUS_STATE = _
    rw [State.get_put_apart _ _ _ _ rfl rfl, State.raiseInt_get, State.raiseInt_get]
    exact State.get_put_same _ _ _ rfl
  obtain ⟨r, i, x, hParts⟩ := t.tookOver_parts
  refine ⟨hTwin, (hBits.is rfl rfl).trans hLink, (hBits.is rfl rfl).trans hRing, h232, h238, hTaken, ?_, ?_, ?_⟩ <;> rw [hParts]
  · rw [hTwn]
  · exact hCfg
  · exact hEff

/-! ## A diverged twin in control falls back, or blocks -/

theorem State.setCtl_withFlt (s : State) (v : Nat) (f : FaultSt) : (s.withFlt f).setCtl v = (s.setCtl v).withFlt f := by
  unfold State.setCtl
  rw [apply_ite (State.withFlt · f), ← State.raiseInt_withFlt]
  rfl

theorem State.fallReset_bits (s : State) : s.sameBits s.fallReset
    [F.DPC_FB_STATUS_REGION_A, F.DPC_FB_STATUS_REGION_B, F.DPC_FB_STATUS_REGION_C, F.DPC_STATE_STATE] := by
  delta State.fallReset
  extract_lets _ t
  have h (l : List Fld) : s.sameBits t l := (s.sameBits_refl l).of_regs rfl
  exact (h _).put.put.put

theorem State.setCtl_bits (s : State) (v : Nat) : s.sameBits (s.setCtl v)
    [F.DPC_FB_STATUS_REGION_A, F.DPC_FB_STATUS_REGION_B, F.DPC_FB_STATUS_REGION_C, F.DPC_STATE_STATE] :=
  .ite (s.sameBits_refl _) s.fallReset_bits.put.raiseInt

theorem State.setCtl_ctl (s : State) {v : Nat} (hv : v < 4) : (s.setCtl v).ctl = v := by
  unfold State.setCtl
  split
  next h => exact h
  next => rw [State.ctl, State.raiseInt_get, State.get_put_same _ _ _ rfl, Nat.mod_eq_of_lt (show v < 2 ^ F.DPC_STATE_STATE.w from hv)]

/-- What the loss of a twin's control may touch. -/
def Scope.fall : Scope := ⟨[.regs, .dpc, .int, .str], [6], [88]⟩

theorem State.setCtl_within (s : State) (v : Nat) : s.Within (s.setCtl v) .fall :=
  have h := State.Within.refl s .fall
  .ite h (((h.withDpc.put.put.put).put).raiseInt)

theorem State.Within.isOn {s t : State} {f : Scope} (h : s.Within t f) (hf : f.parts.contains .pwr = false := by rfl) (p : Nat) :
    t.isOn p = s.isOn p := congrArg (fun v => v.on.getLsbD p) (h.parts .pwr hf : t.pwr = s.pwr)

/-- The control of a twin that falls back. -/
theorem State.toFallback_withFlt (s : State) (f : FaultSt) : (s.withFlt f).toFallback = s.toFallback.withFlt f :=
  State.setCtl_withFlt (s.seed.put F.OBS_HEALTH_OK_RUN 0) 2 f

set_option Elab.async false in
theorem State.toFallback_within (s : State) : s.Within s.toFallback .fall :=
  (State.Within.refl s .fall).withDpc.put.andThen ((s.seed.put F.OBS_HEALTH_OK_RUN 0).setCtl_within 2)

/-- The control lost, before the pulse of its fault. -/
def State.fallen (s : State) : State := if s.trkValid then s.toFallback.bump F.DPC_COUNTS_LOSSES else s.setCtl 3

theorem State.fallen_within (s : State) : s.Within s.fallen .fall := .ite s.toFallback_within.bump (s.setCtl_within 3)

theorem State.fallen_withFlt (s : State) (f : FaultSt) : (s.withFlt f).fallen = s.fallen.withFlt f := by
  unfold State.fallen
  rw [apply_ite (State.withFlt · f), State.toFallback_withFlt, State.setCtl_withFlt]
  rfl

theorem State.fallen_fault (s : State) (n : Nat) : (s.fault n).fallen = s.fallen.fault n :=
  State.fault_apply s.fallen_withFlt (s.fallen_within.parts .flt rfl) (s.fallen_within.isOn rfl 1)

theorem State.falls_eq (s : State) : s.falls = s.fallen.fault (if s.trkValid then 72 else 73) := by
  unfold State.falls State.fallen
  cases s.trkValid <;> rfl

theorem State.falls_fault (s : State) (n : Nat) : (s.fault n).falls = s.falls.fault n := by
  have hTrk : (s.fault n).trkValid = s.trkValid := State.fault_is ..
  rw [State.falls_eq, State.falls_eq, hTrk, State.fallen_fault, State.fault_fault]

/-- R450: the control that a fallen twin has, and the loss counted. -/
theorem State.falls_control (s : State) : s.falls.ctl = (if s.trkValid then 2 else 3) ∧
    (s.trkValid = true → s.falls.get F.DPC_COUNTS_LOSSES = satInc 16 (s.get F.DPC_COUNTS_LOSSES)) := by
  rw [State.falls_eq, State.ctl, State.fault_get, State.fault_get]
  unfold State.fallen
  cases s.trkValid
  · exact ⟨s.setCtl_ctl (by decide), nofun⟩
  · refine ⟨?_, fun _ => ?_⟩
    · exact (State.get_put_apart _ F.DPC_COUNTS_LOSSES F.DPC_STATE_STATE _ rfl rfl).trans (State.setCtl_ctl _ (by decide))
    · refine (State.get_put_same _ F.DPC_COUNTS_LOSSES _ rfl).trans ((satInc_mod 16 _).trans (congrArg (satInc 16) ?_))
      have hSeed : s.seed.sameBits (s.seed.put F.OBS_HEALTH_OK_RUN 0) [F.OBS_HEALTH_OK_RUN] := (State.sameBits_refl _ _).put
      exact ((State.setCtl_bits _ 2).get rfl rfl).trans (hSeed.get rfl rfl)

/-- What a takeover showed, it shows after the control is lost. -/
theorem State.Became.falls {s t : State} (h : s.Became t) : s.Became t.falls := by
  obtain ⟨hTwin, hLink, hRing, h232, h238, hCount, hTwn, hCfg, hEff⟩ := h
  have hWithin := t.fallen_within
  rw [State.falls_eq]
  generalize (if t.trkValid then 72 else 73) = n
  have hGet : ∀ f : Fld, Scope.fall.blocks.contains (f.addr / 65536) = false → (t.fallen.fault n).get f = t.get f := fun f hf => by
    rw [State.fault_get, State.get, hWithin.words _ hf, State.get]
  have hPends : ∀ k, k < 256 → k ≠ 167 → k ≠ 88 → (t.fallen.fault n).pends k = t.pends k := fun k hk h167 h88 =>
    (State.pends_of_int (State.fault_int ..) k).trans (hWithin.pends k hk h167 (by simpa [Scope.fall] using h88))
  refine ⟨(hGet _ rfl).trans hTwin, ?_, ?_, (hPends 232 (by decide) (by decide) (by decide)).trans h232,
    (hPends 238 (by decide) (by decide) (by decide)).trans h238, (hGet _ rfl).trans hCount, ?_, ?_, ?_⟩
  · rw [State.is, hGet _ rfl]; exact hLink
  · rw [State.is, hGet _ rfl]; exact hRing
  · rw [State.fault_twn, ← hTwn]; exact hWithin.parts .twn rfl
  · rw [State.fault_cfg, ← hCfg]; exact hWithin.parts .cfg rfl
  · rw [State.fault_eff, ← hEff]; exact hWithin.parts .eff rfl

theorem State.takeover_eq {s : State} (h : s.twin ≠ 2) : s.takeover =
    if s.twin == 4 && (s.tookOver.ctl = 1 || s.tookOver.ctl = 2) && s.tookOver.gridRuns then s.tookOver.falls.fault 122 else s.tookOver.fault 122 := by
  unfold State.takeover
  rw [State.twinSet_active h]
  dsimp only
  rw [State.tookOver_fault, State.ctl, State.ctl, State.fault_get]
  have hRuns : (s.tookOver.fault 122).gridRuns = s.tookOver.gridRuns := by
    simp only [State.gridRuns, State.isStation, State.fault_isOn, State.fault_mod, State.fault_role]
  rw [hRuns, ← State.falls_fault]
  rfl

theorem execTwinTakeover_next {s : State} (hLink : s.echoGone false = true) (hRing : s.echoGone true = true) (h : s.twin = 3 ∨ s.twin = 4) :
    exec .twinTakeover s = .next s.echoesLost.takeover.settle :=
  if_pos (by rcases h with h | h <;> simp [hLink, hRing, h])

/-- R450: the standby takes over. -/
theorem standbyTakesOver {s : State} (hLink : s.echoGone false = true) (hRing : s.echoGone true = true) (h : s.twin = 3) :
    ∃ u : State, exec .twinTakeover s = .next (u.fault 122).settle ∧ s.Became u ∧
      s.sameBits u [F.TWN_STATUS_STATE, F.TWN_STATUS_LINK_ECHO, F.TWN_STATUS_RING_ECHO, F.TWN_COUNTS_TAKEOVERS] ∧
      u = { s with regs := u.regs, int := u.int, str := u.str, twn := u.twn } := by
  have hTwin : s.echoesLost.twin = 3 := (s.echoesLost_bits.get rfl rfl).trans h
  have hOnly : s.echoesLost.takeover = s.echoesLost.tookOver.fault 122 := by
    rw [State.takeover_eq (by rw [hTwin]; decide), if_neg (by simp [hTwin])]
  refine ⟨s.echoesLost.tookOver, by rw [execTwinTakeover_next hLink hRing (.inl h), hOnly], s.became_tookOver,
    State.sameBits_trans (State.sameBits_mono s.echoesLost_bits (by simp)) (State.sameBits_mono s.echoesLost.tookOver_bits (by simp)), ?_⟩
  obtain ⟨r, i, x, hParts⟩ := s.echoesLost.tookOver_parts
  rw [hParts, s.echoesLost_within.eq]
  rfl

/-- R450: a diverged twin takes over. -/
theorem divergedTakesOver {s : State} (hLink : s.echoGone false = true) (hRing : s.echoGone true = true) (h : s.twin = 4) :
    ∃ u : State, exec .twinTakeover s = .next (u.fault 122).settle ∧ s.Became u ∧
      (s.gridRuns = true → s.ctl = 1 ∨ s.ctl = 2 → u.ctl = (if s.trkValid then 2 else 3) ∧
        (s.trkValid = true → u.get F.DPC_COUNTS_LOSSES = satInc 16 (s.get F.DPC_COUNTS_LOSSES))) := by
  have hTwin : s.echoesLost.twin = 4 := (s.echoesLost_bits.get rfl rfl).trans h
  have hBits : s.sameBits s.echoesLost.tookOver [F.TWN_STATUS_STATE, F.TWN_STATUS_LINK_ECHO, F.TWN_STATUS_RING_ECHO, F.TWN_COUNTS_TAKEOVERS] :=
    State.sameBits_trans (State.sameBits_mono s.echoesLost_bits (by simp)) (State.sameBits_mono s.echoesLost.tookOver_bits (by simp))
  have hCtl : s.echoesLost.tookOver.ctl = s.ctl := hBits.get rfl rfl
  have hTrk : s.echoesLost.tookOver.trkValid = s.trkValid := hBits.is rfl rfl
  have hLoss : s.echoesLost.tookOver.get F.DPC_COUNTS_LOSSES = s.get F.DPC_COUNTS_LOSSES := hBits.get rfl rfl
  have hRuns : s.echoesLost.tookOver.gridRuns = s.gridRuns := by
    obtain ⟨r, i, x, hParts⟩ := s.echoesLost.tookOver_parts
    rw [hParts, s.echoesLost_within.eq]
    rfl
  have hEq := State.takeover_eq (s := s.echoesLost) (by rw [hTwin]; decide)
  have hBecame := s.became_tookOver
  rw [hTwin, hCtl, hRuns] at hEq
  generalize s.echoesLost.tookOver = w at hCtl hTrk hLoss hEq hBecame
  by_cases hFalls : s.gridRuns = true ∧ (s.ctl = 1 ∨ s.ctl = 2)
  · refine ⟨w.falls, ?_, hBecame.falls, fun _ _ => ?_⟩
    · rw [execTwinTakeover_next hLink hRing (.inr h), hEq, if_pos (by simp [hFalls])]
    · have hControl := w.falls_control
      rwa [hTrk, hLoss] at hControl
  · refine ⟨w, ?_, hBecame, fun hRun hControl => absurd ⟨hRun, hControl⟩ hFalls⟩
    rw [execTwinTakeover_next hLink hRing (.inr h), hEq, if_neg (by
      rw [Bool.and_eq_true, Bool.and_eq_true, Bool.or_eq_true, decide_eq_true_iff, decide_eq_true_iff]
      exact fun hAll => hFalls ⟨hAll.2, hAll.1.2⟩)]

theorem State.cf_lt (s : State) (f : Fld) : s.cf f < 2 ^ f.w := Nat.mod_lt _ (Nat.two_pow_pos _)

/-! ## A pairing twin whose partner stays silent -/

/-- R451: a pairing twin becomes ACTIVE. -/
theorem pairingEnds {s : State} (h : s.twin = 1) (hSilent : 1000 ≤ s.twn.silentBoth) :
    ∃ u : State, exec .pairingPartnerSilent s = .next u.settle ∧ u.twin = 2 ∧
      u.get F.TWN_STATUS_HOURS_TO_SWAP = s.cf F.TWN_CFG_TWIN_SWAP_PERIOD ∧ u.pends 232 = (s.isOn 1 || s.pends 232) ∧
      s.sameBits u [F.TWN_STATUS_STATE, F.TWN_STATUS_HOURS_TO_SWAP] ∧
      u = { s with regs := u.regs, twn := { s.twn with hourTides := 0, retryAt := none, tookOver := true }, int := u.int, str := u.str } := by
  have hSet : s.twinSet 2 = (s.put F.TWN_STATUS_STATE 2).raiseInt 232 := State.twinSet_active (by rw [h]; decide)
  have hNext : exec .pairingPartnerSilent s = .next (((s.twinSet 2).restartHours).withTwn { (s.twinSet 2).restartHours.twn with tookOver := true }).settle :=
    if_pos (by simp [h, hSilent])
  rw [hSet] at hNext
  refine ⟨_, hNext, ?_, ?_, ?_, ?_, ?_⟩
  · refine (State.get_put_apart ((s.put F.TWN_STATUS_STATE 2).raiseInt 232) F.TWN_STATUS_HOURS_TO_SWAP F.TWN_STATUS_STATE _ rfl rfl).trans ?_
    rw [State.raiseInt_get]
    exact State.get_put_same _ _ _ rfl
  · refine (State.get_put_same ((s.put F.TWN_STATUS_STATE 2).raiseInt 232) F.TWN_STATUS_HOURS_TO_SWAP _ rfl).trans ?_
    have hCf : ((s.put F.TWN_STATUS_STATE 2).raiseInt 232).cf F.TWN_CFG_TWIN_SWAP_PERIOD = s.cf F.TWN_CFG_TWIN_SWAP_PERIOD := State.raiseInt_cf ..
    rw [hCf]
    exact Nat.mod_eq_of_lt (State.cf_lt ..)
  · exact (s.put F.TWN_STATUS_STATE 2).raiseInt_pends_self (by decide) (by decide)
  · exact State.sameBits.of_regs ((s.sameBits_refl _).put.raiseInt.put (f := F.TWN_STATUS_HOURS_TO_SWAP)) rfl
  · obtain ⟨i, x, hRaise⟩ := (s.put F.TWN_STATUS_STATE 2).raiseInt_only 232
    rw [hRaise]
    rfl

/-- Settles O58: silent paths, takeovers and a pairing twin, one lemma each. -/
theorem silenceAndTakeover : Obligations.SilenceAndTakeover := by
  intro s
  refine ⟨echoPathSilent s, ?_, pairingEnds, fun h => if_neg ?_⟩
  · intro became hLink hRing
    refine ⟨standbyTakesOver hLink hRing, divergedTakesOver hLink hRing, fun h3 h4 => if_neg ?_⟩
    simp [h3, h4]
  · rw [Bool.and_eq_true, decide_eq_true_iff, decide_eq_true_iff]
    rintro ⟨hPairing, hSilent⟩
    exact h.elim (· hPairing) (fun hShort => Nat.not_lt.2 hSilent hShort)

end Sys2Proof.Machine
end

section
/-! PROOF. The observer's steps and the tracker's validity (R214, R217, R241). -/
namespace Sys2Proof.Machine

/-! ## A step of the observer -/

/-- The state at a step of the observer, with the shared results of a twin taken. -/
def State.observed (s : State) (n : Nat) : State := if s.twn.operating then s.present s.tide (8 + 40 * n) else s

set_option Elab.async false in
theorem State.observed_parts (s : State) (n : Nat) : s.observed n =
    { s with adc := (s.observed n).adc, twn := { s.twn with shared := (s.observed n).twn.shared, presented := (s.observed n).twn.presented } } := by
  unfold State.observed
  split <;> rfl

/-- The step leaves all but the observer's own values. -/
theorem State.observe_parts (s : State) : s.observe = { s with dpc := { s.dpc with
    yA := s.observe.dpc.yA, yB := s.observe.dpc.yB, w := s.observe.dpc.w, theta := s.observe.dpc.theta, psiA := s.observe.dpc.psiA,
    psiB := s.observe.dpc.psiB, p := s.observe.dpc.p, q := s.observe.dpc.q, i := s.observe.dpc.i, iA := s.observe.dpc.iA,
    iB := s.observe.dpc.iB } } := rfl

/-- R217: p and q from the flux, the currents and w of the step. -/
structure DpcSt.Observes (d : DpcSt) : Prop where
  p : d.p = fx (pu d.w * (pu d.psiA * pu d.iB - pu d.psiB * pu d.iA))
  q : d.q = fx (pu d.w * (pu d.psiA * pu d.iA + pu d.psiB * pu d.iB))
  theta : d.theta = fxAtan2 d.psiB d.psiA
  iA : d.iA = clarkeA (d.i.getD 0 0) (d.i.getD 1 0) (d.i.getD 2 0)
  iB : d.iB = clarkeB (d.i.getD 1 0) (d.i.getD 2 0)

theorem State.observe_observes (s : State) : s.observe.dpc.Observes := ⟨rfl, rfl, rfl, rfl, rfl⟩

/-- The state after step `n` of the observer, at its time. -/
def State.observerAt (now : State) (n : Nat) : State :=
  (now.observed n).observe.withDpc { (now.observed n).observe.dpc with steps := n + 1 }

theorem State.observerAt_observes (now : State) (n : Nat) : (now.observerAt n).dpc.Observes := by
  obtain ⟨hp, hq, hTheta, hA, hB⟩ := (now.observed n).observe_observes
  exact ⟨hp, hq, hTheta, hA, hB⟩

theorem State.observerAt_parts (now : State) (n : Nat) : now.observerAt n = { now with
    adc := (now.observerAt n).adc
    twn := { now.twn with shared := (now.observerAt n).twn.shared, presented := (now.observerAt n).twn.presented }
    dpc := { now.dpc with
      yA := (now.observerAt n).dpc.yA, yB := (now.observerAt n).dpc.yB, w := (now.observerAt n).dpc.w, theta := (now.observerAt n).dpc.theta,
      psiA := (now.observerAt n).dpc.psiA, psiB := (now.observerAt n).dpc.psiB, p := (now.observerAt n).dpc.p, q := (now.observerAt n).dpc.q,
      i := (now.observerAt n).dpc.i, iA := (now.observerAt n).dpc.iA, iB := (now.observerAt n).dpc.iB, steps := (now.observerAt n).dpc.steps } } := by
  have hObserved := now.observed_parts n
  unfold State.observerAt
  generalize now.observed n = v at hObserved ⊢
  have hParts := v.observe_parts
  generalize v.observe = u at hParts ⊢
  rw [hParts, hObserved]
  rfl

theorem State.observerAt_alone {now : State} (h : now.twn.operating = false) (n : Nat) :
    (now.observerAt n).adc = now.adc ∧ (now.observerAt n).twn = now.twn := by
  rw [State.observerAt, State.observed, if_neg (by simp [h])]
  exact ⟨rfl, rfl⟩

theorem State.observerAt_tim (now : State) (n : Nat) : (now.observerAt n).tim = now.tim := by rw [State.observerAt_parts]

/-- R214: a step of the observer at its time. -/
theorem observerSteps {s : State} (h : s.gridRuns = true) : let now := s.reach (s.get F.TIM_TIDE_NS_VALUE + 40 + 200 * min 4 s.dpc.steps)
    ∃ t : State, exec .observerStep s = .next t ∧ t.timeCame (s.get F.TIM_TIDE_NS_VALUE + 40 + 200 * min 4 s.dpc.steps) = true ∧
      t.dpc.steps = min 4 s.dpc.steps + 1 ∧
      t.dpc.p = fx (pu t.dpc.w * (pu t.dpc.psiA * pu t.dpc.iB - pu t.dpc.psiB * pu t.dpc.iA)) ∧
      t.dpc.q = fx (pu t.dpc.w * (pu t.dpc.psiA * pu t.dpc.iA + pu t.dpc.psiB * pu t.dpc.iB)) ∧
      t.dpc.theta = fxAtan2 t.dpc.psiB t.dpc.psiA ∧
      t.dpc.iA = clarkeA (t.dpc.i.getD 0 0) (t.dpc.i.getD 1 0) (t.dpc.i.getD 2 0) ∧
      t.dpc.iB = clarkeB (t.dpc.i.getD 1 0) (t.dpc.i.getD 2 0) ∧ (s.twn.operating = false → t.adc = now.adc ∧ t.twn = s.twn) ∧
      t = { now with
        adc := t.adc
        twn := { s.twn with shared := t.twn.shared, presented := t.twn.presented }
        dpc := { s.dpc with
          yA := t.dpc.yA, yB := t.dpc.yB, w := t.dpc.w, theta := t.dpc.theta, psiA := t.dpc.psiA, psiB := t.dpc.psiB
          p := t.dpc.p, q := t.dpc.q, i := t.dpc.i, iA := t.dpc.iA, iB := t.dpc.iB, steps := t.dpc.steps } } := by
  have hNext : exec .observerStep s =
      .next ((s.reach (s.get F.TIM_TIDE_NS_VALUE + 40 + 200 * min 4 s.dpc.steps)).observerAt (min 4 s.dpc.steps)) := if_pos h
  have hWithin := s.reach_within (s.get F.TIM_TIDE_NS_VALUE + 40 + 200 * min 4 s.dpc.steps)
  have hCame := s.reach_timeCame (s.get F.TIM_TIDE_NS_VALUE + 40 + 200 * min 4 s.dpc.steps)
  have hDpc : (s.reach (s.get F.TIM_TIDE_NS_VALUE + 40 + 200 * min 4 s.dpc.steps)).dpc = s.dpc := hWithin.parts .dpc rfl
  have hTwn : (s.reach (s.get F.TIM_TIDE_NS_VALUE + 40 + 200 * min 4 s.dpc.steps)).twn = s.twn := hWithin.parts .twn rfl
  generalize s.reach (s.get F.TIM_TIDE_NS_VALUE + 40 + 200 * min 4 s.dpc.steps) = now at hNext hCame hDpc hTwn
  generalize min 4 s.dpc.steps = n at hNext hCame ⊢
  have hParts := now.observerAt_parts n
  have hAlone := fun hOp => now.observerAt_alone hOp n
  rw [hTwn] at hAlone
  rw [hTwn, hDpc] at hParts
  obtain ⟨hp, hq, hTheta, hA, hB⟩ := now.observerAt_observes n
  refine ⟨_, hNext, ?_, rfl, hp, hq, hTheta, hA, hB, hAlone, hParts⟩
  rw [← hCame]
  exact State.timeCame_congr (now.observerAt_tim n) _

/-! ## The tracker -/

/-- The tracker's validity shown. -/
def State.trackerShown (s : State) (v : Bool) : State := ((s.flag F.OBS_TRK_STATUS_VALID v).flag F.DPC_STATE_TRK_VALID v).raiseInt 91

theorem State.trackerShown_facts (s : State) (v : Bool) : (s.trackerShown v).trkValid = v ∧ (s.trackerShown v).is F.DPC_STATE_TRK_VALID = v ∧
    (s.trackerShown v).pends 91 = (s.isOn 1 || s.pends 91) ∧ s.sameBits (s.trackerShown v) [F.OBS_TRK_STATUS_VALID, F.DPC_STATE_TRK_VALID] ∧
    s.trackerShown v = { s with regs := (s.trackerShown v).regs, int := (s.trackerShown v).int, str := (s.trackerShown v).str } := by
  refine ⟨?_, ?_, State.raiseInt_pends_self _ (by decide) (by decide), (((s.sameBits_refl _).flag).flag).raiseInt, ?_⟩
  · rw [State.trackerShown, State.trkValid, State.raiseInt_is, State.flag_eq _ F.DPC_STATE_TRK_VALID, State.is_put_apart _ _ _ _ rfl rfl,
      State.is_flag_same _ _ _ rfl rfl]
  · rw [State.trackerShown, State.raiseInt_is, State.is_flag_same _ _ _ rfl rfl]
  · obtain ⟨i, x, hRaise⟩ := ((s.flag F.OBS_TRK_STATUS_VALID v).flag F.DPC_STATE_TRK_VALID v).raiseInt_only 91
    rw [State.trackerShown, hRaise]
    rfl

theorem State.trackerShown_ctl (s : State) (v : Bool) : (s.trackerShown v).ctl = s.ctl :=
  (s.trackerShown_facts v).2.2.2.1.get rfl rfl

/-- R241: the tracker becomes valid. -/
theorem trackerBecomesValid {s : State} (hRun : s.gridRuns = true) (hConditions : s.trkConditions = true) (hInvalid : s.trkValid = false) :
    exec .trackerValid s = .next (s.trackerShown true).settle := by
  refine next_settle ((if_pos (by rw [hRun, hConditions]; rfl)).trans ((if_neg (by rw [hInvalid]; decide)).trans ?_))
  exact if_neg (by simp)

/-- The state in which the tracker finds its source lost. -/
def State.sourceNoted (s : State) (lost : Bool) : State := if lost then s.put F.OBS_TRK_STATUS_SRC_LOST 1 else s

theorem trackerBecomesInvalid {s : State} {lost : Bool} (hRun : s.gridRuns = true) (hLost : lost = true ∨ s.trkConditions = false)
    (hValid : s.trkValid = true) :
    exec (.trackerInvalid lost) s = .next (if s.ctl = 1 then ((s.sourceNoted lost).trackerShown false).fault 74
      else (s.sourceNoted lost).trackerShown false).settle := by
  have hTrk : (s.sourceNoted lost).trkValid = true := by
    cases lost
    · exact hValid
    · exact (State.is_put_apart _ _ _ _ rfl rfl).trans hValid
  have hCtl : ((s.sourceNoted lost).trackerShown false).ctl = s.ctl := by
    rw [State.trackerShown_ctl]
    cases lost
    · rfl
    · exact State.get_put_apart _ _ _ _ rfl rfl
  refine next_settle ((if_pos (by rcases hLost with h | h <;> simp [hRun, h])).trans ((if_neg (?_ : ¬ ((s.sourceNoted lost).trkValid == false) = true)).trans ?_))
  · rw [hTrk]
    decide
  · show (if (((s.sourceNoted lost).trackerShown false).ctl = 1 && !false) = true then _ else _) = _
    rw [hCtl]
    simp only [Bool.not_false, Bool.and_true, decide_eq_true_iff]
    rfl

/-- Settles O53: a step of the observer, and the tracker's validity lost and won. -/
theorem observerAndTracker : Obligations.ObserverAndTracker := by
  intro s
  refine ⟨observerSteps, fun hOff => if_neg (by simp [hOff]), fun hRun hConditions hInvalid => ?_, fun lost hRun hLost hValid => ?_⟩
  · exact ⟨_, trackerBecomesValid hRun hConditions hInvalid, s.trackerShown_facts true⟩
  · obtain ⟨hTrk, hShown, hRaised, hBits, hParts⟩ := (s.sourceNoted lost).trackerShown_facts false
    have hNoted : s.sameBits (s.sourceNoted lost) [F.OBS_TRK_STATUS_VALID, F.DPC_STATE_TRK_VALID, F.OBS_TRK_STATUS_SRC_LOST] := by
      cases lost
      · exact s.sameBits_refl _
      · exact (s.sameBits_refl _).put
    refine ⟨_, trackerBecomesInvalid hRun hLost hValid, hTrk, hShown, hRaised.trans ?_, fun h => ?_,
      State.sameBits_trans hNoted (State.sameBits_mono hBits (by simp)), hParts.trans ?_⟩
    · cases lost <;> rfl
    · refine (hBits.is rfl rfl).trans ?_
      rw [h]
      exact State.is_put_same s F.OBS_TRK_STATUS_SRC_LOST 1 rfl
    · cases lost <;> rfl

end Sys2Proof.Machine
end

section
/-! PROOF. The ends of a resync (R454). -/
namespace Sys2Proof.Machine

/-- A word that holds none of the fields written is as before. -/
theorem State.sameBits_word {s t : State} {l : List Fld} (h : s.sameBits t l) {a : Nat} (ha : ∀ f ∈ l, f.addr ≠ a) : t.word a = s.word a := by
  refine BitVec.eq_of_getLsbD_eq fun i hi => h a i hi ?_
  rintro ⟨f, hf, hAddr, -⟩
  exact ha f hf hAddr

/-! ## A resync ends -/

set_option Elab.async false in
theorem State.resyncEnd_is (s : State) (st : Status) : (s.resyncEnd st).is F.TWN_STATUS_RESYNC = false :=
  State.is_put_same _ F.TWN_STATUS_RESYNC 0 rfl

theorem State.resyncEnd_parts (s : State) (st : Status) : s.resyncEnd st =
    { s with regs := (s.resyncEnd st).regs, rve := (s.resyncEnd st).rve, twn := (s.resyncEnd st).twn } := by
  delta State.resyncEnd
  cases s.twn.resyncBy <;> rfl

theorem State.resyncEnd_twn (s : State) (st : Status) : (s.resyncEnd st).twn = { s.twn with resyncBy := none, snapWait := false } := by
  delta State.resyncEnd
  cases s.twn.resyncBy <;> rfl

theorem State.resyncEnd_bits (s : State) (st : Status) : s.sameBits (s.resyncEnd st) [F.TWN_STATUS_RESYNC] := by
  delta State.resyncEnd
  cases s.twn.resyncBy <;> exact State.sameBits.of_regs (s.sameBits_refl _).put rfl

/-- The response of the command that asked for the resync. -/
theorem State.resyncEnd_mb {s : State} (hLen : s.rve.mb.length = 11) (st : Status) {k : Nat} (hk : k < 9) (hBy : s.twn.resyncBy = some k) :
    ((s.resyncEnd st).mb k).ready = true ∧ ((s.resyncEnd st).mb k).rsp.getD 2 0 = BitVec.ofNat 8 st.code ∧ ((s.resyncEnd st).mb k).held = 0 := by
  have hMb : (s.resyncEnd st).mb k = (s.respond k st []).mb k := by
    delta State.resyncEnd
    rw [hBy]
    rfl
  rw [hMb, State.respond_eq, State.mb_setMb_self _ (by omega)]
  exact ⟨rfl, rfl, rfl⟩

theorem State.resyncEnd_own {s : State} (st : Status) (hBy : s.twn.resyncBy = none) :
    (s.resyncEnd st).rve = { s.rve with autoHeld := s.rve.autoHeld &&& ~~~resTwin } := by
  delta State.resyncEnd
  rw [hBy]
  rfl

/-- R454: a resync that did not complete in time. -/
theorem resyncTimesOut {s : State} (hInv : s.Inv) (h : s.is F.TWN_STATUS_RESYNC = true) :
    ∃ u : State, exec .resyncTimeout s = .next u.settle ∧ u.is F.TWN_STATUS_RESYNC = false ∧ u.twin = s.twin ∧
      u.twn = { s.twn with resyncBy := none, snapWait := false } ∧
      (∀ k, k < 9 → s.twn.resyncBy = some k → (u.mb k).ready = true ∧
        (u.mb k).rsp.getD 2 0 = BitVec.ofNat 8 Status.timeout.code ∧ (u.mb k).held = 0) ∧
      (s.twn.resyncBy = none → u.rve = { s.rve with autoHeld := s.rve.autoHeld &&& ~~~resTwin }) ∧
      s.sameBits u [F.TWN_STATUS_RESYNC] ∧ u = { s with regs := u.regs, rve := u.rve, twn := u.twn } :=
  ⟨s.resyncEnd .timeout, if_pos h, s.resyncEnd_is _, (s.resyncEnd_bits _).get rfl rfl, s.resyncEnd_twn _,
    fun _ hk hBy => State.resyncEnd_mb hInv.mailboxes _ hk hBy, State.resyncEnd_own _, s.resyncEnd_bits _, s.resyncEnd_parts _⟩

/-- R454: the active's side of a completed resync. -/
theorem activeResynced {s : State} (hInv : s.Inv) (h : s.is F.TWN_STATUS_RESYNC = true) (snap : Snapshot) (hTwin : s.twin = 2)
    (hPartner : s.twn.partner = 2) : ∃ u : State, exec (.resyncComplete snap) s = .next u.settle ∧
      u.is F.TWN_STATUS_RESYNC = false ∧ s.sameBits u [F.TWN_STATUS_RESYNC] ∧
      u.twn = { s.twn with resyncBy := none, snapWait := false } ∧
      (∀ k, k < 9 → s.twn.resyncBy = some k → (u.mb k).ready = true ∧ (u.mb k).rsp.getD 2 0 = 0) ∧
      u = { s with regs := u.regs, rve := u.rve, twn := u.twn } := by
  have hNext : exec (.resyncComplete snap) s = .next (s.resyncEnd .ok).settle :=
    (if_neg (by simp [hTwin])).trans (if_pos (by simp [h, hTwin, hPartner]))
  refine ⟨s.resyncEnd .ok, hNext, s.resyncEnd_is _, s.resyncEnd_bits _, s.resyncEnd_twn _, fun _ hk hBy => ?_, s.resyncEnd_parts _⟩
  obtain ⟨hReady, hStatus, -⟩ := State.resyncEnd_mb hInv.mailboxes .ok hk hBy
  exact ⟨hReady, hStatus⟩

/-! ## The snapshot taken -/

/-- The registers of a snapshot written. -/
def State.snapWords (s : State) (l : List (Nat × Word)) : State := (l.filter (fun kv => snapReg kv.1)).foldl (fun s kv => s.setWord kv.1 kv.2) s

theorem setWords_only (l : List (Nat × Word)) (s : State) : ∃ r, l.foldl (fun s kv => s.setWord kv.1 kv.2) s = s.withRegs r := by
  induction l generalizing s with
  | nil => exact ⟨s.regs, rfl⟩
  | cons kv l ih => exact ih (s.setWord kv.1 kv.2)

theorem setWords_apart (l : List (Nat × Word)) (s : State) {a : Nat} (h : ∀ kv ∈ l, kv.1 ≠ a) :
    (l.foldl (fun s kv => s.setWord kv.1 kv.2) s).word a = s.word a := by
  induction l generalizing s with
  | nil => rfl
  | cons kv l ih =>
    refine (ih _ fun k hk => h k (.tail _ hk)).trans ?_
    rw [State.word_setWord, if_neg (h kv (.head _)).symm]

theorem State.snapWords_apart (s : State) (l : List (Nat × Word)) {a : Nat} (h : snapReg a = false) : (s.snapWords l).word a = s.word a := by
  refine setWords_apart _ s fun kv hkv hEq => ?_
  have hReg : snapReg kv.1 = true := (List.mem_filter.1 hkv).2
  rw [hEq, h] at hReg
  exact nomatch hReg

theorem State.snapWords_one (s : State) {a : Nat} (v : Word) (h : snapReg a = true) : (s.snapWords [(a, v)]).word a = v := by
  rw [State.snapWords, List.filter_cons_of_pos (by exact h)]
  exact (State.word_setWord ..).trans (if_pos rfl)

theorem State.loadSnapshot_parts (s : State) (x : Snapshot) : s.loadSnapshot x = { s with
    regs := (s.snapWords x.regs).regs, dpc := { x.dpc with steps := s.dpc.steps }, lpe := x.lpe, thm := x.thm, cul := { s.cul with cmds := x.cmds }
    twn := { s.twn with queued := x.queued, shared := x.shared, presented := x.presented, goose := x.goose, svParts := x.svParts,
                        svLast := x.svLast } } := by
  obtain ⟨r, hWords⟩ := setWords_only (x.regs.filter (fun kv => snapReg kv.1)) s
  delta State.loadSnapshot State.snapWords
  rw [hWords]
  rfl

/-- The standby shown, with its sources. -/
def State.standbyShown (s : State) : State := ((s.put F.TWN_STATUS_STATE 3).raiseInt 232).raiseInt 235

theorem State.standbyShown_facts (s : State) :
    s.standbyShown = { s with regs := s.standbyShown.regs, int := s.standbyShown.int, str := s.standbyShown.str } ∧ s.standbyShown.twin = 3 ∧
    (∀ a, a ≠ R.TWN_STATUS → s.standbyShown.word a = s.word a) ∧ s.standbyShown.pends 232 = (s.isOn 1 || s.pends 232) ∧
    s.standbyShown.pends 235 = (s.isOn 1 || s.pends 235) := by
  refine ⟨?_, ?_, fun a ha => ?_, ?_, ?_⟩
  · obtain ⟨i, x, hFirst⟩ := (s.put F.TWN_STATUS_STATE 3).raiseInt_only 232
    obtain ⟨j, y, hSecond⟩ := ((s.put F.TWN_STATUS_STATE 3).raiseInt 232).raiseInt_only 235
    rw [State.standbyShown, hSecond, hFirst]
    rfl
  · rw [State.standbyShown, State.twin, State.raiseInt_get, State.raiseInt_get]
    exact State.get_put_same _ _ _ rfl
  · rw [State.standbyShown, State.raiseInt_word, State.raiseInt_word, State.word_put, if_neg ha]
  · rw [State.standbyShown, State.raiseInt_pends _ 235 (by decide) (by decide), State.raiseInt_pends_self _ (by decide) (by decide),
      decide_eq_false (by decide), Bool.and_false, Bool.or_false]
    rfl
  · rw [State.standbyShown, State.raiseInt_pends_self _ (by decide) (by decide), State.raiseInt_pends _ 232 (by decide) (by decide),
      decide_eq_false (by decide), Bool.and_false, Bool.or_false, State.raiseInt_isOn]
    rfl

/-- R454: the diverged twin's side of a completed resync. -/
theorem standbyResynced {s : State} (hInv : s.Inv) (h : s.is F.TWN_STATUS_RESYNC = true) (snap : Snapshot) (hTwin : s.twin = 4)
    (hCrc : (s.loadSnapshot snap).crcMatches = true) : ∃ u : State, exec (.resyncComplete snap) s = .next u.settle ∧ u.twin = 3 ∧
      u.is F.TWN_STATUS_RESYNC = false ∧ u.dpc = { snap.dpc with steps := s.dpc.steps } ∧ u.lpe = snap.lpe ∧ u.thm = snap.thm ∧
      u.twn.queued = snap.queued ∧ u.twn.shared = snap.shared ∧ u.twn.presented = snap.presented ∧
      u.cul = { s.cul with cmds := snap.cmds } ∧ u.twn.goose = snap.goose ∧ u.twn.svParts = snap.svParts ∧ u.twn.svLast = snap.svLast ∧
      u.pends 232 = (s.isOn 1 || s.pends 232) ∧ u.pends 235 = (s.isOn 1 || s.pends 235) ∧
      (∀ k, k < 9 → s.twn.resyncBy = some k → (u.mb k).ready = true ∧ (u.mb k).rsp.getD 2 0 = 0) ∧
      (∀ a, snapReg a = false → a ≠ R.TWN_STATUS → u.word a = s.word a) ∧
      (∀ a v, snap.regs = [(a, v)] → snapReg a = true → u.word a = v) ∧ u.cfg = s.cfg ∧ u.eff = s.eff := by
  have hParts := s.loadSnapshot_parts snap
  have hWord : ∀ a, (s.loadSnapshot snap).word a = (s.snapWords snap.regs).word a := fun a => by rw [hParts]; rfl
  have hState : (s.loadSnapshot snap).twin ≠ 3 := by
    rw [State.twin, State.get, hWord, s.snapWords_apart _ (by decide)]
    show s.twin ≠ 3
    rw [hTwin]
    decide
  have hSet : (s.loadSnapshot snap).twinSet 3 = ((s.loadSnapshot snap).put F.TWN_STATUS_STATE 3).raiseInt 232 := if_neg hState
  have hNext : exec (.resyncComplete snap) s = .next ((((s.loadSnapshot snap).twinSet 3).raiseInt 235).resyncEnd .ok).settle :=
    if_pos (by simp [h, hTwin, hCrc])
  rw [hSet] at hNext
  generalize s.loadSnapshot snap = w at hParts hWord hNext
  obtain ⟨hRaised, hShown, hOthers, h232, h235⟩ := w.standbyShown_facts
  change exec (.resyncComplete snap) s = .next (w.standbyShown.resyncEnd .ok).settle at hNext
  generalize w.standbyShown = v at hNext hRaised hShown hOthers h232 h235
  have hEnd := v.resyncEnd_parts .ok
  have hTwn := v.resyncEnd_twn .ok
  have hBits := v.resyncEnd_bits .ok
  have hEnds := v.resyncEnd_is .ok
  have hMb : ∀ {k}, k < 9 → v.twn.resyncBy = some k → _ := fun hk hBy =>
    State.resyncEnd_mb (s := v) (by rw [hRaised, hParts]; exact hInv.mailboxes) .ok hk hBy
  have hWordEnd : ∀ a, a ≠ R.TWN_STATUS → (v.resyncEnd .ok).word a = v.word a := fun a ha => State.sameBits_word hBits (by simpa using ha.symm)
  generalize v.resyncEnd .ok = u at hNext hEnd hTwn hBits hEnds hMb hWordEnd
  have hTwnAll : u.twn = { s.twn with queued := snap.queued, shared := snap.shared, presented := snap.presented, goose := snap.goose
                                      svParts := snap.svParts, svLast := snap.svLast, resyncBy := none, snapWait := false } := by
    rw [hTwn, hRaised, hParts]
  have hRest : u.dpc = v.dpc ∧ u.lpe = v.lpe ∧ u.thm = v.thm ∧ u.cul = v.cul ∧ u.int = v.int ∧ u.cfg = v.cfg ∧ u.eff = v.eff := by
    rw [hEnd]
    exact ⟨rfl, rfl, rfl, rfl, rfl, rfl, rfl⟩
  obtain ⟨hDpc, hLpe, hThm, hCul, hInt, hCfg, hEff⟩ := hRest
  have hWords : ∀ a, a ≠ R.TWN_STATUS → u.word a = (s.snapWords snap.regs).word a := fun a ha =>
    (hWordEnd a ha).trans ((hOthers a ha).trans (hWord a))
  refine ⟨u, hNext, (hBits.get rfl rfl).trans hShown, hEnds, ?_, ?_, ?_, ?_, ?_, ?_, ?_, ?_, ?_, ?_, ?_, ?_, ?_, ?_, ?_, ?_, ?_⟩
  · rw [hDpc, hRaised, hParts]
  · rw [hLpe, hRaised, hParts]
  · rw [hThm, hRaised, hParts]
  · rw [hTwnAll]
  · rw [hTwnAll]
  · rw [hTwnAll]
  · rw [hCul, hRaised, hParts]
  · rw [hTwnAll]
  · rw [hTwnAll]
  · rw [hTwnAll]
  · rw [State.pends_of_int hInt, h232, hParts]
    rfl
  · rw [State.pends_of_int hInt, h235, hParts]
    rfl
  · intro k hk hBy
    obtain ⟨hReady, hStatus, -⟩ := hMb hk (by rw [hRaised, hParts]; exact hBy)
    exact ⟨hReady, hStatus⟩
  · exact fun a ha hOther => (hWords a hOther).trans (s.snapWords_apart _ ha)
  · intro a v hRegs ha
    have hOther : a ≠ R.TWN_STATUS := by
      rintro rfl
      exact absurd ha (by decide)
    rw [hWords a hOther, hRegs, s.snapWords_one v ha]
  · rw [hCfg, hRaised, hParts]
  · rw [hEff, hRaised, hParts]

/-- Settles O60: a resync out of time, completed in the diverged twin, completed in the active. -/
theorem resyncEnds : Obligations.ResyncEnds := by
  intro s hInv h
  refine ⟨resyncTimesOut hInv h, fun snap hTwin hCrc => ?_, fun snap => standbyResynced hInv h snap, fun snap => activeResynced hInv h snap,
    fun snap h4 h2 => ?_⟩
  · exact (if_neg (by simp [hCrc])).trans (if_neg (by simp [hTwin]))
  · exact (if_neg (by simp [h4])).trans (if_neg (by rcases h2 with h2 | h2 <;> simp [h2]))

end Sys2Proof.Machine
end

section
/-! PROOF. Frames of the twin link (R442, R443, R450, R453). -/
namespace Sys2Proof.Machine

/-! ## What a frame of the partner leaves -/

/-- What is known of the partner and of the own command areas. -/
def TwinSt.heard (v : TwinSt) : Bool × Nat × Option Nat × Option Int × Nat × Bool × Bool × List (Nat × List (List Byte)) × Bool :=
  (v.linkGot, v.partner, v.linkCount, v.xOwn, v.partnerId, v.linkMoved, v.crcKnown, v.areas, v.operating)

/-- The fields of `l`, the interrupts of `ps`, what is known of the partner, and the supplies are as before. -/
structure State.Hears (s : State) (l : List Fld) (ps : List Nat) (t : State) : Prop where
  twn : t.twn.heard = s.twn.heard
  fields : ∀ f ∈ l, t.get f = s.get f
  pends : ∀ n ∈ ps, t.pends n = s.pends n
  pwr : t.pwr = s.pwr

namespace State.Hears
variable {l : List Fld} {ps : List Nat} {s t u : State}

set_option Elab.async false in
theorem refl (s : State) : s.Hears l ps s := ⟨rfl, fun _ _ => rfl, fun _ _ => rfl, rfl⟩

theorem trans (h : s.Hears l ps t) (h' : t.Hears l ps u) : s.Hears l ps u where
  twn := h'.twn.trans h.twn
  fields f hf := (h'.fields f hf).trans (h.fields f hf)
  pends n hn := (h'.pends n hn).trans (h.pends n hn)
  pwr := h'.pwr.trans h.pwr

theorem mono {l' : List Fld} {ps' : List Nat} (h : s.Hears l ps t) (hl : ∀ f ∈ l', f ∈ l) (hp : ∀ n ∈ ps', n ∈ ps) : s.Hears l' ps' t :=
  ⟨h.twn, fun f hf => h.fields f (hl f hf), fun n hn => h.pends n (hp n hn), h.pwr⟩

/-- Parts of the state that hold none of it. -/
theorem of_parts (h : s.Hears l ps t) (hTwn : u.twn.heard = t.twn.heard) (hRegs : u.regs = t.regs) (hInt : u.int = t.int) (hPwr : u.pwr = t.pwr) :
    s.Hears l ps u :=
  h.trans ⟨hTwn, fun _ _ => by rw [State.get, State.word, hRegs, State.get, State.word], fun n _ => State.pends_of_int hInt n, hPwr⟩

theorem put {f : Fld} {v : Nat} (h : s.Hears l ps t) (hf : ∀ g ∈ l, g.fits = true ∧ f.apart g = true := by decide) : s.Hears l ps (t.put f v) :=
  h.trans ⟨rfl, fun g hg => State.get_put_apart _ _ _ _ (hf g hg).1 (hf g hg).2, fun _ _ => rfl, rfl⟩

theorem raiseInt {n : Nat} (h : s.Hears l ps t) (hn : ∀ m ∈ ps, m < 256 ∧ m ≠ 167 ∧ m ≠ n := by decide) : s.Hears l ps (t.raiseInt n) := by
  refine h.trans ⟨by rw [State.raiseInt_twn], fun f _ => State.raiseInt_get .., fun m hm => ?_, State.raiseInt_pwr ..⟩
  obtain ⟨hLow, h167, hne⟩ := hn m hm
  rw [t.raiseInt_pends n hLow h167, decide_eq_false hne, Bool.and_false, Bool.or_false]

theorem fault {n : Nat} (h : s.Hears l ps t) : s.Hears l ps (t.fault n) :=
  h.of_parts (by rw [State.fault_twn]) (State.fault_regs ..) (State.fault_int ..) (State.fault_pwr ..)

theorem ite {c : Prop} [Decidable c] (ht : s.Hears l ps t) (hu : s.Hears l ps u) : s.Hears l ps (if c then t else u) :=
  iteInduction (motive := fun x => s.Hears l ps x) (fun _ => ht) (fun _ => hu)

theorem withTwn {v : TwinSt} (h : s.Hears l ps t) (hv : v.heard = t.twn.heard := by rfl) : s.Hears l ps (t.withTwn v) := h.of_parts hv rfl rfl rfl

theorem withRve {v : ReeveSt} (h : s.Hears l ps t) : s.Hears l ps (t.withRve v) := h.of_parts rfl rfl rfl rfl

theorem withCul {v : CulvertSt} (h : s.Hears l ps t) : s.Hears l ps (t.withCul v) := h.of_parts rfl rfl rfl rfl

theorem withThm {v : ThmSt} (h : s.Hears l ps t) : s.Hears l ps (t.withThm v) := h.of_parts rfl rfl rfl rfl

theorem foldl {α : Type} {op : State → α → State} {k : List α} (hop : ∀ u a, s.Hears l ps u → s.Hears l ps (op u a)) (h : s.Hears l ps t) :
    s.Hears l ps (k.foldl op t) := by
  induction k generalizing t with
  | nil => exact h
  | cons a k ih => exact ih (hop t a h)

theorem operating (h : s.Hears l ps t) : t.twn.operating = s.twn.operating :=
  congrArg (fun x => x.2.2.2.2.2.2.2.2) h.twn

end State.Hears

/-! ## The operations on a frame of the partner -/

/-- The fields a frame of the partner counts or compares. -/
def linkFields : List Fld := [F.CUL_Pn_ERRORS_CODE 8, F.TWN_STATUS_LINK_ECHO, F.TWN_STATUS_MATCHED, F.TWN_STATUS_STATE]

section
variable {s t : State} {ps : List Nat}

set_option Elab.async false in
theorem State.Hears.setAlign {v : Nat} (h : s.Hears linkFields [234] t) : s.Hears linkFields [234] (t.setAlign v) := .ite h h.put.raiseInt

theorem State.Hears.twinAlign (h : s.Hears linkFields [234] t) : s.Hears linkFields [234] t.twinAlign := by
  unfold State.twinAlign
  cases t.twn.xOwn with
  | none => exact h
  | some b =>
    cases t.twn.xPartner with
    | none => exact h
    | some a => exact .ite (.ite (setAlign (h.put.withTwn)).fault h.put.withTwn) h.put

theorem State.Hears.takeRelay {d : Nat} {bytes : List Byte} (h : s.Hears linkFields [234] t) : s.Hears linkFields [234] (t.takeRelay d bytes) := by
  have hFold : ∀ (k : List Nat) (a : State × List Byte), s.Hears linkFields [234] a.1 → s.Hears linkFields [234] (k.foldl (fun (a : State × List Byte) r =>
      (a.1.withCul { a.1.cul with recs := ⟨r, 0, d, t.tide, false, a.1.relayArea r a.2⟩ :: a.1.cul.recs }, a.2.drop (3 * t.highestAwake r))) a).1 := by
    intro k
    induction k with
    | nil => exact fun _ ha => ha
    | cons r k ih => exact fun a ha => ih _ ha.withCul
  exact hFold _ (t, bytes) h

/-- In twin operation a quantity waits for its boundary, or is one that only the partner's telemetry shows. -/
theorem State.Hears.takeQuantity {r q d k v : Nat} (h : s.Hears linkFields [234] t) (hOp : s.twn.operating = true) :
    s.Hears linkFields [234] (t.takeQuantity r q d k v) := by
  unfold State.takeQuantity
  split
  next => exact State.Hears.withThm (.ite h.withTwn h)
  next hNot =>
    have hOther : ¬ k ≤ 4 ∧ k ≠ 12 ∧ k ≠ 31 := by simpa [h.operating, hOp, and_assoc] using hNot
    obtain ⟨h4, h12, h31⟩ := hOther
    unfold State.useQuantity
    dsimp only
    rw [if_neg h4, if_neg h12, if_neg h31]
    exact h.withCul

theorem State.Hears.takeRelayTele {d : Nat} {body : List Byte} (h : s.Hears linkFields [234] t) (hOp : s.twn.operating = true) :
    s.Hears linkFields [234] (t.takeRelayTele d body) :=
  .foldl (fun _ _ hu => .ite hu (hu.takeQuantity hOp)) h

theorem State.Hears.runOn {n : Nat} {r : BitVec 10} (h : s.Hears linkFields [234] t) : s.Hears linkFields [234] (t.runOn n r) := h.withRve

theorem State.Hears.respond {n : Nat} {st : Status} (h : s.Hears linkFields [234] t) : s.Hears linkFields [234] (t.respond n st []) := h.withRve

theorem State.Hears.resyncStart {n : Option Nat} (h : s.Hears linkFields [234] t) : s.Hears linkFields [234] (t.resyncStart n) := by
  unfold State.resyncStart
  cases n <;> exact .ite (h.put.withTwn.withRve.withTwn) (h.put.withTwn.withRve.withTwn)

theorem State.Hears.swapAsked (h : s.Hears linkFields [234] t) : s.Hears linkFields [234] t.swapAsked := by
  unfold State.swapAsked
  cases t.swapRefusal with
  | some st => exact h.withTwn
  | none => exact .ite h.withTwn h.withRve.put.withTwn

theorem State.Hears.twinMessage {type d : Nat} {b : List Byte} (h : s.Hears linkFields [234] t) :
    s.Hears linkFields [234] (t.twinMessage type b d State.swapAsked) := by
  unfold State.twinMessage
  refine .ite (.ite ?_ ?_) (.ite (.ite h.swapAsked h) (.ite (.ite h.resyncStart h) (.ite h ?_)))
  · cases t.runner 0x42 with
    | none => exact h
    | some n => exact .ite (h.withRve.withTwn) h
  · cases List.find? _ [0, 1, 2] with
    | none => exact h
    | some n => exact .ite (h.withRve.withTwn) h.withRve
  · unfold State.takeCopy
    cases copyMailboxes.find? _ with
    | none => exact h.withTwn
    | some n => exact h.withRve.withTwn

theorem State.Hears.twinTakeChunk {d : Nat} {c : Chunk} (h : s.Hears linkFields [234] t) :
    s.Hears linkFields [234] (t.twinTakeChunk d c State.swapAsked) :=
  .ite (.ite (twinMessage h.withTwn) h.withTwn) h

end

/-! ## What a frame of the partner tells -/

/-- R442, R450: the frame counted and the partner known. -/
structure State.Heard (s : State) (f : TideFrame) (x : Int) (id errors : Nat) (u : State) : Prop where
  counted : u.get (F.CUL_Pn_ERRORS_CODE 8) = min 65535 (s.get (F.CUL_Pn_ERRORS_CODE 8) + errors)
  got : u.twn.linkGot = true
  partner : u.twn.partner = leAt f.header 4 1 / 32
  count : u.twn.linkCount = some (leAt f.header 4 1 % 32)
  own : u.twn.xOwn = some x
  partnerId : u.twn.partnerId = id
  moved : advanced s.twn.linkCount (leAt f.header 4 1 % 32) = true → u.is F.TWN_STATUS_LINK_ECHO = true ∧ u.twn.linkMoved = true

/-- R443: AUX of tides 4 modulo 8 compared. -/
def State.Matched (s : State) (f : TideFrame) (u : State) : Prop :=
  s.tide % 8 = 4 → u.twn.crcKnown = true ∧ u.is F.TWN_STATUS_MATCHED = decide (leAt f.header 12 4 = s.cfgCrc.toNat)

section
variable {s t u : State} {f : TideFrame} {x : Int} {id errors : Nat} {l : List Fld} {ps : List Nat}

theorem State.Hears.is (h : s.Hears l ps t) {g : Fld} (hg : g ∈ l) : t.is g = s.is g := by rw [State.is, State.is, h.fields g hg]

theorem State.Heard.of_hears (h : s.Heard f x id errors t) (hu : t.Hears l ps u) (hCode : F.CUL_Pn_ERRORS_CODE 8 ∈ l)
    (hEcho : F.TWN_STATUS_LINK_ECHO ∈ l) : s.Heard f x id errors u where
  counted := (hu.fields _ hCode).trans h.counted
  got := (congrArg (fun v => v.1) hu.twn).trans h.got
  partner := (congrArg (fun v => v.2.1) hu.twn).trans h.partner
  count := (congrArg (fun v => v.2.2.1) hu.twn).trans h.count
  own := (congrArg (fun v => v.2.2.2.1) hu.twn).trans h.own
  partnerId := (congrArg (fun v => v.2.2.2.2.1) hu.twn).trans h.partnerId
  moved hm := ⟨(hu.is hEcho).trans (h.moved hm).1, (congrArg (fun v => v.2.2.2.2.2.1) hu.twn).trans (h.moved hm).2⟩

theorem State.Matched.of_hears (h : s.Matched f t) (hu : t.Hears l ps u) (hMatched : F.TWN_STATUS_MATCHED ∈ l) : s.Matched f u :=
  fun h4 => ⟨(congrArg (fun v => v.2.2.2.2.2.2.1) hu.twn).trans (h h4).1, (hu.is hMatched).trans (h h4).2⟩

set_option Elab.async false in
theorem State.Hears.areas (h : s.Hears l ps t) : t.twn.areas = s.twn.areas := congrArg (fun v => v.2.2.2.2.2.2.2.1) h.twn

end

/-! ## The header -/

theorem State.echoSeen_lit (s : State) : (s.echoSeen F.TWN_STATUS_LINK_ECHO).is F.TWN_STATUS_LINK_ECHO = true := by
  unfold State.echoSeen
  extract_lets t
  split
  next h => exact h
  next => rw [State.raiseInt_is, State.is_put_same _ _ _ rfl]; rfl

theorem State.echoSeen_hears (s : State) : s.Hears [F.CUL_Pn_ERRORS_CODE 8, F.TWN_STATUS_MATCHED, F.TWN_STATUS_STATE] [234]
    (s.echoSeen F.TWN_STATUS_LINK_ECHO) :=
  have h := (State.Hears.refl s).withTwn
  .ite h h.put.raiseInt

/-- What the header of a frame says of the partner. -/
def TwinSt.told (v : TwinSt) (f : TideFrame) (x : Int) (twin : Nat) : TwinSt :=
  let b4 := leAt f.header 4 1
  let b5 := leAt f.header 5 1
  let st := b4 / 32
  let moved := advanced v.linkCount (b4 % 32)
  let swap := if twin = 3 && (st = 1 || st = 4) then (if natBit b5 3 then some (leAt f.header 7 1) else none) else v.swapIn
  { v with linkGot := true, linkMoved := v.linkMoved || moved, linkCount := some (b4 % 32), partner := st, partnerCommitted := natBit b5 5
           partnerResync := natBit b5 4, partnerRings := some (f.tide, leAt f.header 6 1 % 16), xOwn := some x
           rival := v.rival || (moved && twin == 2 && st == 1), swapIn := swap }

/-- The state with the header taken, before its echo shows. -/
def State.headerTaken (s : State) (f : TideFrame) (x : Int) : State :=
  let t := (s.withTwn (s.twn.told f x s.twin)).flag F.TWN_STATUS_SWAP_PENDING (s.twn.told f x s.twin).swapIn.isSome
  if natBit (leAt f.header 5 1) 4 && !s.twn.partnerResync && s.twin == 4 then t.put F.TWN_STATUS_RESYNC 1 else t

theorem State.twinHeader_eq (s : State) (f : TideFrame) (x : Int) : s.twinHeader f x =
    if advanced s.twn.linkCount (leAt f.header 4 1 % 32) then (s.headerTaken f x).echoSeen F.TWN_STATUS_LINK_ECHO else s.headerTaken f x := rfl

theorem State.headerTaken_hears (s : State) (f : TideFrame) (x : Int) :
    (s.withTwn (s.twn.told f x s.twin)).Hears linkFields [234] (s.headerTaken f x) :=
  have h := (State.Hears.refl (s.withTwn (s.twn.told f x s.twin))).put (f := F.TWN_STATUS_SWAP_PENDING)
  .ite h.put h

/-- The header taken leaves the committed keys. -/
theorem State.twinHeader_cfgCrc (s : State) (f : TideFrame) (x : Int) : (s.twinHeader f x).cfgCrc = s.cfgCrc := by
  have hTaken : ∀ t : State, t.cfg = s.cfg → t.twn.alone = s.twn.alone → t.twn.commitHeld = s.twn.commitHeld → t.cfgCrc = s.cfgCrc := by
    intro t hCfg hAlone hHeld
    rw [State.cfgCrc, hCfg, hAlone, hHeld]
    rfl
  have hFirst : (s.headerTaken f x).cfg = s.cfg ∧ (s.headerTaken f x).twn.alone = s.twn.alone ∧
      (s.headerTaken f x).twn.commitHeld = s.twn.commitHeld := by
    unfold State.headerTaken
    extract_lets t
    split <;> exact ⟨rfl, rfl, rfl⟩
  obtain ⟨hCfg, hAlone, hHeld⟩ := hFirst
  rw [State.twinHeader_eq]
  generalize s.headerTaken f x = t at hCfg hAlone hHeld ⊢
  split
  · unfold State.echoSeen
    extract_lets v
    split
    · exact hTaken _ hCfg hAlone hHeld
    · exact hTaken _ (by rw [State.raiseInt_cfg]; exact hCfg) (by rw [State.raiseInt_twn]; exact hAlone) (by rw [State.raiseInt_twn]; exact hHeld)
  · exact hTaken _ hCfg hAlone hHeld

/-- What the header says, and what it leaves. -/
theorem State.twinHeader_heard {s v : State} {f : TideFrame} {x : Int} {id errors : Nat}
    (hCount : v.get (F.CUL_Pn_ERRORS_CODE 8) = min 65535 (s.get (F.CUL_Pn_ERRORS_CODE 8) + errors)) (hId : v.twn.partnerId = id)
    (hLast : v.twn.linkCount = s.twn.linkCount) : s.Heard f x id errors (v.twinHeader f x) := by
  have hTaken := v.headerTaken_hears f x
  rw [State.twinHeader_eq, hLast]
  generalize v.headerTaken f x = t at hTaken ⊢
  split
  next hMoved =>
    have hSeen := t.echoSeen_hears
    have hTwn := hSeen.twn.trans hTaken.twn
    exact { counted := (hSeen.fields _ (by simp)).trans ((hTaken.fields _ (by simp [linkFields])).trans hCount)
            got := congrArg (fun v => v.1) hTwn
            partner := congrArg (fun v => v.2.1) hTwn
            count := congrArg (fun v => v.2.2.1) hTwn
            own := congrArg (fun v => v.2.2.2.1) hTwn
            partnerId := (congrArg (fun v => v.2.2.2.2.1) hTwn).trans hId
            moved := fun _ => ⟨t.echoSeen_lit, (congrArg (fun v => v.2.2.2.2.2.1) hTwn).trans (by
              show (v.twn.linkMoved || advanced v.twn.linkCount _) = true
              rw [hLast, hMoved, Bool.or_true])⟩ }
  next hStill =>
    exact { counted := (hTaken.fields _ (by simp [linkFields])).trans hCount
            got := congrArg (fun v => v.1) hTaken.twn
            partner := congrArg (fun v => v.2.1) hTaken.twn
            count := congrArg (fun v => v.2.2.1) hTaken.twn
            own := congrArg (fun v => v.2.2.2.1) hTaken.twn
            partnerId := (congrArg (fun v => v.2.2.2.2.1) hTaken.twn).trans hId
            moved := fun h => absurd h hStill }

/-- What neither the header nor AUX changes. -/
structure State.Untold (s t : State) : Prop where
  twin : t.twin = s.twin
  areas : t.twn.areas = s.twn.areas
  operating : t.twn.operating = s.twn.operating
  pend : t.pends 234 = s.pends 234
  pwr : t.pwr = s.pwr

theorem State.Untold.trans {s t u : State} (h : s.Untold t) (h' : t.Untold u) : s.Untold u :=
  ⟨h'.twin.trans h.twin, h'.areas.trans h.areas, h'.operating.trans h.operating, h'.pend.trans h.pend, h'.pwr.trans h.pwr⟩

theorem State.Hears.untold {s t : State} {l : List Fld} (h : s.Hears l [234] t) (hl : F.TWN_STATUS_STATE ∈ l) : s.Untold t :=
  ⟨h.fields _ hl, h.areas, h.operating, h.pends 234 (.head _), h.pwr⟩

theorem State.twinHeader_untold (s : State) (f : TideFrame) (x : Int) : s.Untold (s.twinHeader f x) := by
  have hTold : s.Untold (s.withTwn (s.twn.told f x s.twin)) := ⟨rfl, rfl, rfl, rfl, rfl⟩
  have hTaken := hTold.trans ((s.headerTaken_hears f x).untold (by simp [linkFields]))
  rw [State.twinHeader_eq]
  split
  · exact hTaken.trans ((State.echoSeen_hears _).untold (by simp))
  · exact hTaken

/-! ## AUX -/

theorem loopL_apart (r : Nat) : ∀ g ∈ linkFields, g.fits = true ∧ (F.CUL_RINGr_LOOP_L r).apart g = true := by
  have hErrors : R.CUL_RINGr_LOOP r ≠ R.CUL_Pn_ERRORS 8 := by simp only [R.CUL_RINGr_LOOP, R.CUL_Pn_ERRORS]; omega
  have hStatus : R.CUL_RINGr_LOOP r ≠ R.TWN_STATUS := by simp only [R.CUL_RINGr_LOOP, R.TWN_STATUS]; omega
  intro g hg
  simp only [linkFields, List.mem_cons, List.not_mem_nil, or_false] at hg
  rcases hg with rfl | rfl | rfl | rfl
  · exact ⟨rfl, Fld.apart_iff.2 (.inr (.inr hErrors))⟩
  all_goals exact ⟨rfl, Fld.apart_iff.2 (.inr (.inr hStatus))⟩

/-- AUX of the tides that carry no CFG_CRC. -/
theorem State.twinTakeAux_hears (s : State) {t : Nat} (aux : Nat) (h : t % 8 ≠ 4) : s.Hears linkFields [234] (s.twinTakeAux t aux) := by
  have hs := State.Hears.refl (l := linkFields) (ps := [234]) s
  unfold State.twinTakeAux
  split
  next h4 => exact absurd h4 h
  next => exact State.Hears.twinAlign hs.withTwn
  next => exact hs
  next => exact hs
  next => exact .ite (hs.put (loopL_apart _)) hs

theorem State.twinTakeAux_crc {s : State} {t : Nat} (aux : Nat) (h : t % 8 = 4) :
    s.twinTakeAux t aux = (s.withTwn { s.twn with crcKnown := true }).flag F.TWN_STATUS_MATCHED (aux == s.cfgCrc.toNat) := by
  unfold State.twinTakeAux
  generalize t % 8 = r at h ⊢
  subst h
  rfl

/-- R443: AUX taken. -/
theorem State.Heard.aux {s t : State} {f : TideFrame} {x : Int} {id errors : Nat} (h : s.Heard f x id errors t) (hRest : s.Untold t)
    (hCrc : t.cfgCrc = s.cfgCrc) : s.Heard f x id errors (t.twinTakeAux s.tide (leAt f.header 12 4)) ∧
      s.Matched f (t.twinTakeAux s.tide (leAt f.header 12 4)) ∧ s.Untold (t.twinTakeAux s.tide (leAt f.header 12 4)) := by
  by_cases h4 : s.tide % 8 = 4
  · rw [State.twinTakeAux_crc _ h4]
    obtain ⟨hCount, hGot, hPartner, hLast, hOwn, hId, hMoved⟩ := h
    obtain ⟨hTwin, hAreas, hOp, hPend, hPwr⟩ := hRest
    have hGet : ∀ g : Fld, g.fits = true → F.TWN_STATUS_MATCHED.apart g = true →
        ((t.withTwn { t.twn with crcKnown := true }).flag F.TWN_STATUS_MATCHED (leAt f.header 12 4 == t.cfgCrc.toNat)).get g = t.get g :=
      fun g hFits hApart => State.get_put_apart _ _ _ _ hFits hApart
    refine ⟨⟨(hGet _ rfl rfl).trans hCount, hGot, hPartner, hLast, hOwn, hId, fun hm => ⟨?_, (hMoved hm).2⟩⟩, fun _ => ⟨rfl, ?_⟩,
      ⟨(hGet _ rfl rfl).trans hTwin, hAreas, hOp, hPend, hPwr⟩⟩
    · rw [State.is, hGet _ rfl rfl]
      exact (hMoved hm).1
    · rw [State.is_flag_same _ _ _ rfl rfl, hCrc, Bool.eq_iff_iff, beq_iff_eq, decide_eq_true_iff]
  · have hAux := t.twinTakeAux_hears (leAt f.header 12 4) h4
    exact ⟨h.of_hears hAux (by simp [linkFields]) (by simp [linkFields]), fun h => absurd h h4, hRest.trans (hAux.untold (by simp [linkFields]))⟩

/-! ## The command areas compared -/

/-- The fields that a divergence leaves. -/
def keptFields : List Fld := [F.CUL_Pn_ERRORS_CODE 8, F.TWN_STATUS_LINK_ECHO, F.TWN_STATUS_MATCHED]

set_option Elab.async false in
theorem State.Hears.twinSet {s t : State} {v : Nat} (h : s.Hears keptFields [] t) : s.Hears keptFields [] (t.twinSet v) := by
  unfold State.twinSet
  exact .ite h (raiseInt (.ite (.withTwn (.ite h.put.put h.put)) (.ite h.put.put h.put)))

theorem State.Hears.diverge {s t : State} (h : s.Hears keptFields [] t) : s.Hears keptFields [] t.diverge := by
  have h4 : s.Hears keptFields [] ((t.twinSet 4).raiseInt 234) := h.twinSet.raiseInt
  have hStart : s.Hears keptFields [] (((t.twinSet 4).raiseInt 234).resyncStart none) := by
    unfold State.resyncStart
    exact .ite (h4.put.withTwn.withRve.withTwn) (h4.put.withTwn.withRve.withTwn)
  exact .ite h (.ite h.twinSet (.ite hStart h4))

theorem State.diverge_apart {s : State} (h : s.twin = 3) (hMatched : s.is F.TWN_STATUS_MATCHED = true) :
    s.diverge.twin = 4 ∧ s.diverge.pends 234 = (s.isOn 1 || s.pends 234) := by
  have hSet : s.twinSet 4 = ((s.put F.TWN_STATUS_STATE 4).bump F.TWN_COUNTS_DIVERGENCES).raiseInt 232 := if_neg (by rw [h]; decide)
  have hAll : s.diverge = ((s.twinSet 4).raiseInt 234).autoResync := (if_neg (by rw [h]; decide)).trans (if_neg (by rw [hMatched]; decide))
  have hStart : ((s.twinSet 4).raiseInt 234).Hears linkFields [234] ((s.twinSet 4).raiseInt 234).autoResync :=
    .ite (State.Hears.resyncStart (.refl _)) (.refl _)
  rw [hAll]
  refine ⟨(hStart.fields F.TWN_STATUS_STATE (by simp [linkFields])).trans ?_, (hStart.pends 234 (.head _)).trans ?_⟩
  · rw [State.raiseInt_get, hSet, State.raiseInt_get, State.bump_eq, State.get_put_apart _ _ _ _ rfl rfl]
    exact State.get_put_same _ _ _ rfl
  · rw [State.raiseInt_pends_self _ (by decide) (by decide), hSet, State.raiseInt_isOn, State.raiseInt_pends _ 232 (by decide) (by decide),
      decide_eq_false (by decide), Bool.and_false, Bool.or_false]
    rfl

theorem State.diverge_anew {s : State} (h : s.twin = 3) (hMatched : s.is F.TWN_STATUS_MATCHED = false) : s.diverge.twin = 1 := by
  have hSet : s.twinSet 1 = ((s.put F.TWN_STATUS_STATE 1).withTwn { s.twn with partnerSeen := false, silentBoth := 0 }).raiseInt 232 :=
    if_neg (by rw [h]; decide)
  have hAll : s.diverge = s.twinSet 1 := (if_neg (by rw [h]; decide)).trans (if_pos (by rw [hMatched]; rfl))
  rw [hAll, hSet, State.twin, State.raiseInt_get]
  exact State.get_put_same s F.TWN_STATUS_STATE 1 rfl

theorem State.compareCrc_same {s : State} {t crc : Nat} {a : Nat × List (List Byte)} (ha : s.twn.areas.find? (fun a => a.1 == t) = some a)
    (h : (crc32 a.2.flatten).toNat = crc) : s.compareCrc t crc = s := by
  unfold State.compareCrc
  rw [ha]
  exact if_pos h

theorem State.compareCrc_differs {s : State} {t crc : Nat} {a : Nat × List (List Byte)} (ha : s.twn.areas.find? (fun a => a.1 == t) = some a)
    (h : (crc32 a.2.flatten).toNat ≠ crc) : s.compareCrc t crc = s.diverge := by
  unfold State.compareCrc
  rw [ha]
  exact if_neg h

theorem State.Hears.compareCrc {s t : State} {d crc : Nat} (h : s.Hears keptFields [] t) : s.Hears keptFields [] (t.compareCrc d crc) := by
  unfold State.compareCrc
  cases t.twn.areas.find? _ with
  | none => exact h
  | some a => exact .ite h h.diverge

/-! ## The frame as a whole -/

/-- The frame taken, before the command areas are compared. -/
def State.linkTaken (s : State) (f : TideFrame) (x : Int) : State :=
  let t := (s.twinHeader f x).twinTakeAux f.tide (leAt f.header 12 4)
  let active := leAt f.header 4 1 / 32 == 1 || leAt f.header 4 1 / 32 == 4
  let t := if active && t.twin != 2 then t.twinTakeInputs f.tide (leAt f.header 5 1) f.body else t
  let d := (f.tide + 1 + 2 ^ 32 - t.cf F.CUL_CONFIG_CUL_INPUT_DELAY) % 2 ^ 32
  let t := if t.isTwinB then (t.takeRelay d (bytesAt f.body 248 222)).takeRelayTele f.tide f.body else t
  let t := t.twinTakeChunk f.tide (chunkOf (bytesAt f.body 104 32)) State.swapAsked
  if active then t.withTwn { t.twn with crcSeen := some (f.tide, leAt f.header 8 4) } else t

theorem State.twinTake_eq (s : State) (f : TideFrame) (x : Int) : s.twinTake f x State.swapAsked =
    if (s.linkTaken f x).twin = 3 && (leAt f.header 4 1 / 32 == 1 || leAt f.header 4 1 / 32 == 4) then
      (s.linkTaken f x).compareCrc f.tide (leAt f.header 8 4) else s.linkTaken f x := rfl

theorem State.linkTaken_hears {s : State} (f : TideFrame) (x : Int)
    (hOp : ((s.twinHeader f x).twinTakeAux f.tide (leAt f.header 12 4)).twn.operating = true) :
    ((s.twinHeader f x).twinTakeAux f.tide (leAt f.header 12 4)).Hears linkFields [234] (s.linkTaken f x) := by
  delta State.linkTaken
  extract_lets t _ t1 d t2 t3
  have h1 : t.Hears linkFields [234] t1 := .ite (State.Hears.withTwn (.refl t)) (.refl t)
  have h2 : t.Hears linkFields [234] t2 := .ite ((h1.takeRelay).takeRelayTele hOp) h1
  have h3 : t.Hears linkFields [234] t3 := h2.twinTakeChunk
  exact .ite h3.withTwn h3

/-! ## The command -/

section
variable {s : State} {f : TideFrame} {arrival : Int} {id errors : Nat}

theorem State.heardErrors_counts {p : Nat} (hp : p < 10) (hOn : s.isOn (portPolder p) = true) (hRx : s.get (F.CUL_Pn_STATUS_RX_STATE p) ≠ 0)
    (n : Nat) : s.heardErrors p n = s.codeErrors p n :=
  if_pos (by simp [hp, hOn, hRx])

theorem State.codeErrors_get (s : State) (p n : Nat) :
    (s.codeErrors p n).get (F.CUL_Pn_ERRORS_CODE p) = min 65535 (s.get (F.CUL_Pn_ERRORS_CODE p) + n) := by
  refine (State.get_put_same _ _ _ rfl).trans (Nat.mod_eq_of_lt ?_)
  show min 65535 _ < 2 ^ 16
  omega

/-- A frame taken on the twin link. -/
theorem execTwinLink (h : s.twn.operating = true) (h6 : s.isOn 6 = true) (hRx : s.get (F.CUL_Pn_STATUS_RX_STATE 8) = 5) :
    exec (.twinLinkFrameReceived f arrival id errors) s =
      if !f.intact then .next ((s.codeErrors 8 errors).bump (if f.stomped then F.CUL_Pn_CRC_STOMPED 8 else F.CUL_Pn_CRC_BAD 8))
      else if f.body.length == 472 && f.tide == s.tide && natBit (leAt f.header 5 1) 0 == !s.isTwinB then
        .next ((((s.codeErrors 8 errors).withTwn { s.twn with partnerId := id }).twinTake f arrival State.swapAsked).settle)
      else .next (s.codeErrors 8 errors) := by
  have hCounts : s.heardErrors 8 errors = s.codeErrors 8 errors := State.heardErrors_counts (by decide) h6 (by rw [hRx]; decide) errors
  have hKept : (s.codeErrors 8 errors).get (F.CUL_Pn_STATUS_RX_STATE 8) = 5 := (State.get_put_apart _ _ _ _ rfl rfl).trans hRx
  have hUp : ((s.codeErrors 8 errors).twn.operating && (s.codeErrors 8 errors).isOn 6 &&
      (s.codeErrors 8 errors).get (F.CUL_Pn_STATUS_RX_STATE 8) == 5) = true := by
    rw [hKept]
    show (s.twn.operating && s.isOn 6 && 5 == 5) = true
    rw [h, h6]
    rfl
  show execTwinLinkFrameReceived f arrival s id errors = _
  unfold execTwinLinkFrameReceived
  rw [hCounts]
  have hTide : (s.codeErrors 8 errors).tide = s.tide := State.get_put_apart _ _ _ _ rfl rfl
  dsimp only
  rw [if_pos hUp, hTide]
  rfl

theorem damagedCounts (h : s.twn.operating = true) (h6 : s.isOn 6 = true) (hRx : s.get (F.CUL_Pn_STATUS_RX_STATE 8) = 5) (hBad : f.intact = false) :
    let code := F.CUL_Pn_ERRORS_CODE 8
    ∃ t : State, exec (.twinLinkFrameReceived f arrival id errors) s = .next t ∧
      (let c := if f.stomped then F.CUL_Pn_CRC_STOMPED 8 else F.CUL_Pn_CRC_BAD 8
       t.get c = satInc c.w (s.get c) ∧ t.get code = min 65535 (s.get code + errors) ∧ s.onlyFields t [c, code]) := by
  intro code
  refine ⟨_, (execTwinLink h h6 hRx).trans (if_pos (by rw [hBad]; rfl)), ?_⟩
  intro c
  have hApart : c.fits = true ∧ code.apart c = true ∧ c.apart code = true := by
    cases hStomped : f.stomped <;> simp only [c, hStomped] <;> exact ⟨rfl, rfl, rfl⟩
  obtain ⟨hFits, hCode, hCount⟩ := hApart
  refine ⟨?_, (State.get_put_apart _ c _ _ rfl hCount).trans (s.codeErrors_get 8 errors), ?_⟩
  · refine (State.get_put_same _ c _ hFits).trans ((satInc_mod _ _).trans (congrArg (satInc c.w) ?_))
    exact State.get_put_apart _ _ _ _ hFits hCode
  · exact State.onlyFields_put (State.onlyFields_put (s.onlyFields_refl _) code _ (by simp)) c _ (by simp)

theorem foreignIgnored (h : s.twn.operating = true) (h6 : s.isOn 6 = true) (hRx : s.get (F.CUL_Pn_STATUS_RX_STATE 8) = 5) (hIntact : f.intact = true)
    (hForeign : f.body.length ≠ 472 ∨ f.tide ≠ s.tide ∨ natBit (leAt f.header 5 1) 0 = s.isTwinB) :
    ∃ t : State, exec (.twinLinkFrameReceived f arrival id errors) s = .next t ∧
      t.get (F.CUL_Pn_ERRORS_CODE 8) = min 65535 (s.get (F.CUL_Pn_ERRORS_CODE 8) + errors) ∧ s.onlyFields t [F.CUL_Pn_ERRORS_CODE 8] := by
  refine ⟨_, (execTwinLink h h6 hRx).trans ((if_neg (by rw [hIntact]; decide)).trans (if_neg ?_)), s.codeErrors_get 8 errors,
    State.onlyFields_put (s.onlyFields_refl _) _ _ (by simp)⟩
  rcases hForeign with h | h | h <;> simp [h]

set_option Elab.async false in
theorem partnerTaken (h : s.twn.operating = true) (h6 : s.isOn 6 = true) (hRx : s.get (F.CUL_Pn_STATUS_RX_STATE 8) = 5) (hIntact : f.intact = true)
    (hLen : f.body.length = 472) (hTide : f.tide = s.tide) (hPartner : natBit (leAt f.header 5 1) 0 = (!s.isTwinB)) :
    ∃ u : State, exec (.twinLinkFrameReceived f arrival id errors) s = .next u.settle ∧ s.Heard f arrival id errors u ∧ s.Matched f u ∧
      (s.twin = 3 → leAt f.header 4 1 / 32 = 1 ∨ leAt f.header 4 1 / 32 = 4 →
        ∀ a, s.twn.areas.find? (fun a => a.1 == f.tide) = some a →
          ((crc32 a.2.flatten).toNat = leAt f.header 8 4 → u.twin = 3) ∧
          ((crc32 a.2.flatten).toNat ≠ leAt f.header 8 4 →
            (u.is F.TWN_STATUS_MATCHED = true → u.twin = 4 ∧ u.pends 234 = (s.isOn 1 || s.pends 234)) ∧
            (u.is F.TWN_STATUS_MATCHED = false → u.twin = 1))) := by
  have hNext : exec (.twinLinkFrameReceived f arrival id errors) s =
      .next (((s.codeErrors 8 errors).withTwn { s.twn with partnerId := id }).twinTake f arrival State.swapAsked).settle :=
    (execTwinLink h h6 hRx).trans ((if_neg (by rw [hIntact]; decide)).trans (if_pos (by simp [hLen, hTide, hPartner])))
  rw [State.twinTake_eq] at hNext
  have hUntold : s.Untold ((s.codeErrors 8 errors).withTwn { s.twn with partnerId := id }) :=
    ⟨State.get_put_apart _ _ _ _ rfl rfl, rfl, rfl, rfl, rfl⟩
  have hCrc : ((s.codeErrors 8 errors).withTwn { s.twn with partnerId := id }).cfgCrc = s.cfgCrc := rfl
  have hHeard : s.Heard f arrival id errors (((s.codeErrors 8 errors).withTwn { s.twn with partnerId := id }).twinHeader f arrival) :=
    State.twinHeader_heard (s.codeErrors_get 8 errors) rfl rfl
  generalize (s.codeErrors 8 errors).withTwn { s.twn with partnerId := id } = v at hNext hUntold hCrc hHeard
  obtain ⟨hHeard, hMatched, hUntold⟩ := hHeard.aux (hUntold.trans (v.twinHeader_untold f arrival)) ((v.twinHeader_cfgCrc f arrival).trans hCrc)
  rw [← hTide] at hHeard hMatched hUntold
  have hTaken := v.linkTaken_hears f arrival (hUntold.operating.trans h)
  generalize (v.twinHeader f arrival).twinTakeAux f.tide (leAt f.header 12 4) = w at hHeard hMatched hUntold hTaken
  generalize v.linkTaken f arrival = t at hNext hTaken
  have hHeard := hHeard.of_hears hTaken (by simp [linkFields]) (by simp [linkFields])
  have hMatched := hMatched.of_hears hTaken (by simp [linkFields])
  obtain ⟨hTwin, hAreas, -, hPend, hPwr⟩ := hUntold.trans (hTaken.untold (by simp [linkFields]))
  by_cases hCompares : s.twin = 3 ∧ (leAt f.header 4 1 / 32 = 1 ∨ leAt f.header 4 1 / 32 = 4)
  · rw [if_pos (by rcases hCompares.2 with h | h <;> simp [hTwin, hCompares.1, h])] at hNext
    have hKept : t.Hears keptFields [] (t.compareCrc f.tide (leAt f.header 8 4)) := .compareCrc (.refl t)
    refine ⟨_, hNext, hHeard.of_hears hKept (by simp [keptFields]) (by simp [keptFields]), hMatched.of_hears hKept (by simp [keptFields]),
      fun h3 _ a ha => ⟨fun hSame => ?_, fun hDiffers => ⟨fun hm => ?_, fun hm => ?_⟩⟩⟩
    · rw [State.compareCrc_same (hAreas.symm ▸ ha) hSame]
      exact hTwin.trans h3
    · have hWas : t.is F.TWN_STATUS_MATCHED = true := (hKept.is (by simp [keptFields])).symm.trans hm
      rw [State.compareCrc_differs (hAreas.symm ▸ ha) hDiffers]
      obtain ⟨hApart, hRaised⟩ := State.diverge_apart (hTwin.trans h3) hWas
      exact ⟨hApart, by rw [hRaised, hPend, State.isOn, hPwr]; rfl⟩
    · have hWas : t.is F.TWN_STATUS_MATCHED = false := (hKept.is (by simp [keptFields])).symm.trans hm
      rw [State.compareCrc_differs (hAreas.symm ▸ ha) hDiffers]
      exact State.diverge_anew (hTwin.trans h3) hWas
  · rw [if_neg (by simpa [hTwin] using hCompares)] at hNext
    exact ⟨t, hNext, hHeard, hMatched, fun h3 hActive => absurd ⟨h3, hActive⟩ hCompares⟩

end

/-- Settles O59: damaged frames counted, foreign ones ignored, the partner's taken. -/
theorem twinLinkFrames : Obligations.TwinLinkFrames := by
  intro s f arrival id errors hOp h6 hRx
  refine ⟨damagedCounts hOp h6 hRx, foreignIgnored hOp h6 hRx, fun hIntact hLen hTide hPartner => ?_⟩
  obtain ⟨u, hNext, ⟨hCount, hGot, hState, hLast, hOwn, hId, hMoved⟩, hMatched, hCompared⟩ := partnerTaken hOp h6 hRx hIntact hLen hTide hPartner
  exact ⟨u, hNext, hCount, hGot, hState, hLast, hOwn, hId, hMoved, hMatched, hCompared⟩

end Sys2Proof.Machine
end

section
/-! PROOF. The twin commands (R454, R455). -/
namespace Sys2Proof.Machine

/-! ## The twin resource -/

theorem resTwin_taken {h : BitVec 10} (hBit : h.getLsbD 8 = true) : h &&& resTwin ≠ 0 := by
  intro hZero
  have hMask : (h &&& resTwin).getLsbD 8 = true := by
    rw [BitVec.getLsbD_and, hBit]
    decide
  rw [hZero] at hMask
  exact absurd hMask (by decide)

/-- A command that runs on with the twin resource holds it. -/
theorem State.runOn_holdsTwin {s : State} {n : Nat} (hn : n < s.rve.mb.length) : (s.runOn n resTwin).held &&& resTwin ≠ 0 := by
  refine resTwin_taken (State.held_of_mb (n := n) ?_ ?_)
  · exact Nat.lt_of_lt_of_eq hn List.length_set.symm
  · rw [State.runOn_mb hn]
    show resTwin.getLsbD 8 = true
    decide

/-- The Reeve holds the twin resource itself. -/
theorem State.autoHeld_holdsTwin (s : State) : (s.withRve { s.rve with autoHeld := s.rve.autoHeld ||| resTwin }).held &&& resTwin ≠ 0 := by
  refine resTwin_taken ?_
  rw [State.held_bit]
  show ((s.rve.autoHeld ||| resTwin).getLsbD 8 || _) = true
  rw [BitVec.getLsbD_or]
  simp [resTwin]

/-- A command runs on through the fields of TWN_STATUS. -/
theorem State.runsOn_put {s : State} (hInv : s.Inv) {n c : Nat} (h : s.takes n c = true) {f : Fld} (hf : f.addr / 65536 = 16) (v : Nat) {t : State}
    (hRegs : t.regs = (s.put f v).regs) (hMb : t.rve.mb = (s.runOn n resTwin).rve.mb) (hPwr : t.pwr = s.pwr) : t.runs n c = true := by
  rw [← State.runOn_runs hInv h resTwin]
  refine State.runs_congr (congrArg (fun p => p.on.getLsbD 2) hPwr) hMb (fun k hk => ?_) n c
  have hApart : (s.put f v).get (F.RVE_Mn_STATE_STATE k) = s.get (F.RVE_Mn_STATE_STATE k) :=
    s.get_put_apart f _ v rfl (mbState_apart (by omega) k hk)
  exact (congrArg (fun r => (s.withRegs r).get (F.RVE_Mn_STATE_STATE k)) hRegs).trans hApart

/-! ## TWIN_SWAP -/

section
variable {s : State}

theorem State.swapRefusal_other (h : s.twin ≠ 2) : s.swapRefusal = some .refusedState := if_pos (by simpa using h)

theorem State.swapRefusal_diverged (h : s.twin = 2) (h3 : s.twn.partner = 3) : s.swapRefusal = some .diverged :=
  (if_neg (by simp [h])).trans (if_pos h3)

/-- The paths and the rings are free for a swap. -/
def State.swapFree (s : State) : Bool :=
  s.is F.TWN_STATUS_LINK_ECHO && s.is F.TWN_STATUS_RING_ECHO && !s.is F.TWN_STATUS_RESYNC && decide (s.held &&& resRings 15 = 0)

theorem State.swapRefusal_free (h : s.twin = 2) (h3 : s.twn.partner ≠ 3) :
    s.swapRefusal = if s.swapFree = true then none else some .refusedState := by
  refine ((if_neg (by simp [h])).trans (if_neg h3)).trans ?_
  unfold State.swapFree
  cases s.is F.TWN_STATUS_LINK_ECHO <;> cases s.is F.TWN_STATUS_RING_ECHO <;> cases s.is F.TWN_STATUS_RESYNC <;> simp

/-- What an announced swap shows. -/
def State.Announced (s t : State) : Prop := t.is F.TWN_STATUS_SWAP_PENDING = true ∧ t.twn.swapIn = some 65 ∧
  t.held &&& resTwin ≠ 0 ∧ s.sameBits t [F.TWN_STATUS_SWAP_PENDING] ∧ t = { s with regs := t.regs, rve := t.rve, twn := t.twn }

theorem State.swapStart_shown (s : State) (n : Option Nat) : (s.swapStart n).is F.TWN_STATUS_SWAP_PENDING = true := by
  cases n <;> exact State.is_put_same _ F.TWN_STATUS_SWAP_PENDING 1 rfl

theorem State.swapStart_bits (s : State) (n : Option Nat) : s.sameBits (s.swapStart n) [F.TWN_STATUS_SWAP_PENDING] := by
  cases n <;> exact State.sameBits.of_regs (s.sameBits_refl _).put rfl

theorem State.swapStart_mailbox (n : Nat) (hn : n < s.rve.mb.length) : s.Announced (s.swapStart (some n)) :=
  ⟨s.swapStart_shown _, rfl, State.runOn_holdsTwin hn, s.swapStart_bits _, rfl⟩

theorem State.swapStart_own (s : State) : s.Announced (s.swapStart none) :=
  ⟨s.swapStart_shown _, rfl, s.autoHeld_holdsTwin, s.swapStart_bits _, rfl⟩

variable {n : Nat} (h : s.takes n 0x42 = true)
include h

theorem twinSwap_active (hTwin : s.twin = 2) : exec (.twinSwap n) s = match s.swapRefusal with
    | some st => .next (s.respond n st [])
    | none => if s.held &&& resTwin != 0 then .next (s.respond n .busy []) else .next (s.swapStart (some n)) := by
  refine (if_pos h).trans ?_
  rw [hTwin]
  rfl

/-- The request another twin sends to the active. -/
def State.swapWished (s : State) (n : Nat) : State :=
  ((s.twinSay 1 [0x42] 9).runOn n resTwin).withTwn { (s.twinSay 1 [0x42] 9).twn with swapBy := some n }

set_option Elab.async false in
theorem twinSwap_standby (hTwin : s.twin = 3) : exec (.twinSwap n) s =
    if !s.is F.TWN_STATUS_LINK_ECHO || !s.is F.TWN_STATUS_RING_ECHO || s.is F.TWN_STATUS_RESYNC then .next (s.respond n .refusedState [])
    else if s.held &&& resTwin != 0 then .next (s.respond n .busy []) else .next (s.swapWished n) := by
  refine (if_pos h).trans ?_
  rw [hTwin]
  rfl

theorem twinSwap_alone (hTwin : s.twin = 0) : exec (.twinSwap n) s = .next (s.respond n .refusedState []) := by
  refine (if_pos h).trans ?_
  rw [hTwin]
  rfl

theorem twinSwap_diverged (h0 : s.twin ≠ 0) (h2 : s.twin ≠ 2) (h3 : s.twin ≠ 3) :
    exec (.twinSwap n) s = .next (s.respond n .diverged []) := by
  refine (if_pos h).trans ?_
  generalize s.twin = k at h0 h2 h3
  match k, h0, h2, h3 with
  | 1, _, _, _ => rfl
  | _ + 4, _, _, _ => rfl

end

/-- The paths of the echo are heard and no resync runs. -/
def State.swapPaths (s : State) : Bool := s.is F.TWN_STATUS_LINK_ECHO && s.is F.TWN_STATUS_RING_ECHO && !s.is F.TWN_STATUS_RESYNC

theorem State.swapPaths_not (s : State) :
    (!s.is F.TWN_STATUS_LINK_ECHO || !s.is F.TWN_STATUS_RING_ECHO || s.is F.TWN_STATUS_RESYNC) = !s.swapPaths := by
  unfold State.swapPaths
  cases s.is F.TWN_STATUS_LINK_ECHO <;> cases s.is F.TWN_STATUS_RING_ECHO <;> cases s.is F.TWN_STATUS_RESYNC <;> rfl

section
variable {s : State} {n : Nat} (h : s.takes n 0x42 = true)
include h

theorem twinSwap_refused (hWhy : s.twin = 0 ∨ (s.twin = 2 ∧ s.twn.partner ≠ 3 ∧ s.swapFree = false) ∨ (s.twin = 3 ∧ s.swapPaths = false)) :
    exec (.twinSwap n) s = .next (s.respond n .refusedState []) := by
  rcases hWhy with h0 | ⟨h2, hPartner, hFree⟩ | ⟨h3, hPaths⟩
  · exact twinSwap_alone h h0
  · rw [twinSwap_active h h2, State.swapRefusal_free h2 hPartner, hFree]
    rfl
  · rw [twinSwap_standby h h3, s.swapPaths_not, hPaths]
    rfl

theorem twinSwap_divergedPair (hWhy : s.twin = 1 ∨ 4 ≤ s.twin ∨ (s.twin = 2 ∧ s.twn.partner = 3)) :
    exec (.twinSwap n) s = .next (s.respond n .diverged []) := by
  rcases hWhy with h1 | h4 | ⟨h2, hPartner⟩
  · exact twinSwap_diverged h (by omega) (by omega) (by omega)
  · exact twinSwap_diverged h (by omega) (by omega) (by omega)
  · rw [twinSwap_active h h2, State.swapRefusal_diverged h2 hPartner]

theorem twinSwap_busy (hHeld : s.held &&& resTwin ≠ 0)
    (hWhy : (s.twin = 2 ∧ s.twn.partner ≠ 3 ∧ s.swapFree = true) ∨ (s.twin = 3 ∧ s.swapPaths = true)) :
    exec (.twinSwap n) s = .next (s.respond n .busy []) := by
  rcases hWhy with ⟨h2, hPartner, hFree⟩ | ⟨h3, hPaths⟩
  · rw [twinSwap_active h h2, State.swapRefusal_free h2 hPartner, hFree]
    exact if_pos (bne_iff_ne.2 hHeld)
  · rw [twinSwap_standby h h3, s.swapPaths_not, hPaths]
    exact if_pos (bne_iff_ne.2 hHeld)

theorem twinSwap_announces (hInv : s.Inv) (h2 : s.twin = 2) (hPartner : s.twn.partner ≠ 3) (hFree : s.swapFree = true)
    (hHeld : ¬s.held &&& resTwin ≠ 0) : ∃ t : State, exec (.twinSwap n) s = .next t ∧ s.Announced t ∧ t.twn.swapBy = some n ∧
      t.runs n 0x42 = true := by
  refine ⟨s.swapStart (some n), ?_, State.swapStart_mailbox n (State.takes_lt hInv h), rfl,
    State.runsOn_put hInv h (f := F.TWN_STATUS_SWAP_PENDING) (by decide) 1 rfl rfl rfl⟩
  rw [twinSwap_active h h2, State.swapRefusal_free h2 hPartner, hFree]
  exact if_neg (fun hBusy => hHeld (bne_iff_ne.1 hBusy))

theorem twinSwap_asks (hInv : s.Inv) (h3 : s.twin = 3) (hPaths : s.swapPaths = true) (hHeld : ¬s.held &&& resTwin ≠ 0) :
    ∃ t : State, exec (.twinSwap n) s = .next t ∧ t.runs n 0x42 = true ∧
      t.twn = { s.twn with swapBy := some n, msgOut := s.twn.msgOut ++ [⟨1, padTo 64 [0x42], 0, 9⟩] } ∧
      t.held &&& resTwin ≠ 0 ∧ t = { s with rve := t.rve, twn := t.twn } := by
  refine ⟨s.swapWished n, ?_, State.runOn_runs hInv h resTwin, rfl, State.runOn_holdsTwin (State.takes_lt hInv h), rfl⟩
  rw [twinSwap_standby h h3, s.swapPaths_not, hPaths]
  exact if_neg (fun hBusy => hHeld (bne_iff_ne.1 hBusy))

end

/-! ## The automatic swap -/

/-- The swap tried again in an hour. -/
def State.swapLater (s : State) : State := s.withTwn { s.twn with retryAt := some (s.twn.hourTides + hourTides) }

section
variable {s : State} (h2 : s.twin = 2) (hAuto : s.cfIs F.TWN_CFG_AUTO_SWAP = true) (hDue : s.swapDue ≤ s.twn.hourTides)
include h2 hAuto hDue

theorem autoSwap_tries : exec .autoSwapTimer s = if s.swapRefusal.isSome || s.held &&& resTwin != 0
    then .next ((s.swapLater.bump F.TWN_COUNTS_SWAP_REFUSED).raiseInt 237).settle else .next (s.swapLater.swapStart none) :=
  if_pos (by simp [h2, hAuto, hDue])

theorem autoSwap_refused (hWhy : s.twn.partner = 3 ∨ s.swapFree = false ∨ s.held &&& resTwin ≠ 0) :
    ∃ u : State, exec .autoSwapTimer s = .next u.settle ∧ u.pends 237 = (s.isOn 1 || s.pends 237) ∧
      u.get F.TWN_COUNTS_SWAP_REFUSED = satInc 4 (s.get F.TWN_COUNTS_SWAP_REFUSED) ∧
      s.sameBits u [F.TWN_COUNTS_SWAP_REFUSED] ∧
      u = { s with regs := u.regs, int := u.int, str := u.str
                   twn := { s.twn with retryAt := some (s.twn.hourTides + hourTides) } } := by
  have hRefused : (s.swapRefusal.isSome || s.held &&& resTwin != 0) = true := by
    by_cases h3 : s.twn.partner = 3
    · rw [State.swapRefusal_diverged h2 h3]
      rfl
    · rw [State.swapRefusal_free h2 h3]
      rcases hWhy with hPartner | hFree | hHeld
      · exact absurd hPartner h3
      · simp [hFree]
      · rw [bne_iff_ne.2 hHeld]
        exact Bool.or_true _
  have hBits : s.sameBits s.swapLater [F.TWN_COUNTS_SWAP_REFUSED] := (s.sameBits_refl _).of_regs rfl
  refine ⟨(s.swapLater.bump F.TWN_COUNTS_SWAP_REFUSED).raiseInt 237, (autoSwap_tries h2 hAuto hDue).trans (if_pos hRefused), ?_, ?_,
    hBits.bump.raiseInt, ?_⟩
  · rw [State.raiseInt_pends_self _ (by decide) (by decide)]
    rfl
  · rw [State.raiseInt_get, State.bump_eq, State.get_put_same _ _ _ rfl]
    exact satInc_mod 4 _
  · obtain ⟨i, x, hRaise⟩ := (s.swapLater.bump F.TWN_COUNTS_SWAP_REFUSED).raiseInt_only 237
    rw [hRaise]
    rfl

theorem autoSwap_announces (h3 : s.twn.partner ≠ 3) (hFree : s.swapFree = true) (hHeld : s.held &&& resTwin = 0) :
    ∃ t : State, exec .autoSwapTimer s = .next t ∧ s.Announced t ∧ t.twn.swapBy = none := by
  refine ⟨s.swapLater.swapStart none, (autoSwap_tries h2 hAuto hDue).trans (if_neg ?_), ?_, rfl⟩
  · rw [State.swapRefusal_free h2 h3, hFree, hHeld]
    decide
  · exact ⟨State.swapStart_shown _ _, rfl, State.autoHeld_holdsTwin _, (s.swapLater.swapStart_bits none), rfl⟩

end

theorem autoSwap_waits {s : State} (hWhy : s.twin ≠ 2 ∨ s.cfIs F.TWN_CFG_AUTO_SWAP = false ∨ s.twn.hourTides < s.swapDue) :
    exec .autoSwapTimer s = .next s := by
  refine if_neg ?_
  rcases hWhy with h2 | hAuto | hDue
  · simp [h2]
  · simp [hAuto]
  · simp [Nat.not_le.2 hDue]

/-! ## TWIN_RESYNC -/

section
variable {s : State}

theorem State.resyncRefused_iff : s.resyncRefused = true ↔ s.twin = 0 ∨ s.is F.TWN_STATUS_LINK_ECHO = false ∨
    s.is F.TWN_STATUS_MATCHED = false ∨ s.is F.TWN_STATUS_RESYNC = true := by
  simp [State.resyncRefused, or_assoc]

/-- The resync shown, and its mailbox held. -/
def State.resyncTaken (s : State) (n : Nat) : State :=
  ((s.put F.TWN_STATUS_RESYNC 1).withTwn { s.twn with resyncBy := some n }).runOn n resTwin

set_option Elab.async false in
theorem State.resyncStart_mailbox (s : State) (n : Nat) : s.resyncStart (some n) =
    if (s.resyncTaken n).twin = 2 then (s.resyncTaken n).withTwn { s.twn with resyncBy := some n, snapWait := true }
    else (s.resyncTaken n).withTwn { s.twn with resyncBy := some n, msgOut := s.twn.msgOut ++ [⟨1, padTo 64 [0x43], 0, 9⟩] } := rfl

theorem State.resyncTaken_twin (s : State) (n : Nat) : (s.resyncTaken n).twin = s.twin :=
  s.get_put_apart F.TWN_STATUS_RESYNC F.TWN_STATUS_STATE 1 rfl rfl

variable {n : Nat} (hInv : s.Inv) (h : s.takes n 0x43 = true)
include hInv h

/-- What a state shows that the start of a resync leads to, whatever it says to the partner. -/
theorem resyncTaken_shows (v : TwinSt) (hBy : v.resyncBy = some n) : ((s.resyncTaken n).withTwn v).is F.TWN_STATUS_RESYNC = true ∧
    ((s.resyncTaken n).withTwn v).twn.resyncBy = some n ∧ ((s.resyncTaken n).withTwn v).runs n 0x43 = true ∧
    ((s.resyncTaken n).withTwn v).held &&& resTwin ≠ 0 :=
  ⟨s.is_put_same F.TWN_STATUS_RESYNC 1 rfl, hBy, State.runsOn_put hInv h (f := F.TWN_STATUS_RESYNC) (by decide) 1 rfl rfl rfl,
    State.runOn_holdsTwin (State.takes_lt hInv h)⟩

theorem twinResync_starts (hFree : ¬s.resyncRefused = true) (hHeld : s.held &&& resTwin = 0) :
    ∃ t : State, exec (.twinResync n) s = .next t ∧ t.is F.TWN_STATUS_RESYNC = true ∧
        t.twn.resyncBy = some n ∧ t.runs n 0x43 = true ∧ t.held &&& resTwin ≠ 0 ∧
        t.twn.msgOut = (if s.twin = 2 then s.twn.msgOut else s.twn.msgOut ++ [⟨1, padTo 64 [0x43], 0, 9⟩]) ∧
        s.sameBits t [F.TWN_STATUS_RESYNC] ∧ t = { s with regs := t.regs, rve := t.rve, twn := t.twn } := by
  have hNext : exec (.twinResync n) s = .next (s.resyncStart (some n)) :=
    ((if_pos h).trans (if_neg hFree)).trans (if_neg (by simp [hHeld]))
  rw [State.resyncStart_mailbox, s.resyncTaken_twin] at hNext
  have hBits : ∀ v, s.sameBits ((s.resyncTaken n).withTwn v) [F.TWN_STATUS_RESYNC] := fun v => (s.sameBits_refl _).put.of_regs rfl
  by_cases h2 : s.twin = 2
  · rw [if_pos h2] at hNext
    obtain ⟨hShown, hBy, hRuns, hHolds⟩ := resyncTaken_shows hInv h { s.twn with resyncBy := some n, snapWait := true } rfl
    exact ⟨_, hNext, hShown, hBy, hRuns, hHolds, (if_pos h2).symm, hBits _, rfl⟩
  · rw [if_neg h2] at hNext
    obtain ⟨hShown, hBy, hRuns, hHolds⟩ := resyncTaken_shows hInv h
      { s.twn with resyncBy := some n, msgOut := s.twn.msgOut ++ [⟨1, padTo 64 [0x43], 0, 9⟩] } rfl
    exact ⟨_, hNext, hShown, hBy, hRuns, hHolds, (if_neg h2).symm, hBits _, rfl⟩

end

/-- Settles O57: the refusals, the swap announced or asked for, the automatic swap, and the start of a resync. -/
theorem twinCommands : Obligations.TwinCommands := by
  intro s n hInv
  refine ⟨fun h => twinSwap_busy h, fun h => ⟨twinSwap_refused h, twinSwap_divergedPair h, twinSwap_announces h hInv, twinSwap_asks h hInv⟩,
    fun h2 hAuto hDue => ⟨autoSwap_refused h2 hAuto hDue, autoSwap_announces h2 hAuto hDue⟩, autoSwap_waits,
    fun h => ⟨fun hWhy => ?_, fun hFree hHeld => ?_, fun hFree => ?_⟩⟩
  · exact (if_pos h).trans (if_pos (State.resyncRefused_iff.2 hWhy))
  · exact ((if_pos h).trans (if_neg (mt State.resyncRefused_iff.1 hFree))).trans (if_pos (bne_iff_ne.2 hHeld))
  · exact twinResync_starts hInv h (mt State.resyncRefused_iff.1 hFree)

end Sys2Proof.Machine
end

section
/-! PROOF. REMOTE and the message channel, unwraps and tokens (R133 to R135, R166, R171, R181). -/
namespace Sys2Proof.Machine

theorem State.remoteOn_set {s : State} {r : Nat} (hr : r < s.cul.remote.length) (x : Option RemoteSt) : (s.setRemote r x).remoteOn r = x := by
  show (s.cul.remote.set r x).getD r none = x
  rw [List.getD_eq_getElem?_getD, List.getElem?_set_self hr]
  rfl

/-! ## REMOTE -/

/-- A ring's resource is one bit of those held. -/
theorem resRing_taken {h : BitVec 10} {r : Nat} (hr : r < 4) (hBit : h.getLsbD (4 + r) = true) : h &&& resRing r ≠ 0 := by
  intro hZero
  have hOwn : ∀ r, r < 4 → (resRing r).getLsbD (4 + r) = true := by decide
  have hMask : (h &&& resRing r).getLsbD (4 + r) = true := by rw [BitVec.getLsbD_and, hBit, hOwn r hr]; rfl
  rw [hZero] at hMask
  simp at hMask

theorem State.runOn_holdsRing {s : State} {n r : Nat} (hn : n < s.rve.mb.length) (hr : r < 4) : (s.runOn n (resRing r)).held &&& resRing r ≠ 0 := by
  refine resRing_taken hr (State.held_of_mb (n := n) (Nat.lt_of_lt_of_eq hn List.length_set.symm) ?_)
  rw [State.runOn_mb hn]
  have hOwn : ∀ r, r < 4 → (resRing r).getLsbD (4 + r) = true := by decide
  exact hOwn r hr

/-- The polders of a ring are off in the service plan. -/
theorem State.ringPolders_service (s : State) (r : Nat) : ∀ p ∈ s.ringPolders r, serviceOff.contains p = true := by
  unfold State.ringPolders
  cases (List.range 10).any (fun p => s.portRing p == some r && portPolder p == 6) <;> decide

/-- The answer to a command whose polders are off (R86, R88). -/
theorem State.needPolders_off {s : State} {ps : List Nat} (n : Nat) (hOff : ps.all s.isOn = false) (hService : ∀ p ∈ ps, serviceOff.contains p = true) :
    s.needPolders n ps = if (s.servicePlan || s.pwr.blocked) = true then some (s.respond n .refusedState []) else some (s.demand ps) := by
  have hAny : ps.any (fun p => serviceOff.contains p && !s.isOn p) = true := by
    obtain ⟨p, hp, hDark⟩ := List.all_eq_false.1 hOff
    exact List.any_eq_true.2 ⟨p, hp, by rw [hService p hp]; simpa using hDark⟩
  rw [State.needPolders, hOff, hAny, Bool.and_true]
  rfl

theorem State.message_length (s : State) (enc : List Byte) (seconds : Nat) : (s.message enc seconds).length = 64 := by
  simp [State.message, padTo, leBytes]

theorem State.message_take (s : State) (enc : List Byte) (seconds : Nat) : (s.message enc seconds).take 52 = padTo 52 enc := by
  have hLen : (padTo 52 enc).length = 52 := by simp [padTo]
  rw [State.message, List.append_assoc, List.append_assoc, List.take_append_of_le_length (Nat.le_of_eq hLen.symm), List.take_of_length_le (Nat.le_of_eq hLen)]

/-- The message of a REMOTE as it begins. -/
def State.remoteBegun (s : State) (n : Nat) : RemoteSt :=
  { mailbox := n, dest := (s.mb n).arg 1 1, phase := .sending 0, tries := 0, rsp := [none, none, none],
    bytes := s.message (bytesAt (s.mb n).req 12 52) ((s.mb n).arg 4 4), timeout := s.cf F.RVE_CONFIG_RVE_REMOTE_TIMEOUT }

/-- The arguments of a REMOTE that R133 refuses. -/
def MbSt.remoteBad (m : MbSt) : Bool :=
  let enc := bytesAt m.req 12 52
  let encLen := leAt enc 2 1
  m.arg 0 1 > 3 || m.arg 1 1 = 0 || m.arg 1 1 > 96 || m.arg 2 2 != 0 || encLen > 48 || m.len < 12 + encLen || leAt enc 0 1 == 0x70
    || malformed enc

section
variable {s : State} {n : Nat} (h : s.takes n 0x70 = true)
include h

theorem remote_bad (hBad : (s.mb n).remoteBad = true) : exec (.remote n) s = .next (s.respond n .badArg []) :=
  (if_pos h).trans (if_pos hBad)

/-- A well-formed REMOTE goes on with its ring and its polders. -/
theorem remote_good (hGood : (s.mb n).remoteBad = false) : exec (.remote n) s =
    let r := (s.mb n).arg 0 1
    if s.held &&& resRing r != 0 then .next (s.respond n .busy [])
    else match s.needPolders n (s.ringPolders r) with
    | some t => .next t
    | none => if !s.is (F.CUL_POS_r_s_PRESENT r ((s.mb n).arg 1 1)) then .next (s.respond n .refusedState [])
      else .next ((s.runOn n (resRing r)).setRemote r (some (s.remoteBegun n))) :=
  (if_pos h).trans (if_neg (fun hBad => Bool.false_ne_true (hGood.symm.trans hBad)))

variable {r : Nat} (hRing : (s.mb n).arg 0 1 = r) (hGood : (s.mb n).remoteBad = false)
include hRing hGood

set_option Elab.async false in
theorem remote_busy (hHeld : s.held &&& resRing r ≠ 0) : exec (.remote n) s = .next (s.respond n .busy []) := by
  rw [remote_good h hGood, hRing]
  exact if_pos (bne_iff_ne.2 hHeld)

variable (hFree : s.held &&& resRing r = 0)
include hFree

theorem remote_free : exec (.remote n) s = match s.needPolders n (s.ringPolders r) with
    | some t => .next t
    | none => if !s.is (F.CUL_POS_r_s_PRESENT r ((s.mb n).arg 1 1)) then .next (s.respond n .refusedState [])
      else .next ((s.runOn n (resRing r)).setRemote r (some (s.remoteBegun n))) := by
  rw [remote_good h hGood, hRing]
  exact if_neg (by simp [hFree])

theorem remote_off (hOff : (s.ringPolders r).all s.isOn = false) :
    (s.servicePlan = true ∨ s.pwr.blocked = true → exec (.remote n) s = .next (s.respond n .refusedState [])) ∧
    (s.servicePlan = false → s.pwr.blocked = false → exec (.remote n) s = .next (s.demand (s.ringPolders r))) := by
  rw [remote_free h hRing hGood hFree, State.needPolders_off n hOff (s.ringPolders_service r)]
  refine ⟨fun hWhy => ?_, fun hPlan hBlocked => ?_⟩
  · rw [if_pos (Bool.or_eq_true_iff.2 hWhy)]
  · rw [hPlan, hBlocked]
    rfl

variable (hOn : (s.ringPolders r).all s.isOn = true)
include hOn

theorem remote_on : exec (.remote n) s = if !s.is (F.CUL_POS_r_s_PRESENT r ((s.mb n).arg 1 1)) then .next (s.respond n .refusedState [])
    else .next ((s.runOn n (resRing r)).setRemote r (some (s.remoteBegun n))) := by
  have hNone : s.needPolders n (s.ringPolders r) = none := if_pos hOn
  rw [remote_free h hRing hGood hFree, hNone]

end

/-- What the accepted message shows. -/
theorem remote_begins {s : State} (hInv : s.Inv) {n r : Nat} (h : s.takes n 0x70 = true) (hr : r < 4) (hRemote : s.cul.remote.length = 4) :
    let t := (s.runOn n (resRing r)).setRemote r (some (s.remoteBegun n))
    (∃ x, t.remoteOn r = some x ∧ x.mailbox = n ∧ x.dest = (s.mb n).arg 1 1 ∧ x.phase = .sending 0 ∧ x.tries = 0 ∧ x.bytes.length = 64 ∧
      x.bytes.take 52 = padTo 52 (bytesAt (s.mb n).req 12 52) ∧ x.timeout = s.cf F.RVE_CONFIG_RVE_REMOTE_TIMEOUT) ∧
    t.runs n 0x70 = true ∧ t.held &&& resRing r ≠ 0 ∧ t = { s with rve := t.rve, cul := { s.cul with remote := t.cul.remote } } :=
  ⟨⟨s.remoteBegun n, State.remoteOn_set (hRemote ▸ hr) _, rfl, rfl, rfl, rfl, s.message_length _ _, s.message_take _ _, rfl⟩,
    State.runOn_runs hInv h (resRing r), State.runOn_holdsRing (State.takes_lt hInv h) hr, rfl⟩

/-! ## Acknowledges and repeats -/

/-- A device's message whose acknowledge is missing is sent again, or given up. -/
def MsgDev.missed (m : MsgDev) : MsgDev :=
  if m.tries < 3 then { m with phase := .sending 0, outAt := [], tries := m.tries + 1 } else { m with phase := .given, outAt := [] }

theorem MsgDev.missed_again {m : MsgDev} (h : m.tries < 3) : m.missed = { m with phase := .sending 0, outAt := [], tries := m.tries + 1 } := if_pos h

theorem MsgDev.missed_given {m : MsgDev} (h : 3 ≤ m.tries) : m.missed = { m with phase := .given, outAt := [] } := if_neg (Nat.not_lt.2 h)

theorem MsgDev.missed_parts (m : MsgDev) : m.missed = { m with phase := m.missed.phase, tries := m.missed.tries, outAt := [] } := by
  rcases Nat.lt_or_ge m.tries 3 with h | h
  · rw [MsgDev.missed_again h]
  · rw [MsgDev.missed_given h]

theorem messageAckTimeout_device {s : State} (r : Nat) (hStation : s.isStation = false) (hWait : s.cul.msg.phase = .waitAck) :
    ∃ t : State, exec (.messageAckTimeout r) s = .next t ∧
      t = { s with cul := { s.cul with msg := { s.cul.msg with phase := t.cul.msg.phase, tries := t.cul.msg.tries, outAt := [] } } } ∧
      (s.cul.msg.tries < 3 → t.cul.msg.phase = .sending 0 ∧ t.cul.msg.tries = s.cul.msg.tries + 1) ∧
      (3 ≤ s.cul.msg.tries → t.cul.msg.phase = .given) := by
  have hNext : exec (.messageAckTimeout r) s = .next (s.withCul { s.cul with msg := s.cul.msg.missed }) :=
    (if_neg (by simp [hStation])).trans (if_pos hWait)
  refine ⟨_, hNext, congrArg (fun m => s.withCul { s.cul with msg := m }) s.cul.msg.missed_parts, fun hMore => ?_, fun hLast => ?_⟩
  · show s.cul.msg.missed.phase = _ ∧ s.cul.msg.missed.tries = _
    rw [MsgDev.missed_again hMore]
    exact ⟨rfl, rfl⟩
  · show s.cul.msg.missed.phase = _
    rw [MsgDev.missed_given hLast]

/-- Settles O30: REMOTE's statuses and its message, the channel's repeats, the unwrap and the token of an origin. -/
theorem messagesAndTokens : Obligations.MessagesAndTokens := by
  intro s n r hInv hr hRemote
  refine ⟨fun h q hRing hDest => ⟨fun hBad => remote_bad h ?_, fun h1 h96 hZero hForm hCode hLen hRoom => ?_⟩, fun x hx => ⟨?_, fun hBusy => ?_,
    fun hStation hWait hTries => ?_⟩, messageAckTimeout_device r, fun hStation hWrap hAuto => ?_, fun line offset h5 => if_pos h5⟩
  · rw [← hDest] at hBad
    rcases hBad with hBad | hBad | hBad | hBad | hBad <;> simp [MbSt.remoteBad, hBad]
  · have hGood : (s.mb n).remoteBad = false := by
      simp [MbSt.remoteBad, hRing, hDest, hForm, hCode, hZero]
      omega
    refine ⟨remote_busy h hRing hGood, fun hFree hOff => remote_off h hRing hGood hFree hOff, fun hFree hOn hAbsent => ?_,
      fun hFree hOn hPresent => ?_⟩
    · rw [remote_on h hRing hGood hFree hOn, hDest]
      exact if_pos (by simp [hAbsent])
    · have hBegins := remote_begins hInv h hr hRemote
      rw [hDest] at hBegins
      refine ⟨_, ?_, hBegins⟩
      rw [remote_on h hRing hGood hFree hOn, hDest]
      exact if_neg (by simp [hPresent])
  · show execRemoteTimeout r s = _
    rw [execRemoteTimeout, hx]
    rfl
  · show execMessageBusyRetry r s = _
    rw [execMessageBusyRetry, hx]
    exact if_pos hBusy
  · show execMessageAckTimeout r s = _
    rw [execMessageAckTimeout, if_pos hStation, hx]
    exact if_pos (by simp [hWait, hTries])
  · exact if_pos (by simp [hStation, hWrap, hAuto, hr])

end Sys2Proof.Machine
end

section
/-! PROOF. CONFIG_WRITE and VAULT_COMMIT (R121 to R123, R387, R388, R456). -/
namespace Sys2Proof.Machine

/-! ## A response in its mailbox -/

section
variable (s : State) (n : Nat) (st : Status) (data : List Byte)

theorem State.respond_parts : s.respond n st data = { s with rve := { s.rve with mb := (s.respond n st data).rve.mb } } := rfl

theorem State.respond_mb_of_ne {m : Nat} (h : m ≠ n) : (s.respond n st data).mb m = s.mb m := by
  rw [State.respond_eq]
  exact s.mb_setMb_of_ne h _

variable {s n}

theorem State.respond_mb (hn : n < s.rve.mb.length) : (s.respond n st data).mb n = (s.mb n).answered st data := by
  rw [State.respond_eq]
  exact s.mb_setMb_self hn _

theorem State.respond_status (hn : n < s.rve.mb.length) : ((s.respond n st data).mb n).rsp.getD 2 0 = BitVec.ofNat 8 st.code := by
  rw [State.respond_mb st data hn, MbSt.answered_status]

set_option Elab.async false in
theorem State.respond_ready (hn : n < s.rve.mb.length) : ((s.respond n st data).mb n).ready = true := by
  rw [State.respond_mb st data hn]
  rfl

end

/-- An answer without data. -/
theorem MbSt.answered_empty (m : MbSt) : (m.answered .ok []).rsp =
    [BitVec.ofNat 8 m.code, BitVec.ofNat 8 m.tag, 0, 0] ++ List.replicate 60 0 := by
  show _ ++ padTo 56 [] ++ padTo 4 [] = _
  rw [List.append_assoc]
  rfl

/-! ## CONFIG_WRITE -/

/-- The statuses of a request that is refused. -/
def Status.refuses (e : Status) : Prop := e = .notInRole ∨ e = .badArg ∨ e = .refusedState

theorem Status.refuses.code_ne {e : Status} (h : e.refuses) : BitVec.ofNat 8 e.code ≠ 0 := by
  rcases h with rfl | rfl | rfl <;> decide

section
variable {s : State}

/-- A guard that refuses answers its status, or leaves the answer to the rest. -/
theorem guard_error {α : Type} {c : Prop} [Decidable c] {a e : Status} {x : Except Status α} (h : (if c then .error a else x) = .error e) :
    e = a ∨ x = .error e := by
  by_cases hc : c
  · rw [if_pos hc] at h
    exact .inl (Except.error.inj h).symm
  · rw [if_neg hc] at h
    exact .inr h

theorem guard_ok {α : Type} {c : Prop} [Decidable c] {a : Status} {x : Except Status α} {y : α} (h : (if c then .error a else x) = .ok y) :
    ¬c ∧ x = .ok y := by
  by_cases hc : c
  · rw [if_pos hc] at h
    exact nomatch h
  · rw [if_neg hc] at h
    exact ⟨hc, h⟩

theorem State.entryKeys_refuses {x : KeyEntry} {e : Status} (h : s.entryKeys x = .error e) : e.refuses := by
  unfold State.entryKeys at h
  rcases guard_error h with he | h
  · exact .inl he
  rcases guard_error h with he | h
  · exact .inr (.inl he)
  cases hReg : findReg x.addr with
  | none =>
    rw [hReg] at h
    exact .inr (.inl (Except.error.inj h).symm)
  | some r =>
    rw [hReg] at h
    rcases guard_error h with he | h
    · exact .inr (.inl he)
    · split at h
      · exact nomatch h
      · exact .inr (.inl (Except.error.inj h).symm)

theorem State.requestKeys_refuses {e : Status} : ∀ {l : List KeyEntry}, s.requestKeys l = .error e → e.refuses
  | [], h => nomatch h
  | x :: l, h => by
    unfold State.requestKeys at h
    split at h
    next he =>
      obtain rfl := Except.error.inj h
      exact State.entryKeys_refuses he
    next =>
      split at h
      next he =>
        obtain rfl := Except.error.inj h
        exact State.requestKeys_refuses he
      next => exact nomatch h

theorem State.requestKeys_one (x : KeyEntry) {e : Status} (h : s.entryKeys x = .error e) : s.requestKeys [x] = .error e := by
  rw [State.requestKeys, h]

theorem State.stageRequest_refuses {n : Nat} {discard : Bool} {keys : List (Fld × Nat)} {e : Status}
    (h : s.stageRequest n discard keys = .error e) : e.refuses := by
  rcases guard_error h with he | h
  · exact .inr (.inl he)
  rcases guard_error h with he | h
  · exact .inr (.inr he)
  rcases guard_error h with he | h
  · exact .inr (.inr he)
  · exact nomatch h

/-- The staged set has room for 128 keys. -/
theorem State.stageRequest_length {n : Nat} {discard : Bool} {keys : List (Fld × Nat)} {l : List StagedKey}
    (h : s.stageRequest n discard keys = .ok l) : l.length ≤ 128 := by
  obtain ⟨-, h⟩ := guard_ok h
  obtain ⟨-, h⟩ := guard_ok h
  obtain ⟨hLen, h⟩ := guard_ok h
  exact Except.ok.inj h ▸ Nat.not_lt.1 hLen

/-- The keys of a mailbox's request. -/
def State.mbKeys (s : State) (n : Nat) : Except Status (List (Fld × Nat)) := s.requestKeys ((List.range ((s.mb n).len / 12)).map (s.mb n).entry)

variable {n : Nat} (h : s.takes n 0x10 = true)
include h

theorem configWrite_busy (hHeld : s.held &&& resVault ≠ 0) : exec (.configWrite n) s = .next (s.respond n .busy []) :=
  (if_pos h).trans (if_pos (bne_iff_ne.2 hHeld))

variable (hFree : s.held &&& resVault = 0)
include hFree

theorem configWrite_free : exec (.configWrite n) s = match s.mbKeys n with
    | .error st => .next (s.respond n st [])
    | .ok keys => match s.stageRequest n (natBit (s.mb n).flags 0) keys with
      | .error st => .next (s.respond n st [])
      | .ok l => .next ((s.withRve { s.rve with staged := l }).respond n .ok []) :=
  (if_pos h).trans ((if_neg (by simp [hFree])).trans (by rfl))

theorem configWrite_keysRefused {e : Status} (he : s.mbKeys n = .error e) : exec (.configWrite n) s = .next (s.respond n e []) := by
  rw [configWrite_free h hFree, he]

variable {keys : List (Fld × Nat)} (hKeys : s.mbKeys n = .ok keys)
include hKeys

theorem configWrite_ruleRefused {e : Status} (he : s.stageRequest n (natBit (s.mb n).flags 0) keys = .error e) :
    exec (.configWrite n) s = .next (s.respond n e []) := by
  rw [configWrite_free h hFree, hKeys]
  show (match s.stageRequest n (natBit (s.mb n).flags 0) keys with | .error st => _ | .ok l => _) = _
  rw [he]

set_option Elab.async false in
theorem configWrite_staged {l : List StagedKey} (hl : s.stageRequest n (natBit (s.mb n).flags 0) keys = .ok l) :
    exec (.configWrite n) s = .next ((s.withRve { s.rve with staged := l }).respond n .ok []) := by
  rw [configWrite_free h hFree, hKeys]
  show (match s.stageRequest n (natBit (s.mb n).flags 0) keys with | .error st => _ | .ok l => _) = _
  rw [hl]

end

/-- What the answer to a CONFIG_WRITE leaves: staged with OK, or refused with its status and the set as it was. -/
def State.WriteAnswered (s : State) (n : Nat) (t : State) : Prop := t = { s with rve := t.rve } ∧ (t.mb n).ready = true ∧ (∀ m, m ≠ n → t.mb m = s.mb m) ∧
  (((t.mb n).rsp.getD 2 0 = 0 ∧ t.rve.staged.length ≤ 128) ∨ ((t.mb n).rsp.getD 2 0 ≠ 0 ∧ t.rve.staged = s.rve.staged))

section
variable {s : State} {n : Nat} (hn : n < s.rve.mb.length)
include hn

theorem State.writeRefused (e : Status) (he : BitVec.ofNat 8 e.code ≠ 0) : s.WriteAnswered n (s.respond n e []) := by
  refine ⟨rfl, State.respond_ready e [] hn, fun _ hm => s.respond_mb_of_ne n e [] hm, .inr ⟨?_, rfl⟩⟩
  rw [State.respond_status e [] hn]
  exact he

theorem State.writeStaged {l : List StagedKey} (hl : l.length ≤ 128) :
    s.WriteAnswered n ((s.withRve { s.rve with staged := l }).respond n .ok []) :=
  ⟨rfl, State.respond_ready (s := s.withRve { s.rve with staged := l }) .ok [] hn,
    fun _ hm => (s.withRve { s.rve with staged := l }).respond_mb_of_ne n .ok [] hm,
    .inl ⟨State.respond_status (s := s.withRve { s.rve with staged := l }) .ok [] hn, hl⟩⟩

end

theorem configWrite_answers {s : State} (hInv : s.Inv) {n : Nat} (h : s.takes n 0x10 = true) :
    ∃ t : State, exec (.configWrite n) s = .next t ∧ s.WriteAnswered n t := by
  have hn := State.takes_lt hInv h
  by_cases hFree : s.held &&& resVault = 0
  · cases hKeys : s.mbKeys n with
    | error e => exact ⟨_, configWrite_keysRefused h hFree hKeys, State.writeRefused hn e (State.requestKeys_refuses hKeys).code_ne⟩
    | ok keys =>
      cases hStage : s.stageRequest n (natBit (s.mb n).flags 0) keys with
      | error e => exact ⟨_, configWrite_ruleRefused h hFree hKeys hStage, State.writeRefused hn e (State.stageRequest_refuses hStage).code_ne⟩
      | ok l => exact ⟨_, configWrite_staged h hFree hKeys hStage, State.writeStaged hn (State.stageRequest_length hStage)⟩
  · exact ⟨_, configWrite_busy h hFree, State.writeRefused hn .busy (by decide)⟩

/-! ## VAULT_COMMIT -/

theorem stageRoom_mem {l : List StagedKey} {k x : StagedKey} (hx : x ∈ stageRoom l k) : x ∈ l ∨ x = k := by
  unfold stageRoom at hx
  split at hx
  · obtain ⟨y, hy, rfl⟩ := List.mem_map.1 hx
    split
    · exact .inr rfl
    · exact .inl hy
  split at hx
  · exact (List.mem_append.1 hx).imp_right List.mem_singleton.1
  · exact .inl hx

theorem stageRooms_mem {keys l : List StagedKey} {x : StagedKey} (hx : x ∈ keys.foldl stageRoom l) : x ∈ l ∨ x ∈ keys := by
  induction keys generalizing l with
  | nil => exact .inl hx
  | cons k keys ih =>
    rcases ih hx with hRoom | hLater
    · exact (stageRoom_mem hRoom).imp_right (fun (he : x = k) => he ▸ .head _)
    · exact .inr (.tail _ hLater)

/-- The staged set with a cell's live wear counters (R456). -/
def State.wearStaged (s : State) (n : Nat) : State := if s.isCell then s.stageWear n else s

section
variable (s : State) (n : Nat)

theorem State.stageWear_staged : ∃ keys : List StagedKey, s.stageWear n = s.withRve { s.rve with staged := keys.foldl stageRoom s.rve.staged } ∧
    ∀ k ∈ keys, ∃ i, i < 9 ∧ k.addr = (F.SPR_WEAR_SAVEi_VALUE i).addr := by
  refine ⟨_, rfl, fun k hk => ?_⟩
  obtain ⟨i, hi, rfl⟩ := List.mem_map.1 hk
  exact ⟨i, List.mem_range.1 hi, rfl⟩

theorem State.wearStaged_cases : ∃ l, s.wearStaged n = s.withRve { s.rve with staged := l } ∧
    ∀ k ∈ l, k ∈ s.rve.staged ∨ ∃ i, i < 9 ∧ k.addr = (F.SPR_WEAR_SAVEi_VALUE i).addr := by
  by_cases hCell : s.isCell = true
  · obtain ⟨keys, hWear, hKeys⟩ := s.stageWear_staged n
    exact ⟨_, (if_pos hCell).trans hWear, fun k hk => (stageRooms_mem hk).imp_right (hKeys k)⟩
  · exact ⟨s.rve.staged, if_neg hCell, fun k hk => .inl hk⟩

/-- No room in the Vault for a commit of these changes (R387, R388). -/
def State.vaultFull (v : State) (ks : List StagedKey) : Bool :=
  let need := v.ownRecords.length + ks.length
  let reserve := if ks.all (fun k => k.addr == R.VLT_KEEP) then 0 else 256
  v.vlt.isBad v.vlt.target || v.vlt.journalBad need || v.vlt.next + need > 2 ^ 32 || (v.makeRoom (need + reserve)).vlt.free < need + reserve

/-- The operation of a commit that a mailbox asked for. -/
def State.hostOp (v : State) (n : Nat) (seconds : Word) : VaultOp :=
  { for_ := .host n, keys := v.changes v.rve.staged, internal := false, own := v.ownRecords, seconds := seconds }

/-- The Vault held by its mailbox, with the operation begun. -/
def State.commitBegun (v : State) (n : Nat) (seconds : Word) : State :=
  (v.setMb n { v.mb n with running := true, held := (v.mb n).held ||| resVault }).withVlt
    { v.vlt with op := some (v.hostOp n seconds), startWrite := none }

variable {s n}

theorem State.commitStart_host {v : State} (seconds : Word) (hChanges : v.changes v.rve.staged ≠ []) :
    v.commitStart (.host n) false v.rve.staged seconds =
      if v.vaultFull (v.changes v.rve.staged) = true then v.respond n .vaultFull [] else (v.commitBegun n seconds).demandReading :=
  if_neg (by rwa [List.isEmpty_iff])

theorem State.vaultFull_iff {v : State} {ks : List StagedKey} : v.vaultFull ks = true ↔ v.vlt.isBad v.vlt.target = true ∨
    v.vlt.journalBad (v.ownRecords.length + ks.length) = true ∨ 2 ^ 32 < v.vlt.next + (v.ownRecords.length + ks.length) ∨
    (v.makeRoom (v.ownRecords.length + ks.length + if ks.all (fun k => k.addr == R.VLT_KEEP) then 0 else 256)).vlt.free <
      v.ownRecords.length + ks.length + if ks.all (fun k => k.addr == R.VLT_KEEP) then 0 else 256 := by
  unfold State.vaultFull
  dsimp only
  rw [Bool.or_eq_true_iff, Bool.or_eq_true_iff, Bool.or_eq_true_iff, decide_eq_true_iff, decide_eq_true_iff, or_assoc, or_assoc]

/-- What a commit that begins shows. -/
def State.CommitShown (v : State) (n : Nat) (seconds : Word) (u : State) : Prop := u.is F.THM_DIE_BUSY = true ∧
  u.held &&& resVault ≠ 0 ∧ (u.mb n).running = true ∧ u.cfg = v.cfg ∧ u.eff = v.eff ∧
  u.vlt = { v.vlt with op := some (v.hostOp n seconds), startWrite := none } ∧ v.sameBits u [F.THM_DIE_BUSY]

theorem State.commitBegun_shown {v : State} (hn : n < v.rve.mb.length) (seconds : Word) (hCrest : v.pwr.vcrest = true) :
    v.CommitShown n seconds (v.commitBegun n seconds).demandReading := by
  have hDemand : (v.commitBegun n seconds).demandReading = (v.commitBegun n seconds).put F.THM_DIE_BUSY 1 := if_pos hCrest
  rw [hDemand]
  have hMb : ((v.commitBegun n seconds).put F.THM_DIE_BUSY 1).mb n = { v.mb n with running := true, held := (v.mb n).held ||| resVault } :=
    v.mb_setMb_self hn _
  have hBits : v.sameBits (v.commitBegun n seconds) [F.THM_DIE_BUSY] := (v.sameBits_refl _).of_regs rfl
  refine ⟨State.is_put_same _ F.THM_DIE_BUSY 1 rfl, ?_, ?_, rfl, rfl, rfl, hBits.put⟩
  · intro hZero
    have hHeld : ((v.commitBegun n seconds).put F.THM_DIE_BUSY 1).held.getLsbD 0 = true := by
      refine State.held_of_mb (n := n) (Nat.lt_of_lt_of_eq hn List.length_set.symm) ?_
      rw [hMb]
      show ((v.mb n).held ||| resVault).getLsbD 0 = true
      rw [BitVec.getLsbD_or]
      exact Bool.or_true _
    have hMask := congrArg (·.getLsbD 0) hZero
    rw [BitVec.getLsbD_and, hHeld] at hMask
    exact absurd hMask (by decide)
  · rw [hMb]

variable (h : s.takes n 0x12 = true)
include h

theorem vaultCommit_busy (hHeld : s.held &&& resVault ≠ 0) : exec (.vaultCommit n) s = .next (s.respond n .busy []) :=
  (if_pos h).trans (if_pos (bne_iff_ne.2 hHeld))

variable (hFree : s.held &&& resVault = 0)
include hFree

theorem vaultCommit_free : exec (.vaultCommit n) s =
    if ((s.wearStaged n).changes (s.wearStaged n).rve.staged).isEmpty then
      .next (((s.wearStaged n).withRve { (s.wearStaged n).rve with staged := [] }).respond n .ok (leBytes 8 0))
    else .next (((s.wearStaged n).commitStart (.host n) false (s.wearStaged n).rve.staged ((s.wearStaged n).originOf n).2.2).settle) :=
  (if_pos h).trans (if_neg (by simp [hFree]))

end

/-- Settles O22: CONFIG_WRITE stages everything or nothing, and VAULT_COMMIT ends at once, finds the Vault full or begins. -/
theorem stagingAndCommits : Obligations.StagingAndCommits := by
  intro s n hInv
  refine ⟨fun h => ?_, fun h => ⟨configWrite_busy h, fun e hFree he => configWrite_keysRefused h hFree he, fun keys hFree hKeys =>
    ⟨fun e he => configWrite_ruleRefused h hFree hKeys he, fun l hl => ?_⟩⟩, fun h v hv => ?_⟩
  · have hn := State.takes_lt hInv h
    obtain ⟨t, hNext, hParts, hReady, hOthers, hStaged⟩ := configWrite_answers hInv h
    refine ⟨t, hNext, hParts, hReady, hOthers, hStaged, fun hHeld => ?_, fun e hFree hLen he => ?_⟩
    · obtain rfl := Host.Outcome.next.inj (hNext.symm.trans (configWrite_busy h hHeld))
      exact State.respond_status .busy [] hn
    · have hKeys : s.mbKeys n = .error e := by
        rw [State.mbKeys, hLen]
        exact State.requestKeys_one _ he
      obtain rfl := Host.Outcome.next.inj (hNext.symm.trans (configWrite_keysRefused h hFree hKeys))
      exact State.respond_status e [] hn
  · have hn := State.takes_lt hInv h
    have hMb : ((s.withRve { s.rve with staged := l }).respond n .ok []).mb n = (s.mb n).answered .ok [] :=
      State.respond_mb (s := s.withRve { s.rve with staged := l }) .ok [] hn
    refine ⟨_, configWrite_staged h hFree hKeys hl, rfl, State.stageRequest_length hl, ?_,
      fun _ hm => (s.withRve { s.rve with staged := l }).respond_mb_of_ne n .ok [] hm, ?_, rfl⟩
    · rw [hMb]
      rfl
    · rw [hMb]
      exact (s.mb n).answered_empty
  · have hn := State.takes_lt hInv h
    have hGo := fun hFree => vaultCommit_free h hFree
    obtain ⟨l, hWear, hMember⟩ := s.wearStaged_cases n
    change v = s.wearStaged n at hv
    rw [← hv] at hGo hWear
    clear hv
    subst hWear
    refine ⟨vaultCommit_busy h, fun hFree hNone => (hGo hFree).trans (if_pos (List.isEmpty_iff.2 hNone)), fun hFree hSome => ?_⟩
    have hStart := (hGo hFree).trans (if_neg (fun hNone => hSome (List.isEmpty_iff.1 hNone)))
    rw [State.commitStart_host _ hSome] at hStart
    have hFullIff := State.vaultFull_iff (v := s.withRve { s.rve with staged := l }) (ks := (s.withRve { s.rve with staged := l }).changes l)
    refine ⟨fun hFull => ?_, fun hRoom hCrest => ?_⟩
    · exact hStart.trans (congrArg (fun t : State => Host.Outcome.next t.settle) (if_pos (hFullIff.2 hFull)))
    · replace hStart := hStart.trans (congrArg (fun t : State => Host.Outcome.next t.settle) (if_neg (mt hFullIff.1 hRoom)))
      have hBits : s.sameBits (s.withRve { s.rve with staged := l }) [F.THM_DIE_BUSY] := (s.sameBits_refl _).of_regs rfl
      have hShown := State.commitBegun_shown (v := s.withRve { s.rve with staged := l }) hn (s.originOf n).2.2 hCrest
      change exec (.vaultCommit n) s = .next (((s.withRve { s.rve with staged := l }).commitBegun n (s.originOf n).2.2).demandReading).settle at hStart
      generalize ((s.withRve { s.rve with staged := l }).commitBegun n (s.originOf n).2.2).demandReading = u at hStart hShown
      obtain ⟨hBusy, hHeld, hRuns, hUCfg, hUEff, hUVlt, hUBits⟩ := hShown
      refine ⟨u, hStart, hBusy, hHeld, hRuns, hUCfg, hUEff, ?_,
        ⟨(s.withRve { s.rve with staged := l }).hostOp n (s.originOf n).2.2, ?_, rfl, rfl, rfl, rfl, rfl, rfl⟩, hMember,
        State.sameBits_trans hBits hUBits⟩
      · rw [hUVlt]
        rfl
      · rw [hUVlt]

end Sys2Proof.Machine
end
